-- ==== Sys2Proof/Word.lean ====
section
/-! DEFINITION. The basic types: octets, addresses, sets and the index types of section 1.6. -/

namespace Sys2Proof

/-- One octet of a frame or a record. -/
abbrev Byte := BitVec 8

/-- A run of octets, first octet first. -/
abbrev Octets := List Byte

/-- An Ethernet address, its first octet most significant (R195). -/
abbrev Mac := BitVec 48

/-- A port: L0 to L9 are 0 to 9, S0 is 10 and S1 is 11 (R195). -/
abbrev PortId := Fin 12

/-- An egress queue: n stands for Qn (section 1.6). -/
abbrev QueueId := Fin 4

/-- A robot, 0 to 23. -/
abbrev RobotId := Fin 24

/-- A camera, 0 to 3. -/
abbrev CameraId := Fin 4

/-- A stream record, 0 to 255. -/
abbrev StreamId := Fin 256

/-- A service window: 0 is that of S0 and 1 that of S1. -/
abbrev WindowId := Fin 2

/-- A cell of cell memory, 0 to 2,047 (R22). -/
abbrev CellId := Fin 2048

/-- A set of ports, bit n for the port with index n (R195). -/
abbrev PortSet := BitVec 12

/-- A set of robots. -/
abbrev RobotSet := BitVec 24

/-- A set of cameras. -/
abbrev CameraSet := BitVec 4

/-- A set of the four queues of a port. -/
abbrev QueueSet := BitVec 4

/-- An encoder position, a 32-bit count that wraps (R113). -/
abbrev Position := BitVec 32

end Sys2Proof
end

