-- ==== Sys2Proof/Syntax.lean ====
section
/-! DEFINITION. The commands of the block: one constructor per row of spec/opcode_table.json. -/

namespace Sys2Proof

/-- The levels on the pins that a reset samples when it ends: the straps (R2, R4), the encoder
phases (R111) and the bottle sensor (R119). -/
structure ResetPins where
  addrStrap : BitVec 5
  mgmtStrap : BitVec 2
  encA : Bool
  encB : Bool
  /-- The level of BOTTLE_SENSE: true is HIGH. -/
  sense : Bool
  deriving DecidableEq, Repr

/-- The marker of a piece that a receive assembler reads (R82). -/
inductive PieceMarker where
  | first
  | next (n : Fin 8)
  deriving DecidableEq, Repr

/-- An octet of an arriving frame at which a cell may be due (R24): the first, or one that a further 256
octets end at. `number` counts the octets of its frame, or of its piece after the marker, from 1; `marker`
is its piece's marker, none for a frame or a piece marked WHOLE (R82). -/
structure ArrivingOctet where
  port : PortId
  marker : Option PieceMarker
  number : Nat
  deriving DecidableEq, Repr

/-- The bit errors a protected table record holds in its memory (R18): none, one that the code
corrects, or a double error that it detects. `flips` is what a double error does to the record's 20
octets as read (R19), the first octet most significant. -/
inductive EccError where
  | clean
  | single
  | double (flips : BitVec 160)
  deriving DecidableEq, Repr

/-- A record of one of the two tables held under the error-correcting code (section 2.5). -/
inductive EccRecord where
  | stream (i : StreamId)
  | robot (r : RobotId)
  deriving DecidableEq, Repr

/-- The commands, one per row of the table, in the table's order. A command about the request at the
head of the request queue carries no operand: the request holds them (R184, R197). -/
inductive Instr where
  | powerOnReset (pins : ResetPins)
  | hardReset (pins : ResetPins)
  | linkGained (p : PortId)
  | linkLost (p : PortId)
  | receptionCellTake (o : ArrivingOctet)
  /-- `octets`: the octets of the piece after its marker, its last four included. -/
  | pieceReceived (p : PortId) (marker : PieceMarker) (octets : Octets)
  /-- `octets`: the frame from its destination address to its FCS. -/
  | frameReceptionEnd (p : PortId) (octets : Octets)
  | timeMark
  | hallTimeAdvance
  | runTimeAdvance
  | markTimeout
  | probeDue
  | transmitterChoice (p : PortId)
  | pieceCut (p : PortId)
  | transmissionComplete (p : PortId)
  | openGridBoundary (p : PortId)
  | cycleBoundary (p : PortId)
  | windowStart (p : PortId)
  | resyncTargetBoundary (p : PortId)
  | controllerTimeout
  /-- `a`, `b`: the levels of ENC_A and ENC_B after the change. -/
  | encoderTransition (a b : Bool)
  | sensorLeadingEdge
  | sensorTrailingEdge
  | speedWindowEnd
  | triggerPulseEnd (c : CameraId)
  | blastEnd
  | extendTimeEnd
  | retractTimeEnd
  | nonOverlapEnd
  | inhibitEnd
  /-- `struck` and `error`: a record into which bit errors came since the scrub's last read, and those its
  memory then holds, `clean` when none came. The record that the scrub reads is the one its position
  names (R18). -/
  | scrubRead (struck : EccRecord) (error : EccError)
  | serviceExpiryWarning (w : WindowId)
  | serviceWindowExpiry (w : WindowId)
  | noticeSendAttempt
  | restartCarriedOut
  | readTable
  | writePortRecord
  | writeStreamRecord
  | writeRobotRecord
  | writeHoldFrame
  | writeCameraRecord
  | writeTrackingRecord
  | writeEjectorRecord
  | writeClockRecord
  | writeDeviceRecord
  | readCounters
  | readAndClearCounters
  | readState
  | restart
  | armRobot
  | disarmRobot
  | setLossAction
  | setClock
  | adjustClock
  | loadSchedule
  | commitSchedule
  | clearTracking
  | openServiceWindow
  | extendServiceWindow
  | closeServiceWindow
  | lowerLevel
  | releaseHold
  | unknownRequest
  deriving DecidableEq, Repr

end Sys2Proof
end

