-- ==== Sys2Proof/Config.lean ====
section
/-! DEFINITION. The constants that the spec fixes for the part (section 1.7 and the rules named). -/

namespace Sys2Proof.Config

/-- Octets in one cell (R22). -/
def cellOctets : Nat := 256

/-- The shortest frame accepted (R7). -/
def minFrame : Nat := 64

/-- The longest frame accepted (R7). -/
def maxFrame : Nat := 9216

/-- The reserve of cell memory, in cells (R27). -/
def reserveCells : Nat := 128

/-- The largest value of a statistics counter (section 1.6, Counters). -/
def counterMax : Nat := 4294967295

/-- The first value at or above which a counter is half full (R181). -/
def counterHalf : Nat := 2147483648

/-- Records the notice queue holds (R176). -/
def noticeCapacity : Nat := 64

/-- Records one NOTICE frame carries at most (R179). -/
def noticesPerFrame : Nat := 16

/-- Requests the request queue holds (R184). -/
def requestCapacity : Nat := 4

/-- Records the tracking list holds (R121). -/
def trackingCapacity : Nat := 256

/-- The increment with trim 0, in units of 2^-32 ns: 8 ns (R43). -/
def baseIncrement : Nat := 34359738368

/-- The bound of trim and of the integral, in ppb (R50). -/
def trimLimit : Int := 200000

/-- The reset inhibit of the ejector, in microseconds (R148). -/
def inhibitSpan : Nat := 2000

/-- The longest wait of a RESTART for its answer, in microseconds (R192). -/
def restartWait : Nat := 10000

/-- The longest service window, in seconds (R153). -/
def windowMaxSeconds : Nat := 3600

/-- The remaining time at which SERVICE_EXPIRING is raised, in milliseconds (R156). -/
def expiryWarning : Nat := 60000

/-- Probation after a return from LOST, in periods (R99). -/
def probationPeriods : Nat := 256

/-- Judged periods without a hit in ARMING at which ARM_STALLED is raised (R97). -/
def armStall : Nat := 64

/-- Records of the two tables that the scrub reads in turn, 256 STREAM and 24 ROBOT (R18). -/
def scrubRecords : Nat := 280

/-- The largest carried delay of a mark, 1 s in units of 2^-16 ns (R47). -/
def maxCarried : Nat := 65536000000000

/-- The largest good range sample, 100,000 ns in units of 2^-16 ns (R59). -/
def maxSample : Int := 6553600000

/-- The cycle length of the grid of an OPEN port, in ns (R68). -/
def gridCycle : Nat := 1000000

/-- Octets of preamble and piece marker before the first octet of a piece (R73). -/
def preambleOctets : Nat := 8

/-- Octet times of idle line between two pieces (R73). -/
def gapOctets : Nat := 12

/-- Octets of a piece check (R79). -/
def checkOctets : Nat := 4

/-- The least octets of a frame in a cut piece, and left unsent by a cut (R80). -/
def cutMinimum : Nat := 64

end Sys2Proof.Config
end

