-- ==== Sys2Proof/Machine/State.lean ====
section
/-! DEFINITION. Everything the spec gives the block to hold, as plain data, and its value after a
power-on reset. Where the spec gives a value for a reset, the rule is named; where it gives none, the
line says DESIGN CHOICE and the log entry. -/

namespace Sys2Proof.Machine

/-! ## Time -/

/-- Hall time (R42): seconds, nanoseconds and a fraction in units of 2^-32 ns. -/
structure HallTime where
  sec : Nat
  ns : Nat
  frac : Nat
  deriving DecidableEq, Repr

/-- A hall time without a fraction, as a request carries it (R65, R71). -/
structure BaseTime where
  sec : Nat
  ns : Nat
  deriving DecidableEq, Repr

/-! ## Ports (R1) -/

/-- The role of a port, in the order of R1. -/
inductive PortRole where
  | uplink | robot | camera | general | service
  deriving DecidableEq, Repr

/-- The timing of a port, in the order of R1. -/
inductive Timing where
  | timeUp | timeDown | none
  deriving DecidableEq, Repr

/-- The stored unmatched policy (R1, R3). -/
inductive UnmatchedPolicy where
  | default | drop
  deriving DecidableEq, Repr

/-- The written fields of a port record (R1). -/
structure PortCfg where
  role : PortRole
  mgmtAllowed : Bool
  timing : Timing
  txPreempt : Bool
  rxPreempt : Bool
  unmatched : UnmatchedPolicy
  defaultEgress : PortSet
  deriving DecidableEq, Repr

/-- A port record: its written fields and its link state, true for UP (R1, R5). -/
structure Port where
  cfg : PortCfg
  link : Bool
  deriving DecidableEq, Repr

/-- A reception in progress on a port (R8, R24). -/
structure Reception where
  /-- The cells reserved so far, in the order the frame uses them. -/
  cells : List CellId
  /-- Hall time at the first octet (R8). -/
  recvTime : HallTime
  /-- Run time at the first octet (R47). -/
  recvRun : Nat
  /-- The number of steps of hall time before the stamp (R47, log 12). -/
  epoch : Nat
  /-- A cell was needed while the free list was empty (R24). -/
  overrun : Bool
  /-- The start delimiter arrived while receive preemption was enabled, and its marker is read
  (R84). -/
  marked : Bool
  deriving DecidableEq, Repr

/-- The open frame of an assembler in ASSEMBLING (R82). -/
structure Assembly where
  expect : Fin 8
  octets : Octets
  cells : List CellId
  recvTime : HallTime
  recvRun : Nat
  epoch : Nat
  deriving DecidableEq, Repr

/-- The receive side of a port: the reception in progress, and the assembler, IDLE when none. -/
structure Rx where
  cur : Option Reception
  asm : Option Assembly
  deriving DecidableEq, Repr

/-! ## Cell memory and egress queues -/

/-- What the switch must do to a frame as it sends it, and which counter its sending grows. -/
inductive FrameKind where
  | received
  | notice
  | answer
  | triggerNote
  /-- A relayed mark: the receive time to subtract (R62), the carried delay, and void (R53). -/
  | relayed (recvTime : HallTime) (carried : Nat) (void : Bool)
  | rangeProbe (seq : Nat)
  | rangeReply
  | holdFrame
  deriving DecidableEq, Repr

/-- A stored frame with at least one reference (R23, R26). Its handle is its first cell. -/
structure Frame where
  cells : List CellId
  octets : Octets
  refs : Nat
  kind : FrameKind
  deriving DecidableEq, Repr

/-- Cell memory: the free list, head first, the frames with references, and the low-water mark
(R22, R26, R41). -/
structure CellMem where
  free : List CellId
  frames : Vector (Option Frame) 2048
  low : Nat
  deriving DecidableEq, Repr

/-- How an entry came into its queue: robot sends and mirror copies are told apart (R33, R35, R41). -/
inductive EntryKind where
  | normal
  | robotSend (r : RobotId)
  | mirror
  deriving DecidableEq, Repr

/-- A queue entry: the frame it refers to, and whether its wait was counted in delayed sends (R104)
or in holds (R75). -/
structure QEntry where
  frame : CellId
  kind : EntryKind
  delayCounted : Bool
  holdCounted : Bool
  deriving DecidableEq, Repr

/-- The marker a transmitter begins a piece with (R79). -/
inductive TxMarker where
  | whole
  | first
  | next (n : Fin 8)
  deriving DecidableEq, Repr

/-- A piece on the wire. -/
structure Tx where
  frame : CellId
  queue : QueueId
  kind : EntryKind
  /-- The whole frame as it is being sent, with what its sending writes into it (R60, R62). -/
  octets : Octets
  /-- Octets of the frame sent in earlier pieces. -/
  offset : Nat
  marker : TxMarker
  /-- The reference tick at which the preamble began (log 9). -/
  startTick : Nat
  /-- Whether the piece may still be cut (R79, R80). -/
  cuttable : Bool
  /-- The cut point chosen at a trigger: octets of this piece sent at the cut (R80). -/
  cutAt : Option Nat
  deriving DecidableEq, Repr

/-- A held remainder (R81). -/
structure Remainder where
  frame : CellId
  queue : QueueId
  kind : EntryKind
  octets : Octets
  offset : Nat
  nextN : Fin 8
  deriving DecidableEq, Repr

/-- How a piece on the wire ended (R38, R79). -/
inductive WireEnd where
  | complete
  | pieceCheck
  | badFcs
  | linkLost
  deriving DecidableEq, Repr

/-- The last piece that ended on a port's wire: the octets after its marker, its check included. -/
structure WireRecord where
  marker : TxMarker
  octets : Octets
  ending : WireEnd
  deriving DecidableEq, Repr

/-- The egress side of a port: its queues by index, its transmitter, its held remainder, the
reference tick at which the gap after the last piece ends (R73), and what it last put on the wire. -/
structure Egress where
  queues : Vector (List QEntry) 4
  tx : Option Tx
  remainder : Option Remainder
  idleUntil : Nat
  lastSent : Option WireRecord
  deriving DecidableEq, Repr

/-! ## Gate engine (R65, R67) -/

/-- One window of a gate list: its duration in ns and its open set. -/
structure GateWindow where
  duration : Nat
  openSet : QueueSet
  deriving DecidableEq, Repr

/-- A gate list (R65). -/
structure GateList where
  cycle : Nat
  base : BaseTime
  windows : List GateWindow
  deriving DecidableEq, Repr

/-- The state of a gate engine: OPEN, RUNNING or RESYNC. -/
inductive GateMode where
  | opened | running | resync
  deriving DecidableEq, Repr

/-- A gate engine (R67). Instants are whole nanoseconds of hall time from 0.000000000. -/
structure Gate where
  mode : GateMode
  active : Option GateList
  loaded : Option GateList
  commit : Bool
  activation : Option BaseTime
  /-- While a commit is pending, the index of the first boundary of the current list that hall time had
  not reached as the commit was run or at the last step since, and that is at or after its activation
  time; none with no commit pending (R72). -/
  commitFrom : Option Int
  cycleIndex : Int
  windowIndex : Nat
  /-- The instant at which window 0 of the cycle in progress began (R66, R72). -/
  cycleStart : Int
  /-- The cycle index of the target boundary, in RESYNC (R76). -/
  target : Int
  disturbed : Bool
  deriving DecidableEq, Repr

/-! ## Streams (R12) -/

/-- The class of a stream, in the order of R12. -/
inductive StreamClass where
  | cycle | prompt | image | bulk
  deriving DecidableEq, Repr

/-- The subject of a stream (R12). -/
inductive Subject where
  | none
  | robot (r : RobotId)
  | camera (c : CameraId)
  | controller
  deriving DecidableEq, Repr

/-- The role of a stream, in the order of R12. -/
inductive StreamRole where
  | plain | status | command | verdict
  deriving DecidableEq, Repr

/-- The written fields of a stream record (R12). -/
structure StreamCfg where
  key : Mac
  vlan : Nat
  ingress : PortSet
  egress : PortSet
  cls : StreamClass
  role : StreamRole
  subject : Subject
  maxLength : Nat
  valid : Bool
  deriving DecidableEq, Repr

/-- A stream record: its fields, damaged, and the bit errors its memory holds (R18, R19). -/
structure Stream where
  cfg : StreamCfg
  damaged : Bool
  ecc : EccError
  deriving DecidableEq, Repr

/-! ## Robots (R86, R89) -/

/-- REPORT or HOLD_LINE: a loss policy (R86), the loss action (R108) or the jam policy (R114). -/
inductive HoldPolicy where
  | report | holdLine
  deriving DecidableEq, Repr

/-- The supervision state of a robot, in the order of R89. -/
inductive RobotState where
  | idle | arming | running | late | parked | lost | service
  deriving DecidableEq, Repr

/-- The configured fields of a robot record (R86). -/
structure RobotCfg where
  statusStream : StreamId
  commandStream : StreamId
  window : Nat
  period : Nat
  phase : Nat
  deadline : Nat
  modeOffset : Nat
  modeMask : Byte
  parkedValue : Byte
  tolerance : Nat
  repeatLimit : Nat
  lossPolicy : HoldPolicy
  deriving DecidableEq, Repr

/-- A robot: its record (R86) and its supervision state (R89). -/
structure Robot where
  cfg : RobotCfg
  port : Option PortId
  damaged : Bool
  ecc : EccError
  state : RobotState
  missCount : Nat
  repeatsUsed : Nat
  probation : Nat
  barred : Bool
  armingCount : Nat
  holder : Option WindowId
  periodStart : HallTime
  partialPeriod : Bool
  disturbed : Bool
  openingTaken : Bool
  /-- The period hit: none, or a hit that reads parked (true) or not parked (false). -/
  hit : Option Bool
  slot : Option CellId
  store : Option CellId
  deriving DecidableEq, Repr

/-- The state of the controller watch, in the order of R106. -/
inductive WatchState where
  | idle | watching | lost
  deriving DecidableEq, Repr

/-- The controller watch and the loss action (R106, R108). `lostAt` is the run time of the loss. -/
structure Watch where
  state : WatchState
  restartTime : Nat
  lostAt : Nat
  action : HoldPolicy
  deriving DecidableEq, Repr

/-! ## Hall clock (R45, R46) -/

/-- The servo state, in the order of section 1.6 and R51. -/
inductive Servo where
  | unset | acquiring | locked | holdover
  deriving DecidableEq, Repr

/-- The CLOCK record (R45). -/
structure ClockCfg where
  stepLimit : Nat
  lockThreshold : Nat
  gp : Nat
  gi : Nat
  markTimeout : Nat
  probeInterval : Nat
  relay : Bool
  deriving DecidableEq, Repr

/-- A time mark handed to the hall clock and not yet read (R11, R47). -/
structure Mark where
  recvTime : HallTime
  recvRun : Nat
  epoch : Nat
  octets : Octets
  deriving DecidableEq, Repr

/-- The outstanding probe (R57): its sequence number, and t1 once it has begun transmission. -/
structure Probe where
  seq : Nat
  t1 : Option HallTime
  deriving DecidableEq, Repr

/-- The hall clock (R46). -/
structure Clock where
  cfg : ClockCfg
  hall : HallTime
  /-- Run time in microseconds (R44). -/
  run : Nat
  trim : Int
  integral : Int
  increment : Nat
  servo : Servo
  goodMarks : Nat
  lastMark : Option Nat
  lastRequest : Option Nat
  /-- Link delay D in units of 2^-16 ns, or absent (R56). -/
  delay : Option Int
  stale : Bool
  probe : Option Probe
  lostProbes : Nat
  probeSeq : Nat
  lastProbeDue : Nat
  /-- Marks taken from the TIME_UP port and not yet read, oldest first. -/
  marks : List Mark
  /-- The model's own count of steps, by which a mark's stamp is told to lie before one (log 12). -/
  epoch : Nat
  /-- The model's own count of 8 ns reference periods, by which wire time is measured (log 9). -/
  ticks : Nat
  deriving DecidableEq, Repr

/-! ## Tracker (R114, R121, R128) -/

/-- The counting mode, in the order of R114. -/
inductive CountMode where
  | x1 | x2 | x4
  deriving DecidableEq, Repr

/-- The tracker record (R114). `activeHigh` is the sensor active level. -/
structure TrackerCfg where
  mode : CountMode
  invert : Bool
  speedWindow : Nat
  activeHigh : Bool
  minOcclusion : Nat
  maxOcclusion : Nat
  jamPolicy : HoldPolicy
  deriving DecidableEq, Repr

/-- The speed direction, in the order of R115. -/
inductive Direction where
  | forward | reverse | still
  deriving DecidableEq, Repr

/-- The sensor state, in the order of R118. -/
inductive SensorState where
  | clear | measuring | qualified | jammed | ignoring
  deriving DecidableEq, Repr

/-- The state of a tracking record for one camera (R121, R134, R139). -/
inductive VerdictState where
  | pending
  | notRequired
  | pass
  | reject (reason : Nat)
  | noImage
  deriving DecidableEq, Repr

/-- A tracking record (R121). -/
structure TrackRec where
  seq : BitVec 32
  position : Position
  verdicts : Vector VerdictState 4
  triggered : Vector Bool 4
  jam : Bool
  deriving DecidableEq, Repr

/-- The tracker (R128). -/
structure Tracker where
  cfg : TrackerCfg
  phaseA : Bool
  phaseB : Bool
  position : Position
  windowStart : Nat
  windowSpan : Nat
  windowPosition : Position
  speed : Nat
  direction : Direction
  still : Bool
  highWater : Position
  excursion : Bool
  /-- The level of BOTTLE_SENSE, true for HIGH. -/
  sense : Bool
  sensor : SensorState
  leading : Option Position
  link : Option (BitVec 32)
  records : List TrackRec
  nextSeq : BitVec 32
  deriving DecidableEq, Repr

/-! ## Cameras (R130, R131) -/

/-- A note or notice destination (R130, R178). -/
structure Dest where
  mac : Mac
  vlan : Nat
  port : PortId
  deriving DecidableEq, Repr

/-- A camera record (R130). -/
structure CameraCfg where
  enabled : Bool
  required : Bool
  offset : Nat
  pulseWidth : Nat
  note : Option Dest
  source : Option StreamId
  deriving DecidableEq, Repr

/-- A camera: its record, its trigger pointer, and its output, PULSING until the run time given. -/
structure Camera where
  cfg : CameraCfg
  pointer : BitVec 32
  pulseEnd : Option Nat
  deriving DecidableEq, Repr

/-! ## Reject station (R144 to R150) -/

/-- The ejector mode, in the order of R144. -/
inductive EjectMode where
  | pulse | diverter
  deriving DecidableEq, Repr

/-- The EJECTOR record (R144). -/
structure EjectorCfg where
  mode : EjectMode
  blastTime : Nat
  extendTime : Nat
  dwell : Nat
  retractTime : Nat
  nonOverlap : Nat
  distance : Nat
  latency : Nat
  leadMax : Nat
  deriving DecidableEq, Repr

/-- The ejector state: REST and BLASTING of R145, then the six of R146. -/
inductive EjectState where
  | rest | blasting | extendWait | extending | diverted | retractWait | retracting
  deriving DecidableEq, Repr

/-- The reason of a REJECT, in the order of R143. -/
inductive RejectReason where
  | jam
  | camera (c : CameraId) (reason : Nat)
  | noImage
  | noVerdict
  deriving DecidableEq, Repr

/-- The last decision (R143); no reason means PASS. -/
structure Decision where
  seq : BitVec 32
  reason : Option RejectReason
  position : Position
  deriving DecidableEq, Repr

/-- The reject station (R141 to R149). -/
structure Reject where
  cfg : EjectorCfg
  state : EjectState
  /-- The run time at which BLASTING, EXTENDING or RETRACTING ends. -/
  phaseEnd : Nat
  releaseA : Option Nat
  releaseB : Option Nat
  inhibitEnd : Nat
  heldFire : Bool
  extendPending : Bool
  dwellStart : Option Position
  lead : Nat
  leadSpeed : Nat
  last : Option Decision
  deriving DecidableEq, Repr

/-! ## Service windows (R151) -/

/-- The state of a service window, in the order of R151. -/
inductive WindowState where
  | closed | granted | active
  deriving DecidableEq, Repr

/-- The level of a service window, in the order of R151. -/
inductive ServiceLevel where
  | observe | adjust | maintain
  deriving DecidableEq, Repr

/-- The causes of a closing, in the order of R151 after none. -/
inductive CloseCause where
  | expired | controller | technician | trap | link
  deriving DecidableEq, Repr

/-- The reasons of a trap, in the order of R197. -/
inductive TrapReason where
  | closed | groupSource | foreignSource | misdirected | unmatched | level | subject | robotState
  | tooLong
  deriving DecidableEq, Repr

/-- A service window record (R151). `trapCloses` is trap action CLOSE. -/
structure ServiceWindow where
  state : WindowState
  level : ServiceLevel
  robots : RobotSet
  cameras : CameraSet
  mirror : List StreamId
  technician : Option Mac
  learned : Bool
  endTime : Nat
  warned : Bool
  trapCloses : Bool
  pendingSet : RobotSet
  heldSet : RobotSet
  sessionTraps : Nat
  lastClose : Option CloseCause
  deriving DecidableEq, Repr

/-! ## Line hold (R170, R171) -/

/-- A hold source (R170). -/
inductive HoldSource where
  | robot (r : RobotId)
  | controller
  | trackFull
  | jam
  deriving DecidableEq, Repr

/-- The present set (R170), one flag for each of its 27 possible members. -/
structure PresentSet where
  robots : RobotSet
  controller : Bool
  trackFull : Bool
  jam : Bool
  deriving DecidableEq, Repr

/-- The set cause of the latch (R171, R172). -/
inductive HoldCause where
  | source (h : HoldSource)
  | reset
  deriving DecidableEq, Repr

/-- The hold block: the latch, true for SET, its set cause and times, and the present set. -/
structure Hold where
  latch : Bool
  cause : HoldCause
  setTime : Option Nat
  releaseTime : Option Nat
  present : PresentSet
  deriving DecidableEq, Repr

/-! ## Counters (R198) -/

/-- The PORT counters, in the order of R198. -/
inductive PortCounter where
  | framesReceived | octetsReceived | undersize | oversize | fcsErrors | abortedReceptions
  | managementRefusals | misplacedMarks | misplacedRange | unmatchedDrops | unforwarded
  | framesTransmitted | octetsTransmitted
  | admitted (q : QueueId) | refused (q : QueueId)
  | receiveOverruns | unmatchedCellDrops
  | piecesReceived | assemblyOk | assemblyErrors | orphanPieces | piecesSent | cuts | holds
  deriving DecidableEq, Repr

/-- The STREAM counters. -/
inductive StreamCounter where
  | frames | octets | lengthDrops | cellDrops | late
  deriving DecidableEq, Repr

/-- The ROBOT counters. -/
inductive RobotCounter where
  | statusHits | extraStatus | lateStatus | misses | commandsSent | repeatsSent | holdFramesSent
  | silentPeriods | overwritten | lateCommands | delayedSends | losses
  deriving DecidableEq, Repr

/-- The CAMERA counters. -/
inductive CameraCounter where
  | triggersFired | triggersSkipped | verdictsApplied | ignoredVerdicts | duplicateVerdicts
  | lateVerdicts | unknownVerdicts
  deriving DecidableEq, Repr

/-- The SERVICE counters. -/
inductive ServiceCounter where
  | traps | injected | mirrorDrops | requests | refusals
  deriving DecidableEq, Repr

/-- The CLOCK counters. -/
inductive ClockCounter where
  | marksAccepted | marksMalformed | marksDiscarded | steps | probesSent | probesLost | samplesGood
  | samplesDiscarded | repliesUnmatched | rangeMalformed | probesAnswered | relayedSent
  | relayDropsStep | relayDropsDelay
  deriving DecidableEq, Repr

/-- The TRACKER counters. -/
inductive TrackerCounter where
  | encoderFaults | excursions | bottlesTracked | untracked | shortOcclusions | abandonedOcclusions
  | ignoredOcclusions | jams | clears
  deriving DecidableEq, Repr

/-- The REJECT STATION counters. -/
inductive RejectCounter where
  | malformedVerdicts | decisionsPass | rejectJam | rejectCamera (c : CameraId) | rejectNoImage
  | rejectNoVerdict | fires | absorbedFires | deferredFires | blasts | blastRestarts
  | extendsMade | retractsMade | retractsCancelled
  deriving DecidableEq, Repr

/-- The kinds of frame the switch builds, in the order of R34. -/
inductive GenKind where
  | notice | answer | triggerNote | relayedMark | rangeProbe | rangeReply | holdFrame
  deriving DecidableEq, Repr

/-- The DEVICE counters. -/
inductive DeviceCounter where
  | correctedStream | correctedRobot | damagedStream | damagedRobot
  | generationDrops (k : GenKind)
  | holdSets | releases | releaseRefusals
  | noticesRaised | noticesCoalesced | noticeOverflows | noticeFramesBuilt
  | requestsQueued | busyAnswers | malformedRequests | restarts
  deriving DecidableEq, Repr

/-- A counter of the switch, by its group, its subject and its name. -/
inductive CounterRef where
  | port (p : PortId) (c : PortCounter)
  | stream (i : StreamId) (c : StreamCounter)
  | robot (r : RobotId) (c : RobotCounter)
  | controllerLosses
  | camera (k : CameraId) (c : CameraCounter)
  | service (w : WindowId) (c : ServiceCounter)
  | clock (c : ClockCounter)
  | tracker (c : TrackerCounter)
  | reject (c : RejectCounter)
  | device (c : DeviceCounter)
  deriving DecidableEq, Repr

/-- Every counter of the switch, each group for each subject in the order of R198. -/
structure Counters where
  port : Vector (Vector Nat 30) 12
  stream : Vector (Vector Nat 5) 256
  robot : Vector (Vector Nat 12) 24
  controllerLosses : Nat
  camera : Vector (Vector Nat 7) 4
  service : Vector (Vector Nat 5) 2
  clock : Vector Nat 14
  tracker : Vector Nat 9
  reject : Vector Nat 17
  device : Vector Nat 22
  deriving DecidableEq, Repr

/-! ## Notices (R175) -/

/-- The kind of read that found an error, in the order of R19 and R197. -/
inductive ReadKind where
  | classification | request | supervision | scrub
  deriving DecidableEq, Repr

/-- The cause of a step of hall time (R63, R197). -/
inductive StepCause where
  | mark | set | adjust
  deriving DecidableEq, Repr

/-- A notice: its kind is its constructor, in the order of section 10.6; its subject and its detail
are its arguments. -/
inductive NoticeEvent where
  | linkChange (p : PortId) (up : Bool)
  | tableDamage (target : EccRecord) (kind : ReadKind)
  | clockStep (cause : StepCause) (offset : Int)
  | clockLocked (offset : Nat)
  | clockHoldover (trim : Int)
  | rangeStale (delay : Option Int)
  | scheduleApplied (p : PortId) (index : Int)
  | scheduleResync (p : PortId) (index : Int)
  | robotLost (r : RobotId) (was : RobotState)
  | robotBack (r : RobotId) (now : RobotState)
  | robotBarred (r : RobotId) (probation : Nat)
  /-- Nanoseconds past the deadline, or none for AFTER_PERIOD. -/
  | statusLate (r : RobotId) (past : Option Nat)
  | armStalled (r : RobotId) (count : Nat)
  | controllerLost (action : HoldPolicy)
  | controllerBack (ms : Nat)
  | encoderFault (position : Position) (a0 b0 a1 b1 : Bool)
  | trackFull (untracked : Nat)
  | jam (seq : Option (BitVec 32)) (leading : Position)
  | triggerSkipped (c : CameraId) (seq : BitVec 32)
  | verdictLate (c : CameraId) (seq : BitVec 32)
  | serviceOpened (w : WindowId) (level : ServiceLevel) (seconds : Nat)
  | serviceExpiring (w : WindowId) (ms : Nat)
  | serviceClosed (w : WindowId) (cause : CloseCause) (traps : Nat)
  | serviceTrap (w : WindowId) (reason : TrapReason) (source : Mac)
  | holdSet (cause : HoldCause)
  | holdReleased (ms : Nat)
  | counterHalf (ref : CounterRef) (value : Nat)
  | counterFull (ref : CounterRef) (value : Nat)
  deriving DecidableEq, Repr

/-- An unsent notice record (R175). `event` holds its kind, its subject and the latest detail. -/
structure NoticeRec where
  event : NoticeEvent
  firstTime : BaseTime
  lastTime : BaseTime
  repeats : Nat
  deriving DecidableEq, Repr

/-- The notice block (R175 to R179). -/
structure NoticeBlock where
  records : List NoticeRec
  overflow : Nat
  lastAttempt : Option Nat
  frameSeq : Nat
  deriving DecidableEq, Repr

/-! ## Management (R183, R188, R191, R192) -/

/-- A queued request (R183). `payload` is every octet after the EtherType, FCS excluded. -/
structure Request where
  port : PortId
  source : Mac
  vlan : Nat
  payload : Octets
  deriving DecidableEq, Repr

/-- A RESTART at the head of the queue, answered and waiting to be carried out (R192): the frame of
its answer while that is queued or on the wire, when it was built, and whether the wait is over. -/
structure RestartWait where
  answer : Option CellId
  builtAt : Nat
  due : Bool
  deriving DecidableEq, Repr

/-- The management block. -/
structure Mgmt where
  queue : List Request
  restart : Option RestartWait
  deriving DecidableEq, Repr

/-- The DEVICE record (R188): queue limits by port and queue index, and the other fields. -/
structure DeviceCfg where
  limits : Vector (Vector Nat 4) 12
  controllerTimeout : Nat
  noticeDest : Option Dest
  pacing : Nat
  deriving DecidableEq, Repr

/-- The cause of the last power-on or hard reset (R191). -/
inductive ResetCause where
  | powerOn | resetPin
  deriving DecidableEq, Repr

/-- The reset cause record and the sampled straps (R191). -/
structure Straps where
  cause : ResetCause
  addr : BitVec 5
  mgmt : BitVec 2
  deriving DecidableEq, Repr

/-! ## The state -/

/-- The whole state of the block, and the queue of commands that wait, first in first out. -/
structure State where
  straps : Straps
  ports : Vector Port 12
  rx : Vector Rx 12
  mem : CellMem
  egress : Vector Egress 12
  gates : Vector Gate 12
  streams : Vector Stream 256
  robots : Vector Robot 24
  /-- The position of the scrub: the record it reads next, the 256 STREAM records and then the 24 ROBOT
  records (R18, log 8). -/
  scrub : Fin 280
  /-- The HOLD FRAME table (R105), an empty entry with no octets. -/
  holdFrames : Vector Octets 24
  watch : Watch
  clock : Clock
  tracker : Tracker
  cameras : Vector Camera 4
  reject : Reject
  windows : Vector ServiceWindow 2
  hold : Hold
  notices : NoticeBlock
  mgmt : Mgmt
  device : DeviceCfg
  counters : Counters
  pending : List Instr
  deriving DecidableEq, Repr

/-- The block has no fault: no rule of the spec stops it, so nothing raises one. -/
inductive Fault where
  deriving DecidableEq, Repr

/-- Why a command is refused. -/
inductive Refusal where
  /-- Raised by an arm of `exec` for a command that has no meaning yet; safe, since the run stops. No
  arm raises it. -/
  | notModelled (mnemonic : String)
  deriving DecidableEq, Repr

/-! ## Values after a power-on or hard reset -/

/-- The line ports other than `p` (R2). -/
def linePortsBut (p : PortId) : PortSet := 0x3FF#12 &&& ~~~(1#12 <<< p.val)

/-- The line ports with management allowed after a reset (R2). -/
def strapMgmt (strap : BitVec 2) (p : PortId) : Bool :=
  match strap with
  | 1#2 => p.val ≤ 1
  | 2#2 => p.val ≤ 9
  | _ => p.val == 0

/-- A port record after a reset (R2). -/
def Port.reset (strap : BitVec 2) (p : PortId) : Port where
  cfg :=
    { role := if p.val < 10 then .general else .service
      mgmtAllowed := strapMgmt strap p
      timing := .none
      txPreempt := false
      rxPreempt := false
      unmatched := .default
      defaultEgress := linePortsBut p }
  link := false

/-- The receive side after a reset (R84). -/
def Rx.reset : Rx := { cur := none, asm := none }

/-- Every cell, in index order (R22). -/
def allCells : List CellId := List.finRange 2048

/-- Cell memory after a reset or a RESTART (R22, R41). -/
def CellMem.reset : CellMem :=
  { free := allCells, frames := Vector.replicate 2048 none, low := 2048 }

/-- The egress side after a reset (R22). The tick at which the gap ends is the model's (log 9). -/
def Egress.reset : Egress :=
  { queues := Vector.replicate 4 [], tx := none, remainder := none, idleUntil := 0,
    lastSent := none }

/-- A gate engine after a reset (R67, R68). The items without meaning in OPEN are 0 (DESIGN CHOICE,
log 26). -/
def Gate.reset : Gate :=
  { mode := .opened, active := none, loaded := none, commit := false, activation := none,
    commitFrom := none, cycleIndex := 0, windowIndex := 0, cycleStart := 0, target := 0, disturbed := false }

/-- A stream record after a reset (R14). -/
def Stream.reset : Stream where
  cfg :=
    { key := 0, vlan := 0, ingress := 0, egress := 0, cls := .bulk, role := .plain,
      subject := .none, maxLength := 9216, valid := false }
  damaged := false
  ecc := .clean

/-- A robot after a reset (R88, R89). The period start has no value there; it is 0 here (DESIGN
CHOICE, log 26). -/
def Robot.reset : Robot where
  cfg :=
    { statusStream := 0, commandStream := 0, window := 0, period := 1, phase := 0, deadline := 0,
      modeOffset := 0, modeMask := 0x00, parkedValue := 0xFF, tolerance := 3, repeatLimit := 2,
      lossPolicy := .report }
  port := none
  damaged := false
  ecc := .clean
  state := .idle
  missCount := 0
  repeatsUsed := 0
  probation := 0
  barred := false
  armingCount := 0
  holder := none
  periodStart := { sec := 0, ns := 0, frac := 0 }
  partialPeriod := false
  disturbed := false
  openingTaken := false
  hit := none
  slot := none
  store := none

/-- The controller watch after a reset (R106). Its times are 0 (DESIGN CHOICE, log 26). -/
def Watch.reset (action : HoldPolicy) : Watch :=
  { state := .idle, restartTime := 0, lostAt := 0, action := action }

/-- The hall clock after a reset (R45, R46). -/
def Clock.reset : Clock where
  cfg :=
    { stepLimit := 1000000, lockThreshold := 1000, gp := 32, gi := 4, markTimeout := 500,
      probeInterval := 1000, relay := true }
  hall := { sec := 0, ns := 0, frac := 0 }
  run := 0
  trim := 0
  integral := 0
  increment := Config.baseIncrement
  servo := .unset
  goodMarks := 0
  lastMark := none
  lastRequest := none
  delay := none
  stale := false
  probe := none
  lostProbes := 0
  probeSeq := 0
  lastProbeDue := 0
  marks := []
  epoch := 0
  ticks := 0

/-- The tracker after a reset (R114, R119, R128): the default active level is HIGH. -/
def Tracker.reset (pins : ResetPins) : Tracker where
  cfg :=
    { mode := .x4, invert := false, speedWindow := 10, activeHigh := true, minOcclusion := 20,
      maxOcclusion := 2000, jamPolicy := .report }
  phaseA := pins.encA
  phaseB := pins.encB
  position := 0
  windowStart := 0
  windowSpan := 10
  windowPosition := 0
  speed := 0
  direction := .still
  still := false
  highWater := 0
  excursion := false
  sense := pins.sense
  sensor := if pins.sense then .ignoring else .clear
  leading := none
  link := none
  records := []
  nextSeq := 0

/-- A camera after a reset (R130, R131). -/
def Camera.reset : Camera where
  cfg :=
    { enabled := false, required := false, offset := 0, pulseWidth := 100, note := none,
      source := none }
  pointer := 0
  pulseEnd := none

/-- The reject station after a reset (R141, R144, R148, R149). `phaseEnd` has no meaning in REST. -/
def Reject.reset : Reject where
  cfg :=
    { mode := .pulse, blastTime := 8000, extendTime := 20, dwell := 1000, retractTime := 20,
      nonOverlap := 2000, distance := 6000, latency := 0, leadMax := 0 }
  state := .rest
  phaseEnd := 0
  releaseA := none
  releaseB := none
  inhibitEnd := Config.inhibitSpan
  heldFire := false
  extendPending := false
  dwellStart := none
  lead := 0
  leadSpeed := 0
  last := none

/-- A service window record after a reset (R152). -/
def ServiceWindow.reset : ServiceWindow :=
  { state := .closed, level := .observe, robots := 0, cameras := 0, mirror := [],
    technician := none, learned := false, endTime := 0, warned := false, trapCloses := false,
    pendingSet := 0, heldSet := 0, sessionTraps := 0, lastClose := none }

/-- No hold source present (R170). -/
def PresentSet.empty : PresentSet :=
  { robots := 0, controller := false, trackFull := false, jam := false }

/-- The hold block after a reset (R170, R172). -/
def Hold.reset : Hold :=
  { latch := true, cause := .reset, setTime := some 0, releaseTime := none,
    present := PresentSet.empty }

/-- Every counter at 0. -/
def Counters.zero : Counters :=
  { port := Vector.replicate 12 (Vector.replicate 30 0)
    stream := Vector.replicate 256 (Vector.replicate 5 0)
    robot := Vector.replicate 24 (Vector.replicate 12 0)
    controllerLosses := 0
    camera := Vector.replicate 4 (Vector.replicate 7 0)
    service := Vector.replicate 2 (Vector.replicate 5 0)
    clock := Vector.replicate 14 0
    tracker := Vector.replicate 9 0
    reject := Vector.replicate 17 0
    device := Vector.replicate 22 0 }

/-- The counters after a reset: all 0, then the hold sets counter of R172 (place 11 of the DEVICE
group) and notices raised for its HOLD_SET (place 14) each grow by one (log 20). -/
def Counters.reset : Counters :=
  { Counters.zero with device := ((Vector.replicate 22 0).set 11 1).set 14 1 }

/-- The notice block after a reset (R172, R178 to R180): HOLD_SET with detail RESET is its first
record. -/
def NoticeBlock.reset : NoticeBlock :=
  { records :=
      [{ event := .holdSet .reset, firstTime := { sec := 0, ns := 0 },
         lastTime := { sec := 0, ns := 0 }, repeats := 1 }]
    overflow := 0, lastAttempt := none, frameSeq := 0 }

/-- The DEVICE record after a reset (R188): Q0 128, Q1 512, Q2 64 and Q3 64 cells. -/
def DeviceCfg.reset : DeviceCfg :=
  { limits := Vector.replicate 12 #v[128, 512, 64, 64], controllerTimeout := 20,
    noticeDest := none, pacing := 10 }

/-- The machine right after a reset of the cause given (R194), with the loss action the cause leaves
(R108), the pins as they stand when the reset ends, and the commands that still wait. -/
def State.afterReset (cause : ResetCause) (action : HoldPolicy) (pins : ResetPins)
    (pending : List Instr) : State where
  straps := { cause := cause, addr := pins.addrStrap, mgmt := pins.mgmtStrap }
  ports := Vector.ofFn (Port.reset pins.mgmtStrap)
  rx := Vector.replicate 12 Rx.reset
  mem := CellMem.reset
  egress := Vector.replicate 12 Egress.reset
  gates := Vector.replicate 12 Gate.reset
  streams := Vector.replicate 256 Stream.reset
  robots := Vector.replicate 24 Robot.reset
  scrub := 0
  holdFrames := Vector.replicate 24 []
  watch := Watch.reset action
  clock := Clock.reset
  tracker := Tracker.reset pins
  cameras := Vector.replicate 4 Camera.reset
  reject := Reject.reset
  windows := Vector.replicate 2 ServiceWindow.reset
  hold := Hold.reset
  notices := NoticeBlock.reset
  mgmt := { queue := [], restart := none }
  device := DeviceCfg.reset
  counters := Counters.reset
  pending := pending

/-- The pins at the reset that `State.reset` stands for: both straps 0, both phases low and the
sensor low (DESIGN CHOICE, log 3). -/
def pinsLow : ResetPins :=
  { addrStrap := 0, mgmtStrap := 0, encA := false, encB := false, sense := false }

/-- The machine right after a power-on reset (R194). -/
def State.reset : State := State.afterReset .powerOn .report pinsLow []

end Sys2Proof.Machine
end

