-- ==== Sys2Proof/Machine/Bytes.lean ====
section
/-! DEFINITION. The byte order of every layout (R195) and the frame check sequence. -/

namespace Sys2Proof.Machine

/-- A number in `n` octets, most significant first (R195). -/
def beBytes : Nat → Nat → Octets
  | 0, _ => []
  | n + 1, v => BitVec.ofNat 8 (v / 256 ^ n) :: beBytes n v

/-- The number that octets hold, most significant first (R195). -/
def beNat (l : Octets) : Nat := l.foldl (fun a b => a * 256 + b.toNat) 0

/-- A signed number in `n` octets, two's complement (R195). -/
def beInt (n : Nat) (v : Int) : Octets := beBytes n (v.emod (256 ^ n)).toNat

/-- The signed number that octets hold (R195). -/
def signedOf (l : Octets) : Int :=
  let v := beNat l
  if 2 * v < 256 ^ l.length then (v : Int) else (v : Int) - 256 ^ l.length

/-- The `n` octets from `off`. -/
def slice (l : Octets) (off n : Nat) : Octets := (l.drop off).take n

/-- The number in the `n` octets from `off`. -/
def field (l : Octets) (off n : Nat) : Nat := beNat (slice l off n)

/-- None or absent: every octet 0xFF (R195). -/
def noneBytes (n : Nat) : Octets := List.replicate n 0xFF#8

/-- An optional number in `n` octets (R195). -/
def optBytes (n : Nat) : Option Nat → Octets
  | none => noneBytes n
  | some v => beBytes n v

/-- Yes is 1 and no is 0 (R195). -/
def boolBytes (b : Bool) : Octets := [if b then 1 else 0]

/-- The octets of an address (R195). -/
def macBytes (m : Mac) : Octets := beBytes 6 m.toNat

/-- The first 10 octets of a timestamp (R195). -/
def baseTimeBytes (t : BaseTime) : Octets := beBytes 6 t.sec ++ beBytes 4 t.ns

/-- A timestamp: seconds, nanoseconds and the fraction in 2^-16 ns, truncated (R195). -/
def timestampBytes (t : HallTime) : Octets :=
  beBytes 6 t.sec ++ beBytes 4 t.ns ++ beBytes 2 (t.frac / 65536)

/-- The hall time of a timestamp (R195). -/
def timestampOf (l : Octets) : HallTime :=
  { sec := field l 0 6, ns := field l 6 4, frac := field l 10 2 * 65536 }

/-- One bit of the frame check: the reflected polynomial of Ethernet (PRESUMED, log 6). -/
def crcBit (c : BitVec 32) : BitVec 32 :=
  if c.getLsbD 0 then (c >>> 1) ^^^ 0xEDB88320#32 else c >>> 1

/-- One octet of the frame check. -/
def crcByte (c : BitVec 32) (b : Byte) : BitVec 32 :=
  crcBit (crcBit (crcBit (crcBit (crcBit (crcBit (crcBit (crcBit (c ^^^ b.setWidth 32))))))))

/-- The 32-bit check of octets: the FCS method of Ethernet (PRESUMED, log 6). -/
def crc32 (l : Octets) : BitVec 32 := ~~~ (l.foldl crcByte 0xFFFFFFFF#32)

/-- A 32-bit check as the four octets sent, least significant first (PRESUMED, log 6). -/
def checkBytes (c : BitVec 32) : Octets :=
  [c.setWidth 8, (c >>> 8).setWidth 8, (c >>> 16).setWidth 8, (c >>> 24).setWidth 8]

/-- The four octets that the FCS method gives for octets. -/
def fcsOf (l : Octets) : Octets := checkBytes (crc32 l)

/-- The piece check of octets: the FCS method's octets with the low sixteen bits inverted (R79). -/
def pieceCheckOf (l : Octets) : Octets := checkBytes (crc32 l ^^^ 0x0000FFFF#32)

/-- All but the last four octets. -/
def withoutCheck (l : Octets) : Octets := l.take (l.length - 4)

/-- The last four octets. -/
def lastFour (l : Octets) : Octets := l.drop (l.length - 4)

/-- A frame's FCS matches it (R7). -/
def fcsMatches (l : Octets) : Bool := decide (lastFour l = fcsOf (withoutCheck l))

/-- A piece ends with a correct piece check over its own octets: it is non-last (R83). -/
def endsWithPieceCheck (l : Octets) : Bool :=
  decide (4 ≤ l.length) && decide (lastFour l = pieceCheckOf (withoutCheck l))

/-- Octets with the `new` octets written from `off` on. -/
def overwrite (l : Octets) (off : Nat) (new : Octets) : Octets :=
  l.take off ++ new ++ l.drop (off + new.length)

/-- A frame with its FCS computed anew over what comes before it (R60, R62). -/
def refreshFcs (l : Octets) : Octets := withoutCheck l ++ fcsOf (withoutCheck l)

/-- A frame of the switch's own (R195): destination, source, a tag when the VLAN id is not 0, the
EtherType, the payload, octets of 0 up to 60, and the FCS. DESIGN CHOICE (log 50): the four bits above the
VLAN id in a tag are 0. -/
def formFrame (dst src : Mac) (vlan etherType : Nat) (payload : Octets) : Octets :=
  let tag := if vlan = 0 then [] else beBytes 2 0x8100 ++ beBytes 2 vlan
  let body := macBytes dst ++ macBytes src ++ tag ++ beBytes 2 etherType ++ payload
  let padded := body ++ List.replicate (60 - body.length) 0
  padded ++ fcsOf padded

/-- The cells that L octets occupy (R22). -/
def cellsFor (octets : Nat) : Nat := (octets + 255) / 256

end Sys2Proof.Machine
end

