-- ==== Sys2Proof/Machine/Operands.lean ====
section
/-! DEFINITION. What the rules read out of a frame (R9, R94) and out of a request (R185, R197). -/

namespace Sys2Proof.Machine

/-- A frame's destination address. -/
def frameDst (l : Octets) : Mac := BitVec.ofNat 48 (field l 0 6)

/-- A frame's source address. -/
def frameSrc (l : Octets) : Mac := BitVec.ofNat 48 (field l 6 6)

/-- A frame is tagged when 0x8100 follows the source address (R9). -/
def frameTagged (l : Octets) : Bool := field l 12 2 == 0x8100

/-- A frame's VLAN id: the low twelve bits after the 0x8100, or 0 when untagged (R9). -/
def frameVlan (l : Octets) : Nat := if frameTagged l then field l 14 2 % 4096 else 0

/-- A frame's EtherType (R9). -/
def frameEtherType (l : Octets) : Nat := if frameTagged l then field l 16 2 else field l 12 2

/-- Offset of the first octet after the EtherType (R195). -/
def payloadOffset (l : Octets) : Nat := if frameTagged l then 18 else 14

/-- The octets after the EtherType, FCS excluded. -/
def framePayload (l : Octets) : Octets := (withoutCheck l).drop (payloadOffset l)

/-- A group address has the low bit of its first octet set. -/
def isGroup (m : Mac) : Bool := m.getLsbD 40

/-- The mode of a status frame (R94): true reads as parked. An octet at the mode offset that the frame
does not reach reads as not parked. -/
def readsParked (cfg : RobotCfg) (frame : Octets) : Bool :=
  match (framePayload frame)[cfg.modeOffset]? with
  | some o => (o &&& cfg.modeMask) == cfg.parkedValue
  | none => false

/-- The EtherTypes taken before classification (R9) and that of the frames the switch sends
(R195). -/
def etherMgmt : Nat := 0x88B5
def etherMark : Nat := 0x88B6
def etherProbe : Nat := 0x88B7
def etherReply : Nat := 0x88B8
def etherNotice : Nat := 0x88B9

/-! ## Requests (R197) -/

def Request.version (q : Request) : Nat := field q.payload 0 1
def Request.kind (q : Request) : Nat := field q.payload 1 1
def Request.tag (q : Request) : Nat := field q.payload 2 2
def Request.bodyLength (q : Request) : Nat := field q.payload 4 2

/-- The stated body fits the octets that follow the header (R185, check 2). -/
def Request.bodyFits (q : Request) : Bool := decide (q.bodyLength ≤ q.payload.length - 6)

/-- The stated body; octets beyond it are not read (R185). -/
def Request.body (q : Request) : Octets := (q.payload.drop 6).take q.bodyLength

/-- A request from a service port is a technician request (R159). -/
def Request.technician (q : Request) : Bool := decide (10 ≤ q.port.val)

/-- The request kinds, numbered from 1 in the order of R197. -/
inductive RequestKind where
  | readTable | writeTable | readCounters | readState | restart | armRobot | disarmRobot
  | setLossAction | setClock | adjustClock | loadSchedule | commitSchedule | clearTracking
  | openServiceWindow | extendServiceWindow | closeServiceWindow | lowerLevel | releaseHold
  deriving DecidableEq, Repr

/-- The request kind of a code; kind 0 and kinds above 18 are unknown (R197). -/
def requestKindOf : Nat → Option RequestKind
  | 1 => some .readTable
  | 2 => some .writeTable
  | 3 => some .readCounters
  | 4 => some .readState
  | 5 => some .restart
  | 6 => some .armRobot
  | 7 => some .disarmRobot
  | 8 => some .setLossAction
  | 9 => some .setClock
  | 10 => some .adjustClock
  | 11 => some .loadSchedule
  | 12 => some .commitSchedule
  | 13 => some .clearTracking
  | 14 => some .openServiceWindow
  | 15 => some .extendServiceWindow
  | 16 => some .closeServiceWindow
  | 17 => some .lowerLevel
  | 18 => some .releaseHold
  | _ => none

/-- The nine tables, in the order of section 11.3. -/
inductive TableId where
  | port | stream | robot | holdFrame | camera | tracking | ejector | clock | device
  deriving DecidableEq, Repr

/-- The table of a code (R195). -/
def tableOf : Nat → Option TableId
  | 0 => some .port
  | 1 => some .stream
  | 2 => some .robot
  | 3 => some .holdFrame
  | 4 => some .camera
  | 5 => some .tracking
  | 6 => some .ejector
  | 7 => some .clock
  | 8 => some .device
  | _ => none

/-- The status codes, in the order of section 11.2. -/
inductive Status where
  | ok | pending | partialWrite | busy | unknownRequest | badIndex | badValue | duplicateKey
  | wrongState | notPermitted | tooLong
  deriving DecidableEq, Repr

/-- The code of a status: its place in the list of section 11.2 (R195). -/
def Status.code : Status → Nat
  | .ok => 0
  | .pending => 1
  | .partialWrite => 2
  | .busy => 3
  | .unknownRequest => 4
  | .badIndex => 5
  | .badValue => 6
  | .duplicateKey => 7
  | .wrongState => 8
  | .notPermitted => 9
  | .tooLong => 10

/-- The octets of the fixed fields of a request kind (R185 check 5, R197; log 16). The two octets
more that READ STATE has on TRACKING LIST are counted by its subject, 6. -/
def fixedOctets (k : RequestKind) (body : Octets) : Nat :=
  match k with
  | .readTable | .writeTable | .readCounters => 4
  | .readState => if field body 0 1 = 6 then 5 else 3
  | .restart | .clearTracking | .releaseHold => 0
  | .armRobot | .disarmRobot | .setLossAction | .closeServiceWindow | .lowerLevel => 1
  | .setClock => 10
  | .adjustClock => 6
  | .loadSchedule => 15
  | .commitSchedule => 12
  | .openServiceWindow => 17
  | .extendServiceWindow => 3

/-- The row of the command table that runs a request: its kind, the table a WRITE TABLE names, and
whether a READ COUNTERS clears. -/
inductive RequestRow where
  | readTable | write (t : TableId) | readCounters | readAndClearCounters | other (k : RequestKind)
  | unknown
  deriving DecidableEq, Repr

/-- The row that stands for a request. An unknown version or kind falls to UNKNOWN_REQUEST; a WRITE
TABLE that names no table is run by the row of the PORT table, and a READ COUNTERS whose clear flag
is not 1 by READ_COUNTERS (log 5). -/
def Request.row (q : Request) : RequestRow :=
  if q.version ≠ 1 then .unknown
  else match requestKindOf q.kind with
    | none => .unknown
    | some .readTable => .readTable
    | some .writeTable =>
      match q.body with
      | [] => .write .port
      | t :: _ => .write ((tableOf t.toNat).getD .port)
    | some .readCounters =>
      if q.body[1]? = some 1#8 then .readAndClearCounters else .readCounters
    | some k => .other k

end Sys2Proof.Machine
end

