-- ==== Sys2Proof/Machine/Time.lean ====
section
/-! DEFINITION. Arithmetic of hall time (R42, R48, R53 to R55) and the roundings that the rules name. -/

namespace Sys2Proof.Machine

/-- Nanoseconds in a second. -/
def nsPerSec : Nat := 1000000000

/-- Fraction units in a nanosecond (R42). -/
def fracPerNs : Nat := 4294967296

/-- Seconds at which hall time wraps (R42). -/
def secWrap : Nat := 281474976710656

/-- Nanoseconds at which hall time wraps. -/
def nsWrap : Nat := secWrap * nsPerSec

/-- Hall time as one count in units of 2^-32 ns. -/
def HallTime.units (t : HallTime) : Nat := (t.sec * nsPerSec + t.ns) * fracPerNs + t.frac

/-- The hall time of a count in units of 2^-32 ns, with the seconds modulo 2^48. -/
def HallTime.ofUnits (u : Nat) : HallTime :=
  { sec := u / fracPerNs / nsPerSec % secWrap
    ns := u / fracPerNs % nsPerSec
    frac := u % fracPerNs }

/-- The parts of a hall time lie in the ranges of R42. -/
def HallTime.wf (t : HallTime) : Bool :=
  decide (t.sec < secWrap) && decide (t.ns < nsPerSec) && decide (t.frac < fracPerNs)

/-- One advance of hall time by the increment (R42): carries run from the fraction into the
nanoseconds and from there into the seconds, which wrap at 2^48. -/
def HallTime.advance (t : HallTime) (increment : Nat) : HallTime :=
  HallTime.ofUnits (t.units + increment)

/-- Hall time after `n` periods of reference time at one increment (R42). -/
def HallTime.after (t : HallTime) (increment n : Nat) : HallTime :=
  HallTime.ofUnits (t.units + n * increment)

/-- Hall time without its fraction. -/
def HallTime.base (t : HallTime) : BaseTime := { sec := t.sec, ns := t.ns }

/-- A step by a signed number of nanoseconds: seconds modulo 2^48, the fraction left as it stood
(R49, R55). -/
def HallTime.stepBy (t : HallTime) (d : Int) : HallTime :=
  let n := (((t.sec * nsPerSec + t.ns : Nat) : Int) + d).emod nsWrap
  { sec := n.toNat / nsPerSec, ns := n.toNat % nsPerSec, frac := t.frac }

/-- The hall time at an instant given in whole nanoseconds. -/
def HallTime.ofNs (n : Int) : HallTime :=
  HallTime.stepBy { sec := 0, ns := 0, frac := 0 } n

/-- The difference of two seconds counts modulo 2^48, read as signed (R48). -/
def secDiff (a b : Nat) : Int :=
  let d := ((a : Int) - (b : Int)).emod secWrap
  if d < secWrap / 2 then d else d - secWrap

/-- `a` less `b` in units of 2^-32 ns, the seconds subtracted modulo 2^48 and read as signed. -/
def HallTime.diff (a b : HallTime) : Int :=
  (secDiff a.sec b.sec * nsPerSec + ((a.ns : Int) - b.ns)) * fracPerNs + ((a.frac : Int) - b.frac)

/-- Hall time `now` has reached the instant `n` in whole nanoseconds. -/
def HallTime.reached (now : HallTime) (n : Int) : Bool :=
  decide (0 ≤ HallTime.diff now (HallTime.ofNs n))

/-- An instant carried by a request, in whole nanoseconds. -/
def BaseTime.toNs (t : BaseTime) : Int := ((t.sec * nsPerSec + t.ns : Nat) : Int)

/-- The whole nanoseconds of a hall time. -/
def HallTime.toNs (t : HallTime) : Int := ((t.sec * nsPerSec + t.ns : Nat) : Int)

/-- The quotient rounded to nearest, halves away from zero (R43, R48). -/
def roundHalfAway (n : Int) (d : Nat) : Int :=
  if 0 ≤ n then (2 * n + d) / (2 * d) else -((2 * (-n) + d) / (2 * d))

/-- A value clamped to ±`m`. -/
def clampAbs (m v : Int) : Int := if v < -m then -m else if m < v then m else v

/-- The increment of a trim (R43). -/
def incrementOf (trim : Int) : Nat :=
  ((Config.baseIncrement : Int) + roundHalfAway ((Config.baseIncrement : Int) * trim) nsPerSec).toNat

/-- A whole number of microseconds in milliseconds, rounded down (log 17). -/
def toMs (us : Nat) : Nat := us / 1000

/-- The distance from one encoder position to another, read as signed (R113). -/
def distance (a b : Position) : Int := (b - a).toInt

end Sys2Proof.Machine
end

