-- ==== Sys2Proof/Machine/Ops.lean ====
section
/-! DEFINITION. The shared operations over registers: updates of the indexed records, the statistics
counters with their notices (R181), the notice queue (R175 to R177) and the hold sources (R170, R171). -/

namespace Sys2Proof.Machine

/-! ## Indexed records -/

/-- A vector with one element replaced by a function of it. -/
def upd {α : Type} {n : Nat} (v : Vector α n) (i : Fin n) (f : α → α) : Vector α n :=
  v.set i (f v[i])

def State.modPort (p : PortId) (f : Port → Port) (s : State) : State :=
  { s with ports := upd s.ports p f }
def State.modRx (p : PortId) (f : Rx → Rx) (s : State) : State :=
  { s with rx := upd s.rx p f }
def State.modEgress (p : PortId) (f : Egress → Egress) (s : State) : State :=
  { s with egress := upd s.egress p f }
def State.modGate (p : PortId) (f : Gate → Gate) (s : State) : State :=
  { s with gates := upd s.gates p f }
def State.modStream (i : StreamId) (f : Stream → Stream) (s : State) : State :=
  { s with streams := upd s.streams i f }
def State.modRobot (r : RobotId) (f : Robot → Robot) (s : State) : State :=
  { s with robots := upd s.robots r f }
def State.modCamera (c : CameraId) (f : Camera → Camera) (s : State) : State :=
  { s with cameras := upd s.cameras c f }
def State.modWindow (w : WindowId) (f : ServiceWindow → ServiceWindow) (s : State) : State :=
  { s with windows := upd s.windows w f }
def State.modClock (f : Clock → Clock) (s : State) : State := { s with clock := f s.clock }
def State.modTracker (f : Tracker → Tracker) (s : State) : State :=
  { s with tracker := f s.tracker }
def State.modReject (f : Reject → Reject) (s : State) : State := { s with reject := f s.reject }
def State.modMem (f : CellMem → CellMem) (s : State) : State := { s with mem := f s.mem }
def State.modWatch (f : Watch → Watch) (s : State) : State := { s with watch := f s.watch }
def State.modHold (f : Hold → Hold) (s : State) : State := { s with hold := f s.hold }
def State.modMgmt (f : Mgmt → Mgmt) (s : State) : State := { s with mgmt := f s.mgmt }

/-- The members of an index set, in increasing index. -/
def members {n : Nat} (b : BitVec n) : List (Fin n) :=
  (List.finRange n).filter fun i => b.getLsbD i

/-- An index set with one member more. -/
def withMember {n : Nat} (b : BitVec n) (i : Fin n) : BitVec n := b ||| (1#n <<< i.val)

/-- An index set with one member less. -/
def without {n : Nat} (b : BitVec n) (i : Fin n) : BitVec n := b &&& ~~~(1#n <<< i.val)

/-- Work done for each of a list of things in order. -/
def forEach {α : Type} (l : List α) (f : α → State → State) (s : State) : State :=
  l.foldl (fun s a => f a s) s

/-- The port of a service window. -/
def windowPort (w : WindowId) : PortId := ⟨10 + w.val, by omega⟩

/-- The service window of a port, if it is a service port. -/
def portWindow (p : PortId) : Option WindowId :=
  if p = 10 then some 0 else if p = 11 then some 1 else none

/-- The switch's station address: 02-4A-0B-00-00-nn (R4). -/
def State.station (s : State) : Mac :=
  0x024A0B000000#48 ||| s.straps.addr.setWidth 48

/-! ## Statistics counters (R198) -/

def PortCounter.idx : PortCounter → Fin 30
  | .framesReceived => 0
  | .octetsReceived => 1
  | .undersize => 2
  | .oversize => 3
  | .fcsErrors => 4
  | .abortedReceptions => 5
  | .managementRefusals => 6
  | .misplacedMarks => 7
  | .misplacedRange => 8
  | .unmatchedDrops => 9
  | .unforwarded => 10
  | .framesTransmitted => 11
  | .octetsTransmitted => 12
  | .admitted q => ⟨13 + (3 - q.val), by omega⟩
  | .refused q => ⟨17 + (3 - q.val), by omega⟩
  | .receiveOverruns => 21
  | .unmatchedCellDrops => 22
  | .piecesReceived => 23
  | .assemblyOk => 24
  | .assemblyErrors => 25
  | .orphanPieces => 26
  | .piecesSent => 27
  | .cuts => 28
  | .holds => 29

def StreamCounter.idx : StreamCounter → Fin 5
  | .frames => 0
  | .octets => 1
  | .lengthDrops => 2
  | .cellDrops => 3
  | .late => 4

def RobotCounter.idx : RobotCounter → Fin 12
  | .statusHits => 0
  | .extraStatus => 1
  | .lateStatus => 2
  | .misses => 3
  | .commandsSent => 4
  | .repeatsSent => 5
  | .holdFramesSent => 6
  | .silentPeriods => 7
  | .overwritten => 8
  | .lateCommands => 9
  | .delayedSends => 10
  | .losses => 11

def CameraCounter.idx : CameraCounter → Fin 7
  | .triggersFired => 0
  | .triggersSkipped => 1
  | .verdictsApplied => 2
  | .ignoredVerdicts => 3
  | .duplicateVerdicts => 4
  | .lateVerdicts => 5
  | .unknownVerdicts => 6

def ServiceCounter.idx : ServiceCounter → Fin 5
  | .traps => 0
  | .injected => 1
  | .mirrorDrops => 2
  | .requests => 3
  | .refusals => 4

def ClockCounter.idx : ClockCounter → Fin 14
  | .marksAccepted => 0
  | .marksMalformed => 1
  | .marksDiscarded => 2
  | .steps => 3
  | .probesSent => 4
  | .probesLost => 5
  | .samplesGood => 6
  | .samplesDiscarded => 7
  | .repliesUnmatched => 8
  | .rangeMalformed => 9
  | .probesAnswered => 10
  | .relayedSent => 11
  | .relayDropsStep => 12
  | .relayDropsDelay => 13

def TrackerCounter.idx : TrackerCounter → Fin 9
  | .encoderFaults => 0
  | .excursions => 1
  | .bottlesTracked => 2
  | .untracked => 3
  | .shortOcclusions => 4
  | .abandonedOcclusions => 5
  | .ignoredOcclusions => 6
  | .jams => 7
  | .clears => 8

def RejectCounter.idx : RejectCounter → Fin 17
  | .malformedVerdicts => 0
  | .decisionsPass => 1
  | .rejectJam => 2
  | .rejectCamera c => ⟨3 + c.val, by omega⟩
  | .rejectNoImage => 7
  | .rejectNoVerdict => 8
  | .fires => 9
  | .absorbedFires => 10
  | .deferredFires => 11
  | .blasts => 12
  | .blastRestarts => 13
  | .extendsMade => 14
  | .retractsMade => 15
  | .retractsCancelled => 16

def GenKind.idx : GenKind → Fin 7
  | .notice => 0
  | .answer => 1
  | .triggerNote => 2
  | .relayedMark => 3
  | .rangeProbe => 4
  | .rangeReply => 5
  | .holdFrame => 6

def DeviceCounter.idx : DeviceCounter → Fin 22
  | .correctedStream => 0
  | .correctedRobot => 1
  | .damagedStream => 2
  | .damagedRobot => 3
  | .generationDrops k => ⟨4 + k.idx.val, by omega⟩
  | .holdSets => 11
  | .releases => 12
  | .releaseRefusals => 13
  | .noticesRaised => 14
  | .noticesCoalesced => 15
  | .noticeOverflows => 16
  | .noticeFramesBuilt => 17
  | .requestsQueued => 18
  | .busyAnswers => 19
  | .malformedRequests => 20
  | .restarts => 21

/-- The value of a counter. -/
def Counters.get (k : Counters) : CounterRef → Nat
  | .port p c => k.port[p][c.idx]
  | .stream i c => k.stream[i][c.idx]
  | .robot r c => k.robot[r][c.idx]
  | .controllerLosses => k.controllerLosses
  | .camera m c => k.camera[m][c.idx]
  | .service w c => k.service[w][c.idx]
  | .clock c => k.clock[c.idx]
  | .tracker c => k.tracker[c.idx]
  | .reject c => k.reject[c.idx]
  | .device c => k.device[c.idx]

/-- The counters with one of them set. -/
def Counters.put (k : Counters) (v : Nat) : CounterRef → Counters
  | .port p c => { k with port := upd k.port p fun g => g.set c.idx v }
  | .stream i c => { k with stream := upd k.stream i fun g => g.set c.idx v }
  | .robot r c => { k with robot := upd k.robot r fun g => g.set c.idx v }
  | .controllerLosses => { k with controllerLosses := v }
  | .camera m c => { k with camera := upd k.camera m fun g => g.set c.idx v }
  | .service w c => { k with service := upd k.service w fun g => g.set c.idx v }
  | .clock c => { k with clock := k.clock.set c.idx v }
  | .tracker c => { k with tracker := k.tracker.set c.idx v }
  | .reject c => { k with reject := k.reject.set c.idx v }
  | .device c => { k with device := k.device.set c.idx v }

/-- The value of a counter in a state. -/
def State.counter (s : State) (c : CounterRef) : Nat := s.counters.get c

/-- The code of a counter's group (R189) and the index of its subject in it (R197). -/
def CounterRef.subject : CounterRef → Nat × Nat
  | .port p _ => (0, p.val)
  | .stream i _ => (1, i.val)
  | .robot r _ => (2, r.val)
  | .controllerLosses => (2, 24)
  | .camera c _ => (3, c.val)
  | .service w _ => (4, 10 + w.val)
  | .clock _ => (5, 0)
  | .tracker _ => (6, 0)
  | .reject _ => (7, 0)
  | .device _ => (8, 0)

/-- The counter's position, from 0, in its group's order (R198). -/
def CounterRef.position : CounterRef → Nat
  | .port _ c => c.idx
  | .stream _ c => c.idx
  | .robot _ c => c.idx
  | .controllerLosses => 0
  | .camera _ c => c.idx
  | .service _ c => c.idx
  | .clock c => c.idx
  | .tracker c => c.idx
  | .reject c => c.idx
  | .device c => c.idx

/-! ## Notices (R175 to R177) -/

/-- The code of a notice's kind: its row in the table of section 10.6. -/
def NoticeEvent.kind : NoticeEvent → Nat
  | .linkChange .. => 0
  | .tableDamage .. => 1
  | .clockStep .. => 2
  | .clockLocked .. => 3
  | .clockHoldover .. => 4
  | .rangeStale .. => 5
  | .scheduleApplied .. => 6
  | .scheduleResync .. => 7
  | .robotLost .. => 8
  | .robotBack .. => 9
  | .robotBarred .. => 10
  | .statusLate .. => 11
  | .armStalled .. => 12
  | .controllerLost .. => 13
  | .controllerBack .. => 14
  | .encoderFault .. => 15
  | .trackFull .. => 16
  | .jam .. => 17
  | .triggerSkipped .. => 18
  | .verdictLate .. => 19
  | .serviceOpened .. => 20
  | .serviceExpiring .. => 21
  | .serviceClosed .. => 22
  | .serviceTrap .. => 23
  | .holdSet .. => 24
  | .holdReleased .. => 25
  | .counterHalf .. => 26
  | .counterFull .. => 27

/-- A notice's subject as a class and an index (R197). -/
def NoticeEvent.subject : NoticeEvent → Nat × Nat
  | .linkChange p _ | .scheduleApplied p _ | .scheduleResync p _ => (0, p.val)
  | .tableDamage (.stream i) _ => (1, i.val)
  | .tableDamage (.robot r) _ => (2, r.val)
  | .clockStep .. | .clockLocked .. | .clockHoldover .. | .rangeStale .. => (5, 0)
  | .robotLost r _ | .robotBack r _ | .robotBarred r _ | .statusLate r _ | .armStalled r _ =>
    (2, r.val)
  | .controllerLost .. | .controllerBack .. => (2, 24)
  | .encoderFault .. | .trackFull .. | .jam .. => (6, 0)
  | .triggerSkipped c _ | .verdictLate c _ => (3, c.val)
  | .serviceOpened w .. | .serviceExpiring w _ | .serviceClosed w .. | .serviceTrap w .. =>
    (4, 10 + w.val)
  | .holdSet .. | .holdReleased .. => (9, 0)
  | .counterHalf c _ | .counterFull c _ => c.subject

/-- Two notices share kind and subject, and so fold into one record (R176). -/
def NoticeEvent.folds (a b : NoticeEvent) : Bool := a.kind == b.kind && a.subject == b.subject

/-- What became of a raised notice (R176). -/
inductive PutOutcome where
  | made | folded | dropped
  deriving DecidableEq, Repr

/-- A record with one more notice folded into it (R176). -/
def NoticeRec.fold (r : NoticeRec) (e : NoticeEvent) (now : BaseTime) : NoticeRec :=
  { r with event := e, lastTime := now, repeats := min (r.repeats + 1) 65535 }

/-- The notice block after a notice has been raised (R176, R177), and what became of the notice. -/
def NoticeBlock.put (b : NoticeBlock) (e : NoticeEvent) (now : BaseTime) :
    NoticeBlock × PutOutcome :=
  if b.records.any (fun r => r.event.folds e) then
    ({ b with records :=
        b.records.map fun r => if r.event.folds e then r.fold e now else r }, .folded)
  else if b.records.length < Config.noticeCapacity then
    ({ b with records :=
        b.records ++ [{ event := e, firstTime := now, lastTime := now, repeats := 1 }] }, .made)
  else ({ b with overflow := min (b.overflow + 1) 65535 }, .dropped)

/-- An increment of a counter (section 1.6): it saturates, and it raises COUNTER_HALF and
COUNTER_FULL as it crosses them (R181). -/
def bumpWith (raise : NoticeEvent → State → State) (c : CounterRef) (n : Nat) (s : State) : State :=
  let old := s.counter c
  let new := min (old + n) Config.counterMax
  let s := { s with counters := s.counters.put new c }
  let s :=
    if old < Config.counterHalf ∧ Config.counterHalf ≤ new then raise (.counterHalf c new) s else s
  if old < Config.counterMax ∧ Config.counterMax ≤ new then raise (.counterFull c new) s else s

/-- A notice raised (R176): it is queued, folded or dropped, and the notice block's counters count it
(R182). DESIGN CHOICE (log 54): notices raised grows first, and then notices coalesced or notice
overflows; so where both cross a point, the one folded DEVICE notice tells of the latter. A count of
theirs can itself raise a notice; each of the three counters crosses each of its two points at most once
in one event, which bounds the depth. -/
def raiseDepth : Nat → NoticeEvent → State → State
  | 0, e, s => { s with notices := (s.notices.put e s.clock.hall.base).1 }
  | n + 1, e, s =>
    let put := s.notices.put e s.clock.hall.base
    let s := { s with notices := put.1 }
    let s := bumpWith (raiseDepth n) (.device .noticesRaised) 1 s
    match put.2 with
    | .made => s
    | .folded => bumpWith (raiseDepth n) (.device .noticesCoalesced) 1 s
    | .dropped => bumpWith (raiseDepth n) (.device .noticeOverflows) 1 s

/-- A notice raised. -/
def raise (e : NoticeEvent) (s : State) : State := raiseDepth 7 e s

/-- A counter grows by `n`. -/
def bumpBy (c : CounterRef) (n : Nat) (s : State) : State := bumpWith raise c n s

/-- A counter grows by one. -/
def bump (c : CounterRef) (s : State) : State := bumpBy c 1 s

/-! ## Hold sources and the latch (R170, R171) -/

/-- Whether a source is in the present set. -/
def PresentSet.has (p : PresentSet) : HoldSource → Bool
  | .robot r => p.robots.getLsbD r
  | .controller => p.controller
  | .trackFull => p.trackFull
  | .jam => p.jam

/-- The present set with a source joined. -/
def PresentSet.join (p : PresentSet) : HoldSource → PresentSet
  | .robot r => { p with robots := withMember p.robots r }
  | .controller => { p with controller := true }
  | .trackFull => { p with trackFull := true }
  | .jam => { p with jam := true }

/-- The present set with a source gone. -/
def PresentSet.leave (p : PresentSet) : HoldSource → PresentSet
  | .robot r => { p with robots := without p.robots r }
  | .controller => { p with controller := false }
  | .trackFull => { p with trackFull := false }
  | .jam => { p with jam := false }

/-- The members of the present set in the order of R173. -/
def PresentSet.toList (p : PresentSet) : List HoldSource :=
  (members p.robots).map .robot ++ (if p.controller then [.controller] else []) ++
    (if p.trackFull then [.trackFull] else []) ++ (if p.jam then [.jam] else [])

/-- A source becomes present (R170, R171). -/
def joinHold (h : HoldSource) (s : State) : State :=
  if s.hold.present.has h then s
  else
    let latched := s.hold.latch
    let s := s.modHold fun b => { b with present := b.present.join h }
    if latched then s
    else
      let s := s.modHold fun b =>
        { b with latch := true, cause := .source h, setTime := some s.clock.run }
      bump (.device .holdSets) (raise (.holdSet (.source h)) s)

/-- A source stops being present; the latch stays as it is (R171). -/
def leaveHold (h : HoldSource) (s : State) : State :=
  s.modHold fun b => { b with present := b.present.leave h }

/-- LINE_HOLD is asserted while the latch is SET (R172). -/
def State.lineHold (s : State) : Bool := s.hold.latch

end Sys2Proof.Machine
end

