-- ==== Sys2Proof/Machine/GateTime.lean ====
section
/-! DEFINITION. Instants of gate lists (R66, R68, R72) and the closing instant of a gate (R73). -/

namespace Sys2Proof.Machine

/-- The instant of a list's boundary k: base + k × cycle length (R66). -/
def GateList.boundary (l : GateList) (k : Int) : Int := l.base.toNs + k * l.cycle

/-- The index of the first boundary later than an instant. -/
def GateList.indexAfter (l : GateList) (t : Int) : Int := (t - l.base.toNs) / (l.cycle : Int) + 1

/-- The index of the first boundary at or after an instant. -/
def GateList.indexFrom (l : GateList) (t : Int) : Int := -((l.base.toNs - t) / (l.cycle : Int))

/-- Where window `w` begins, counted from window 0 (R66). -/
def GateList.windowOffset (l : GateList) (w : Nat) : Int :=
  (((l.windows.take w).map GateWindow.duration).sum : Nat)

/-- The cycle indexes of the 1 ms grid in the range of hall time (R68). -/
def gridIndexes : Int := (secWrap : Int) * 1000

/-- The instant of grid boundary k (R68). -/
def gridBoundary (k : Int) : Int := k * Config.gridCycle

/-- The instant of boundary k of a port's current list: the 1 ms grid in OPEN, else the active list
(R72). -/
def Gate.boundaryAt (g : Gate) (k : Int) : Int :=
  match g.mode, g.active with
  | .opened, _ | _, none => gridBoundary k
  | _, some l => l.boundary k

/-- The index of the first boundary of the current list later than an instant. -/
def Gate.boundaryAfter (g : Gate) (t : Int) : Int :=
  match g.mode, g.active with
  | .opened, _ | _, none => t / (Config.gridCycle : Int) + 1
  | _, some l => l.indexAfter t

/-- The index of the first boundary of the current list at or after an instant. -/
def Gate.boundaryFrom (g : Gate) (t : Int) : Int :=
  match g.mode, g.active with
  | .opened, _ | _, none => -(-t / (Config.gridCycle : Int))
  | _, some l => l.indexFrom t

/-- The instant at which the cycle in progress ends, in OPEN and RUNNING. -/
def Gate.cycleEnd (g : Gate) : Int := g.boundaryAt (g.cycleIndex + 1)

/-- The boundary to come: the target in RESYNC, else the end of the cycle in progress (R69, R77). -/
def Gate.nextBoundary (g : Gate) : Int :=
  match g.mode, g.active with
  | .resync, some l => l.boundary g.target
  | _, _ => g.cycleEnd

/-- Hall time on the scale of a gate's instants, in units of 2^-32 ns: hall time is compared modulo its
wrap with the boundary to come alone, which is near (log 19). -/
def Gate.nowUnits (g : Gate) (now : HallTime) : Int :=
  g.nextBoundary * fracPerNs + HallTime.diff now (HallTime.ofNs g.nextBoundary)

/-- Hall time on the scale of a gate's instants, in whole nanoseconds. -/
def Gate.nowNs (g : Gate) (now : HallTime) : Int := g.nowUnits now / (fracPerNs : Int)

/-- The queue's gate is open (R66, R68, R69, R76). -/
def Gate.isOpen (g : Gate) (q : QueueId) : Bool :=
  match g.mode with
  | .opened => true
  | .resync => decide (2 ≤ q.val)
  | .running =>
    match g.active with
    | none => true
    | some l =>
      match l.windows[g.windowIndex]? with
      | some w => w.openSet.getLsbD q
      | none => false

/-- The index of the first boundary of the current list that hall time `now` has not reached yet and that
is at or after the activation time, when one is given (R72). DESIGN CHOICE (log 19): an activation time is
one of the wrap of hall time that `now` is in, so on the scale of the gate's instants it lies as far from
`now` as its value does. -/
def Gate.commitIndex (g : Gate) (activation : Option BaseTime) (now : HallTime) : Int :=
  let t := g.nowNs now
  match activation with
  | none => g.boundaryAfter t
  | some a => max (g.boundaryAfter t) (g.boundaryFrom (t + (a.toNs - now.toNs)))

/-- The index, in the current list or the grid, of the boundary that a pending commit's switch-over is
fixed to (R72), read with no step to come. -/
def Gate.switchIndex (g : Gate) : Int :=
  let ahead :=
    match g.mode with
    | .opened => if g.disturbed then g.cycleIndex + 2 else g.cycleIndex + 1
    | .running => g.cycleIndex + 1
    | .resync => g.target + 1
  max ahead (g.commitFrom.getD ahead)

/-- The instant a pending commit's switch-over is fixed to, or none. -/
def Gate.switchAt (g : Gate) : Option Int :=
  if g.commit then some (g.boundaryAt g.switchIndex) else none

/-- Windows laid from `start`, each with the instant it begins at, up to `stop` (R66, R72). -/
def layWindows : List GateWindow → Int → Int → List (Int × QueueSet)
  | [], _, _ => []
  | w :: ws, start, stop =>
    if start < stop then (start, w.openSet) :: layWindows ws (start + w.duration) stop else []

/-- The windows ahead under the current list: the rest of this cycle and one whole cycle more, which
together hold every window of the list. -/
def Gate.ahead (g : Gate) : List (Int × QueueSet) :=
  match g.mode, g.active with
  | .opened, _ | _, none => []
  | .running, some l =>
    let stop := l.boundary (g.cycleIndex + 1)
    layWindows (l.windows.drop (g.windowIndex + 1))
        (g.cycleStart + l.windowOffset (g.windowIndex + 1)) stop ++
      layWindows l.windows stop (l.boundary (g.cycleIndex + 2))
  | .resync, some l => layWindows l.windows (l.boundary g.target) (l.boundary (g.target + 1))

/-- The windows ahead from a switch-over at `t` to list `l`: its first cycle, short when `t` lies off
its grid, and one whole cycle more (R72). -/
def aheadFrom (l : GateList) (t : Int) : List (Int × QueueSet) :=
  let k := l.indexAfter t
  layWindows l.windows t (l.boundary k) ++
    layWindows l.windows (l.boundary k) (l.boundary (k + 1))

/-- The closing instant of a queue's open gate, read ahead (R73); none when it does not close. -/
def Gate.closing (g : Gate) (q : QueueId) : Option Int :=
  let timeline : List (Int × QueueSet) :=
    match g.switchAt, g.loaded with
    | some t, some l => g.ahead.filter (fun w => decide (w.1 < t)) ++ aheadFrom l t
    | _, _ => g.ahead
  (timeline.find? fun w => !w.2.getLsbD q).map Prod.fst

/-- Nanoseconds of one octet time on a port (R73). -/
def octetNs (p : PortId) : Nat := if p.val < 10 then 8 else 80

/-- Reference periods of 8 ns in one octet time on a port. -/
def octetTicks (p : PortId) : Nat := if p.val < 10 then 1 else 10

/-- The wire time of a frame of L octets, in ns (R73). -/
def wireNs (p : PortId) (octets : Nat) : Nat := (Config.preambleOctets + octets) * octetNs p

/-- A frame of L octets started at `now` would end no later than the queue's gate closes (R74, R75). -/
def Gate.fits (g : Gate) (p : PortId) (q : QueueId) (octets : Nat) (now : HallTime) : Bool :=
  match g.closing q with
  | none => true
  | some c => decide (g.nowUnits now + (wireNs p octets : Int) * fracPerNs ≤ c * fracPerNs)

end Sys2Proof.Machine
end

