-- ==== Sys2Proof/Machine/Cells.lean ====
section
/-! DEFINITION. Cell memory, references, egress queues, admission and the frames the switch builds
(R22 to R35, R39). -/

namespace Sys2Proof.Machine

/-! ## Cells and references -/

/-- Cells taken together from the head of the free list; none when it holds too few (R22). -/
def CellMem.take (m : CellMem) (n : Nat) : Option (List CellId × CellMem) :=
  if n ≤ m.free.length then
    let rest := m.free.drop n
    some (m.free.take n, { m with free := rest, low := min m.low rest.length })
  else none

/-- Cells returned to the tail of the free list in the order their frame used them (R22). -/
def CellMem.give (m : CellMem) (cells : List CellId) : CellMem := { m with free := m.free ++ cells }

/-- A stored frame entered under its first cell. -/
def CellMem.store (m : CellMem) (f : Frame) : CellMem :=
  match f.cells with
  | [] => m
  | h :: _ => { m with frames := m.frames.set h (some f) }

/-- A holder gains a reference (R26). -/
def CellMem.addRef (m : CellMem) (h : CellId) : CellMem :=
  match m.frames[h] with
  | none => m
  | some f => { m with frames := m.frames.set h (some { f with refs := f.refs + 1 }) }

/-- A holder gives up a reference; with the last one the cells are returned (R26). -/
def CellMem.release (m : CellMem) (h : CellId) : CellMem :=
  match m.frames[h] with
  | none => m
  | some f =>
    if f.refs ≤ 1 then { m with frames := m.frames.set h none, free := m.free ++ f.cells }
    else { m with frames := m.frames.set h (some { f with refs := f.refs - 1 }) }

/-- The cells of a stored frame. -/
def CellMem.size (m : CellMem) (h : CellId) : Nat :=
  match m.frames[h] with
  | none => 0
  | some f => f.cells.length

/-- The octets of a stored frame. -/
def CellMem.octetsOf (m : CellMem) (h : CellId) : Octets :=
  match m.frames[h] with
  | none => []
  | some f => f.octets

def State.give (cells : List CellId) (s : State) : State := s.modMem (·.give cells)
def State.addRef (h : CellId) (s : State) : State := s.modMem (·.addRef h)
def State.release (h : CellId) (s : State) : State := s.modMem (·.release h)

/-- A holder that may be empty gives up its reference. -/
def State.releaseOpt (h : Option CellId) (s : State) : State :=
  match h with
  | none => s
  | some h => s.release h

/-! ## Occupancy and limits (R27, R28) -/

/-- The occupancy of a queue: its entries, and the frame from it on the wire or held (R28). -/
def State.occupancy (s : State) (p : PortId) (q : QueueId) : Nat :=
  let e := s.egress[p]
  (e.queues[q].map fun x => s.mem.size x.frame).sum +
    (match e.tx with
      | some t => if t.queue = q then s.mem.size t.frame else 0
      | none => 0) +
    (match e.remainder with
      | some r => if r.queue = q then s.mem.size r.frame else 0
      | none => 0)

/-- The limit test of a queue for a frame of `n` cells (R30). -/
def State.fitsLimit (s : State) (q : QueueId) (n : Nat) (p : PortId) : Bool :=
  decide (s.occupancy p q + n ≤ s.device.limits[p][q])

/-! ## Cut triggers (R80) -/

/-- The current position of the piece on the wire, in octets of the frame: an octet that is being sent
counts whole, since no cut point lies within it (R80; log 9). -/
def Tx.position (t : Tx) (p : PortId) (now : Nat) : Nat :=
  min ((now - t.startTick + (octetTicks p - 1)) / octetTicks p - Config.preambleOctets)
    (t.octets.length - t.offset)

/-- Octets of the frame sent whole in the piece on the wire, by the reference tick (log 9). -/
def Tx.sent (t : Tx) (p : PortId) (now : Nat) : Nat :=
  min ((now - t.startTick) / octetTicks p - Config.preambleOctets) (t.octets.length - t.offset)

/-- A cut trigger stands: an express head has its gate open, or the piece's own gate is closed. -/
def State.cutTrigger (s : State) (p : PortId) (t : Tx) : Bool :=
  let e := s.egress[p]
  let g := s.gates[p]
  (!e.queues[(3 : QueueId)].isEmpty && g.isOpen 3) ||
    (!e.queues[(2 : QueueId)].isEmpty && g.isOpen 2) || !g.isOpen t.queue

/-- A trigger is looked for on the port's wire: the first one chooses the earliest cut point at or
after the current position, if there is one (R80). -/
def noteCut (p : PortId) (s : State) : State :=
  match s.egress[p].tx with
  | none => s
  | some t =>
    if t.cuttable && t.cutAt.isNone && s.cutTrigger p t then
      let c := max Config.cutMinimum (t.position p s.clock.ticks)
      if c + Config.cutMinimum ≤ t.octets.length - t.offset then
        s.modEgress p fun e => { e with tx := some { t with cutAt := some c } }
      else s
    else s

/-! ## Queues -/

/-- An entry joins the tail of a queue. -/
def enqueue (p : PortId) (q : QueueId) (x : QEntry) (s : State) : State :=
  noteCut p (s.modEgress p fun e => { e with queues := upd e.queues q (· ++ [x]) })

/-- An entry is a robot send. -/
def QEntry.isRobotSend (x : QEntry) : Bool :=
  match x.kind with
  | .robotSend _ => true
  | _ => false

/-- A robot send joins Q3 behind the robot sends that wait there and ahead of the rest (R33). -/
def insertSend (x : QEntry) (l : List QEntry) : List QEntry :=
  l.takeWhile QEntry.isRobotSend ++ x :: l.dropWhile QEntry.isRobotSend

/-- A new entry for a frame. -/
def newEntry (h : CellId) (k : EntryKind) : QEntry :=
  { frame := h, kind := k, delayCounted := false, holdCounted := false }

/-- A robot send enters the robot port's Q3 without the limit test and is counted admitted
(R33, R41). -/
def enqueueSend (p : PortId) (r : RobotId) (h : CellId) (s : State) : State :=
  let s := s.modEgress p fun e =>
    { e with queues := upd e.queues 3 (insertSend (newEntry h (.robotSend r))) }
  bump (.port p (.admitted 3)) (noteCut p s)

/-- The entries of a queue give up their references. -/
def releaseEntries (l : List QEntry) (s : State) : State := forEach l (fun x => (·.release x.frame)) s

/-! ## Admission (R29 to R31) -/

/-- A received frame is put to the free test and to each queue's limit test, and is stored with one
entry in each admitting queue; each refusal is counted, and a frame that no queue admits returns its
cells. Answers whether a queue admitted it. Class CYCLE is the reserve user. -/
def admitReceived (ports : List PortId) (q : QueueId) (cells : List CellId) (octets : Octets)
    (owner : CounterRef) (s : State) : State × Option CellId :=
  let free := q = 3 ∨ Config.reserveCells ≤ s.mem.free.length
  let yes := ports.filter fun p => decide free && s.fitsLimit q cells.length p
  let no := ports.filter fun p => !(decide free && s.fitsLimit q cells.length p)
  let s := forEach no (fun p s => bump owner (bump (.port p (.refused q)) s)) s
  match yes, cells with
  | [], _ | _, [] => (s.give cells, none)
  | _, h :: _ =>
    let s := s.modMem (·.store
      { cells := cells, octets := octets, refs := yes.length, kind := .received })
    (forEach yes (fun p s =>
      bump (.port p (.admitted q)) (enqueue p q (newEntry h .normal) s)) s, some h)

/-- A mirror copy of an admitted frame is put to the limit test of a service port's Q0 (R35). -/
def mirrorTo (w : WindowId) (h : CellId) (s : State) : State :=
  let p := windowPort w
  if s.fitsLimit 0 (s.mem.size h) p then
    bump (.port p (.admitted 0)) (enqueue p 0 (newEntry h .mirror) (s.addRef h))
  else
    bump (.service w .mirrorDrops) (bump (.port p (.refused 0)) s)

/-- An admitted frame of a stream is copied to each ACTIVE window that mirrors it (R168). DESIGN CHOICE (log
49): S0 comes before S1. -/
def mirrorFrame (i : StreamId) (h : CellId) (s : State) : State :=
  forEach [(0 : WindowId), 1] (fun w s =>
    if s.windows[w].state = .active ∧ i ∈ s.windows[w].mirror then mirrorTo w h s else s) s

/-! ## Frames the switch builds (R34) -/

/-- A frame of the switch's own for Q2 of a set of ports: DOWN ports are removed, each queue makes the
limit test, and the frame is stored once when a queue admits it and it passes the free test. Answers
the stored frame, or none when it is not made. DESIGN CHOICE (log 49): the queues that refuse come first,
then those that admit, each in increasing port index. -/
def buildFrame (k : GenKind) (kind : FrameKind) (ports : List PortId) (octets : Octets)
    (s : State) : State × Option CellId :=
  let drop := CounterRef.device (.generationDrops k)
  let up := ports.filter fun p => s.ports[p].link
  match up with
  | [] => (bump drop s, none)
  | _ :: _ =>
    let n := cellsFor octets.length
    let yes := up.filter (s.fitsLimit 2 n)
    let no := up.filter fun p => !s.fitsLimit 2 n p
    let s := forEach no (fun p s => bump drop (bump (.port p (.refused 2)) s)) s
    match yes with
    | [] => (s, none)
    | _ :: _ =>
      match s.mem.take n with
      | none => (bump drop s, none)
      | some (cells, mem) =>
        match cells with
        | [] => (s, none)
        | h :: _ =>
          let f : Frame := { cells := cells, octets := octets, refs := yes.length, kind := kind }
          let s := { s with mem := mem.store f }
          (forEach yes (fun p => enqueue p 2 (newEntry h .normal)) s, some h)

/-! ## A RESTART that waits for its answer (R192) -/

/-- The answer of a waiting RESTART has been sent, or is gone: the RESTART is due. -/
def answerGone (h : CellId) (s : State) : State :=
  s.modMgmt fun m =>
    match m.restart with
    | some w =>
      if w.answer = some h then { m with restart := some { w with answer := none, due := true } }
      else m
    | none => m

end Sys2Proof.Machine
end

