-- ==== Sys2Proof/Machine/Supervisor.lean ====
section
/-! DEFINITION. The robot supervisor and table integrity: arming, periods, status and command frames,
openings, the controller watch, and the checked reads of the two protected tables (R18 to R21,
R89 to R108). -/

namespace Sys2Proof.Machine

/-! ## Armed robots and the controller watch -/

/-- A robot is armed in ARMING, RUNNING, LATE, PARKED and LOST (R89). -/
def RobotState.armed : RobotState → Bool
  | .arming | .running | .late | .parked | .lost => true
  | .idle | .service => false

/-- The number of armed robots (R109). -/
def State.armedCount (s : State) : Nat :=
  ((List.finRange 24).filter fun r => s.robots[r].state.armed).length

/-- No robot is armed. -/
def State.noneArmed (s : State) : Bool :=
  (List.finRange 24).all fun r => !s.robots[r].state.armed

/-- When no robot remains armed the controller watch goes to IDLE and a lost controller stops being a
hold source (R107). -/
def watchIdleIfNone (s : State) : State :=
  if s.noneArmed ∧ s.watch.state ≠ .idle then
    leaveHold .controller (s.modWatch fun w => { w with state := .idle })
  else s

/-- The watch starts at the run time now (R106). -/
def startWatch (s : State) : State :=
  s.modWatch fun w => { w with state := .watching, restartTime := s.clock.run }

/-- A robot's slot and store are emptied, and each gives up its reference (R32). DESIGN CHOICE (log 41):
when both hold a frame the slot gives up its reference before the store. -/
def emptySlots (r : RobotId) (s : State) : State :=
  let b := s.robots[r]
  ((s.releaseOpt b.slot).releaseOpt b.store).modRobot r fun b =>
    { b with slot := none, store := none }

/-- A robot leaves the pending set of every window. -/
def leavePending (r : RobotId) (s : State) : State :=
  forEach [(0 : WindowId), 1]
    (fun w s => s.modWindow w fun x => { x with pendingSet := without x.pendingSet r }) s

/-- A robot leaves the held set of every window. -/
def leaveHeld (r : RobotId) (s : State) : State :=
  forEach [(0 : WindowId), 1]
    (fun w s => s.modWindow w fun x => { x with heldSet := without x.heldSet r }) s

/-- A robot goes to IDLE (R91): its slot and store are emptied, its counts become 0 and the barred
flag is kept, it stops being a hold source, it leaves the pending sets, and the watch may go idle. -/
def toIdle (r : RobotId) (s : State) : State :=
  let s := emptySlots r s
  let s := s.modRobot r fun b =>
    { b with state := .idle, missCount := 0, repeatsUsed := 0, probation := 0, armingCount := 0,
             holder := none }
  watchIdleIfNone (leavePending r (leaveHold (.robot r) s))

/-- A robot enters ARMING with the state of a taken ARM ROBOT, and the watch starts if no robot was
armed (R90, R101, R106). -/
def enterArming (r : RobotId) (s : State) : State :=
  let first := s.noneArmed
  let s := s.modRobot r fun b =>
    { b with state := .arming, missCount := 0, repeatsUsed := 0, probation := 0, armingCount := 0,
             barred := false, holder := none, partialPeriod := true, disturbed := false,
             openingTaken := false, hit := none, periodStart := s.clock.hall }
  if first then startWatch s else s

/-- A robot's period state is set aside: every item of it goes back to its value after a reset (R96,
R101). DESIGN CHOICE (log 26): these values are what READ STATE returns in SERVICE. -/
def Robot.withoutPeriod (b : Robot) : Robot :=
  { b with periodStart := Robot.reset.periodStart, partialPeriod := false, disturbed := false,
           openingTaken := false, hit := none }

/-- A robot is taken into SERVICE by a window (R101, R162). -/
def intoService (r : RobotId) (w : WindowId) (s : State) : State :=
  let s := emptySlots r s
  let s := s.modRobot r fun b =>
    { b.withoutPeriod with state := .service, holder := some w, missCount := 0, repeatsUsed := 0,
                           armingCount := 0 }
  let s := s.modWindow w fun x =>
    { x with pendingSet := without x.pendingSet r, heldSet := withMember x.heldSet r }
  watchIdleIfNone s

/-- A window is ACTIVE at level MAINTAIN (R162). -/
def ServiceWindow.maintains (x : ServiceWindow) : Bool :=
  decide (x.state = .active) && decide (x.level = .maintain)

/-- An entry of a robot into PARKED is reported to the service block: an ACTIVE MAINTAIN window whose
pending set holds it takes it, S0 before S1 (R163). -/
def reportParked (r : RobotId) (s : State) : State :=
  match [(0 : WindowId), 1].find? fun w =>
      s.windows[w].maintains && s.windows[w].pendingSet.getLsbD r with
  | some w => intoService r w s
  | none => s

/-- A held robot is given back to supervision (R101, R164). -/
def giveBack (r : RobotId) (s : State) : State := enterArming r (leaveHeld r s)

/-! ## Table integrity (R18 to R21) -/

/-- What follows when a robot record is marked damaged: the robot goes to IDLE whatever its state
(R21). -/
def damageRobot (r : RobotId) (s : State) : State :=
  leaveHeld r (toIdle r s)

/-- A checked read of a stream record (R18 to R20). -/
def checkStream (i : StreamId) (k : ReadKind) (s : State) : State :=
  if s.streams[i].damaged then bump (.device .damagedStream) s
  else match s.streams[i].ecc with
    | .clean => s
    | .single => bump (.device .correctedStream) (s.modStream i fun x => { x with ecc := .clean })
    | .double _ =>
      let s := s.modStream i fun x =>
        { x with damaged := true, cfg := { x.cfg with valid := false } }
      raise (.tableDamage (.stream i) k) (bump (.device .damagedStream) s)

/-- A checked read of a robot record (R18, R19, R21). -/
def checkRobot (r : RobotId) (k : ReadKind) (s : State) : State :=
  if s.robots[r].damaged then bump (.device .damagedRobot) s
  else match s.robots[r].ecc with
    | .clean => s
    | .single => bump (.device .correctedRobot) (s.modRobot r fun x => { x with ecc := .clean })
    | .double _ =>
      let s := s.modRobot r fun x => { x with damaged := true }
      damageRobot r (raise (.tableDamage (.robot r) k) (bump (.device .damagedRobot) s))

/-! ## Periods (R92 to R99) -/

/-- A robot is judged into LOST (R98, R100). -/
def loseRobot (r : RobotId) (s : State) : State :=
  let was := s.robots[r].state
  let s := s.modRobot r fun b => { b with state := .lost }
  let s := raise (.robotLost r was) (bump (.robot r .losses) s)
  let probation := s.robots[r].probation
  let s :=
    if 0 < probation then
      raise (.robotBarred r probation) (s.modRobot r fun b => { b with barred := true })
    else s
  if s.robots[r].cfg.lossPolicy = .holdLine ∨ s.robots[r].barred then joinHold (.robot r) s else s

/-- A hit moves a robot to PARKED or RUNNING with miss count 0 (R97); an entry into PARKED is
reported (R163). -/
def hitRobot (r : RobotId) (parked : Bool) (s : State) : State :=
  let s := s.modRobot r fun b =>
    { b with state := if parked then .parked else .running, missCount := 0 }
  if parked then reportParked r s else s

/-- A judged period without a hit in RUNNING, LATE or PARKED (R97). -/
def missRobot (r : RobotId) (s : State) : State :=
  let b := s.robots[r]
  let misses := if b.state = .running then 1 else min (b.missCount + 1) 15
  let s := bump (.robot r .misses) (s.modRobot r fun b => { b with missCount := misses })
  if b.cfg.tolerance ≤ misses then loseRobot r s
  else if b.state = .running then s.modRobot r fun b => { b with state := .late }
  else s

/-- A judged period without a hit in ARMING (R97). -/
def stallRobot (r : RobotId) (s : State) : State :=
  let old := s.robots[r].armingCount
  let count := min (old + 1) 65535
  let s := s.modRobot r fun b => { b with armingCount := count }
  if old < Config.armStall ∧ count = Config.armStall then raise (.armStalled r count) s else s

/-- A hit in LOST returns a robot that is not barred (R99). -/
def returnRobot (r : RobotId) (parked : Bool) (s : State) : State :=
  let s := s.modRobot r fun b =>
    { b with state := if parked then .parked else .running, missCount := 0,
             probation := Config.probationPeriods }
  let s := raise (.robotBack r (if parked then .parked else .running)) s
  let s := leaveHold (.robot r) s
  if parked then reportParked r s else s

/-- A period is judged from the robot's state and the period hit (R97 to R99). -/
def judgePeriod (r : RobotId) (s : State) : State :=
  let b := s.robots[r]
  match b.state, b.hit with
  | .arming, some parked => hitRobot r parked s
  | .arming, none => stallRobot r s
  | .running, some parked | .late, some parked | .parked, some parked => hitRobot r parked s
  | .running, none | .late, none | .parked, none => missRobot r s
  | .lost, some parked => if b.barred then s else returnRobot r parked s
  | .lost, none => bump (.robot r .misses) s
  | .idle, _ | .service, _ => s

/-- The next period begins at a boundary (R96, step 4), but for a robot that the period's judgement took
into SERVICE, which keeps no period state. -/
def Robot.nextPeriod (b : Robot) (boundary : HallTime) : Robot :=
  if b.state = .service then b
  else { b.withoutPeriod with periodStart := boundary }

/-- A period end of an armed robot at the boundary with the hall time given (R96). -/
def periodEnd (r : RobotId) (boundary : HallTime) (s : State) : State :=
  let s := s.modRobot r fun b => { b with probation := b.probation - 1 }
  let b := s.robots[r]
  let judged := !b.partialPeriod && !b.disturbed
  let s := if judged then judgePeriod r s else s
  let s := if judged && !b.openingTaken then bump (.robot r .silentPeriods) s else s
  s.modRobot r fun b => b.nextPeriod boundary

/-- A boundary signal as it reaches one robot (R92, R93): the supervisor reads its record, marks its
period disturbed when the boundary ends a disturbed cycle, and tests the boundary as a period end. -/
def boundaryFor (p : PortId) (index : Int) (disturbed : Bool) (boundary : HallTime) (r : RobotId)
    (s : State) : State :=
  if s.robots[r].state.armed ∧ s.robots[r].port = some p then
    let s := checkRobot r .supervision s
    if s.robots[r].state.armed then
      let s := if disturbed then s.modRobot r fun b => { b with disturbed := true } else s
      let b := s.robots[r]
      if index.emod b.cfg.period = b.cfg.phase then periodEnd r boundary s else s
    else s
  else s

/-- A cycle boundary signalled to the supervisor (R69, R92). DESIGN CHOICE (log 49): the robots take it in
increasing index. -/
def signalBoundary (p : PortId) (index : Int) (disturbed : Bool) (boundary : HallTime)
    (s : State) : State :=
  forEach (List.finRange 24) (boundaryFor p index disturbed boundary) s

/-! ## Openings (R103, R104) -/

/-- Every robot send that waits in the port's Q3 at a window start is counted once in delayed sends
(R104). -/
def countDelayed (p : PortId) (s : State) : State :=
  let l := s.egress[p].queues[(3 : QueueId)]
  let s := forEach l (fun x s =>
    match x.kind with
    | .robotSend r => if x.delayCounted then s else bump (.robot r .delayedSends) s
    | _ => s) s
  s.modEgress p fun e =>
    { e with queues := upd e.queues 3 fun l =>
        l.map fun x => if x.isRobotSend then { x with delayCounted := true } else x }

/-- The hold frame of a robot is built from its entry and sent; without a free cell it is not made
(R33, R105). -/
def sendHoldFrame (r : RobotId) (p : PortId) (s : State) : State :=
  match s.mem.take 1 with
  | some (h :: rest, mem) =>
    let f : Frame := { cells := h :: rest, octets := refreshFcs s.holdFrames[r], refs := 1,
                       kind := .holdFrame }
    bump (.robot r .holdFramesSent) (enqueueSend p r h { s with mem := mem.store f })
  | _ => bump (.robot r .silentPeriods) (bump (.device (.generationDrops .holdFrame)) s)

/-- The slot's frame is sent: its reference passes to the entry, and the store gives up its old frame
and gains the sent one (R33, R103). -/
def sendSlot (r : RobotId) (p : PortId) (h : CellId) (s : State) : State :=
  let s := (s.releaseOpt s.robots[r].store).addRef h
  let s := s.modRobot r fun b => { b with slot := none, store := some h, repeatsUsed := 0 }
  bump (.robot r .commandsSent) (enqueueSend p r h s)

/-- The stored frame is sent once more (R33, R103). -/
def sendRepeat (r : RobotId) (p : PortId) (h : CellId) (s : State) : State :=
  let s := (s.addRef h).modRobot r fun b => { b with repeatsUsed := b.repeatsUsed + 1 }
  bump (.robot r .repeatsSent) (enqueueSend p r h s)

/-- The command window opens for a robot: the first choice that applies is made (R103). -/
def opening (r : RobotId) (p : PortId) (s : State) : State :=
  let s := s.modRobot r fun b => { b with openingTaken := true }
  let b := s.robots[r]
  if !s.ports[p].link then bump (.robot r .silentPeriods) s
  else match b.slot with
    | some h => sendSlot r p h s
    | none =>
      match b.store with
      | some h =>
        if b.repeatsUsed < b.cfg.repeatLimit then sendRepeat r p h s
        else if s.holdFrames[r].isEmpty then bump (.robot r .silentPeriods) s
        else sendHoldFrame r p s
      | none =>
        if s.holdFrames[r].isEmpty then bump (.robot r .silentPeriods) s
        else sendHoldFrame r p s

/-- A window start as it reaches one robot (R103). -/
def openingFor (p : PortId) (w : Nat) (r : RobotId) (s : State) : State :=
  if s.robots[r].state.armed ∧ s.robots[r].port = some p then
    let s := checkRobot r .supervision s
    let b := s.robots[r]
    if b.state.armed ∧ b.cfg.window = w ∧ !b.openingTaken then opening r p s else s
  else s

/-- A window start signalled to the supervisor (R69, R103, R104), in increasing robot index. -/
def signalWindow (p : PortId) (w : Nat) (s : State) : State :=
  forEach (List.finRange 24) (openingFor p w) (countDelayed p s)

/-! ## Status frames (R95) -/

/-- The frame is the period's hit, or is counted in extra status (R95). -/
def recordHit (r : RobotId) (octets : Octets) (s : State) : State :=
  let b := s.robots[r]
  match b.hit with
  | some _ => bump (.robot r .extraStatus) s
  | none =>
    bump (.robot r .statusHits)
      (s.modRobot r fun b => { b with hit := some (readsParked b.cfg octets) })

/-- A late or after-period status frame is counted and noticed (R95). -/
def noteLate (r : RobotId) (i : StreamId) (past : Option Nat) (s : State) : State :=
  raise (.statusLate r past) (bump (.stream i .late) (bump (.robot r .lateStatus) s))

/-- A status frame of an armed robot is judged by its receive time (R95). -/
def statusFrame (r : RobotId) (i : StreamId) (octets : Octets) (recv : HallTime) (s : State) :
    State :=
  if !s.robots[r].state.armed then s
  else
    let s := checkRobot r .supervision s
    let b := s.robots[r]
    if !b.state.armed then s
    else
      let d := HallTime.diff recv b.periodStart
      let limit : Int := (b.cfg.deadline * fracPerNs : Nat)
      if d < 0 then noteLate r i none s
      else if b.cfg.deadline = 0 ∨ d ≤ limit then recordHit r octets s
      else noteLate r i (some ((d - limit) / (fracPerNs : Int)).toNat) (recordHit r octets s)

/-! ## Command frames (R102, R106, R107) -/

/-- An accepted command restarts the controller watch, and ends a loss (R102, R106, R107). -/
def acceptedCommand (s : State) : State :=
  match s.watch.state with
  | .idle => s
  | .watching => s.modWatch fun w => { w with restartTime := s.clock.run }
  | .lost =>
    let ms := toMs (s.clock.run - s.watch.lostAt)
    leaveHold .controller (raise (.controllerBack ms) (startWatch s))

/-- A received frame is stored with one reference (R32). -/
def storeFrame (cells : List CellId) (octets : Octets) (s : State) : State :=
  s.modMem (·.store { cells := cells, octets := octets, refs := 1, kind := .received })

/-- A command frame of an armed robot goes to its slot, or, when the opening is taken, to its store
(R32, R102). -/
def placeCommand (r : RobotId) (i : StreamId) (cells : List CellId) (octets : Octets) (s : State) :
    State :=
  match cells with
  | [] => s
  | h :: _ =>
    let b := s.robots[r]
    if b.openingTaken then
      let s := storeFrame cells octets (s.releaseOpt b.store)
      let s := s.modRobot r fun b => { b with store := some h, repeatsUsed := 0 }
      bump (.stream i .late) (bump (.robot r .lateCommands) s)
    else
      let s := storeFrame cells octets (s.releaseOpt b.slot)
      let s := s.modRobot r fun b => { b with slot := some h }
      if b.slot.isSome then bump (.robot r .overwritten) s else s

/-- The controller timeout passes in WATCHING (R106). -/
def loseController (s : State) : State :=
  let s := s.modWatch fun w => { w with state := .lost, lostAt := s.clock.run }
  let s := raise (.controllerLost s.watch.action) (bump .controllerLosses s)
  if s.watch.action = .holdLine then joinHold .controller s else s

/-- The controller timeout has passed since the restart time (R106). -/
def State.controllerDue (s : State) : Bool :=
  decide (s.watch.state = .watching) &&
    decide (s.watch.restartTime + s.device.controllerTimeout * 1000 ≤ s.clock.run)

end Sys2Proof.Machine
end

