-- ==== Sys2Proof/Machine/GateEngine.lean ====
section
/-! DEFINITION. The gate engine's events: boundaries, switch-overs, window starts, steps (R67 to R78). -/

namespace Sys2Proof.Machine

/-- The entries of a queue may be counted in holds again: its run of open windows has ended (R75). -/
def clearHolds (p : PortId) (q : QueueId) (s : State) : State :=
  s.modEgress p fun e =>
    { e with queues := upd e.queues q fun l => l.map fun x => { x with holdCounted := false } }

/-- A change of a gate engine: a preemptable queue whose gate closes ends its run of open windows
(R75), and a cut trigger is looked for (R80). -/
def changeGate (p : PortId) (f : Gate → Gate) (s : State) : State :=
  let before := s.gates[p]
  let s := s.modGate p f
  let after := s.gates[p]
  let s := forEach [(0 : QueueId), 1] (fun q s =>
    if before.isOpen q && !after.isOpen q then clearHolds p q s else s) s
  noteCut p s

/-- The cycle index after `k` of the 1 ms grid, which wraps with hall time (R42, R68). -/
def nextGridIndex (k : Int) : Int := if k + 1 = gridIndexes then 0 else k + 1

/-- The boundary that a pending commit waits for, after the boundary to come: the index of the 1 ms grid
begins again at 0 where hall time wraps, and that of the boundary with it (R42, R68, R72). -/
def Gate.commitFromNext (g : Gate) : Option Int :=
  if g.mode = .opened ∧ g.cycleIndex + 1 = gridIndexes then g.commitFrom.map (· - gridIndexes)
  else g.commitFrom

/-- The list that takes over at the coming boundary, when a pending commit's switch-over is fixed to
it (R72). -/
def Gate.switchDue (g : Gate) : Option GateList :=
  if g.commit ∧ g.switchIndex = g.cycleIndex + 1 then g.loaded else none

/-- A boundary in OPEN or RUNNING (R68, R69, R72): the boundary is signalled, marked disturbed if the
cycle that ends was; the mark is cleared; a due switch-over is made; and in RUNNING window 0 begins
and its start is signalled. -/
def takeBoundary (p : PortId) (s : State) : State :=
  let g := s.gates[p]
  let t := g.cycleEnd
  let plain := if g.mode = .opened then nextGridIndex g.cycleIndex else g.cycleIndex + 1
  match g.switchDue with
  | some l =>
    let k := l.indexAfter t - 1
    let s := signalBoundary p k g.disturbed (HallTime.ofNs t) s
    let s := changeGate p (fun g =>
      { g with mode := .running, active := some l, loaded := none, commit := false,
               activation := none, commitFrom := none, cycleIndex := k, windowIndex := 0, cycleStart := t,
               disturbed := false }) s
    signalWindow p 0 (raise (.scheduleApplied p k) s)
  | none =>
    let s := signalBoundary p plain g.disturbed (HallTime.ofNs t) s
    let s := changeGate p (fun g =>
      { g with cycleIndex := plain, windowIndex := 0, commitFrom := g.commitFromNext,
               cycleStart := if g.mode = .opened then gridBoundary plain else t,
               disturbed := false }) s
    if g.mode = .opened then s else signalWindow p 0 s

/-- The target boundary of a RESYNC (R77). -/
def takeTarget (p : PortId) (l : GateList) (s : State) : State :=
  let g := s.gates[p]
  let t := l.boundary g.target
  let s := signalBoundary p g.target true (HallTime.ofNs t) s
  let s := changeGate p (fun g =>
    { g with mode := .running, cycleIndex := g.target, windowIndex := 0, cycleStart := t,
             disturbed := false }) s
  signalWindow p 0 (raise (.scheduleResync p g.target) s)

/-- The instant at which the next window of the cycle in progress starts, or none (R66, R69). -/
def Gate.nextWindow (g : Gate) : Option Int :=
  match g.mode, g.active with
  | .running, some l =>
    let t := g.cycleStart + l.windowOffset (g.windowIndex + 1)
    if g.windowIndex + 1 < l.windows.length ∧ t < g.cycleEnd then some t else none
  | _, _ => none

/-- The next window of the cycle in progress starts and is signalled (R69). -/
def takeWindow (p : PortId) (s : State) : State :=
  let w := s.gates[p].windowIndex + 1
  signalWindow p w (changeGate p (fun g => { g with windowIndex := w }) s)

/-- A pending commit is fixed anew, to the boundaries that hall time has yet to reach (R72). -/
def Gate.fixCommit (g : Gate) (now : HallTime) : Gate :=
  { g with commitFrom := if g.commit then some (g.commitIndex g.activation now) else none }

/-- What a step of hall time does to a gate engine (R76), read from the new hall time; it fixes the
switch-over of a pending commit anew (R72). DESIGN CHOICE (log 42): until the next
boundary the cycle index of an OPEN port is that of the grid cycle in which the new hall time lies, and
in RESYNC it stays that of the cycle in progress before the step. -/
def Gate.afterStep (now : HallTime) (g : Gate) : Gate :=
  match g.mode, g.active with
  | .opened, _ | _, none =>
    let k := now.toNs / (Config.gridCycle : Int)
    { g with cycleIndex := k, cycleStart := gridBoundary k, disturbed := true }.fixCommit now
  | _, some l =>
    { g with mode := .resync, target := l.indexAfter now.toNs, disturbed := true }.fixCommit now

/-- A step is reported to the gate engine of every port (R53, R76). -/
def reportStep (s : State) : State :=
  forEach (List.finRange 12) (fun p s => changeGate p (Gate.afterStep s.clock.hall) s) s

end Sys2Proof.Machine
end

