-- ==== Sys2Proof/Machine/HallClock.lean ====
section
/-! DEFINITION. The hall clock's shared operations: steps, the servo, holdover, ranging and relaying
(R43, R47 to R62). -/

namespace Sys2Proof.Machine

/-- The TIME_UP port, if there is one (R3). -/
def State.timeUpPort (s : State) : Option PortId :=
  (List.finRange 12).find? fun p => decide (s.ports[p].cfg.timing = .timeUp)

/-- The TIME_DOWN ports. -/
def State.timeDownPorts (s : State) : List PortId :=
  (List.finRange 12).filter fun p => decide (s.ports[p].cfg.timing = .timeDown)

/-- A relayed copy that has not begun on the wire is void after a step (R53). -/
def Frame.voided (f : Frame) : Frame :=
  match f.kind with
  | .relayed t c _ => { f with kind := .relayed t c true }
  | _ => f

/-- Trim takes a value, and the increment is recomputed (R43). -/
def setTrim (trim : Int) (s : State) : State :=
  s.modClock fun c => { c with trim := trim, increment := incrementOf trim }

/-- A step of hall time to a new value, with its consequences (R53): every gate engine is told, the
outstanding probe is cancelled, waiting relay copies are void, marks stamped before are stale, and the
step is counted. -/
def stepTo (hall : HallTime) (s : State) : State :=
  let s := s.modClock fun c =>
    { c with hall := hall, goodMarks := 0, epoch := c.epoch + 1, probe := none }
  let s := reportStep s
  let s := s.modMem fun m => { m with frames := m.frames.map fun f => f.map Frame.voided }
  bump (.clock .steps) s

/-- The servo enters HOLDOVER: trim becomes the integral (R52). -/
def enterHoldover (s : State) : State :=
  let s := setTrim s.clock.integral (s.modClock fun c => { c with servo := .holdover })
  raise (.clockHoldover s.clock.trim) s

/-- The instant from which the mark timeout runs: the later of the last accepted mark and the last
clock request (R52). -/
def Clock.timeoutBase (c : Clock) : Option Nat :=
  match c.lastMark, c.lastRequest with
  | none, x => x
  | x, none => x
  | some a, some b => some (max a b)

/-- The mark timeout has fallen due (R52). -/
def Clock.holdoverDue (c : Clock) : Bool :=
  match c.servo, c.timeoutBase with
  | .acquiring, some t | .locked, some t => decide (t + c.cfg.markTimeout * 1000 ≤ c.run)
  | _, _ => false

/-! ## Marks (R47 to R51) -/

/-- The origin time a mark carries (R196). -/
def Mark.origin (m : Mark) : HallTime :=
  { sec := field (framePayload m.octets) 2 6, ns := field (framePayload m.octets) 8 4, frac := 0 }

/-- The carried delay of a mark, in units of 2^-16 ns (R196). -/
def Mark.carried (m : Mark) : Nat := field (framePayload m.octets) 12 8

/-- A mark is malformed (R47). -/
def Mark.malformed (m : Mark) : Bool :=
  decide (field (framePayload m.octets) 0 1 ≠ 1) || decide (999999999 < m.origin.ns) ||
    decide (Config.maxCarried < m.carried)

/-- The corrected time of a mark: origin, carried delay and link delay (R48). -/
def Mark.corrected (m : Mark) (delay : Int) : HallTime :=
  HallTime.ofUnits (m.origin.units + ((m.carried : Int) + delay).toNat * 65536)

/-- The offset of a mark in whole nanoseconds, positive when the switch is ahead (R48). -/
def Mark.offset (m : Mark) (delay : Int) : Int :=
  roundHalfAway (HallTime.diff m.recvTime (m.corrected delay)) fracPerNs

/-- The integral and the trim after an offset (R50). -/
def servoGains (c : Clock) (offset : Int) : Int × Int :=
  let integral := clampAbs Config.trimLimit (c.integral - (offset * c.cfg.gi).tdiv 16)
  (integral, clampAbs Config.trimLimit (integral - (offset * c.cfg.gp).tdiv 16))

/-- The servo state and the good-mark count after a servo update (R51); UNSET never comes here. -/
def servoMove (c : Clock) (offset : Int) : Servo × Nat :=
  match c.servo with
  | .acquiring =>
    if offset.natAbs ≤ c.cfg.lockThreshold then
      if c.goodMarks + 1 = 4 then (.locked, c.goodMarks + 1) else (.acquiring, c.goodMarks + 1)
    else (.acquiring, 0)
  | .locked =>
    if offset.natAbs ≤ 4 * c.cfg.lockThreshold then (.locked, c.goodMarks) else (.acquiring, 0)
  | .holdover | .unset => (.acquiring, 0)

/-- An accepted mark that does not step updates the servo (R50, R51). -/
def servoUpdate (offset : Int) (s : State) : State :=
  let gains := servoGains s.clock offset
  let move := servoMove s.clock offset
  let locks := move.1 = .locked ∧ s.clock.servo = .acquiring
  let s := s.modClock fun c =>
    { c with integral := gains.1, servo := move.1, goodMarks := move.2 }
  let s := setTrim gains.2 s
  if locks then raise (.clockLocked offset.natAbs) s else s

/-- An accepted mark steps hall time by its offset (R49). DESIGN CHOICE (log 44): the offset is not clamped
to ±(2^63 − 1) ns, as R54 clamps that of SET CLOCK. -/
def markStep (offset : Int) (s : State) : State :=
  let s := s.modClock fun c => { c with servo := .acquiring }
  raise (.clockStep .mark offset) (stepTo (s.clock.hall.stepBy (-offset)) s)

/-- An accepted mark is relayed to every TIME_DOWN port (R61). -/
def relayMark (m : Mark) (recvTime : HallTime) (s : State) : State :=
  match s.timeDownPorts with
  | [] => s
  | ports =>
    let copy := refreshFcs (overwrite m.octets 6 (macBytes s.station))
    (buildFrame .relayedMark (.relayed recvTime m.carried false) ports copy s).1

/-- A mark taken by the hall clock is read (R47). -/
def readMark (m : Mark) (s : State) : State :=
  if m.malformed then bump (.clock .marksMalformed) s
  else if m.epoch ≠ s.clock.epoch then bump (.clock .marksDiscarded) s
  else
    let s := bump (.clock .marksAccepted) s
    let s := s.modClock fun c => { c with lastMark := some m.recvRun }
    let offset := m.offset (s.clock.delay.getD 0)
    let steps := s.clock.servo = .unset ∨ s.clock.cfg.stepLimit < offset.natAbs
    let s := if steps then markStep offset s else servoUpdate offset s
    let recvTime := if steps then m.recvTime.stepBy (-offset) else m.recvTime
    if s.clock.cfg.relay then relayMark m recvTime s else s

/-! ## Requests that step hall time (R54, R55) -/

/-- The servo after SET CLOCK or ADJUST CLOCK, and the last clock request (R54). -/
def clockRequest (s : State) : State :=
  match s.timeUpPort with
  | some _ => s.modClock fun c => { c with servo := .acquiring, lastRequest := some c.run }
  | none => s.modClock fun c => { c with servo := .unset }

/-- The offset of SET CLOCK, clamped to ±(2^63 − 1) ns (R54). -/
def setOffset (hall : HallTime) (t : BaseTime) : Int :=
  clampAbs 9223372036854775807
    (secDiff hall.sec t.sec * nsPerSec + ((hall.ns : Int) - (t.ns : Int)))

/-! ## Ranging (R56 to R60) -/

/-- The ranging group address (R58). -/
def rangingGroup : Mac := 0x014A0BFF0001#48

/-- The outstanding probe counts as lost (R57, step 1). -/
def loseProbe (s : State) : State :=
  match s.clock.probe with
  | none => s
  | some _ =>
    let s := bump (.clock .probesLost) s
    let s := s.modClock fun c => { c with lostProbes := c.lostProbes + 1, probe := none }
    if 3 ≤ s.clock.lostProbes ∧ !s.clock.stale then
      raise (.rangeStale s.clock.delay) (s.modClock fun c => { c with stale := true })
    else s

/-- A new probe is built when a port is TIME_UP and UP (R57, step 2; R58). -/
def newProbe (s : State) : State :=
  match s.timeUpPort with
  | none => s
  | some p =>
    if s.ports[p].link then
      let seq := (s.clock.probeSeq + 1) % 65536
      let s := s.modClock fun c =>
        { c with probeSeq := seq, probe := some { seq := seq, t1 := none } }
      let frame := formFrame rangingGroup s.station 0 etherProbe ([1, 0] ++ beBytes 2 seq)
      (buildFrame .rangeProbe (.rangeProbe seq) [p] frame s).1
    else s

/-- A probe falls due at the run time given (R57). -/
def takeProbeDue (due : Nat) (s : State) : State :=
  newProbe ((loseProbe s).modClock fun c => { c with lastProbeDue := due })

/-- A range sample in units of 2^-16 ns (R59). -/
def rangeSample (t1 t2 t3 t4 : HallTime) : Int :=
  (HallTime.diff t4 t1 - HallTime.diff t3 t2).tdiv (2 * 65536)

/-- D after a good sample (R59). -/
def filterDelay (d : Option Int) (sample : Int) : Int :=
  match d with
  | none => sample
  | some d => d + (sample - d).tdiv 8

/-- A sample is discarded, or sets or filters D (R59). -/
def takeSample (sample : Int) (s : State) : State :=
  if sample < 0 ∨ Config.maxSample < sample then bump (.clock .samplesDiscarded) s
  else
    bump (.clock .samplesGood) (s.modClock fun c =>
      { c with delay := some (filterDelay c.delay sample), stale := false, lostProbes := 0 })

/-- A RANGE REPLY taken by the hall clock (R59). -/
def readReply (octets : Octets) (t4 : HallTime) (s : State) : State :=
  let l := framePayload octets
  let t2 := timestampOf (slice l 4 12)
  let t3 := timestampOf (slice l 16 12)
  if 999999999 < t2.ns ∨ 999999999 < t3.ns then bump (.clock .rangeMalformed) s
  else match s.clock.probe with
    | some { seq := q, t1 := some t1 } =>
      if q = field l 2 2 then
        takeSample (rangeSample t1 t2 t3 t4) (s.modClock fun c => { c with probe := none })
      else bump (.clock .repliesUnmatched) s
    | _ => bump (.clock .repliesUnmatched) s

/-- A RANGE PROBE is answered on the port it arrived on (R60). DESIGN CHOICE (log 43): the reply is sent
untagged, also when the probe carried a tag. -/
def answerProbe (p : PortId) (octets : Octets) (t2 : HallTime) (s : State) : State :=
  let seq := field (framePayload octets) 2 2
  let body := [1, 0] ++ beBytes 2 seq ++ timestampBytes t2 ++ List.replicate 12 0
  let frame := formFrame (frameSrc octets) s.station 0 etherReply body
  (buildFrame .rangeReply .rangeReply [p] frame s).1

/-- The carried delay of a relayed copy as it is sent: the original's, D, and the residence (R62). -/
def newCarried (carried : Nat) (recvTime sent : HallTime) (delay : Int) : Int :=
  carried + delay + (HallTime.diff sent recvTime).tdiv 65536

end Sys2Proof.Machine
end

