-- ==== Sys2Proof/Machine/Service.lean ====
section
/-! DEFINITION. The service block's shared operations: closing, warning, arrival and traps (R153 to
R167). -/

namespace Sys2Proof.Machine

/-- A window's remaining in whole milliseconds, rounded down (R151). DESIGN CHOICE (log 17): it is 0 when
run time has reached the end time, as in a CLOSED window whose end time has passed. -/
def State.remainingMs (s : State) (w : WindowId) : Nat :=
  toMs (s.windows[w].endTime - s.clock.run)

/-- A window is GRANTED or ACTIVE. -/
def ServiceWindow.isOpen (x : ServiceWindow) : Bool := decide (x.state ≠ .closed)

/-- The mirror copies that wait in a service port's Q0 are removed (R157, step 3), each giving up its
reference (R26). DESIGN CHOICE (log 41): they do so in the order of their places in the queue. -/
def dropMirrors (p : PortId) (s : State) : State :=
  let l := s.egress[p].queues[(0 : QueueId)]
  let s := releaseEntries (l.filter fun x => decide (x.kind = .mirror)) s
  s.modEgress p fun e =>
    { e with queues := upd e.queues 0 fun l => l.filter fun x => decide (x.kind ≠ .mirror) }

/-- The robots held by a window are given back in increasing index, and the pending set is emptied
(R157 steps 1 and 2, R161). -/
def releaseRobots (w : WindowId) (s : State) : State :=
  let s := forEach (members s.windows[w].heldSet) giveBack s
  s.modWindow w fun x => { x with heldSet := 0, pendingSet := 0 }

/-- A window that is GRANTED or ACTIVE is closed (R157); a CLOSED one stays as it is. -/
def closeWindow (w : WindowId) (cause : CloseCause) (s : State) : State :=
  if s.windows[w].state = .closed then s
  else
    let s := dropMirrors (windowPort w) (releaseRobots w s)
    let s := s.modWindow w fun x =>
      { x with technician := none, learned := false, warned := false, lastClose := some cause }
    let s := raise (.serviceClosed w cause s.windows[w].sessionTraps) s
    s.modWindow w fun x => { x with state := .closed }

/-- SERVICE_EXPIRING is raised and warned becomes yes (R153, R154, R156). -/
def warnWindow (w : WindowId) (s : State) : State :=
  raise (.serviceExpiring w (s.remainingMs w)) (s.modWindow w fun x => { x with warned := true })

/-- A trap (R167): the caller has returned the frame's cells. -/
def trap (w : WindowId) (reason : TrapReason) (src : Mac) (s : State) : State :=
  let s := bump (.service w .traps) s
  let s := s.modWindow w fun x => { x with sessionTraps := min (x.sessionTraps + 1) 65535 }
  let s := raise (.serviceTrap w reason src) s
  if s.windows[w].isOpen ∧ s.windows[w].trapCloses then closeWindow w .trap s else s

/-- One robot of the robot set as a window enters ACTIVE at MAINTAIN (R162). -/
def claimRobot (w : WindowId) (r : RobotId) (s : State) : State :=
  match s.robots[r].state with
  | .parked => intoService r w s
  | .idle => s
  | .arming | .running | .late | .lost | .service =>
    s.modWindow w fun x => { x with pendingSet := withMember x.pendingSet r }

/-- A window becomes ACTIVE, and at MAINTAIN takes its robots (R158, R162). -/
def activateWindow (w : WindowId) (s : State) : State :=
  let s := s.modWindow w fun x => { x with state := .active }
  if s.windows[w].level = .maintain then forEach (members s.windows[w].robots) (claimRobot w) s
  else s

/-- The first judgement of a frame that reaches the service block (R158): the state after it, and
whether the frame is passed on. The caller has returned the cells of a frame that is trapped. -/
def judgeArrival (w : WindowId) (src : Mac) (s : State) : State × Bool :=
  let x := s.windows[w]
  match x.state, x.technician with
  | .closed, _ => (trap w .closed src s, false)
  | .granted, none =>
    if isGroup src then (trap w .groupSource src s, false)
    else
      (activateWindow w
        (s.modWindow w fun x => { x with technician := some src, learned := true }), true)
  | .granted, some a =>
    if src = a then (activateWindow w s, true) else (trap w .foreignSource src s, false)
  | .active, a =>
    if a = some src then (s, true) else (trap w .foreignSource src s, false)

/-- The injection check of a frame from the technician on an ACTIVE window (R165): the reason it fails
for, or none. -/
def injectionFault (w : WindowId) (i : Option StreamId) (octets : Octets) (s : State) :
    Option TrapReason :=
  let x := s.windows[w]
  match i with
  | none => some .unmatched
  | some i =>
    let c := s.streams[i].cfg
    if x.level = .observe then some .level
    else
      let subjectOk :=
        match c.subject with
        | .camera k => x.cameras.getLsbD k
        | .robot r => x.robots.getLsbD r
        | .none | .controller => false
      let robotOk :=
        match c.subject with
        | .robot r =>
          let b := s.robots[r]
          decide (b.state = .idle) || decide (b.state = .parked) ||
            (decide (b.state = .service) && decide (b.holder = some w) &&
              decide (x.level = .maintain))
        | _ => true
      if !subjectOk then some .subject
      else if !robotOk then some .robotState
      else if c.maxLength < octets.length then some .tooLong
      else none

end Sys2Proof.Machine
end

