-- ==== Sys2Proof/Machine/Ejector.lean ====
section
/-! DEFINITION. The reject station: the lead, the ejector in its two modes, and the decision (R136,
R141 to R149). -/

namespace Sys2Proof.Machine

/-- EJECT_A is asserted in BLASTING and EXTENDING (R145, R146). -/
def EjectState.drivesA : EjectState → Bool
  | .blasting | .extending => true
  | _ => false

/-- EJECT_B is asserted in RETRACTING (R145, R146). -/
def EjectState.drivesB : EjectState → Bool
  | .retracting => true
  | _ => false

/-- The lead of a speed under a record (R141). -/
def leadOf (c : EjectorCfg) (speed : Nat) : Nat :=
  min c.leadMax ((speed * c.latency + 128000) / 256000)

/-- The lead is recomputed from the latest speed (R141). -/
def recomputeLead (s : State) : State :=
  s.modReject fun x => { x with lead := leadOf x.cfg s.tracker.speed, leadSpeed := s.tracker.speed }

/-- The non-overlap time has passed since a release; none is satisfied (R148). -/
def releasePassed (release : Option Nat) (nonOverlap now : Nat) : Bool :=
  match release with
  | none => true
  | some t => decide (t + nonOverlap ≤ now)

/-- EJECT_A may be asserted in DIVERTER mode (R146, R148). -/
def State.mayExtend (s : State) : Bool :=
  decide (s.reject.inhibitEnd ≤ s.clock.run) &&
    releasePassed s.reject.releaseB s.reject.cfg.nonOverlap s.clock.run

/-- EJECT_B may be asserted (R146, R148). -/
def State.mayRetract (s : State) : Bool :=
  decide (s.reject.inhibitEnd ≤ s.clock.run) &&
    releasePassed s.reject.releaseA s.reject.cfg.nonOverlap s.clock.run

/-- BLASTING begins (R145). -/
def startBlast (s : State) : State :=
  bump (.reject .blasts) (s.modReject fun x =>
    { x with state := .blasting, heldFire := false, phaseEnd := s.clock.run + x.cfg.blastTime })

/-- EXTENDING is entered: the pending extend is cleared and extends is counted (R146). -/
def startExtend (s : State) : State :=
  bump (.reject .extendsMade) (s.modReject fun x =>
    { x with state := .extending, extendPending := false,
             phaseEnd := s.clock.run + x.cfg.extendTime * 1000 })

/-- RETRACTING is entered and retracts is counted (R146). -/
def startRetract (s : State) : State :=
  bump (.reject .retractsMade) (s.modReject fun x =>
    { x with state := .retracting, phaseEnd := s.clock.run + x.cfg.retractTime * 1000 })

/-- EXTEND_WAIT and RETRACT_WAIT are left when their conditions hold (R146). -/
def leaveWaits (s : State) : State :=
  match s.reject.state with
  | .extendWait => if s.mayExtend then startExtend s else s
  | .retractWait => if s.mayRetract then startRetract s else s
  | _ => s

/-- The dwell test: in DIVERTED the gate leaves for RETRACT_WAIT when the travel from the dwell start
reaches the dwell, and leaves that at once when it may (R146). -/
def dwellTest (s : State) : State :=
  match s.reject.state, s.reject.dwellStart with
  | .diverted, some d =>
    if (s.reject.cfg.dwell : Int) ≤ distance d s.tracker.position then
      leaveWaits (s.modReject fun x => { x with state := .retractWait })
    else s
  | _, _ => s

/-- A fire in PULSE mode (R145). DESIGN CHOICE (log 32): in REST with a fire held, after the inhibit has
ended and before INHIBIT_END is taken, the first and the third row of R145 both apply, and the third is
taken: the fire is absorbed. -/
def firePulse (s : State) : State :=
  match s.reject.state with
  | .blasting =>
    bump (.reject .blastRestarts) (s.modReject fun x =>
      { x with phaseEnd := s.clock.run + x.cfg.blastTime })
  | _ =>
    if s.reject.heldFire then bump (.reject .absorbedFires) s
    else if s.reject.inhibitEnd ≤ s.clock.run then startBlast s
    else bump (.reject .deferredFires) (s.modReject fun x => { x with heldFire := true })

/-- A fire in DIVERTER mode (R146, R147): the newest fire always sets the dwell start. -/
def fireDiverter (s : State) : State :=
  let was := s.reject.state
  let pendingBefore := s.reject.extendPending
  let s := s.modReject fun x => { x with dwellStart := some s.tracker.position }
  match was with
  | .rest | .blasting =>
    if s.mayExtend then startExtend s
    else bump (.reject .deferredFires) (s.modReject fun x => { x with state := .extendWait })
  | .extending | .extendWait => bump (.reject .absorbedFires) s
  | .diverted => s
  | .retractWait =>
    bump (.reject .retractsCancelled) (s.modReject fun x => { x with state := .diverted })
  | .retracting =>
    if pendingBefore then bump (.reject .absorbedFires) s
    else s.modReject fun x => { x with extendPending := true }

/-- A fire of the ejector: every fire is counted (R145 to R147). -/
def fireEjector (s : State) : State :=
  let s := bump (.reject .fires) s
  match s.reject.cfg.mode with
  | .pulse => firePulse s
  | .diverter => fireDiverter s

/-! ## The decision (R142, R143) -/

/-- The state of a camera in a record is REJECT, and its reason. -/
def rejectOf (r : TrackRec) (c : CameraId) : Option RejectReason :=
  match r.verdicts[c] with
  | .reject reason => some (.camera c reason)
  | _ => none

/-- The outcome of a due record: none for PASS, or the first reason that applies (R143). -/
def decideRecord (r : TrackRec) : Option RejectReason :=
  if r.jam then some .jam
  else match (List.finRange 4).findSome? (rejectOf r) with
    | some x => some x
    | none =>
      if (List.finRange 4).any (fun c => decide (r.verdicts[c] = .noImage)) then some .noImage
      else if (List.finRange 4).any (fun c => decide (r.verdicts[c] = .pending)) then some .noVerdict
      else none

/-- The counter of an outcome (R143). -/
def outcomeCounter : Option RejectReason → RejectCounter
  | none => .decisionsPass
  | some .jam => .rejectJam
  | some (.camera c _) => .rejectCamera c
  | some .noImage => .rejectNoImage
  | some .noVerdict => .rejectNoVerdict

/-- Trigger pointers that named the removed record move to the new head, or to the next sequence
number (R136). -/
def movePointers (gone : BitVec 32) (s : State) : State :=
  let next :=
    match s.tracker.records with
    | [] => s.tracker.nextSeq
    | h :: _ => h.seq
  { s with cameras := s.cameras.map fun c => if c.pointer = gone then { c with pointer := next } else c }

/-- The head record is decided, counted, recorded as the last decision and removed, and a REJECT fires
the ejector (R143). -/
def decideHead (r : TrackRec) (s : State) : State :=
  let outcome := decideRecord r
  let s := bump (.reject (outcomeCounter outcome)) s
  let s := s.modReject fun x =>
    { x with last := some { seq := r.seq, reason := outcome, position := s.tracker.position } }
  let s := s.modTracker fun t => { t with records := t.records.tail }
  let s := movePointers r.seq (leaveHold .trackFull s)
  match outcome with
  | none => s
  | some _ => fireEjector s

/-- The head is due: its travel is at least the eject distance less the lead (R142). -/
def State.isDue (s : State) (r : TrackRec) : Bool :=
  decide ((s.reject.cfg.distance : Int) - s.reject.lead ≤ distance r.position s.tracker.position)

/-- The due test, repeated from the head until a record is not due (R142). -/
def decideDue : List TrackRec → State → State
  | [], s => s
  | r :: rest, s => if s.isDue r then decideDue rest (decideHead r s) else s

/-- Both outputs are released and the ejector enters REST at a RESTART (R149). -/
def restartEjector (s : State) : State :=
  s.modReject fun x =>
    { x with
      releaseA := if x.state.drivesA then some s.clock.run else x.releaseA
      releaseB := if x.state.drivesB then some s.clock.run else x.releaseB
      state := .rest, heldFire := false, extendPending := false
      inhibitEnd := s.clock.run + Config.inhibitSpan }

end Sys2Proof.Machine
end

