-- ==== Sys2Proof/Machine/Tracking.lean ====
section
/-! DEFINITION. The tracker's shared operations: encoder counts, the high-water mark, occlusions, the
tracking list, camera triggers and verdicts (R111 to R139). -/

namespace Sys2Proof.Machine

/-! ## The encoder (R111) -/

/-- Both phases change together (R112). -/
def illegalTransition (a0 b0 a1 b1 : Bool) : Bool := (a0 != a1) && (b0 != b1)

/-- The count of a legal transition in a counting mode, 0 for a dash (the table of R111). -/
def quadCount (mode : CountMode) (a0 b0 a1 b1 : Bool) : Int :=
  match a0, b0, a1, b1 with
  | false, false, true, false => 1
  | true, false, true, true => if mode = .x4 then 1 else 0
  | true, true, false, true => if mode = .x1 then 0 else 1
  | false, true, false, false => if mode = .x4 then 1 else 0
  | true, false, false, false => -1
  | false, false, false, true => if mode = .x4 then -1 else 0
  | false, true, true, true => if mode = .x1 then 0 else -1
  | true, true, true, false => if mode = .x4 then -1 else 0
  | _, _, _, _ => 0

/-! ## Occlusions and the list (R117 to R124) -/

/-- The sensor reads active: its level is the configured one (R118). -/
def Tracker.sensorActive (t : Tracker) : Bool := t.sense == t.cfg.activeHigh

/-- The length of the occlusion in progress (R118). -/
def Tracker.occlusion (t : Tracker) : Int :=
  match t.leading with
  | some l => distance l t.position
  | none => 0

/-- A record's verdict state for a camera when it is created (R121). -/
def firstVerdict (c : Camera) : VerdictState :=
  if c.cfg.enabled && c.cfg.required then .pending else .notRequired

/-- An occlusion qualifies: a record is appended, or the bottle goes untracked (R120 to R122). -/
def qualify (s : State) : State :=
  let t := s.tracker
  if t.records.length < Config.trackingCapacity then
    let r : TrackRec :=
      { seq := t.nextSeq, position := t.leading.getD t.position
        verdicts := s.cameras.map firstVerdict
        triggered := Vector.replicate 4 false, jam := false }
    bump (.tracker .bottlesTracked) (s.modTracker fun t =>
      { t with sensor := .qualified, records := t.records ++ [r], link := some t.nextSeq,
               nextSeq := t.nextSeq + 1 })
  else
    let s := s.modTracker fun t => { t with sensor := .qualified, link := none }
    let s := bump (.tracker .untracked) s
    joinHold .trackFull (raise (.trackFull (s.counter (.tracker .untracked))) s)

/-- The record link of the occlusion, if its record is still in the list (R123). -/
def Tracker.liveLink (t : Tracker) : Option (BitVec 32) :=
  match t.link with
  | some q => if t.records.any (fun r => r.seq == q) then some q else none
  | none => none

/-- A change of the record with a sequence number. -/
def State.modRecord (q : BitVec 32) (f : TrackRec → TrackRec) (s : State) : State :=
  s.modTracker fun t => { t with records := t.records.map fun r => if r.seq = q then f r else r }

/-- An occlusion becomes a jam (R123). -/
def jamFound (s : State) : State :=
  let link := s.tracker.liveLink
  let leading := s.tracker.leading.getD s.tracker.position
  let s := s.modTracker fun t => { t with sensor := .jammed }
  let s :=
    match link with
    | some q => s.modRecord q fun r => { r with jam := true }
    | none => s
  let s := raise (.jam link leading) (bump (.tracker .jams) s)
  if s.tracker.cfg.jamPolicy = .holdLine then joinHold .jam s else s

/-- The tests of the occlusion's length: MEASURING against the minimum, QUALIFIED against the maximum
(R120, R123). -/
def occlusionTests (s : State) : State :=
  let s :=
    if s.tracker.sensor = .measuring ∧ (s.tracker.cfg.minOcclusion : Int) ≤ s.tracker.occlusion
    then qualify s else s
  if s.tracker.sensor = .qualified ∧ (s.tracker.cfg.maxOcclusion : Int) ≤ s.tracker.occlusion
  then jamFound s else s

/-- An excursion begins: a MEASURING occlusion is abandoned, and a QUALIFIED one is no longer measured
(R120, R124). -/
def beginExcursion (s : State) : State :=
  let s := bump (.tracker .excursions) (s.modTracker fun t => { t with excursion := true })
  match s.tracker.sensor with
  | .measuring =>
    bump (.tracker .abandonedOcclusions) (s.modTracker fun t =>
      { t with sensor := .ignoring, leading := none, link := none })
  | .qualified => s.modTracker fun t => { t with sensor := .ignoring, leading := none, link := none }
  | _ => s

/-- The high-water mark and the occlusion after a count (R117, R120, R123, R124). -/
def afterCount (s : State) : State :=
  let d := distance s.tracker.highWater s.tracker.position
  if d < 0 ∧ !s.tracker.excursion then beginExcursion s
  else
    let s :=
      if 0 < d then
        s.modTracker fun t => { t with highWater := t.position, excursion := false }
      else s
    occlusionTests s

/-- The sensor goes active (R119): read in CLEAR alone. -/
def leadingEdge (s : State) : State :=
  if s.tracker.sensor = .clear then
    if s.tracker.excursion then
      bump (.tracker .ignoredOcclusions) (s.modTracker fun t => { t with sensor := .ignoring })
    else
      s.modTracker fun t =>
        { t with sensor := .measuring, leading := some t.position, link := none }
  else s

/-- The sensor goes inactive: the occlusion ends (R120, R124). -/
def trailingEdge (s : State) : State :=
  let was := s.tracker.sensor
  let s := s.modTracker fun t => { t with sensor := .clear, leading := none, link := none }
  match was with
  | .measuring => bump (.tracker .shortOcclusions) s
  | .jammed => leaveHold .jam s
  | _ => s

/-- A trailing edge moves a sensor state other than CLEAR. -/
def sensorEnds (s : State) : State := if s.tracker.sensor = .clear then s else trailingEdge s

/-- The conveyor is at rest (R116). -/
def State.atRest (s : State) : Bool :=
  s.tracker.still && (s.tracker.position == s.tracker.windowPosition)

/-! ## Speed (R115) -/

/-- speed_q8 of a delta over a span in milliseconds (R115). -/
def speedQ8 (delta : Int) (ms : Nat) : Nat := min (delta.natAbs * 256 / ms) 16777215

/-- The direction of a delta (R115). -/
def directionOf (delta : Int) : Direction :=
  if 0 < delta then .forward else if delta < 0 then .reverse else .still

/-- A speed window's end (R115): the new speed stands, the next window begins where this one ends, and
the lead is recomputed (R141). -/
def endSpeedWindow (s : State) : State :=
  let delta := distance s.tracker.windowPosition s.tracker.position
  recomputeLead (s.modTracker fun t =>
    { t with speed := speedQ8 delta t.windowSpan, direction := directionOf delta,
             still := decide (delta = 0), windowStart := t.windowStart + t.windowSpan * 1000,
             windowSpan := t.cfg.speedWindow, windowPosition := t.position })

/-! ## Camera triggers (R132 to R135) -/

/-- The code of a servo state (R195). -/
def Servo.code : Servo → Nat
  | .unset => 0
  | .acquiring => 1
  | .locked => 2
  | .holdover => 3

/-- A trigger note for a record (R135, R197). -/
def triggerNote (c : CameraId) (q : BitVec 32) (d : Dest) (s : State) : State :=
  let body := beBytes 1 1 ++ beBytes 1 1 ++ beBytes 1 c.val ++ beBytes 1 s.clock.servo.code ++
    beBytes 4 q.toNat ++ baseTimeBytes s.clock.hall.base
  (buildFrame .triggerNote .triggerNote [d.port]
    (formFrame d.mac s.station d.vlan etherNotice body) s).1

/-- A trigger fires (R133). -/
def fireTrigger (c : CameraId) (q : BitVec 32) (s : State) : State :=
  let s := s.modCamera c fun k => { k with pulseEnd := some (s.clock.run + k.cfg.pulseWidth) }
  let s := s.modRecord q fun r => { r with triggered := r.triggered.set c true }
  let s := bump (.camera c .triggersFired) s
  match s.cameras[c].cfg.note with
  | some d => triggerNote c q d s
  | none => s

/-- What a skipped trigger makes of a record's state (R134). -/
def skipVerdict (v : VerdictState) : VerdictState :=
  match v with
  | .pending | .pass => .noImage
  | v => v

/-- A trigger is skipped (R134). -/
def skipTrigger (c : CameraId) (q : BitVec 32) (s : State) : State :=
  let s := s.modRecord q fun r => { r with verdicts := upd r.verdicts c skipVerdict }
  raise (.triggerSkipped c q) (bump (.camera c .triggersSkipped) s)

/-- One camera's trigger test over the records from its pointer on (R132). -/
def triggerScan (c : CameraId) : List TrackRec → State → State
  | [], s => s
  | r :: rest, s =>
    let k := s.cameras[c]
    if distance r.position s.tracker.position < k.cfg.offset then s
    else
      let s :=
        if k.cfg.enabled then
          if k.pulseEnd.isSome then skipTrigger c r.seq s else fireTrigger c r.seq s
        else s
      triggerScan c rest (s.modCamera c fun k => { k with pointer := k.pointer + 1 })

/-- One camera's trigger test (R132). -/
def testTrigger (c : CameraId) (s : State) : State :=
  triggerScan c (s.tracker.records.dropWhile fun r => decide (r.seq ≠ s.cameras[c].pointer)) s

/-! ## One count (R111) -/

/-- A count is applied: the position, the high-water mark and the occlusion, the triggers, the due test
of a forward count, and the dwell test (R111, R132, R142, R146). DESIGN CHOICE (log 49): the cameras are
tested in increasing index. -/
def applyCount (count : Int) (s : State) : State :=
  let s := s.modTracker fun t => { t with position := t.position + BitVec.ofInt 32 count }
  let s := forEach (List.finRange 4) testTrigger (afterCount s)
  let s := if 0 < count then decideDue s.tracker.records s else s
  dwellTest s

/-! ## Verdicts (R137 to R139) -/

/-- One entry of a verdict frame (R197). -/
structure VerdictEntry where
  camera : Nat
  result : Nat
  reason : Nat
  seq : BitVec 32
  deriving DecidableEq, Repr

/-- Entry `i` of a verdict payload. -/
def verdictEntry (l : Octets) (i : Nat) : VerdictEntry :=
  { camera := field l (2 + 8 * i) 1, result := field l (3 + 8 * i) 1,
    reason := field l (4 + 8 * i) 1, seq := BitVec.ofNat 32 (field l (6 + 8 * i) 4) }

/-- An entry is malformed: its camera, its result or its reason (R137, R197). -/
def VerdictEntry.malformed (e : VerdictEntry) : Bool :=
  decide (3 < e.camera) || decide (1 < e.result) ||
    (decide (e.result = 1) && (decide (e.reason = 0) || decide (15 < e.reason)))

/-- The entries of a verdict frame, or none when it is malformed (R137). -/
def verdictEntries (frame : Octets) : Option (List VerdictEntry) :=
  let l := framePayload frame
  let n := field l 1 1
  if n = 0 ∨ 16 < n ∨ l.length < 2 + 8 * n then none
  else
    let es := (List.range n).map (verdictEntry l)
    if es.any VerdictEntry.malformed then none else some es

/-- Where an entry's sequence number lies (R138). -/
inductive VerdictPlace where
  | older | newer | inList
  deriving DecidableEq, Repr

/-- The place of a sequence number against the list (R138). -/
def Tracker.place (t : Tracker) (q : BitVec 32) : VerdictPlace :=
  match t.records with
  | [] => if (q - t.nextSeq).toInt < 0 then .older else .newer
  | h :: _ =>
    if (q - h.seq).toNat < t.records.length then .inList
    else if (q - h.seq).toInt < 0 then .older else .newer

/-- The result of an entry as a record's state. -/
def VerdictEntry.state (e : VerdictEntry) : VerdictState :=
  if e.result = 0 then .pass else .reject e.reason

/-- The record with a sequence number in the list. -/
def Tracker.find (t : Tracker) (q : BitVec 32) : Option TrackRec :=
  t.records.find? fun r => r.seq == q

/-- An entry that names a record in the list (R139). -/
def applyInList (i : StreamId) (c : CameraId) (e : VerdictEntry) (s : State) : State :=
  let k := s.cameras[c].cfg
  let old : VerdictState := ((s.tracker.find e.seq).map fun r => r.verdicts[c]).getD .notRequired
  let write (s : State) : State :=
    bump (.camera c .verdictsApplied)
      (s.modRecord e.seq fun r => { r with verdicts := r.verdicts.set c e.state })
  if decide (k.source ≠ some i) || !k.enabled || !k.required || decide (old = .notRequired) then
    bump (.camera c .ignoredVerdicts) s
  else match old with
    | .pending => write s
    | .pass => if e.result = 1 then write s else bump (.camera c .duplicateVerdicts) s
    | _ => bump (.camera c .duplicateVerdicts) s

/-- An entry is applied (R138, R139). -/
def applyVerdict (i : StreamId) (e : VerdictEntry) (s : State) : State :=
  let c : CameraId := Fin.ofNat 4 e.camera
  match s.tracker.place e.seq with
  | .older => raise (.verdictLate c e.seq) (bump (.camera c .lateVerdicts) s)
  | .newer => bump (.camera c .unknownVerdicts) s
  | .inList => applyInList i c e s

/-- The tracker reads a verdict frame of a stream (R137). -/
def readVerdicts (i : StreamId) (frame : Octets) (s : State) : State :=
  match verdictEntries frame with
  | none => bump (.reject .malformedVerdicts) s
  | some es => forEach es (applyVerdict i) s

end Sys2Proof.Machine
end

