-- ==== Sys2Proof/Machine/Flags.lean ====
section
/-! DEFINITION. What the block shows on its pins, and when each timed command has fallen due. -/

namespace Sys2Proof.Machine

/-! ## Output pins (section 1.8) -/

/-- CAM_TRIG of a camera is asserted (R131). -/
def State.camTrig (s : State) (c : CameraId) : Bool := s.cameras[c].pulseEnd.isSome

/-- EJECT_A is asserted (R145, R146). -/
def State.ejectA (s : State) : Bool := s.reject.state.drivesA

/-- EJECT_B is asserted (R145, R146). -/
def State.ejectB (s : State) : Bool := s.reject.state.drivesB

/-! ## Due conditions in run time -/

/-- A probe falls due at this run time next (R57). -/
def Clock.nextProbe (c : Clock) : Nat := c.lastProbeDue + c.cfg.probeInterval * 1000

/-- A probe is due (R57). -/
def State.probeReady (s : State) : Bool := decide (s.clock.nextProbe ≤ s.clock.run)

/-- The speed window's span has passed (R115). -/
def State.speedWindowOver (s : State) : Bool :=
  decide (s.tracker.windowStart + s.tracker.windowSpan * 1000 ≤ s.clock.run)

/-- A camera's pulse end has come (R133). -/
def State.pulseOver (s : State) (c : CameraId) : Bool :=
  match s.cameras[c].pulseEnd with
  | some t => decide (t ≤ s.clock.run)
  | none => false

/-- The ejector is in a timed state and its end has come (R145, R146). -/
def State.phaseOver (s : State) (x : EjectState) : Bool :=
  decide (s.reject.state = x) && decide (s.reject.phaseEnd ≤ s.clock.run)

/-- The expiry warning of a window is due (R156). -/
def State.warningDue (s : State) (w : WindowId) : Bool :=
  s.windows[w].isOpen && !s.windows[w].warned && decide (s.remainingMs w ≤ Config.expiryWarning)

/-- A window's end time has come (R156). -/
def State.expiryDue (s : State) (w : WindowId) : Bool :=
  s.windows[w].isOpen && decide (s.windows[w].endTime ≤ s.clock.run)

/-- A notice send attempt is due (R178). -/
def State.attemptDue (s : State) : Bool :=
  s.device.noticeDest.isSome &&
    (!s.notices.records.isEmpty || decide (0 < s.notices.overflow)) &&
    (match s.notices.lastAttempt with
      | none => true
      | some t => decide (t + s.device.pacing * 1000 ≤ s.clock.run))

/-- A RESTART at the head of the request queue is to be carried out (R192). -/
def State.restartDue (s : State) : Bool :=
  match s.mgmt.restart with
  | some w => w.due || decide (w.builtAt + Config.restartWait ≤ s.clock.run)
  | none => false

/-! ## Due conditions in hall time -/

/-- The cycle in progress of a gate engine in OPEN or RUNNING has ended (R68, R69). -/
def State.cycleOver (s : State) (p : PortId) : Bool := s.clock.hall.reached s.gates[p].cycleEnd

/-- The next window edge of the cycle in progress has come (R69). -/
def State.windowOver (s : State) (p : PortId) : Bool :=
  match s.gates[p].nextWindow with
  | some t => s.clock.hall.reached t
  | none => false

/-! ## Due conditions on the wire, in reference ticks (log 9) -/

/-- The tick at which the first octet of a piece after its marker leaves: the preamble and the marker
take 8 octet times (R8, R73). -/
def Tx.firstOctet (t : Tx) (p : PortId) : Nat :=
  t.startTick + Config.preambleOctets * octetTicks p

/-- The tick at which a piece ends that is cut after `c` of its octets: its piece check is sent too
(R79, R80). -/
def Tx.cutEnd (t : Tx) (p : PortId) (c : Nat) : Nat :=
  t.startTick + (Config.preambleOctets + c + Config.checkOctets) * octetTicks p

/-- The tick at which the last octet of a piece that is not cut has been sent (R73). -/
def Tx.lastEnd (t : Tx) (p : PortId) : Nat :=
  t.startTick + (Config.preambleOctets + (t.octets.length - t.offset)) * octetTicks p

/-- The tick at which the gap after a piece that ends at `e` is over (R73). -/
def gapEnd (p : PortId) (e : Nat) : Nat := e + Config.gapOctets * octetTicks p

end Sys2Proof.Machine
end

