-- ==== Sys2Proof/Machine/Transmit.lean ====
section
/-! DEFINITION. The transmitter: its choice, what a start writes into a frame, cuts, completion and
abandonment (R36 to R38, R58, R60, R62, R73 to R75, R79 to R81). -/

namespace Sys2Proof.Machine

/-! ## What may start -/

/-- The head of a queue may start: an express head when it fits its window (R74), a preemptable head
when no remainder is held and, with transmit preemption disabled, it fits (R75). -/
def State.headMayStart (s : State) (p : PortId) (q : QueueId) (x : QEntry) : Bool :=
  let fits := s.gates[p].fits p q (s.mem.octetsOf x.frame).length s.clock.hall
  s.gates[p].isOpen q &&
    (if 2 ≤ q.val then fits
     else s.egress[p].remainder.isNone && (s.ports[p].cfg.txPreempt || fits))

/-- The head of a preemptable queue is held back by its window alone (R75). -/
def State.headHeldBack (s : State) (p : PortId) (q : QueueId) (x : QEntry) : Bool :=
  s.gates[p].isOpen q && s.egress[p].remainder.isNone && !s.headMayStart p q x

/-- A held-back head is counted in holds, once within each run of open windows of its queue (R75). -/
def countHold (p : PortId) (q : QueueId) (s : State) : State :=
  match s.egress[p].queues[q] with
  | x :: rest =>
    if s.headHeldBack p q x && !x.holdCounted then
      bump (.port p .holds) (s.modEgress p fun e =>
        { e with queues := upd e.queues q fun _ => { x with holdCounted := true } :: rest })
    else s
  | [] => s

/-- The item of R37 that a transmitter takes. -/
inductive Pick where
  | head (q : QueueId) (x : QEntry)
  | remainder (r : Remainder)
  deriving DecidableEq, Repr

/-- The head of a queue, when it may start. DESIGN CHOICE (log 48): that holds of a relayed copy that is
not to be sent (R62) as well, so it leaves its queue when it may start, and not before. -/
def State.readyHead (s : State) (p : PortId) (q : QueueId) : Option Pick :=
  match s.egress[p].queues[q] with
  | x :: _ => if s.headMayStart p q x then some (.head q x) else none
  | [] => none

/-- The held remainder, when its queue's gate is open. -/
def State.readyRemainder (s : State) (p : PortId) : Option Pick :=
  match s.egress[p].remainder with
  | some r => if s.gates[p].isOpen r.queue then some (.remainder r) else none
  | none => none

/-- The first item of R37 that is ready. -/
def State.pick (s : State) (p : PortId) : Option Pick :=
  s.readyHead p 3 <|> s.readyHead p 2 <|> s.readyRemainder p <|> s.readyHead p 1 <|> s.readyHead p 0

/-- The preemptable heads that the choice tests and holds back are counted: Q1's when nothing above it is
ready, and Q0's when nothing above that is (R37, R75). DESIGN CHOICE (log 55): R75 does not say whether a
head that does not fit is held back at a choice that takes an item above it; such a choice does not reach
the head, and it is not counted. -/
def countHolds (p : PortId) (s : State) : State :=
  if (s.readyHead p 3 <|> s.readyHead p 2 <|> s.readyRemainder p).isSome then s
  else
    let s := countHold p 1 s
    if (s.readyHead p 1).isSome then s else countHold p 0 s

/-! ## What a start writes -/

/-- The kind of a stored frame. -/
def State.kindOf (s : State) (h : CellId) : FrameKind :=
  match s.mem.frames[h] with
  | some f => f.kind
  | none => .received

/-- Octets written from `off` after the EtherType, and the FCS computed anew. -/
def rewriteAt (l : Octets) (off : Nat) (new : Octets) : Octets :=
  refreshFcs (overwrite l (payloadOffset l + off) new)

/-- The transmit time that a frame chosen now is to have: hall time when its first octet after the start
delimiter will leave, with no step before it (R8, R73; log 10). -/
def State.transmitTime (s : State) (p : PortId) : HallTime :=
  s.clock.hall.after s.clock.increment (Config.preambleOctets * octetTicks p)

/-- A frame as its sending begins: a relayed copy carries its new carried delay, computed with the
transmit time `sent` (R62). -/
def sentOctets (kind : FrameKind) (delay : Int) (sent : HallTime) (l : Octets) : Octets :=
  match kind with
  | .relayed recv carried _ => rewriteAt l 12 (beBytes 8 (newCarried carried recv sent delay).toNat)
  | .received | .notice | .answer | .triggerNote | .rangeProbe _ | .rangeReply | .holdFrame => l

/-- Why a relayed copy at the head of its queue is not sent (R62): void, or a carried delay above
1 s. DESIGN CHOICE (log 56): R62 gives its two cases no precedence, and a copy that is both void and
would carry more than 1 s counts in relay drops for step, and not in relay drops for delay. -/
def relayDrop (kind : FrameKind) (delay : Int) (sent : HallTime) : Option ClockCounter :=
  match kind with
  | .relayed _ _ true => some .relayDropsStep
  | .relayed recv carried false =>
    if (Config.maxCarried : Int) < newCarried carried recv sent delay then some .relayDropsDelay
    else none
  | _ => none

/-- The outstanding probe's t1 is recorded as the first octet of its frame leaves, if it is still
outstanding (R58). -/
def recordT1 (q : Nat) (s : State) : State :=
  s.modClock fun c =>
    { c with probe := c.probe.map fun b => if b.seq = q then { b with t1 := some c.hall } else b }

/-- The first octet of a frame leaves: its transmit time is hall time now (R8). A probe's is recorded as
t1 (R58), and a range reply's is written into it as t3 (R60). -/
def stampFrame (p : PortId) (t : Tx) (s : State) : State :=
  match s.kindOf t.frame with
  | .rangeProbe q => recordT1 q s
  | .rangeReply =>
    s.modEgress p fun e =>
      { e with tx := some { t with octets := rewriteAt t.octets 16 (timestampBytes s.clock.hall) } }
  | .received | .notice | .answer | .triggerNote | .relayed .. | .holdFrame => s

/-- A port's transmitter stamps the frame whose first octet leaves at this tick (R8). -/
def stampSent (p : PortId) (s : State) : State :=
  match s.egress[p].tx with
  | some t => if t.offset = 0 ∧ t.firstOctet p = s.clock.ticks then stampFrame p t s else s
  | none => s

/-- The head of a queue leaves it (R36). -/
def dropHead (p : PortId) (q : QueueId) (s : State) : State :=
  s.modEgress p fun e => { e with queues := upd e.queues q List.tail }

/-- The marker a frame from a queue starts with (R79). -/
def startMarker (q : QueueId) (txPreempt : Bool) : TxMarker :=
  if q.val < 2 && txPreempt then .first else .whole

/-- The head of a queue starts: its reference passes to the transmitter (R26, R36, R79). -/
def startHead (p : PortId) (q : QueueId) (x : QEntry) (s : State) : State :=
  let kind := s.kindOf x.frame
  let octets := sentOctets kind (s.clock.delay.getD 0) (s.transmitTime p) (s.mem.octetsOf x.frame)
  let marker := startMarker q s.ports[p].cfg.txPreempt
  let s := dropHead p q s
  let t : Tx :=
    { frame := x.frame, queue := q, kind := x.kind, octets := octets, offset := 0,
      marker := marker, startTick := s.clock.ticks, cuttable := decide (marker = .first),
      cutAt := none }
  noteCut p (s.modEgress p fun e => { e with tx := some t })

/-- The held remainder resumes as a piece marked NEXT n (R81). DESIGN CHOICE (log 51): whether that piece
may be cut is read from transmit preemption as it stands at the resume, also when it was disabled and
enabled again while the remainder was held. -/
def startRemainder (p : PortId) (r : Remainder) (s : State) : State :=
  let t : Tx :=
    { frame := r.frame, queue := r.queue, kind := r.kind, octets := r.octets, offset := r.offset,
      marker := .next r.nextN, startTick := s.clock.ticks, cuttable := s.ports[p].cfg.txPreempt,
      cutAt := none }
  noteCut p (s.modEgress p fun e => { e with tx := some t, remainder := none })

/-- One choice after another until something starts or nothing is ready; each dropped relayed copy
makes the transmitter choose again (R37, R62). `fuel` is one more than the entries of Q2. -/
def chooseLoop (p : PortId) : Nat → State → State
  | 0, s => s
  | n + 1, s =>
    let s := countHolds p s
    match s.pick p with
    | none => s
    | some (.remainder r) => startRemainder p r s
    | some (.head q x) =>
      match relayDrop (s.kindOf x.frame) (s.clock.delay.getD 0) (s.transmitTime p) with
      | some c => chooseLoop p n (bump (.clock c) ((dropHead p q s).release x.frame))
      | none => startHead p q x s

/-- The transmitter of a port chooses (R37). -/
def chooseNext (p : PortId) (s : State) : State :=
  chooseLoop p (s.egress[p].queues[(2 : QueueId)].length + 1) s

/-- The transmitter has nothing on the wire, its gap is over and its link is UP (R37, R73). -/
def State.transmitterIdle (s : State) (p : PortId) : Bool :=
  s.ports[p].link && s.egress[p].tx.isNone && decide (s.egress[p].idleUntil ≤ s.clock.ticks)

/-! ## The end of a piece -/

/-- The number after a NEXT marker's (R79). -/
def nextAfter : TxMarker → Fin 8
  | .whole | .first => 0
  | .next n => n + 1

/-- A piece is cut after `c` of its octets: its check is sent, its reference passes to the held
remainder, and it is counted in pieces sent and in cuts (R26, R79, R80). -/
def cutPiece (p : PortId) (t : Tx) (c : Nat) (s : State) : State :=
  let data := (t.octets.drop t.offset).take c
  let r : Remainder :=
    { frame := t.frame, queue := t.queue, kind := t.kind, octets := t.octets,
      offset := t.offset + c, nextN := nextAfter t.marker }
  let s := s.modEgress p fun e =>
    { e with
      tx := none, remainder := some r
      idleUntil := gapEnd p (t.cutEnd p c)
      lastSent := some
        { marker := t.marker, octets := data ++ pieceCheckOf data, ending := .pieceCheck } }
  bump (.port p .cuts) (bump (.port p .piecesSent) s)

/-- The counters that a completed transmission of a frame of the switch's own grows (R58, R60, R62). -/
def sentCounter : FrameKind → Option ClockCounter
  | .rangeProbe _ => some .probesSent
  | .rangeReply => some .probesAnswered
  | .relayed .. => some .relayedSent
  | .received | .notice | .answer | .triggerNote | .holdFrame => none

/-- A frame's last piece has been sent (R38): the transmitter gives up its reference, the frame is
counted, and a RESTART that waits for it is due. -/
def completePiece (p : PortId) (t : Tx) (s : State) : State :=
  let kind := s.kindOf t.frame
  let s := s.modEgress p fun e =>
    { e with
      tx := none
      idleUntil := gapEnd p (t.lastEnd p)
      lastSent := some
        { marker := t.marker, octets := t.octets.drop t.offset, ending := .complete } }
  let s := if t.marker = .whole then s else bump (.port p .piecesSent) s
  let s := bump (.port p .framesTransmitted) s
  let s := bumpBy (.port p .octetsTransmitted) t.octets.length s
  let s :=
    match sentCounter kind with
    | some c => bump (.clock c) s
    | none => s
  answerGone t.frame (s.release t.frame)

/-- What stands on the wire when a transmission is abandoned (R38). -/
def Tx.abandoned (t : Tx) (p : PortId) (now : Nat) (e : WireEnd) : WireRecord :=
  { marker := t.marker, octets := (t.octets.drop t.offset).take (t.sent p now), ending := e }

end Sys2Proof.Machine
end

