-- ==== Sys2Proof/Machine/Answers.lean ====
section
/-! DEFINITION. Answers, and a request's arrival at the request queue (R183 to R185, R197). -/

namespace Sys2Proof.Machine

/-- What a request is answered with: a status code and a body. -/
structure Reply where
  status : Status
  body : Octets
  deriving DecidableEq, Repr

/-- An answer with no body. -/
def Reply.bare (x : Status) : Reply := { status := x, body := [] }

/-- The answer frame of a request (R185, R197): header, status code and body, with the request's VLAN
id and tag, from the station address to the request's source. -/
def answerFrame (station : Mac) (q : Request) (r : Reply) : Octets :=
  formFrame q.source station q.vlan etherMgmt
    (beBytes 1 1 ++ beBytes 1 q.kind ++ beBytes 2 q.tag ++ beBytes 1 r.status.code ++ [0] ++
      beBytes 2 r.body.length ++ r.body)

/-- The answer is built for Q2 of the request's port of arrival; answers its frame, or none when it is
not made (R185). -/
def sendAnswer (q : Request) (r : Reply) (s : State) : State × Option CellId :=
  buildFrame .answer .answer [q.port] (answerFrame s.station q r) s

/-- A request with an individual source is offered to the queue: it joins the tail, or is answered BUSY
when four are held (R183, R184). -/
def offerRequest (q : Request) (s : State) : State :=
  if isGroup q.source then bump (.device .malformedRequests) s
  else if s.mgmt.queue.length < Config.requestCapacity then
    bump (.device .requestsQueued) (s.modMgmt fun m => { m with queue := m.queue ++ [q] })
  else bump (.device .busyAnswers) (sendAnswer q (.bare .busy) s).1

/-- The request that a management frame carries (R183). -/
def requestOf (p : PortId) (octets : Octets) : Request :=
  { port := p, source := frameSrc octets, vlan := frameVlan octets, payload := framePayload octets }

end Sys2Proof.Machine
end

