-- ==== Sys2Proof/Machine/Forwarding.lean ====
section
/-! DEFINITION. What becomes of a good frame: the special EtherTypes, classification, the unmatched
policy, the side paths by role, the service ports and injection (R9 to R11, R15 to R17, R20, R102,
R158 to R168). -/

namespace Sys2Proof.Machine

/-- A good frame as it goes on from the receive checks: where and when it arrived, its octets and the
cells that hold it. -/
structure Arrival where
  port : PortId
  octets : Octets
  cells : List CellId
  recvTime : HallTime
  recvRun : Nat
  epoch : Nat
  deriving DecidableEq, Repr

/-! ## Classification (R15) -/

/-- A record carries a frame's key: it is valid, not damaged, and its key is equal. -/
def Stream.carries (x : Stream) (dst : Mac) (vlan : Nat) : Bool :=
  x.cfg.valid && !x.damaged && decide (x.cfg.key = dst) && decide (x.cfg.vlan = vlan)

/-- The record that carries a frame's key; valid keys are unique (R15). -/
def State.keyHolder (s : State) (dst : Mac) (vlan : Nat) : Option StreamId :=
  (List.finRange 256).find? fun i => s.streams[i].carries dst vlan

/-- A frame is classified: the record that carries its key is read and checked, and it matches when it
is still good and the ingress port is in its ingress set (R15, R18, R20). -/
def classify (p : PortId) (octets : Octets) (s : State) : State × Option StreamId :=
  match s.keyHolder (frameDst octets) (frameVlan octets) with
  | none => (s, none)
  | some i =>
    let s := checkStream i .classification s
    if s.streams[i].carries (frameDst octets) (frameVlan octets) &&
        s.streams[i].cfg.ingress.getLsbD p then (s, some i)
    else (s, none)

/-- The ports of a set but the ingress port and the ports that are DOWN (R6, R16, R17). -/
def State.egressPorts (s : State) (set : PortSet) (ingress : PortId) : List PortId :=
  (members set).filter fun p => decide (p ≠ ingress) && s.ports[p].link

/-- The queue of a class (R12). -/
def StreamClass.queue : StreamClass → QueueId
  | .cycle => 3
  | .prompt => 2
  | .image => 1
  | .bulk => 0

/-- The frame's length counts in the stream's frames and octets (R16). -/
def countStream (i : StreamId) (octets : Octets) (s : State) : State :=
  bumpBy (.stream i .octets) octets.length (bump (.stream i .frames) s)

/-- A frame of a stream goes to a queue of each port of its egress set, and to the windows that mirror
it (R16, R30, R31, R168); with no port left it is counted unforwarded. -/
def forward (a : Arrival) (i : StreamId) (ports : List PortId) (q : QueueId) (s : State) : State :=
  match ports with
  | [] => (bump (.port a.port .unforwarded) s).give a.cells
  | _ :: _ =>
    match admitReceived ports q a.cells a.octets (.stream i .cellDrops) s with
    | (s, some h) => mirrorFrame i h s
    | (s, none) => s

/-- The armed robot whose command stream this is, after the supervisor's checked read of its record
(R16, R102; log 18). -/
def commandRobot (i : StreamId) (s : State) : State × Option RobotId :=
  match s.streams[i].cfg.role, s.streams[i].cfg.subject with
  | .command, .robot r =>
    if s.robots[r].state.armed ∧ s.robots[r].cfg.commandStream = i then
      let s := checkRobot r .supervision s
      (s, if s.robots[r].state.armed then some r else none)
    else (s, none)
  | _, _ => (s, none)

/-- An accepted command of an armed robot: it restarts the watch and is placed, unless its egress set
is empty, when it is not stored (R102). DESIGN CHOICE (log 46): one that is not placed is counted neither
in late commands nor in the stream's late counter, also after the opening. -/
def takeCommand (a : Arrival) (i : StreamId) (r : RobotId) (ports : List PortId) (s : State) :
    State :=
  let s := acceptedCommand s
  match ports with
  | [] => (bump (.port a.port .unforwarded) s).give a.cells
  | _ :: _ => placeCommand r i a.cells a.octets s

/-- The supervisor's or the tracker's reading of a matched frame, by its role (R16, R95, R137). -/
def readByRole (a : Arrival) (i : StreamId) (s : State) : State :=
  match s.streams[i].cfg.role, s.streams[i].cfg.subject with
  | .status, .robot r =>
    if s.robots[r].cfg.statusStream = i then statusFrame r i a.octets a.recvTime s else s
  | .verdict, _ => readVerdicts i a.octets s
  | _, _ => s

/-- A matched frame received on a line port (R16). -/
def matchedFrame (a : Arrival) (i : StreamId) (s : State) : State :=
  let c := s.streams[i].cfg
  if c.maxLength < a.octets.length then (bump (.stream i .lengthDrops) s).give a.cells
  else
    let ports := s.egressPorts c.egress a.port
    let s := countStream i a.octets s
    match commandRobot i s with
    | (s, some r) => takeCommand a i r ports s
    | (s, none) => forward a i ports c.cls.queue (readByRole a i s)

/-- An unmatched frame received on a line port (R17). -/
def unmatchedFrame (a : Arrival) (s : State) : State :=
  let c := s.ports[a.port].cfg
  match c.unmatched with
  | .drop => (bump (.port a.port .unmatchedDrops) s).give a.cells
  | .default =>
    match s.egressPorts c.defaultEgress a.port with
    | [] => (bump (.port a.port .unforwarded) s).give a.cells
    | ports =>
      (admitReceived ports 0 a.cells a.octets (.port a.port .unmatchedCellDrops) s).1

/-! ## The service ports (R158, R159, R165, R166) -/

/-- An injected frame (R166): it leaves line ports alone, through Q0, whatever its stream's class and
role. -/
def injectFrame (a : Arrival) (w : WindowId) (i : StreamId) (s : State) : State :=
  let ports := (s.egressPorts s.streams[i].cfg.egress a.port).filter fun p => decide (p.val < 10)
  let s := bump (.service w .injected) (countStream i a.octets s)
  forward a i ports 0 s

/-- A frame on a service port that is not management: it is classified, judged by the window and put
to the injection check (R158, R165, R166). A frame that is dropped returns its cells. -/
def serviceFrame (a : Arrival) (w : WindowId) (s : State) : State :=
  let src := frameSrc a.octets
  let (s, i) := classify a.port a.octets s
  match judgeArrival w src s with
  | (_, false) => (judgeArrival w src (s.give a.cells)).1
  | (s, true) =>
    match injectionFault w i a.octets s, i with
    | some reason, _ => trap w reason src (s.give a.cells)
    | none, some i => injectFrame a w i s
    | none, none => s

/-- A management frame on a service port: the request check (R158, R159). A request is offered to the
queue and its frame's cells are returned then (R183). A frame that is dropped returns its cells. -/
def serviceRequest (a : Arrival) (w : WindowId) (s : State) : State :=
  let src := frameSrc a.octets
  match judgeArrival w src s with
  | (_, false) => (judgeArrival w src (s.give a.cells)).1
  | (s, true) =>
    if frameDst a.octets = s.station then
      (offerRequest (requestOf a.port a.octets) s).give a.cells
    else trap w .misdirected src (s.give a.cells)

/-! ## The special EtherTypes (R10, R11) -/

/-- A management frame on a line port (R10): a request is offered to the queue, and its frame's cells
are returned then (R183). -/
def lineRequest (a : Arrival) (s : State) : State :=
  if s.ports[a.port].cfg.mgmtAllowed ∧ frameDst a.octets = s.station then
    (offerRequest (requestOf a.port a.octets) s).give a.cells
  else bump (.port a.port .managementRefusals) (s.give a.cells)

/-- A TIME MARK (R11): the hall clock takes it, to be read at a later step (R47). DESIGN CHOICE (log 12):
its cells are returned as the clock's list takes its octets, in this step, and not when it is read (R24). -/
def markFrame (a : Arrival) (s : State) : State :=
  let s := s.give a.cells
  if s.ports[a.port].cfg.timing = .timeUp then
    s.modClock fun c =>
      { c with marks := c.marks ++
          [{ recvTime := a.recvTime, recvRun := a.recvRun, epoch := a.epoch, octets := a.octets }] }
  else bump (.port a.port .misplacedMarks) s

/-- A RANGE PROBE (R11, R60). -/
def probeFrame (a : Arrival) (s : State) : State :=
  let s := s.give a.cells
  if s.ports[a.port].cfg.timing = .timeDown then answerProbe a.port a.octets a.recvTime s
  else bump (.port a.port .misplacedRange) s

/-- A RANGE REPLY (R11, R59). -/
def replyFrame (a : Arrival) (s : State) : State :=
  let s := s.give a.cells
  if s.ports[a.port].cfg.timing = .timeUp then readReply a.octets a.recvTime s
  else bump (.port a.port .misplacedRange) s

/-- A good frame is counted and branched (R7, R9). -/
def goodFrame (a : Arrival) (s : State) : State :=
  let s := bump (.port a.port .framesReceived) s
  let s := bumpBy (.port a.port .octetsReceived) a.octets.length s
  let t := frameEtherType a.octets
  if t = etherMark then markFrame a s
  else if t = etherProbe then probeFrame a s
  else if t = etherReply then replyFrame a s
  else match portWindow a.port with
    | some w => if t = etherMgmt then serviceRequest a w s else serviceFrame a w s
    | none =>
      if t = etherMgmt then lineRequest a s
      else match classify a.port a.octets s with
        | (s, some i) => matchedFrame a i s
        | (s, none) => unmatchedFrame a s

end Sys2Proof.Machine
end

