-- ==== Sys2Proof/Machine/Reception.lean ====
section
/-! DEFINITION. Reception: the cells an arriving frame takes, the receive checks, and the receive
assembler (R7, R8, R24, R25, R82 to R84). -/

namespace Sys2Proof.Machine

/-- The cells that a frame of this length holds when its reception ends: storage stops after the
9,216th octet (R7, R24). -/
def storedCells (octets : Nat) : Nat := cellsFor (min octets Config.maxFrame)

/-- A reception as it begins with a frame's first octet, with no cell yet (R8, R24, R47). -/
def State.newReception (s : State) (p : PortId) : Reception :=
  { cells := [], recvTime := s.clock.hall, recvRun := s.clock.run, epoch := s.clock.epoch,
    overrun := false, marked := s.ports[p].cfg.rxPreempt }

/-- The reception in progress on a port, or one that begins now. -/
def State.reception (s : State) (p : PortId) : Reception := (s.rx[p].cur).getD (s.newReception p)

/-- The open frame of a port's assembler, when a piece under reception is the one it expects (R82). -/
def State.openFrameOf (s : State) (p : PortId) (marker : Option PieceMarker) (r : Reception) :
    Option Assembly :=
  match marker, s.rx[p].asm with
  | some (.next n), some a =>
    if r.marked && s.ports[p].cfg.rxPreempt && decide (n = a.expect) then some a else none
  | _, _ => none

/-- An arriving octet needs a cell: with it the frame needs more cells than it holds, those of the open
frame that its piece joins among them (R24, R25). -/
def State.octetNeedsCell (s : State) (o : ArrivingOctet) (r : Reception) : Bool :=
  match s.openFrameOf o.port o.marker r with
  | some a =>
    decide (a.cells.length + r.cells.length < storedCells (a.octets.length + o.number))
  | none => decide (r.cells.length < storedCells o.number)

/-- A reception takes one cell more; while the free list is empty it is overrun (R24). -/
def takeCell (r : Reception) (m : CellMem) : Reception × CellMem :=
  match m.take 1 with
  | some (cells, m) => ({ r with cells := r.cells ++ cells }, m)
  | none => ({ r with overrun := true }, m)

/-- The cells of a reception that ends, brought to the number its length needs: cells it has not yet
taken are taken, and cells beyond the number are returned. Without cells enough, or overrun, its cells
are returned and there are none (R24, R25; log 7). -/
def settleCells (n : Nat) (cells : List CellId) (overrun : Bool) (s : State) :
    State × Option (List CellId) :=
  if overrun then (s.give cells, none)
  else if n ≤ cells.length then (s.give (cells.drop n), some (cells.take n))
  else match s.mem.take (n - cells.length) with
    | some (more, mem) => ({ s with mem := mem }, some (cells ++ more))
    | none => (s.give cells, none)

/-- The receive checks of R7, in their order: the counter of the first that fails, or none for a good
frame. -/
def receiveFault (octets : Octets) : Option PortCounter :=
  if octets.length < Config.minFrame then some .undersize
  else if Config.maxFrame < octets.length then some .oversize
  else if fcsMatches octets then none
  else some .fcsErrors

/-- A frame received whole, or rebuilt, is put to the receive checks (R7). -/
def receiveChecks (a : Arrival) (s : State) : State :=
  match receiveFault a.octets with
  | some c => (bump (.port a.port c) s).give a.cells
  | none => goodFrame a s

/-- The reception in progress on a port is over. -/
def endReception (p : PortId) (s : State) : State := s.modRx p fun x => { x with cur := none }

/-- Reception of a frame ends (R7, R24). -/
def wholeFrame (p : PortId) (octets : Octets) (s : State) : State :=
  let r := s.reception p
  match settleCells (storedCells octets.length) r.cells r.overrun (endReception p s) with
  | (s, none) => bump (.port p .receiveOverruns) s
  | (s, some cells) =>
    receiveChecks
      { port := p, octets := octets, cells := cells, recvTime := r.recvTime, recvRun := r.recvRun,
        epoch := r.epoch } s

/-! ## The assembler (R82, R83) -/

/-- The assembler's open frame is discarded with its cells; answers the state and whether there was
one (R25, R84). -/
def discardOpen (p : PortId) (s : State) : State :=
  match s.rx[p].asm with
  | none => s
  | some a => (s.modRx p fun x => { x with asm := none }).give a.cells

/-- An open frame is discarded and counted in assembly errors; in IDLE nothing is (R82). -/
def failOpen (p : PortId) (s : State) : State :=
  match s.rx[p].asm with
  | none => s
  | some _ => bump (.port p .assemblyErrors) (discardOpen p s)

/-- A frame that a piece begins or joins lacks a cell (R25): one was missing while the piece arrived, and
the cells that the frame then has do not hold its octets. The piece check that ends a piece is no octet of
the frame, and needs none (log 7). -/
def Assembly.overrun (a : Assembly) (r : Reception) : Bool :=
  r.overrun && decide (a.cells.length < storedCells a.octets.length)

/-- A piece received as `r` begins or joins a frame that then has these octets and cells: the frame is
overrun, stays open with `expect`, or, on its last piece, is complete and goes to the receive checks
(R25, R82). -/
def joinPiece (p : PortId) (a : Assembly) (r : Reception) (last : Bool) (s : State) : State :=
  let s := s.modRx p fun x => { x with asm := none }
  match settleCells (storedCells a.octets.length) a.cells (a.overrun r) s with
  | (s, none) => bump (.port p .receiveOverruns) s
  | (s, some cells) =>
    if last then
      receiveChecks
        { port := p, octets := a.octets, cells := cells, recvTime := a.recvTime,
          recvRun := a.recvRun, epoch := a.epoch } (bump (.port p .assemblyOk) s)
    else s.modRx p fun x => { x with asm := some { a with cells := cells } }

/-- A piece is dropped with its cells (R25). -/
def dropPiece (r : Reception) (s : State) : State := s.give r.cells

/-- A FIRST or NEXT piece on a port whose assembler reads markers (R82, R83). DESIGN CHOICE (log 41): a
short piece or one with a wrong number returns its own cells before those of the open frame. -/
def markedPiece (p : PortId) (marker : PieceMarker) (octets : Octets) (s : State) : State :=
  let r := s.reception p
  let s := bump (.port p .piecesReceived) (endReception p s)
  let last := !endsWithPieceCheck octets
  let data := if last then octets else withoutCheck octets
  if data.length < Config.minFrame then
    match s.rx[p].asm with
    | some _ => failOpen p (dropPiece r s)
    | none => bump (.port p .orphanPieces) (dropPiece r s)
  else match marker, s.rx[p].asm with
    | .first, _ =>
      joinPiece p
        { expect := 0, octets := data, cells := r.cells, recvTime := r.recvTime,
          recvRun := r.recvRun, epoch := r.epoch } r last (failOpen p s)
    | .next _, none => bump (.port p .orphanPieces) (dropPiece r s)
    | .next n, some a =>
      if n = a.expect then
        joinPiece p { a with expect := a.expect + 1, octets := a.octets ++ data,
                             cells := a.cells ++ r.cells } r last s
      else failOpen p (dropPiece r s)

/-! ## Work cut short (R6, R39, R40) -/

/-- A reception in progress is discarded and counted in aborted receptions (R6, R40). -/
def abortReception (p : PortId) (s : State) : State :=
  match s.rx[p].cur with
  | none => s
  | some r => bump (.port p .abortedReceptions) ((endReception p s).give r.cells)

end Sys2Proof.Machine
end

