-- ==== Sys2Proof/Machine/Notices.lean ====
section
/-! DEFINITION. The NOTICE frame: its record layout and the send attempt (R178 to R180, R197). -/

namespace Sys2Proof.Machine

/-! ## Codes of the values that details and state records carry (R195; log 14) -/

def PortRole.code : PortRole → Nat
  | .uplink => 0
  | .robot => 1
  | .camera => 2
  | .general => 3
  | .service => 4

def Timing.code : Timing → Nat
  | .timeUp => 0
  | .timeDown => 1
  | .none => 2

def UnmatchedPolicy.code : UnmatchedPolicy → Nat
  | .default => 0
  | .drop => 1

/-- Enabled is 0 and disabled 1, UP is 0 and DOWN 1, HIGH is 0 and LOW 1, SET is 0 and RELEASED 1: the
first of two values is 0. -/
def firstOfTwo (first : Bool) : Nat := if first then 0 else 1

def StreamClass.code : StreamClass → Nat
  | .cycle => 0
  | .prompt => 1
  | .image => 2
  | .bulk => 3

def StreamRole.code : StreamRole → Nat
  | .plain => 0
  | .status => 1
  | .command => 2
  | .verdict => 3

/-- The kind and the index of a subject (R198). -/
def Subject.code : Subject → Nat × Nat
  | .none => (0, 0)
  | .robot r => (1, r.val)
  | .camera c => (2, c.val)
  | .controller => (3, 0)

def HoldPolicy.code : HoldPolicy → Nat
  | .report => 0
  | .holdLine => 1

def RobotState.code : RobotState → Nat
  | .idle => 0
  | .arming => 1
  | .running => 2
  | .late => 3
  | .parked => 4
  | .lost => 5
  | .service => 6

def WatchState.code : WatchState → Nat
  | .idle => 0
  | .watching => 1
  | .lost => 2

def CountMode.code : CountMode → Nat
  | .x1 => 0
  | .x2 => 1
  | .x4 => 2

def Direction.code : Direction → Nat
  | .forward => 0
  | .reverse => 1
  | .still => 2

def SensorState.code : SensorState → Nat
  | .clear => 0
  | .measuring => 1
  | .qualified => 2
  | .jammed => 3
  | .ignoring => 4

def EjectMode.code : EjectMode → Nat
  | .pulse => 0
  | .diverter => 1

/-- The ejector state, in the list of its mode (R145, R146). -/
def EjectState.code : EjectState → Nat
  | .rest => 0
  | .blasting => 1
  | .extendWait => 1
  | .extending => 2
  | .diverted => 3
  | .retractWait => 4
  | .retracting => 5

def WindowState.code : WindowState → Nat
  | .closed => 0
  | .granted => 1
  | .active => 2

def ServiceLevel.code : ServiceLevel → Nat
  | .observe => 0
  | .adjust => 1
  | .maintain => 2

/-- A close cause: its place in the list of R151, whose first value is none. -/
def CloseCause.code : CloseCause → Nat
  | .expired => 1
  | .controller => 2
  | .technician => 3
  | .trap => 4
  | .link => 5

def TrapReason.code : TrapReason → Nat
  | .closed => 0
  | .groupSource => 1
  | .foreignSource => 2
  | .misdirected => 3
  | .unmatched => 4
  | .level => 5
  | .subject => 6
  | .robotState => 7
  | .tooLong => 8

def ReadKind.code : ReadKind → Nat
  | .classification => 0
  | .request => 1
  | .supervision => 2
  | .scrub => 3

def StepCause.code : StepCause → Nat
  | .mark => 0
  | .set => 1
  | .adjust => 2

def GateMode.code : GateMode → Nat
  | .opened => 0
  | .running => 1
  | .resync => 2

def ResetCause.code : ResetCause → Nat
  | .powerOn => 0
  | .resetPin => 1

/-- A hold source (R197). -/
def HoldSource.code : HoldSource → Nat
  | .robot r => r.val
  | .controller => 24
  | .trackFull => 25
  | .jam => 26

/-- A set cause (R197). -/
def HoldCause.code : HoldCause → Nat
  | .source h => h.code
  | .reset => 27

/-- A pair of phase levels, A in bit 1 and B in bit 0 (R197). -/
def levelsCode (a b : Bool) : Nat := (if a then 2 else 0) + (if b then 1 else 0)

/-! ## The notice record (R197) -/

/-- Detail value A of a notice in its 8 octets. DESIGN CHOICE (log 44): of a CLOCK_STEP offset beyond
±(2^63 − 1) ns, which only a mark can have, the low 64 bits are written. -/
def NoticeEvent.detailA : NoticeEvent → Octets
  | .linkChange _ up => beBytes 8 (firstOfTwo up)
  | .tableDamage _ k => beBytes 8 k.code
  | .clockStep _ offset => beInt 8 offset
  | .clockLocked offset => beBytes 8 offset
  | .clockHoldover trim => beInt 8 trim
  | .rangeStale none => noneBytes 8
  | .rangeStale (some d) => beInt 8 d
  | .scheduleApplied _ k | .scheduleResync _ k => beInt 8 k
  | .robotLost _ x | .robotBack _ x => beBytes 8 x.code
  | .robotBarred _ n => beBytes 8 n
  | .statusLate _ past => optBytes 8 past
  | .armStalled _ n => beBytes 8 n
  | .controllerLost x => beBytes 8 x.code
  | .controllerBack ms => beBytes 8 ms
  | .encoderFault position .. => beBytes 8 position.toNat
  | .trackFull n => beBytes 8 n
  | .jam seq _ => optBytes 8 (seq.map BitVec.toNat)
  | .triggerSkipped _ seq | .verdictLate _ seq => beBytes 8 seq.toNat
  | .serviceOpened _ l _ => beBytes 8 l.code
  | .serviceExpiring _ ms => beBytes 8 ms
  | .serviceClosed _ c _ => beBytes 8 c.code
  | .serviceTrap _ r _ => beBytes 8 r.code
  | .holdSet c => beBytes 8 c.code
  | .holdReleased ms => beBytes 8 ms
  | .counterHalf _ v | .counterFull _ v => beBytes 8 v

/-- Detail value B of a notice in its 6 octets, 0 where section 10.6 gives one value. -/
def NoticeEvent.detailB : NoticeEvent → Octets
  | .clockStep c _ => beBytes 6 c.code
  | .encoderFault _ a0 b0 a1 b1 => beBytes 6 (levelsCode a0 b0 * 256 + levelsCode a1 b1)
  | .jam _ leading => beBytes 6 leading.toNat
  | .serviceOpened _ _ seconds => beBytes 6 seconds
  | .serviceClosed _ _ traps => beBytes 6 traps
  | .serviceTrap _ _ source => macBytes source
  | .counterHalf c _ | .counterFull c _ => beBytes 6 c.position
  | .linkChange .. | .tableDamage .. | .clockLocked .. | .clockHoldover .. | .rangeStale ..
  | .scheduleApplied .. | .scheduleResync .. | .robotLost .. | .robotBack .. | .robotBarred ..
  | .statusLate .. | .armStalled .. | .controllerLost .. | .controllerBack .. | .trackFull ..
  | .triggerSkipped .. | .verdictLate .. | .serviceExpiring .. | .holdSet .. | .holdReleased .. =>
    beBytes 6 0

/-- The class and the index of a subject in their 3 octets. -/
def subjectBytes (e : NoticeEvent) : Octets := beBytes 1 e.subject.1 ++ beBytes 2 e.subject.2

/-- A notice record in its 40 octets. -/
def NoticeRec.bytes (r : NoticeRec) : Octets :=
  beBytes 1 r.event.kind ++ subjectBytes r.event ++ baseTimeBytes r.firstTime ++
    baseTimeBytes r.lastTime ++ beBytes 2 r.repeats ++ r.event.detailA ++ r.event.detailB

/-! ## Sending (R179) and emptying (R180) -/

/-- The payload of a NOTICE frame that carries `records` (R179, R197). -/
def noticePayload (b : NoticeBlock) (records : List NoticeRec) : Octets :=
  beBytes 1 1 ++ beBytes 1 2 ++ beBytes 2 b.frameSeq ++ beBytes 2 b.overflow ++
    beBytes 1 records.length ++ [0] ++ records.flatMap NoticeRec.bytes

/-- The carried records and the carried overflow count have left the queue (R179). -/
def NoticeBlock.sent (b : NoticeBlock) (records overflow : Nat) : NoticeBlock :=
  { b with records := b.records.drop records, overflow := b.overflow - overflow,
           frameSeq := (b.frameSeq + 1) % 65536 }

/-- A send attempt to a destination (R179). -/
def sendNotices (d : Dest) (s : State) : State :=
  let records := s.notices.records.take Config.noticesPerFrame
  let overflow := s.notices.overflow
  let frame := formFrame d.mac s.station d.vlan etherNotice (noticePayload s.notices records)
  let s := { s with notices := { s.notices with lastAttempt := some s.clock.run } }
  match buildFrame .notice .notice [d.port] frame s with
  | (s, none) => s
  | (s, some _) =>
    bump (.device .noticeFramesBuilt)
      { s with notices := s.notices.sent records.length overflow }

/-- A send attempt is made when one is due (R178). -/
def attemptIfDue (s : State) : State :=
  match s.attemptDue, s.device.noticeDest with
  | true, some d => sendNotices d s
  | _, _ => s

/-- The notice queue is emptied into the overflow count (R180). -/
def NoticeBlock.emptied (b : NoticeBlock) : NoticeBlock :=
  { b with records := []
           overflow := min (b.overflow + (b.records.map NoticeRec.repeats).sum) 65535 }

end Sys2Proof.Machine
end

