-- ==== Sys2Proof/Machine/Records.lean ====
section
/-! DEFINITION. The records of the nine tables as READ TABLE returns them and as WRITE TABLE carries
them (R1, R12, R45, R86, R105, R114, R130, R144, R188, R195, R197, R198). A decoder answers none for a
field that lies outside its values. -/

namespace Sys2Proof.Machine

/-! ## Values read from a request (R195) -/

/-- Yes is 1 and no is 0. -/
def yesNoOf : Nat → Option Bool
  | 0 => some false
  | 1 => some true
  | _ => none

/-- The first of two values is 0 (log 14). -/
def firstOf : Nat → Option Bool
  | 0 => some true
  | 1 => some false
  | _ => none

/-- A set over `n` members, written as a number; a bit that stands for no member is outside. -/
def setOf (n v : Nat) : Option (BitVec n) := if v < 2 ^ n then some (BitVec.ofNat n v) else none

/-- A number within its range. -/
def within (lo hi v : Nat) : Option Nat := if lo ≤ v ∧ v ≤ hi then some v else none

/-- An index below `n`. -/
def indexOf (n v : Nat) : Option (Fin n) := if h : v < n then some ⟨v, h⟩ else none

/-- REPORT is 0 and HOLD_LINE 1. -/
def policyOf : Nat → Option HoldPolicy
  | 0 => some .report
  | 1 => some .holdLine
  | _ => none

/-- Every octet is 0xFF: none or absent. -/
def isNone (l : Octets) : Bool := l.all fun o => o == 0xFF#8

/-- A destination in 9 octets: none, or an address, a VLAN id and a port up to `top` (R130, R178). -/
def destOf (top : Nat) (l : Octets) : Option (Option Dest) :=
  if isNone l then some none
  else do
    let vlan ← within 0 4095 (field l 6 2)
    let port ← indexOf 12 (field l 8 1)
    if port.val ≤ top then
      some (some { mac := BitVec.ofNat 48 (field l 0 6), vlan := vlan, port := port })
    else none

/-- A destination in its 9 octets. -/
def destBytes : Option Dest → Octets
  | none => noneBytes 9
  | some d => macBytes d.mac ++ beBytes 2 d.vlan ++ beBytes 1 d.port.val

/-! ## PORT (R1) -/

def roleOf : Nat → Option PortRole
  | 0 => some .uplink
  | 1 => some .robot
  | 2 => some .camera
  | 3 => some .general
  | 4 => some .service
  | _ => none

def timingOf : Nat → Option Timing
  | 0 => some .timeUp
  | 1 => some .timeDown
  | 2 => some .none
  | _ => none

/-- DEFAULT, DROP, or ROLE_DEFAULT, which is resolved by the written role (R3). -/
def unmatchedOf (role : PortRole) : Nat → Option UnmatchedPolicy
  | 0 => some .default
  | 1 => some .drop
  | 2 => some (if role = .robot then .drop else .default)
  | _ => none

def decodePort (l : Octets) : Option PortCfg := do
  let role ← roleOf (field l 0 1)
  let mgmt ← yesNoOf (field l 1 1)
  let timing ← timingOf (field l 2 1)
  let tx ← firstOf (field l 3 1)
  let rx ← firstOf (field l 4 1)
  let unmatched ← unmatchedOf role (field l 5 1)
  let set ← setOf 12 (field l 6 2)
  some { role := role, mgmtAllowed := mgmt, timing := timing, txPreempt := tx, rxPreempt := rx,
         unmatched := unmatched, defaultEgress := set }

def Port.bytes (x : Port) : Octets :=
  beBytes 1 x.cfg.role.code ++ boolBytes x.cfg.mgmtAllowed ++ beBytes 1 x.cfg.timing.code ++
    beBytes 1 (firstOfTwo x.cfg.txPreempt) ++ beBytes 1 (firstOfTwo x.cfg.rxPreempt) ++
    beBytes 1 x.cfg.unmatched.code ++ beBytes 2 x.cfg.defaultEgress.toNat ++
    beBytes 1 (firstOfTwo x.link)

/-! ## STREAM (R12, R198) -/

def classOf : Nat → Option StreamClass
  | 0 => some .cycle
  | 1 => some .prompt
  | 2 => some .image
  | 3 => some .bulk
  | _ => none

def streamRoleOf : Nat → Option StreamRole
  | 0 => some .plain
  | 1 => some .status
  | 2 => some .command
  | 3 => some .verdict
  | _ => none

/-- The subject of a kind and an index, which NONE and CONTROLLER do not read (log 29). -/
def subjectOf (kind index : Nat) : Option Subject :=
  match kind with
  | 0 => some .none
  | 1 => (indexOf 24 index).map .robot
  | 2 => (indexOf 4 index).map .camera
  | 3 => some .controller
  | _ => none

def decodeStream (l : Octets) : Option StreamCfg := do
  let vlan ← within 0 4095 (field l 6 2)
  let ingress ← setOf 12 (field l 8 2)
  let egress ← setOf 12 (field l 10 2)
  let cls ← classOf (field l 12 1)
  let role ← streamRoleOf (field l 13 1)
  let subject ← subjectOf (field l 14 1) (field l 15 1)
  let max ← within 64 9216 (field l 16 2)
  let valid ← yesNoOf (field l 18 1)
  some { key := BitVec.ofNat 48 (field l 0 6), vlan := vlan, ingress := ingress, egress := egress,
         cls := cls, role := role, subject := subject, maxLength := max, valid := valid }

/-- The fields of a stream record, without its damage. -/
def StreamCfg.bytes (c : StreamCfg) : Octets :=
  macBytes c.key ++ beBytes 2 c.vlan ++ beBytes 2 c.ingress.toNat ++ beBytes 2 c.egress.toNat ++
    beBytes 1 c.cls.code ++ beBytes 1 c.role.code ++ beBytes 1 c.subject.code.1 ++
    beBytes 1 c.subject.code.2 ++ beBytes 2 c.maxLength ++ boolBytes c.valid

/-- The 20 octets of a record as a read of damaged contents finds them (R19; log 8). -/
def asRead (ecc : EccError) (l : Octets) : Octets :=
  match ecc with
  | .clean | .single => l
  | .double flips => List.zipWith (· ^^^ ·) l (beBytes 20 flips.toNat)

/-- A stream record as READ TABLE returns it: a damaged one as read, with valid no and damaged yes
(R19). -/
def Stream.bytes (x : Stream) : Octets :=
  if x.damaged then overwrite (asRead x.ecc (x.cfg.bytes ++ [0])) 18 [0, 1]
  else x.cfg.bytes ++ [0]

/-! ## ROBOT (R86, R198) -/

def decodeRobot (l : Octets) : Option RobotCfg := do
  let window ← within 0 15 (field l 2 1)
  let period ← within 1 16 (field l 3 1)
  let phase ← within 0 (period - 1) (field l 4 1)
  let deadline ← within 0 160000000 (field l 8 4)
  let tolerance ← within 1 15 (field l 12 1)
  let repeats ← within 0 15 (field l 13 1)
  let policy ← policyOf (field l 14 1)
  some { statusStream := Fin.ofNat 256 (field l 0 1), commandStream := Fin.ofNat 256 (field l 1 1),
         window := window, period := period, phase := phase, deadline := deadline,
         modeOffset := field l 5 1, modeMask := BitVec.ofNat 8 (field l 6 1),
         parkedValue := BitVec.ofNat 8 (field l 7 1), tolerance := tolerance,
         repeatLimit := repeats, lossPolicy := policy }

/-- The fields of a robot record, without its damage. -/
def Robot.fields (x : Robot) : Octets :=
  beBytes 1 x.cfg.statusStream.val ++ beBytes 1 x.cfg.commandStream.val ++
    beBytes 1 x.cfg.window ++ beBytes 1 x.cfg.period ++ beBytes 1 x.cfg.phase ++
    beBytes 1 x.cfg.modeOffset ++ [x.cfg.modeMask] ++ [x.cfg.parkedValue] ++
    beBytes 4 x.cfg.deadline ++ beBytes 1 x.cfg.tolerance ++ beBytes 1 x.cfg.repeatLimit ++
    beBytes 1 x.cfg.lossPolicy.code ++ optBytes 1 (x.port.map Fin.val)

/-- A robot record as READ TABLE returns it: a damaged one as read, with damaged yes (R19) and its pad
octets 0 (R195, R198). -/
def Robot.bytes (x : Robot) : Octets :=
  if x.damaged then overwrite (asRead x.ecc (x.fields ++ [0, 0, 0, 0])) 16 [1, 0, 0, 0]
  else x.fields ++ [0, 0, 0, 0]

/-! ## HOLD FRAME (R105) -/

/-- A hold frame record is a length and that many octets: 0, or 64 to 256 (R105). -/
def decodeHold (l : Octets) : Option Octets :=
  let frame := l.drop 2
  if frame.length = 0 ∨ (64 ≤ frame.length ∧ frame.length ≤ 256) then some frame else none

def holdBytes (frame : Octets) : Octets := beBytes 2 frame.length ++ frame

/-! ## CAMERA (R130) -/

/-- A verdict source in 2 octets: none, or a stream record index. -/
def sourceOf (l : Octets) : Option (Option StreamId) :=
  if isNone l then some none else (indexOf 256 (beNat l)).map some

def decodeCamera (l : Octets) : Option CameraCfg := do
  let enabled ← yesNoOf (field l 0 1)
  let required ← yesNoOf (field l 1 1)
  let offset ← within 0 1048575 (field l 2 3)
  let width ← within 1 1000 (field l 5 2)
  let note ← destOf 11 (slice l 7 9)
  let source ← sourceOf (slice l 16 2)
  some { enabled := enabled, required := required, offset := offset, pulseWidth := width,
         note := note, source := source }

def CameraCfg.bytes (c : CameraCfg) : Octets :=
  boolBytes c.enabled ++ boolBytes c.required ++ beBytes 3 c.offset ++ beBytes 2 c.pulseWidth ++
    destBytes c.note ++ optBytes 2 (c.source.map Fin.val)

/-! ## TRACKING (R114) -/

def modeOf : Nat → Option CountMode
  | 0 => some .x1
  | 1 => some .x2
  | 2 => some .x4
  | _ => none

def decodeTracking (l : Octets) : Option TrackerCfg := do
  let mode ← modeOf (field l 0 1)
  let invert ← yesNoOf (field l 1 1)
  let window ← within 1 100 (field l 2 1)
  let high ← firstOf (field l 3 1)
  let least ← within 1 4095 (field l 4 2)
  let most ← within (max 16 (least + 1)) 65535 (field l 6 2)
  let policy ← policyOf (field l 8 1)
  some { mode := mode, invert := invert, speedWindow := window, activeHigh := high,
         minOcclusion := least, maxOcclusion := most, jamPolicy := policy }

def TrackerCfg.bytes (c : TrackerCfg) : Octets :=
  beBytes 1 c.mode.code ++ boolBytes c.invert ++ beBytes 1 c.speedWindow ++
    beBytes 1 (firstOfTwo c.activeHigh) ++ beBytes 2 c.minOcclusion ++ beBytes 2 c.maxOcclusion ++
    beBytes 1 c.jamPolicy.code

/-! ## EJECTOR (R144) -/

def ejectModeOf : Nat → Option EjectMode
  | 0 => some .pulse
  | 1 => some .diverter
  | _ => none

def decodeEjector (l : Octets) : Option EjectorCfg := do
  let mode ← ejectModeOf (field l 0 1)
  let blast ← within 100 50000 (field l 1 2)
  let extend ← within 1 100 (field l 3 1)
  let dwell ← within 1 1048575 (field l 4 3)
  let retract ← within 1 100 (field l 7 1)
  let gap ← within 100 20000 (field l 8 2)
  let distance ← within 1 1048575 (field l 10 3)
  let latency ← within 0 20000 (field l 13 2)
  let lead ← within 0 (distance - 1) (field l 15 3)
  some { mode := mode, blastTime := blast, extendTime := extend, dwell := dwell,
         retractTime := retract, nonOverlap := gap, distance := distance, latency := latency,
         leadMax := lead }

def EjectorCfg.bytes (c : EjectorCfg) : Octets :=
  beBytes 1 c.mode.code ++ beBytes 2 c.blastTime ++ beBytes 1 c.extendTime ++ beBytes 3 c.dwell ++
    beBytes 1 c.retractTime ++ beBytes 2 c.nonOverlap ++ beBytes 3 c.distance ++
    beBytes 2 c.latency ++ beBytes 3 c.leadMax

/-! ## CLOCK (R45) -/

def decodeClock (l : Octets) : Option ClockCfg := do
  let limit ← within 10000 100000000 (field l 0 4)
  let threshold ← within 100 100000 (field l 4 3)
  let timeout ← within 50 5000 (field l 9 2)
  let interval ← within 125 8000 (field l 11 2)
  let relay ← yesNoOf (field l 13 1)
  some { stepLimit := limit, lockThreshold := threshold, gp := field l 7 1, gi := field l 8 1,
         markTimeout := timeout, probeInterval := interval, relay := relay }

def ClockCfg.bytes (c : ClockCfg) : Octets :=
  beBytes 4 c.stepLimit ++ beBytes 3 c.lockThreshold ++ beBytes 1 c.gp ++ beBytes 1 c.gi ++
    beBytes 2 c.markTimeout ++ beBytes 2 c.probeInterval ++ boolBytes c.relay

/-! ## DEVICE (R188) -/

/-- The limit of a queue of a port in a DEVICE record: ports in index order, and for each port Q3, Q2,
Q1, Q0 (log 16). -/
def limitField (l : Octets) (p q : Nat) : Nat := field l (8 * p + 2 * (3 - q)) 2

/-- The queue limits of a DEVICE record. -/
def limitsOf (l : Octets) : Vector (Vector Nat 4) 12 :=
  Vector.ofFn fun p => Vector.ofFn fun q => limitField l p.val q.val

/-- Every limit is 0 to 2,048 cells (R27). -/
def limitsOk (v : Vector (Vector Nat 4) 12) : Bool := v.all fun x => x.all fun n => decide (n ≤ 2048)

def decodeDevice (l : Octets) : Option DeviceCfg :=
  if limitsOk (limitsOf l) then do
    let timeout ← within 1 1000 (field l 96 2)
    let dest ← destOf 9 (slice l 98 9)
    let pacing ← within 1 1000 (field l 107 2)
    some { limits := limitsOf l, controllerTimeout := timeout, noticeDest := dest, pacing := pacing }
  else none

def DeviceCfg.bytes (c : DeviceCfg) : Octets :=
  c.limits.toList.flatMap (fun v => v.toList.reverse.flatMap (beBytes 2)) ++
    beBytes 2 c.controllerTimeout ++ destBytes c.noticeDest ++ beBytes 2 c.pacing

end Sys2Proof.Machine
end

