-- ==== Sys2Proof/Machine/Resets.lean ====
section
/-! DEFINITION. The commands of power, links and a RESTART carried out (R5, R6, R39, R40, R149, R152,
R180, R193, R194). -/

namespace Sys2Proof.Machine

/-- What a meaning answers. -/
abbrev Result := Host.Outcome State Fault Refusal

/-- POWER_ON_RESET (R194): every piece of state takes its power-on value, the loss action REPORT; the
commands that wait go on waiting. -/
def execPowerOnReset (pins : ResetPins) (s : State) : Result :=
  .next (State.afterReset .powerOn .report pins s.pending)

/-- HARD_RESET (R194): as a power-on reset, but that the loss action is kept (R108) and the cause is
RESET_PIN (R191). -/
def execHardReset (pins : ResetPins) (s : State) : Result :=
  .next (State.afterReset .resetPin s.watch.action pins s.pending)

/-- LINK_GAINED (R5): a report that repeats the state is no transition. -/
def execLinkGained (p : PortId) (s : State) : Result :=
  .next
    (if s.ports[p].link then s
     else raise (.linkChange p true) (s.modPort p fun x => { x with link := true }))

/-- An entry of a flushed queue gives up its reference, and a RESTART that waits for it is due
(R39, R192). -/
def flushFrame (h : CellId) (s : State) : State := answerGone h (s.release h)

/-- Every holder of frames on a port gives them up as its link is lost (R39). DESIGN CHOICE (log 36): the
piece on the wire is not counted in pieces sent. -/
def flushPort (p : PortId) (s : State) : State :=
  let e := s.egress[p]
  let entries := e.queues[(3 : QueueId)] ++ e.queues[(2 : QueueId)] ++ e.queues[(1 : QueueId)] ++
    e.queues[(0 : QueueId)]
  let s := s.modEgress p fun e =>
    { e with
      queues := Vector.replicate 4 [], tx := none, remainder := none
      lastSent :=
        match e.tx with
        | some t => some (t.abandoned p s.clock.ticks .linkLost)
        | none => e.lastSent }
  let s := forEach entries (fun x => flushFrame x.frame) s
  let s :=
    match e.tx with
    | some t => flushFrame t.frame s
    | none => s
  match e.remainder with
  | some r => s.release r.frame
  | none => s

/-- LINK_LOST (R5, R6, R39): the port goes DOWN, its work in flight is cut, its queues, remainder and
assembly are flushed, and a service window on it closes with cause LINK. DESIGN CHOICE (log 41): the
holders return their cells in the order reception, queue entries from Q3 to Q0, transmitter, remainder,
assembler. -/
def execLinkLost (p : PortId) (s : State) : Result :=
  .next
    (if s.ports[p].link then
      let s := raise (.linkChange p false) (s.modPort p fun x => { x with link := false })
      let s := discardOpen p (flushPort p (abortReception p s))
      match portWindow p with
      | some w => closeWindow w .link s
      | none => s
    else s)

/-! ## RESTART carried out (R193) -/

/-- One port's part of the frame path is freed (R40, R84): its queues, its transmission, which ends
with a mismatched FCS, and its remainder. DESIGN CHOICE (log 36): the piece so ended is not counted in
pieces sent. -/
def Egress.restarted (p : PortId) (now : Nat) (e : Egress) : Egress :=
  match e.tx with
  | some t =>
    { Egress.reset with
      idleUntil := gapEnd p now, lastSent := some (t.abandoned p now .badFcs) }
  | none => { Egress.reset with idleUntil := e.idleUntil, lastSent := e.lastSent }

/-- The frame path is freed (R40, R193 part 2). -/
def freeFramePath (s : State) : State :=
  let s := forEach (List.finRange 12) abortReception s
  { s with
    rx := Vector.replicate 12 Rx.reset
    egress := Vector.ofFn fun p => s.egress[p].restarted p s.clock.ticks
    robots := s.robots.map fun r => { r with slot := none, store := none }
    mem := CellMem.reset }

/-- The cycle in progress on every port is marked disturbed (R78), and with it the period in progress
of every armed robot (R89, R93). -/
def disturbCycles (s : State) : State :=
  { s with
    gates := s.gates.map fun g => { g with disturbed := true }
    robots := s.robots.map fun r => if r.state.armed then { r with disturbed := true } else r }

/-- The parts of a RESTART in their order (R193). DESIGN CHOICE (log 53): a COUNTER_HALF or COUNTER_FULL of
a counter that the first two parts grow is raised as it grows, before the notice queue is emptied, and so
goes into the overflow count with the rest (R180, R181). -/
def carryOutRestart (s : State) : State :=
  let s := bump (.device .restarts) s
  let s := freeFramePath s
  let s := { s with notices := s.notices.emptied }
  let s := forEach [(0 : WindowId), 1] (closeWindow · .link) s
  restartEjector (disturbCycles s)

/-- RESTART_CARRIED_OUT (R192, R193): when it is due, the RESTART is carried out and leaves the
queue. -/
def execRestartCarriedOut (s : State) : Result :=
  .next
    (if s.restartDue then
      (carryOutRestart s).modMgmt fun m => { m with queue := m.queue.tail, restart := none }
    else s)

end Sys2Proof.Machine
end

