-- ==== Sys2Proof/Machine/WatchEvents.lean ====
section
/-! DEFINITION. The commands of the controller watch, the scrub, the service windows' times and the
notice pacing (R18, R106, R156, R178). -/

namespace Sys2Proof.Machine

/-- CONTROLLER_TIMEOUT (R106). -/
def execControllerTimeout (s : State) : Result :=
  .next (if s.controllerDue then loseController s else s)

/-- The bit errors that came into a record since it was last read stand in its memory; a record marked
damaged keeps the ones it was marked for (log 8). -/
def errorsFound (old : EccError) (damaged : Bool) (found : EccError) : EccError :=
  if damaged || decide (found = .clean) then old else found

/-- Bit errors come into a record, to stand there until a read of any kind finds them (R18; log 8). -/
def takeHit (struck : EccRecord) (error : EccError) (s : State) : State :=
  match struck with
  | .stream i => s.modStream i fun x => { x with ecc := errorsFound x.ecc x.damaged error }
  | .robot r => s.modRobot r fun x => { x with ecc := errorsFound x.ecc x.damaged error }

/-- The record at a position of the scrub: the STREAM records, then the ROBOT records (R18; log 8). -/
def scrubTarget (n : Fin 280) : EccRecord :=
  if h : n.val < 256 then .stream ⟨n.val, h⟩ else .robot ⟨n.val - 256, by omega⟩

/-- The record at the scrub's position is read and checked, and the position moves to the next one,
after the last to the first (R18 to R21). -/
def scrubNext (s : State) : State :=
  let target := scrubTarget s.scrub
  let s := { s with scrub := s.scrub + 1 }
  match target with
  | .stream i => checkStream i .scrub s
  | .robot r => checkRobot r .scrub s

/-- SCRUB_READ (R18 to R21): bit errors come in, and the background scrub reads the next record in turn,
and checks it. -/
def execScrubRead (struck : EccRecord) (error : EccError) (s : State) : Result :=
  .next (scrubNext (takeHit struck error s))

/-- SERVICE_EXPIRY_WARNING (R156). -/
def execServiceExpiryWarning (w : WindowId) (s : State) : Result :=
  .next (if s.warningDue w then warnWindow w s else s)

/-- SERVICE_WINDOW_EXPIRY (R156). -/
def execServiceWindowExpiry (w : WindowId) (s : State) : Result :=
  .next (if s.expiryDue w then closeWindow w .expired s else s)

/-- NOTICE_SEND_ATTEMPT (R178, R179). -/
def execNoticeSendAttempt (s : State) : Result := .next (attemptIfDue s)

end Sys2Proof.Machine
end

