-- ==== Sys2Proof/Machine/Tables.lean ====
section
/-! DEFINITION. The checks that a written record is put to, and what a taken one does at the moment it
is stored (R3, R13, R27, R45, R84, R87, R105, R106, R114, R130, R144, R178, R187, R188). -/

namespace Sys2Proof.Machine

/-- What a write of one record comes to: the state it leaves, or the code that refuses it. -/
abbrev Written := Except Status State

/-- A record is refused when a condition does not hold. -/
def need (c : Bool) (x : Status) : Except Status Unit := if c then .ok () else .error x

/-- The value of a decoder, or BAD_VALUE. -/
def valueOf {α : Type} : Option α → Except Status α
  | some a => .ok a
  | none => .error .badValue

/-- The index of a table of `n` records, or BAD_INDEX. -/
def indexIn (n i : Nat) : Except Status (Fin n) :=
  if h : i < n then .ok ⟨i, h⟩ else .error .badIndex

/-! ## PORT (R3) -/

/-- The second check of R3, on the fields themselves. -/
def portValuesOk (p : PortId) (c : PortCfg) : Bool :=
  if p.val < 10 then
    decide (c.role ≠ .service) &&
      !(decide (c.timing = .timeUp) && (decide (c.role = .robot) || decide (c.role = .camera)))
  else decide (c.role = .service) && decide (c.timing = .none) && !c.mgmtAllowed

/-- Another port is TIME_UP (R3, check 3). -/
def State.timeUpElsewhere (s : State) (p : PortId) : Bool :=
  (List.finRange 12).any fun x => decide (x ≠ p) && decide (s.ports[x].cfg.timing = .timeUp)

/-- A robot that is not IDLE has this port as its robot port (R3, check 4). -/
def State.portInUse (s : State) (p : PortId) : Bool :=
  (List.finRange 24).any fun r => decide (s.robots[r].port = some p) && decide (s.robots[r].state ≠ .idle)

/-- Receive preemption is disabled on a port (R84): the open frame of an assembler in ASSEMBLING is
discarded, and a reception in progress is not read by its marker, also when preemption is enabled again
before it ends. -/
def disableReceive (p : PortId) (s : State) : State :=
  (failOpen p s).modRx p fun x => { x with cur := x.cur.map fun r => { r with marked := false } }

/-- A piece as transmit preemption is disabled (R80; log 35): it is not cut from then on. One whose cut
point has been reached is cut already, and only its piece check is still to be sent. -/
def Tx.uncut (t : Tx) (p : PortId) (now : Nat) : Tx :=
  { t with cuttable := false
           cutAt := t.cutAt.filter fun c => t.firstOctet p + c * octetTicks p ≤ now }

/-- A port record is stored, with what R84 says of receive preemption disabled and R80 of transmit
preemption disabled. -/
def storePort (p : PortId) (c : PortCfg) (s : State) : State :=
  let s := s.modPort p fun x => { x with cfg := c }
  let s := if c.rxPreempt then s else disableReceive p s
  if c.txPreempt then s
  else s.modEgress p fun e => { e with tx := e.tx.map fun t => t.uncut p s.clock.ticks }

def writePort (i : Nat) (l : Octets) (s : State) : Written := do
  let p ← indexIn 12 i
  let c ← valueOf (decodePort l)
  need (portValuesOk p c) .badValue
  need (!(decide (c.timing = .timeUp) && s.timeUpElsewhere p)) .duplicateKey
  need (!(decide (s.ports[p].cfg.role = .robot) && decide (c.role ≠ .robot) && s.portInUse p))
    .wrongState
  pure (storePort p c s)

/-! ## STREAM (R13) -/

/-- The second check of R13, beyond the values of single fields. -/
def streamValuesOk (c : StreamCfg) : Bool :=
  (match c.role, c.subject with
    | .status, .robot _ | .command, .robot _ => true
    | .status, _ | .command, _ => false
    | .plain, _ | .verdict, _ => true) &&
  !(decide (c.role = .verdict) && decide (c.cls ≠ .prompt))

/-- Another valid record carries the key (R13, check 3; R20). -/
def State.keyElsewhere (s : State) (i : StreamId) (c : StreamCfg) : Bool :=
  (List.finRange 256).any fun j => decide (j ≠ i) && s.streams[j].carries c.key c.vlan

/-- The record is the status or the command stream of a robot that is not IDLE (R13, check 4). -/
def State.streamInUse (s : State) (i : StreamId) : Bool :=
  (List.finRange 24).any fun r =>
    decide (s.robots[r].state ≠ .idle) &&
      (decide (s.robots[r].cfg.statusStream = i) || decide (s.robots[r].cfg.commandStream = i))

def writeStream (i : Nat) (l : Octets) (s : State) : Written := do
  let i ← indexIn 256 i
  let c ← valueOf (decodeStream l)
  need (streamValuesOk c) .badValue
  need (!(c.valid && s.keyElsewhere i c)) .duplicateKey
  need (!s.streamInUse i) .wrongState
  pure (s.modStream i fun _ => { cfg := c, damaged := false, ecc := .clean })

/-! ## ROBOT (R87) and HOLD FRAME (R105) -/

/-- A robot record is written (R87): its configured fields are replaced and damaged is cleared. DESIGN
CHOICE (log 40): the read-only robot port stays as ARM ROBOT last derived it, also at a write that clears
damage. -/
def writeRobot (i : Nat) (l : Octets) (s : State) : Written := do
  let r ← indexIn 24 i
  let c ← valueOf (decodeRobot l)
  need (decide (s.robots[r].state = .idle)) .wrongState
  pure (s.modRobot r fun x => { x with cfg := c, damaged := false, ecc := .clean })

/-- A HOLD FRAME record is written (R105). DESIGN CHOICE (log 52): an index past the table's end is
BAD_INDEX also where the record is BAD_VALUE. -/
def writeHold (i : Nat) (l : Octets) (s : State) : Written := do
  let r ← indexIn 24 i
  let frame ← valueOf (decodeHold l)
  pure { s with holdFrames := s.holdFrames.set r frame }

/-! ## CAMERA (R130) -/

/-- A CAMERA record is written (R130). DESIGN CHOICE (log 52): an index past the table's end is
BAD_INDEX also where the record is BAD_VALUE. -/
def writeCamera (i : Nat) (l : Octets) (s : State) : Written := do
  let c ← indexIn 4 i
  let k ← valueOf (decodeCamera l)
  pure (s.modCamera c fun x => { x with cfg := k })

/-! ## TRACKING (R114, R127) -/

/-- The sensor input is read again under a new active level (R114). -/
def rereadSensor (before : Bool) (s : State) : State :=
  if before = s.tracker.sensorActive then s
  else if before then sensorEnds s
  else leadingEdge s

/-- The jam policy governs a jam in progress (R114, R127). -/
def applyJamPolicy (s : State) : State :=
  match s.tracker.cfg.jamPolicy with
  | .report => leaveHold .jam s
  | .holdLine => if s.tracker.sensor = .jammed then joinHold .jam s else s

/-- A tracker record is stored: the sensor is read again, the occlusion is tested again, and the jam
policy is applied (R114). DESIGN CHOICE (log 47): when one record changes several fields at once, their
effects come in this order. -/
def storeTracking (c : TrackerCfg) (s : State) : State :=
  let before := s.tracker.sensorActive
  applyJamPolicy (occlusionTests (rereadSensor before (s.modTracker fun t => { t with cfg := c })))

/-- A TRACKING record is written (R114). DESIGN CHOICE (log 52): an index past the table's end is
BAD_INDEX also where the record is BAD_VALUE. -/
def writeTracking (i : Nat) (l : Octets) (s : State) : Written := do
  let _ ← indexIn 1 i
  let c ← valueOf (decodeTracking l)
  pure (storeTracking c s)

/-! ## EJECTOR (R144) -/

/-- An ejector record is stored: the lead is recomputed, and the non-overlap time is judged at once. -/
def storeEjector (c : EjectorCfg) (s : State) : State :=
  leaveWaits (recomputeLead (s.modReject fun x => { x with cfg := c }))

def writeEjector (i : Nat) (l : Octets) (s : State) : Written := do
  let _ ← indexIn 1 i
  let c ← valueOf (decodeEjector l)
  need (decide (c.mode = s.reject.cfg.mode) ||
    (decide (s.reject.state = .rest) && !s.reject.heldFire)) .wrongState
  pure (storeEjector c s)

/-! ## CLOCK (R45) -/

/-- A clock record is stored: the mark timeout is judged at once, and a probe whose instant has passed
is due at once (R45; log 24). DESIGN CHOICE (log 47): when one record makes both due, HOLDOVER is entered
first. -/
def storeClock (c : ClockCfg) (s : State) : State :=
  let s := s.modClock fun k => { k with cfg := c }
  let s := if s.clock.holdoverDue then enterHoldover s else s
  if s.probeReady then takeProbeDue s.clock.run s else s

/-- A CLOCK record is written (R45). DESIGN CHOICE (log 52): an index past the table's end is
BAD_INDEX also where the record is BAD_VALUE. -/
def writeClock (i : Nat) (l : Octets) (s : State) : Written := do
  let _ ← indexIn 1 i
  let c ← valueOf (decodeClock l)
  pure (storeClock c s)

/-! ## DEVICE (R188) -/

/-- A device record is stored: the controller timeout and the pacing are judged at once (R106, R178).
DESIGN CHOICE (log 47): the timeout comes first, so its notice is in the queue for the attempt. -/
def storeDevice (c : DeviceCfg) (s : State) : State :=
  let s := { s with device := c }
  attemptIfDue (if s.controllerDue then loseController s else s)

/-- A DEVICE record is written (R188). DESIGN CHOICE (log 52): an index past the table's end is
BAD_INDEX also where the record is BAD_VALUE. -/
def writeDevice (i : Nat) (l : Octets) (s : State) : Written := do
  let _ ← indexIn 1 i
  let c ← valueOf (decodeDevice l)
  pure (storeDevice c s)

/-! ## One table -/

/-- The records of a table (section 11.3). -/
def TableId.size : TableId → Nat
  | .port => 12
  | .stream => 256
  | .robot | .holdFrame => 24
  | .camera => 4
  | .tracking | .ejector | .clock | .device => 1

/-- The octets of a record of a table; a HOLD FRAME record states its own after these (R197; log 16). -/
def TableId.octets : TableId → Nat
  | .port => 9
  | .stream | .robot => 20
  | .holdFrame => 2
  | .camera => 18
  | .tracking => 9
  | .ejector => 18
  | .clock => 14
  | .device => 109

/-- One record is put to its table's checks and stored (R187). -/
def writeRecord (t : TableId) (i : Nat) (l : Octets) (s : State) : Written :=
  match t with
  | .port => writePort i l s
  | .stream => writeStream i l s
  | .robot => writeRobot i l s
  | .holdFrame => writeHold i l s
  | .camera => writeCamera i l s
  | .tracking => writeTracking i l s
  | .ejector => writeEjector i l s
  | .clock => writeClock i l s
  | .device => writeDevice i l s

/-- The octets of the record that a body holds at its front. -/
def recordLength (t : TableId) (l : Octets) : Nat :=
  match t with
  | .holdFrame => 2 + field l 0 2
  | _ => t.octets

/-- The records of a body, or none when it ends before the last of them (R197). -/
def splitRecords (t : TableId) : Nat → Octets → Option (List Octets)
  | 0, _ => some []
  | n + 1, l =>
    if t.octets ≤ l.length ∧ recordLength t l ≤ l.length then
      (splitRecords t n (l.drop (recordLength t l))).map (l.take (recordLength t l) :: ·)
    else none

/-- How the writing of a list of records ends: the state, the count written, and the refusal with its
index, if there was one (R187). -/
structure WriteEnd where
  state : State
  count : Nat
  refused : Option (Status × Nat)

/-- Records are written one after another from index `i`, up to the first refusal (R187). -/
def writeRecords (t : TableId) : List Octets → Nat → Nat → State → WriteEnd
  | [], _, n, s => { state := s, count := n, refused := none }
  | l :: ls, i, n, s =>
    match writeRecord t i l s with
    | .ok s => writeRecords t ls (i + 1) (n + 1) s
    | .error x => { state := s, count := n, refused := some (x, i) }

/-- A checked read of a record for READ TABLE: the state after it, and the record (R18, R19, R186). -/
def readRecord (t : TableId) (i : Nat) (s : State) : State × Octets :=
  match t with
  | .port => (s, (s.ports[Fin.ofNat 12 i]).bytes)
  | .stream =>
    let s := checkStream (Fin.ofNat 256 i) .request s
    (s, (s.streams[Fin.ofNat 256 i]).bytes)
  | .robot =>
    let s := checkRobot (Fin.ofNat 24 i) .request s
    (s, (s.robots[Fin.ofNat 24 i]).bytes)
  | .holdFrame => (s, holdBytes s.holdFrames[Fin.ofNat 24 i])
  | .camera => (s, (s.cameras[Fin.ofNat 4 i]).cfg.bytes)
  | .tracking => (s, s.tracker.cfg.bytes)
  | .ejector => (s, s.reject.cfg.bytes)
  | .clock => (s, s.clock.cfg.bytes)
  | .device => (s, s.device.bytes)

/-- `n` records read from index `i` on, in index order. -/
def readRecords (t : TableId) : Nat → Nat → State → State × Octets
  | 0, _, s => (s, [])
  | n + 1, i, s =>
    let (s, l) := readRecord t i s
    let (s, ls) := readRecords t n (i + 1) s
    (s, l ++ ls)

end Sys2Proof.Machine
end

