-- ==== Sys2Proof/Machine/StateRecords.lean ====
section
/-! DEFINITION. The state records of READ STATE and the counters of READ COUNTERS (R41, R64, R85, R109,
R129, R150, R169, R174, R182, R189 to R191, R197, R198). The widths of items are in log 15. -/

namespace Sys2Proof.Machine

/-- An optional item of `n` octets. DESIGN CHOICE (log 15): none takes no octet more, so in an item whose
range takes every value of its octets the value of all ones reads as none. -/
def optItem (n : Nat) : Option Octets → Octets
  | none => noneBytes n
  | some l => l

/-- A signed item of `n` octets. -/
def optInt (n : Nat) (v : Option Int) : Octets := optItem n (v.map (beInt n))

/-! ## DEVICE (R41, R191) -/

/-- The DEVICE record: the items of R41, then those of R191 (log 15). -/
def deviceState (s : State) : Octets :=
  beBytes 2 s.mem.free.length ++ beBytes 2 s.mem.low ++ beBytes 1 s.straps.cause.code ++
    beBytes 1 s.straps.addr.toNat ++ beBytes 1 s.straps.mgmt.toNat ++ beBytes 8 s.clock.run

/-! ## Port (R41, R85) -/

/-- One queue of a port: its occupancy, and its entries, robot sends and mirror copies. -/
def queueState (s : State) (p : PortId) (q : QueueId) : Octets :=
  let l := s.egress[p].queues[q]
  beBytes 2 (s.occupancy p q) ++ beBytes 2 l.length ++
    beBytes 2 (l.filter QEntry.isRobotSend).length ++
    beBytes 2 (l.filter fun x => decide (x.kind = .mirror)).length

/-- A gate list in full, its window count first, or none. DEDUCED (log 15): its base time, which has no
fraction (R65), takes the 10 octets of a time without a fraction (R195). -/
def gateListBytes : Option GateList → Octets
  | none => noneBytes 1
  | some l =>
    beBytes 1 l.windows.length ++ beBytes 3 l.cycle ++ baseTimeBytes l.base ++
      l.windows.flatMap fun w => beBytes 3 w.duration ++ beBytes 1 w.openSet.toNat

/-- The target boundary of a gate engine in RESYNC. -/
def Gate.targetTime (g : Gate) : Option HallTime :=
  match g.mode, g.active with
  | .resync, some l => some (HallTime.ofNs (l.boundary g.target))
  | _, _ => none

/-- The gate engine's view (R85). DEDUCED (log 15): the activation time has no fraction (R71) and takes 10
octets, and the target boundary is a hall time and takes a timestamp. -/
def gateState (g : Gate) : Octets :=
  beBytes 1 g.mode.code ++ gateListBytes g.active ++ gateListBytes g.loaded ++
    boolBytes g.commit ++ optItem 10 (g.activation.map baseTimeBytes) ++ beInt 8 g.cycleIndex ++
    optBytes 1 (if g.mode = .running then some g.windowIndex else none) ++
    optItem 12 (g.targetTime.map timestampBytes) ++ boolBytes g.disturbed

/-- The assembler's state, IDLE 0 and ASSEMBLING 1, and its expected number, none in IDLE (R85; log
15). -/
def assemblerState (x : Rx) : Octets :=
  match x.asm with
  | none => [0] ++ noneBytes 1
  | some a => [1] ++ beBytes 1 a.expect.val

/-- The held remainder (R85). DEDUCED (log 15): without one each of its octets is 0xFF. -/
def remainderState : Option Remainder → Octets
  | none => noneBytes 6
  | some r =>
    beBytes 1 r.queue.val ++ beBytes 2 r.octets.length ++
      beBytes 2 (r.octets.length - r.offset) ++ beBytes 1 r.nextN.val

/-- A port's state record (R41, R85). DESIGN CHOICE (log 15): the items of the four queues stand in the
order Q3, Q2, Q1, Q0, and whether the port holds a remainder, and from which queue, stands once after
them. -/
def portState (s : State) (p : PortId) : Octets :=
  let r := s.egress[p].remainder
  queueState s p 3 ++ queueState s p 2 ++ queueState s p 1 ++ queueState s p 0 ++
    boolBytes r.isSome ++ optBytes 1 (r.map fun r => r.queue.val) ++ gateState s.gates[p] ++
    assemblerState s.rx[p] ++ remainderState r

/-! ## CLOCK (R64) -/

/-- The CLOCK record (R64). DESIGN CHOICE (log 15): the sequence number of the outstanding probe takes 2
octets, so that of a probe numbered 65,535 is written as none is; and so is the last value of run time. -/
def clockState (c : Clock) : Octets :=
  timestampBytes c.hall ++ beBytes 8 c.run ++ beBytes 1 c.servo.code ++ beBytes 1 c.goodMarks ++
    beInt 3 c.trim ++ beInt 3 c.integral ++ beBytes 5 c.increment ++ optBytes 8 c.lastMark ++
    optBytes 8 c.lastRequest ++ optInt 5 c.delay ++ boolBytes c.stale ++
    optBytes 2 (c.probe.map Probe.seq) ++
    optItem 12 ((c.probe.bind Probe.t1).map timestampBytes) ++ beBytes 4 (min c.lostProbes 4294967295)

/-! ## Robot and CONTROLLER (R109) -/

/-- A command frame held for a robot, by its length. -/
def heldLength (s : State) (h : Option CellId) : Octets :=
  optBytes 2 (h.map fun h => (s.mem.octetsOf h).length)

/-- A robot's state record (R109). DEDUCED (log 14): of the two modes of a period hit, R89 names parked
first, and it is written 0. DESIGN CHOICE (log 15): the service holder is written as its port's index, S0
10 and S1 11, and as 0xFF when there is none; and the cycle index −1 is written as that of a robot with no
port is. -/
def robotState (s : State) (r : RobotId) : Octets :=
  let b := s.robots[r]
  beBytes 1 b.state.code ++ beBytes 1 b.missCount ++ beBytes 1 b.repeatsUsed ++
    beBytes 2 b.probation ++ boolBytes b.barred ++ beBytes 2 b.armingCount ++
    optBytes 1 (b.holder.map fun w => (windowPort w).val) ++ timestampBytes b.periodStart ++
    boolBytes b.partialPeriod ++ boolBytes b.disturbed ++ boolBytes b.openingTaken ++
    optBytes 1 (b.hit.map firstOfTwo) ++ heldLength s b.slot ++ heldLength s b.store ++
    s.counters.robot[r].toList.flatMap (beBytes 4) ++ optBytes 1 (b.port.map Fin.val) ++
    optInt 8 (b.port.map fun p => s.gates[p].cycleIndex)

/-- The CONTROLLER record (R109). -/
def controllerState (s : State) : Octets :=
  beBytes 1 s.watch.state.code ++ beBytes 8 s.watch.restartTime ++
    beBytes 8 (s.clock.run - s.watch.restartTime) ++ beBytes 1 s.watch.action.code ++
    beBytes 1 s.armedCount

/-! ## TRACKER and TRACKING LIST (R129) -/

/-- The TRACKER record (R129). DESIGN CHOICE (log 15): the phase state is one octet with A in bit 1 and B
in bit 0, the code that R197 gives for ENCODER_FAULT alone; and the leading position, the record link and
the head's and tail's numbers take 4 octets, so the value 2^32 − 1 of each is written as none is. -/
def trackerState (s : State) : Octets :=
  let t := s.tracker
  beBytes 4 t.position.toNat ++ beBytes 1 (levelsCode t.phaseA t.phaseB) ++
    beBytes 1 t.cfg.mode.code ++ beBytes 3 t.speed ++ beBytes 1 t.direction.code ++
    boolBytes t.still ++ boolBytes s.atRest ++ beBytes 4 t.highWater.toNat ++
    boolBytes t.excursion ++ beBytes 1 (firstOfTwo t.sense) ++ beBytes 1 t.sensor.code ++
    optBytes 4 (t.leading.map BitVec.toNat) ++ optBytes 4 (t.link.map BitVec.toNat) ++
    beBytes 2 t.records.length ++ optBytes 4 (t.records.head?.map fun r => r.seq.toNat) ++
    optBytes 4 (t.records.getLast?.map fun r => r.seq.toNat) ++ beBytes 4 t.nextSeq.toNat ++
    boolBytes s.hold.present.trackFull ++ boolBytes s.hold.present.jam

/-- A verdict state and its reason. DESIGN CHOICE (log 15): the reason octet of a state other than REJECT,
which has no reason, is 0. -/
def verdictBytes : VerdictState → Octets
  | .pending => [0, 0]
  | .notRequired => [1, 0]
  | .pass => [2, 0]
  | .reject reason => [3] ++ beBytes 1 reason
  | .noImage => [4, 0]

/-- A tracking record in 21 octets. -/
def trackBytes (r : TrackRec) : Octets :=
  beBytes 4 r.seq.toNat ++ beBytes 4 r.position.toNat ++ r.verdicts.toList.flatMap verdictBytes ++
    r.triggered.toList.flatMap boolBytes ++ boolBytes r.jam

/-- The records at `n` list positions from `first` on, none beyond the list (R129). DESIGN CHOICE (log
15): the count that precedes them is the one asked for, and a position beyond the list has 21 octets. -/
def trackingState (l : List TrackRec) (first n : Nat) : Octets :=
  beBytes 1 n ++ (List.range n).flatMap fun i => optItem 21 (l[first + i]?.map trackBytes)

/-! ## CAMERA and REJECT STATION (R150) -/

/-- A CAMERA record (R150): the output is IDLE 0 or PULSING 1 (R131, R195). DEDUCED (log 15): the
remaining of a pulse is written as none in IDLE. -/
def cameraState (s : State) (c : CameraId) : Octets :=
  let k := s.cameras[c]
  k.cfg.bytes ++ beBytes 4 k.pointer.toNat ++ boolBytes k.pulseEnd.isSome ++
    optBytes 2 (k.pulseEnd.map fun t => t - s.clock.run)

/-- A reason in 3 octets: its code, and for CAMERA the camera and the reason. DESIGN CHOICE (log 15): the
two are 0xFF for another reason, and all three for a PASS. -/
def reasonBytes : Option RejectReason → Octets
  | none => noneBytes 3
  | some .jam => [0] ++ noneBytes 2
  | some (.camera c reason) => [1] ++ beBytes 1 c.val ++ beBytes 1 reason
  | some .noImage => [2] ++ noneBytes 2
  | some .noVerdict => [3] ++ noneBytes 2

/-- A decision in 12 octets: sequence number, outcome, reason and position. DESIGN CHOICE (log 45): the
outcome PASS is written 0 and REJECT 1. -/
def decisionBytes (d : Decision) : Octets :=
  beBytes 4 d.seq.toNat ++ boolBytes d.reason.isSome ++ reasonBytes d.reason ++
    beBytes 4 d.position.toNat

/-- The REJECT STATION record (R150). DESIGN CHOICE (log 45): the level of an output is written 1 while it
is asserted and 0 while it is released. DESIGN CHOICE (log 15): the dwell start takes 4 octets and
a release time 8, so the last value of each is written as none is. -/
def rejectState (s : State) : Octets :=
  let x := s.reject
  beBytes 1 x.cfg.mode.code ++ beBytes 1 x.state.code ++ boolBytes x.state.drivesA ++
    boolBytes x.state.drivesB ++
    boolBytes (if x.cfg.mode = .pulse then x.heldFire else x.extendPending) ++
    optBytes 4 (x.dwellStart.map BitVec.toNat) ++ optBytes 8 x.releaseA ++ optBytes 8 x.releaseB ++
    beBytes 8 x.inhibitEnd ++ beBytes 3 x.lead ++ beBytes 3 x.leadSpeed ++
    optItem 12 (x.last.map decisionBytes)

/-! ## SERVICE (R169) -/

/-- A window's state record (R169). DESIGN CHOICE (log 15): the supervision states are those of the held
robots and then of the pending ones, each in increasing index, after their count. DESIGN CHOICE (log 15):
both the end time and the remaining time are written, the remaining right after the end time. -/
def serviceState (s : State) (w : WindowId) : Octets :=
  let x := s.windows[w]
  let robots := members x.heldSet ++ members x.pendingSet
  beBytes 1 x.state.code ++ beBytes 1 x.level.code ++ beBytes 4 x.robots.toNat ++
    beBytes 1 x.cameras.toNat ++ beBytes 1 x.mirror.length ++
    x.mirror.flatMap (fun i => beBytes 1 i.val) ++ optItem 6 (x.technician.map macBytes) ++
    boolBytes x.learned ++ beBytes 8 x.endTime ++ beBytes 3 (s.remainingMs w) ++
    boolBytes x.warned ++ beBytes 1 (firstOfTwo (!x.trapCloses)) ++ beBytes 4 x.pendingSet.toNat ++
    beBytes 4 x.heldSet.toNat ++ beBytes 2 x.sessionTraps ++
    optBytes 1 (x.lastClose.map CloseCause.code) ++
    beBytes 1 (firstOfTwo s.ports[windowPort w].link) ++ beBytes 1 robots.length ++
    robots.flatMap fun r => beBytes 1 s.robots[r].state.code

/-! ## LINE HOLD (R174) and NOTICES (R182) -/

/-- The present set as the refusal of RELEASE HOLD carries it: its count, then one octet for each member
in the order of R173 (R197). -/
def presentBytes (p : PresentSet) : Octets :=
  beBytes 1 p.toList.length ++ p.toList.flatMap fun h => beBytes 1 h.code

/-- The present set as a set of R195: a mask in which bit n stands for the hold source of code n, 27 of
them in 4 octets (R174, R197; log 15). -/
def presentMask (p : PresentSet) : Octets :=
  beBytes 4 (p.robots.toNat + (if p.controller then 2 ^ 24 else 0) +
    (if p.trackFull then 2 ^ 25 else 0) + (if p.jam then 2 ^ 26 else 0))

/-- The LINE HOLD record (R174). DESIGN CHOICE (log 15): the last value of run time is written as none
is. -/
def holdState (h : Hold) : Octets :=
  beBytes 1 (firstOfTwo h.latch) ++ beBytes 1 h.cause.code ++ optBytes 8 h.setTime ++
    optBytes 8 h.releaseTime ++ presentMask h.present

/-- A record of the notice queue by its kind, its subject and its repeat count. -/
def noticeSummary (r : NoticeRec) : Octets :=
  beBytes 1 r.event.kind ++ subjectBytes r.event ++ beBytes 2 r.repeats

/-- The NOTICES record (R182). DEDUCED (log 15): the number of records stands as the first item, and the
list of records has its count before it as every list has. DESIGN CHOICE (log 15): the last value of run
time is written as none is. -/
def noticesState (s : State) : Octets :=
  let b := s.notices
  beBytes 1 b.records.length ++ beBytes 2 b.overflow ++ destBytes s.device.noticeDest ++
    beBytes 2 s.device.pacing ++ optBytes 8 b.lastAttempt ++ beBytes 2 b.frameSeq ++
    beBytes 1 b.records.length ++ b.records.flatMap noticeSummary

/-! ## READ STATE (R190) -/

/-- A subject of READ STATE. -/
inductive StateSubject where
  | device | port (p : PortId) | clock | robot (r : RobotId) | controller | tracker
  | trackingList (first count : Nat) | camera (c : CameraId) | reject | service (w : WindowId) | hold
  | notices
  deriving DecidableEq, Repr

/-- The window of a service port's index (R197). -/
def windowOf (index : Nat) : Except Status WindowId :=
  if index = 10 then .ok 0 else if index = 11 then .ok 1 else .error .badIndex

/-- A subject that is its own takes index 0. -/
def ownIndex {α : Type} (index : Nat) (x : α) : Except Status α :=
  if index = 0 then .ok x else .error .badIndex

/-- The subject that a body names: its code and its index, and for TRACKING LIST the first position
and the count (R190). DESIGN CHOICE (log 52): for TRACKING LIST the count is judged before the index, so a
bad count is BAD_VALUE also when the index is not 0. -/
def stateSubject (l : Octets) : Except Status StateSubject :=
  let index := field l 1 2
  match field l 0 1 with
  | 0 => ownIndex index .device
  | 1 => (indexIn 12 index).map .port
  | 2 => ownIndex index .clock
  | 3 => (indexIn 24 index).map .robot
  | 4 => ownIndex index .controller
  | 5 => ownIndex index .tracker
  | 6 =>
    if field l 4 1 = 0 ∨ 32 < field l 4 1 then .error .badValue
    else ownIndex index (.trackingList (field l 3 1) (field l 4 1))
  | 7 => (indexIn 4 index).map .camera
  | 8 => ownIndex index .reject
  | 9 => (windowOf index).map .service
  | 10 => ownIndex index .hold
  | 11 => ownIndex index .notices
  | _ => .error .badValue

/-- A subject's state record, after the checked read that it makes (R18, R190). DESIGN CHOICE (log 8):
the read of a robot's record carries the read kind request, which R186 gives for READ TABLE alone. -/
def stateRecord (x : StateSubject) (s : State) : State × Octets :=
  match x with
  | .device => (s, deviceState s)
  | .port p => (s, portState s p)
  | .clock => (s, clockState s.clock)
  | .robot r =>
    let s := checkRobot r .request s
    (s, robotState s r)
  | .controller => (s, controllerState s)
  | .tracker => (s, trackerState s)
  | .trackingList first n => (s, trackingState s.tracker.records first n)
  | .camera c => (s, cameraState s c)
  | .reject => (s, rejectState s)
  | .service w => (s, serviceState s w)
  | .hold => (s, holdState s.hold)
  | .notices => (s, noticesState s)

/-! ## READ COUNTERS (R189, R198) -/

/-- A subject of READ COUNTERS: a group and its subject. -/
inductive CounterSubject where
  | port (p : PortId) | stream (i : StreamId) | robot (r : RobotId) | controller
  | camera (c : CameraId) | service (w : WindowId) | clock | tracker | reject | device
  deriving DecidableEq, Repr

/-- The subject that a body names: group, clear flag and subject index (R189, R197). -/
def counterSubject (l : Octets) : Except Status CounterSubject :=
  let index := field l 2 2
  match field l 0 1 with
  | 0 => (indexIn 12 index).map .port
  | 1 => (indexIn 256 index).map .stream
  | 2 => if index = 24 then .ok .controller else (indexIn 24 index).map .robot
  | 3 => (indexIn 4 index).map .camera
  | 4 => (windowOf index).map .service
  | 5 => ownIndex index .clock
  | 6 => ownIndex index .tracker
  | 7 => ownIndex index .reject
  | 8 => ownIndex index .device
  | _ => .error .badValue

/-- The counters of a subject, in the order of R198. -/
def Counters.values (k : Counters) : CounterSubject → List Nat
  | .port p => k.port[p].toList
  | .stream i => k.stream[i].toList
  | .robot r => k.robot[r].toList
  | .controller => [k.controllerLosses]
  | .camera c => k.camera[c].toList
  | .service w => k.service[w].toList
  | .clock => k.clock.toList
  | .tracker => k.tracker.toList
  | .reject => k.reject.toList
  | .device => k.device.toList

/-- The counters with those of a subject zeroed. -/
def Counters.clear (k : Counters) : CounterSubject → Counters
  | .port p => { k with port := k.port.set p (Vector.replicate 30 0) }
  | .stream i => { k with stream := k.stream.set i (Vector.replicate 5 0) }
  | .robot r => { k with robot := k.robot.set r (Vector.replicate 12 0) }
  | .controller => { k with controllerLosses := 0 }
  | .camera c => { k with camera := k.camera.set c (Vector.replicate 7 0) }
  | .service w => { k with service := k.service.set w (Vector.replicate 5 0) }
  | .clock => { k with clock := Vector.replicate 14 0 }
  | .tracker => { k with tracker := Vector.replicate 9 0 }
  | .reject => { k with reject := Vector.replicate 17 0 }
  | .device => { k with device := Vector.replicate 22 0 }

/-- A subject's counters are zeroed; a clear of the DEVICE group also sets the free low-water mark to
the free count (R41, R189). -/
def clearCounters (x : CounterSubject) (s : State) : State :=
  let s := { s with counters := s.counters.clear x }
  match x with
  | .device => s.modMem fun m => { m with low := m.free.length }
  | _ => s

/-- The body that answers a READ COUNTERS (R197). -/
def countersBody (l : Octets) (values : List Nat) : Octets :=
  l.take 1 ++ [0] ++ slice l 2 2 ++ values.flatMap (beBytes 4)

end Sys2Proof.Machine
end

