-- ==== Sys2Proof/Machine/Requests.lean ====
section
/-! DEFINITION. The run of a request: the checks in their order, the judgement of a technician request,
the answer, and the queue (R160, R184, R185, R192). -/

namespace Sys2Proof.Machine

/-- What a request of one kind does, once it has passed the checks of R185: the state it leaves and its
reply. -/
abbrev Act := Request → State → State × Reply

/-! ## Technician requests (R160) -/

/-- The subject of a technician's READ STATE or READ COUNTERS, given by the code that stands for
robots, is in the window's scope. -/
def ServiceWindow.inScope (x : ServiceWindow) (w : WindowId) (robot camera service : Nat)
    (code index : Nat) : Bool :=
  (decide (code = robot) && x.robots.getLsbD index) ||
    (decide (code = camera) && x.cameras.getLsbD index) ||
    (decide (code = service) && decide (index = (windowPort w).val))

/-- The condition under which a technician request of a kind is taken, or none for a kind that is never
taken (R160). DESIGN CHOICE (log 52): a clear flag above 1 is not set here, so the request is taken and
its flag refused as R189 refuses the line controller's. -/
def technicianMay (x : ServiceWindow) (w : WindowId) (k : RequestKind) (l : Octets) : Option Bool :=
  match k with
  | .readState => some (x.inScope w 3 7 9 (field l 0 1) (field l 1 2))
  | .readCounters =>
    some (x.inScope w 2 3 4 (field l 0 1) (field l 2 2) && decide (field l 1 1 ≠ 1))
  | .lowerLevel => some (decide (field l 0 1 < x.level.code))
  | .closeServiceWindow => some (decide (field l 0 1 = (windowPort w).val))
  | _ => none

/-- A technician request that is run is counted once, whatever its answer (R160; log 23). -/
def countTechnician (q : Request) (s : State) : State :=
  match portWindow q.port with
  | some w => bump (.service w .requests) s
  | none => s

/-- A technician request is judged: the state with its refusal counted, and the reply that refuses it,
or none when it is taken (R160). -/
def judgeTechnician (w : WindowId) (q : Request) (s : State) : State × Option Reply :=
  let refused := (bump (.service w .refusals) s, some (Reply.bare .notPermitted))
  let x := s.windows[w]
  if x.state ≠ .active ∨ x.technician ≠ some q.source then refused
  else match requestKindOf q.kind with
    | none => refused
    | some k =>
      match technicianMay x w k q.body with
      | none => refused
      | some may =>
        if q.body.length < fixedOctets k q.body then (s, some (.bare .badValue))
        else if may then (s, none)
        else refused

/-! ## The checks of R185 -/

/-- A request is run: its header is checked, a technician request is judged, and one that passes is
acted on (R185). -/
def perform (act : Act) (q : Request) (s : State) : State × Reply :=
  if q.version ≠ 1 then (s, .bare .unknownRequest)
  else if !q.bodyFits then (s, .bare .tooLong)
  else match portWindow q.port with
    | some w =>
      match judgeTechnician w q s with
      | (s, some r) => (s, r)
      | (s, none) => act q s
    | none =>
      match requestKindOf q.kind with
      | none => (s, .bare .unknownRequest)
      | some k =>
        if q.body.length < fixedOctets k q.body then (s, .bare .badValue) else act q s

/-- The request's result, unless its answer would exceed the longest frame: then it is TOO_LONG and
has changed nothing (R185). A technician request is counted first. -/
def performFitted (act : Act) (q : Request) (s : State) : State × Reply :=
  let s := countTechnician q s
  let r := perform act q s
  if Config.maxFrame < (answerFrame s.station q r.2).length then (s, .bare .tooLong) else r

/-! ## The queue (R184) -/

/-- The request that is to be run: the head of the queue, when no RESTART waits there to be carried
out, and when this row stands for it. -/
def State.headRequest (s : State) (row : RequestRow) : Option Request :=
  match s.mgmt.queue, s.mgmt.restart with
  | q :: _, none => if q.row = row then some q else none
  | _, _ => none

/-- The request at the head leaves the queue (R184). -/
def leaveQueue (s : State) : State := s.modMgmt fun m => { m with queue := m.queue.tail }

/-- A request is run and answered, and leaves the queue; `after` is what follows its answer. -/
def runRequest (act : Act) (after : Request → Reply → State → State) (q : Request) (s : State) :
    State :=
  let (s, r) := performFitted act q s
  after q r (leaveQueue (sendAnswer q r s).1)

/-- The head request is run when this row stands for it (R184); otherwise nothing is done (log 2). -/
def runHead (row : RequestRow) (act : Act) (s : State) : State :=
  match s.headRequest row with
  | some q => runRequest act (fun _ _ s => s) q s
  | none => s

/-- Nothing more than an answer. -/
def refuse (x : Status) (s : State) : State × Reply := (s, .bare x)

/-- The state and reply of a check chain: an error leaves the state as it was. -/
def orRefuse (s : State) (x : Except Status (State × Reply)) : State × Reply :=
  match x with
  | .ok r => r
  | .error c => refuse c s

/-- A taken request's OK, with a body. -/
def taken (s : State) (body : Octets) : State × Reply := (s, { status := .ok, body := body })

end Sys2Proof.Machine
end

