-- ==== Sys2Proof/Machine/ControlRequests.lean ====
section
/-! DEFINITION. The requests of the supervisor, the hall clock, the gate lists, the tracker, the
service block and the hold (R54, R55, R70, R71, R90, R91, R108, R126, R153 to R155, R161, R173). -/

namespace Sys2Proof.Machine

/-! ## ARM ROBOT and DISARM ROBOT (R90, R91) -/

/-- A stream record fits a robot as its status or command stream (R90). -/
def Stream.fitsRobot (x : Stream) (r : RobotId) (role : StreamRole) : Bool :=
  x.cfg.valid && !x.damaged && decide (x.cfg.role = role) && decide (x.cfg.subject = .robot r)

/-- The one line port of a command stream's egress set, of role ROBOT, whose active list has the
command window (R90). -/
def State.armPort (s : State) (r : RobotId) : Option PortId :=
  let b := s.robots[r].cfg
  match members s.streams[b.commandStream].cfg.egress with
  | [p] =>
    if s.ports[p].cfg.role = .robot then
      match s.gates[p].active with
      | some l => if b.window < l.windows.length then some p else none
      | none => none
    else none
  | _ => none

/-- The third check of R90: the port that arming gives the robot, or none for BAD_VALUE. -/
def State.armable (s : State) (r : RobotId) : Option PortId :=
  let b := s.robots[r]
  let c := s.streams[b.cfg.commandStream]
  if !b.damaged && s.streams[b.cfg.statusStream].fitsRobot r .status && c.fitsRobot r .command &&
      decide (c.cfg.cls = .cycle) && decide (c.cfg.maxLength ≤ 256) then
    s.armPort r
  else none

/-- An armed robot joins the pending set of each ACTIVE MAINTAIN window whose robot set holds it
(R163). -/
def joinPending (r : RobotId) (s : State) : State :=
  forEach [(0 : WindowId), 1]
    (fun w s => s.modWindow w fun x =>
      if x.maintains && x.robots.getLsbD r then { x with pendingSet := withMember x.pendingSet r }
      else x) s

/-- The records that ARM ROBOT reads are checked: the robot's, then its two streams' (R18, R90). DESIGN
CHOICE (log 8): these reads carry the read kind request, which R186 gives for READ TABLE alone; and all
three are made, and counted and noticed, also when an earlier one finds its record damaged or unfit. -/
def armReads (r : RobotId) (s : State) : State :=
  let s := checkRobot r .request s
  let s := checkStream s.robots[r].cfg.statusStream .request s
  checkStream s.robots[r].cfg.commandStream .request s

def actArm : Act := fun q s =>
  match indexIn 24 (field q.body 0 1) with
  | .error x => refuse x s
  | .ok r =>
    if s.robots[r].state ≠ .idle then refuse .wrongState s
    else
      let s := armReads r s
      match s.armable r with
      | none => refuse .badValue s
      | some p =>
        taken (joinPending r (enterArming r (s.modRobot r fun b => { b with port := some p }))) []

/-- ARM_ROBOT. -/
def execArmRobot (s : State) : Result := .next (runHead (.other .armRobot) actArm s)

def actDisarm : Act := fun q s =>
  match indexIn 24 (field q.body 0 1) with
  | .error x => refuse x s
  | .ok r =>
    if s.robots[r].state = .service then refuse .wrongState s
    else if s.robots[r].state = .idle then taken s []
    else taken (toIdle r s) []

/-- DISARM_ROBOT. -/
def execDisarmRobot (s : State) : Result := .next (runHead (.other .disarmRobot) actDisarm s)

/-! ## SET LOSS ACTION (R108) -/

def actLossAction : Act := fun q s =>
  match policyOf (field q.body 0 1) with
  | none => refuse .badValue s
  | some .holdLine =>
    let s := s.modWatch fun w => { w with action := .holdLine }
    taken (if s.watch.state = .lost then joinHold .controller s else s) []
  | some .report =>
    if s.watch.action = .report then taken s [] else refuse .notPermitted s

/-- SET_LOSS_ACTION. -/
def execSetLossAction (s : State) : Result := .next (runHead (.other .setLossAction) actLossAction s)

/-! ## SET CLOCK and ADJUST CLOCK (R54, R55) -/

/-- A time without a fraction, read from 10 octets (R195). -/
def baseTimeOf (l : Octets) : BaseTime := { sec := field l 0 6, ns := field l 6 4 }

/-- A request steps hall time (R53 to R55). -/
def requestStep (cause : StepCause) (hall : HallTime) (offset : Int) (s : State) : State :=
  raise (.clockStep cause offset) (stepTo hall (clockRequest s))

def actSetClock : Act := fun q s =>
  let t := baseTimeOf q.body
  if 999999999 < t.ns then refuse .badValue s
  else
    taken (requestStep .set { sec := t.sec, ns := t.ns, frac := s.clock.hall.frac }
      (setOffset s.clock.hall t) s) []

/-- SET_CLOCK. -/
def execSetClock (s : State) : Result := .next (runHead (.other .setClock) actSetClock s)

def actAdjustClock : Act := fun q s =>
  let v := signedOf (slice q.body 0 6)
  if 1099511627776 < v.natAbs then refuse .badValue s
  else taken (requestStep .adjust (s.clock.hall.stepBy v) (-v) s) []

/-- ADJUST_CLOCK. -/
def execAdjustClock (s : State) : Result := .next (runHead (.other .adjustClock) actAdjustClock s)

/-! ## LOAD SCHEDULE and COMMIT SCHEDULE (R65, R70, R71) -/

/-- The windows of a body, of 4 octets each: none when one names a queue outside Q0 to Q3. -/
def windowsOf : Nat → Octets → Option (List GateWindow)
  | 0, _ => some []
  | n + 1, l => do
    let set ← setOf 4 (field l 3 1)
    let rest ← windowsOf n (l.drop 4)
    some ({ duration := field l 0 3, openSet := set } :: rest)

/-- A gate list satisfies the limits of R65. -/
def GateList.ok (l : GateList) : Bool :=
  decide (1 ≤ l.windows.length ∧ l.windows.length ≤ 16) &&
    decide (125000 ≤ l.cycle ∧ l.cycle ≤ 10000000 ∧ l.cycle % 8 = 0) &&
    l.windows.all (fun w => decide (64 ≤ w.duration ∧ w.duration % 8 = 0)) &&
    decide ((l.windows.map GateWindow.duration).sum ≤ l.cycle) && decide (l.base.ns ≤ 999999999) &&
    decide (l.base.sec < secWrap)

/-- The gate list that the body of a LOAD SCHEDULE carries after its port, or none for BAD_VALUE. -/
def gateListOf (l : Octets) : Option GateList :=
  let n := field l 13 1
  if 16 < n ∨ l.length < 14 + 4 * n then none
  else match windowsOf n (l.drop 14) with
    | none => none
    | some ws =>
      let g : GateList := { cycle := field l 0 3, base := baseTimeOf (slice l 3 10), windows := ws }
      if g.ok then some g else none

def actLoadSchedule : Act := fun q s =>
  orRefuse s do
    let p ← indexIn 12 (field q.body 0 1)
    let l ← valueOf (gateListOf (q.body.drop 1))
    need (!s.gates[p].commit) .busy
    pure (taken (s.modGate p fun g => { g with loaded := some l }) [])

/-- LOAD_SCHEDULE. -/
def execLoadSchedule (s : State) : Result := .next (runHead (.other .loadSchedule) actLoadSchedule s)

/-- Why a port of a COMMIT SCHEDULE refuses it (R71, check 3). -/
def Gate.commitFault (g : Gate) : Option Status :=
  if g.commit then some .busy else if g.loaded.isNone then some .wrongState else none

/-- The first port that refuses a COMMIT SCHEDULE, in index order, and its code. -/
def State.commitRefusal (s : State) (ports : List PortId) : Option (PortId × Status) :=
  ports.findSome? fun p => s.gates[p].commitFault.map fun x => (p, x)

/-- A commit is marked pending on a port (R71), for boundaries that hall time has yet to reach (R72). -/
def markCommit (t : Option BaseTime) (p : PortId) (s : State) : State :=
  s.modGate p fun g =>
    { g with commit := true, activation := t }.fixCommit s.clock.hall

/-- COMMIT SCHEDULE (R71). DESIGN CHOICE (log 28): the refusal of a port carries the port's index in 1 octet
as R71 says, also the BUSY refusal of a pending commit, although R197 gives a BUSY answer body length 0. -/
def actCommitSchedule : Act := fun q s =>
  let time := slice q.body 2 10
  match setOf 12 (field q.body 0 2) with
  | none => refuse .badIndex s
  | some set =>
    if set = 0 then refuse .badIndex s
    else if !isNone time && decide (999999999 < (baseTimeOf time).ns) then refuse .badValue s
    else match s.commitRefusal (members set) with
      | some (p, x) => (s, { status := x, body := beBytes 1 p.val })
      | none =>
        let t := if isNone time then none else some (baseTimeOf time)
        (forEach (members set) (markCommit t) s, .bare .pending)

/-- COMMIT_SCHEDULE. -/
def execCommitSchedule (s : State) : Result :=
  .next (runHead (.other .commitSchedule) actCommitSchedule s)

/-! ## CLEAR TRACKING (R126, R136) -/

/-- The list is emptied, H is the position, and every trigger pointer is the next sequence number. -/
def clearList (s : State) : State :=
  let s := s.modTracker fun t =>
    { t with records := [], highWater := t.position, excursion := false }
  let s := { s with cameras := s.cameras.map fun c => { c with pointer := s.tracker.nextSeq } }
  bump (.tracker .clears) (leaveHold .trackFull s)

def actClearTracking : Act := fun _ s =>
  if s.atRest then taken (clearList s) (beBytes 2 s.tracker.records.length)
  else refuse .wrongState s

/-- CLEAR_TRACKING. -/
def execClearTracking (s : State) : Result :=
  .next (runHead (.other .clearTracking) actClearTracking s)

/-! ## Service windows (R153 to R155, R160, R161) -/

def levelOf : Nat → Option ServiceLevel
  | 0 => some .observe
  | 1 => some .adjust
  | 2 => some .maintain
  | _ => none

/-- REPORT is 0 and CLOSE 1. -/
def trapActionOf : Nat → Option Bool
  | 0 => some false
  | 1 => some true
  | _ => none

/-- A technician address in 6 octets: none, or an individual address. -/
def technicianOf (l : Octets) : Option (Option Mac) :=
  if isNone l then some none
  else
    let a := BitVec.ofNat 48 (beNat l)
    if isGroup a then none else some (some a)

/-- What an OPEN SERVICE WINDOW grants. -/
structure Grant where
  level : ServiceLevel
  robots : RobotSet
  cameras : CameraSet
  mirror : List StreamId
  seconds : Nat
  trapCloses : Bool
  technician : Option Mac
  deriving DecidableEq, Repr

/-- The grant that a body carries after its port, its duration clamped to 1 to 3,600 s; none for
BAD_VALUE (R153). -/
def grantOf (l : Octets) : Option Grant :=
  let n := field l 6 1
  let rest := l.drop (7 + n)
  if 8 < n ∨ l.length < 16 + n then none
  else do
    let level ← levelOf (field l 0 1)
    let robots ← setOf 24 (field l 1 4)
    let cameras ← setOf 4 (field l 5 1)
    let trap ← trapActionOf (field rest 2 1)
    let technician ← technicianOf (slice rest 3 6)
    let mirror := (slice l 7 n).map fun o => (Fin.ofNat 256 o.toNat : StreamId)
    if mirror.Nodup then
      some { level := level, robots := robots, cameras := cameras, mirror := mirror,
             seconds := max 1 (min (field rest 0 2) Config.windowMaxSeconds), trapCloses := trap,
             technician := technician }
    else none

/-- A window is granted (R153). -/
def grantWindow (w : WindowId) (g : Grant) (s : State) : State :=
  let s := s.modWindow w fun x =>
    { x with
      state := .granted, level := g.level, robots := g.robots, cameras := g.cameras
      mirror := g.mirror, technician := g.technician, learned := false
      endTime := s.clock.run + g.seconds * 1000000, warned := false, trapCloses := g.trapCloses
      pendingSet := 0, heldSet := 0, sessionTraps := 0 }
  let s := raise (.serviceOpened w g.level g.seconds) s
  if g.seconds ≤ 60 then warnWindow w s else s

def actOpenWindow : Act := fun q s =>
  orRefuse s do
    let w ← windowOf (field q.body 0 1)
    let g ← valueOf (grantOf (q.body.drop 1))
    need (decide (s.windows[w].state = .closed) && s.ports[windowPort w].link) .wrongState
    pure (taken (grantWindow w g s) (beBytes 2 g.seconds))

/-- OPEN_SERVICE_WINDOW. -/
def execOpenServiceWindow (s : State) : Result :=
  .next (runHead (.other .openServiceWindow) actOpenWindow s)

/-- The new remaining of an extended window in milliseconds: the old remaining, in whole milliseconds
(R151), and the added time, clamped to 3,600 s (R154). -/
def extendedRemaining (s : State) (w : WindowId) (seconds : Nat) : Nat :=
  min (s.remainingMs w + seconds * 1000) (Config.windowMaxSeconds * 1000)

/-- A window is extended to a new remaining in milliseconds (R154). -/
def extendWindow (w : WindowId) (remaining : Nat) (s : State) : State :=
  let s := s.modWindow w fun x => { x with endTime := s.clock.run + remaining * 1000 }
  if Config.expiryWarning < remaining then s.modWindow w fun x => { x with warned := false }
  else if s.windows[w].warned then s
  else warnWindow w s

def actExtendWindow : Act := fun q s =>
  orRefuse s do
    let w ← windowOf (field q.body 0 1)
    need s.windows[w].isOpen .wrongState
    let remaining := extendedRemaining s w (field q.body 1 2)
    pure (taken (extendWindow w remaining s) (beBytes 3 remaining))

/-- EXTEND_SERVICE_WINDOW. -/
def execExtendServiceWindow (s : State) : Result :=
  .next (runHead (.other .extendServiceWindow) actExtendWindow s)

/-- CLOSE SERVICE WINDOW: the line controller's closes the window; the technician's is answered
first (R155, R160). -/
def actCloseWindow : Act := fun q s =>
  if q.technician then taken s []
  else
    orRefuse s do
      let w ← windowOf (field q.body 0 1)
      need s.windows[w].isOpen .wrongState
      pure (taken (closeWindow w .controller s) [])

/-- The technician's window closes once the answer has been built (R160). -/
def closeAfter (q : Request) (r : Reply) (s : State) : State :=
  match portWindow q.port with
  | some w => if r.status = .ok then closeWindow w .technician s else s
  | none => s

/-- CLOSE_SERVICE_WINDOW. -/
def execCloseServiceWindow (s : State) : Result :=
  .next
    (match s.headRequest (.other .closeServiceWindow) with
    | some q => runRequest actCloseWindow closeAfter q s
    | none => s)

/-- A window's level is lowered; from MAINTAIN its robots are released (R161). -/
def lowerWindow (w : WindowId) (level : ServiceLevel) (s : State) : State :=
  let was := s.windows[w].level
  let s := s.modWindow w fun x => { x with level := level }
  if was = .maintain then releaseRobots w s else s

/-- LOWER LEVEL: from the line controller it is NOT_PERMITTED (section 11.8). -/
def actLowerLevel : Act := fun q s =>
  match portWindow q.port, levelOf (field q.body 0 1) with
  | some w, some level => taken (lowerWindow w level s) []
  | _, _ => refuse .notPermitted s

/-- LOWER_LEVEL. -/
def execLowerLevel (s : State) : Result := .next (runHead (.other .lowerLevel) actLowerLevel s)

/-! ## RELEASE HOLD (R173) -/

/-- The milliseconds the latch was held, held at 4,294,967,295. -/
def heldMs (s : State) : Nat := min (toMs (s.clock.run - s.hold.setTime.getD 0)) 4294967295

/-- The latch is RELEASED. -/
def releaseLatch (s : State) : State :=
  let ms := heldMs s
  let s := s.modHold fun h => { h with latch := false, releaseTime := some s.clock.run }
  bump (.device .releases) (raise (.holdReleased ms) s)

def actReleaseHold : Act := fun _ s =>
  match s.hold.present.toList with
  | _ :: _ =>
    (bump (.device .releaseRefusals) s,
      { status := .wrongState, body := presentBytes s.hold.present })
  | [] => taken (if s.hold.latch then releaseLatch s else s) []

/-- RELEASE_HOLD. -/
def execReleaseHold (s : State) : Result := .next (runHead (.other .releaseHold) actReleaseHold s)

end Sys2Proof.Machine
end

