-- ==== Sys2Proof/Machine/LineEvents.lean ====
section
/-! DEFINITION. The commands of the encoder, the bottle sensor, the speed window, the trigger pulses
and the ejector's times (R111 to R124, R133, R145, R146, R148). -/

namespace Sys2Proof.Machine

/-- ENCODER_TRANSITION (R111, R112): the pair of levels becomes `a`, `b`. A pair that is not new is no
change. -/
def execEncoderTransition (a b : Bool) (s : State) : Result :=
  .next
    (let t := s.tracker
    if t.phaseA = a ∧ t.phaseB = b then s
    else
      let s := s.modTracker fun t => { t with phaseA := a, phaseB := b }
      if illegalTransition t.phaseA t.phaseB a b then
        raise (.encoderFault t.position t.phaseA t.phaseB a b) (bump (.tracker .encoderFaults) s)
      else
        let raw := quadCount t.cfg.mode t.phaseA t.phaseB a b
        let count := if t.cfg.invert then -raw else raw
        if count = 0 then s else applyCount count s)

/-- SENSOR_LEADING_EDGE (R119): the sensor goes active; while it is active already there is no edge. -/
def execSensorLeadingEdge (s : State) : Result :=
  .next
    (if s.tracker.sensorActive then s
    else leadingEdge (s.modTracker fun t => { t with sense := t.cfg.activeHigh }))

/-- SENSOR_TRAILING_EDGE (R120, R124): the sensor goes inactive; while it is inactive there is no
edge. -/
def execSensorTrailingEdge (s : State) : Result :=
  .next
    (if s.tracker.sensorActive then
      sensorEnds (s.modTracker fun t => { t with sense := !t.cfg.activeHigh })
    else s)

/-- SPEED_WINDOW_END (R115). -/
def execSpeedWindowEnd (s : State) : Result :=
  .next (if s.speedWindowOver then endSpeedWindow s else s)

/-- TRIGGER_PULSE_END (R133): the output becomes IDLE. -/
def execTriggerPulseEnd (c : CameraId) (s : State) : Result :=
  .next (if s.pulseOver c then s.modCamera c fun k => { k with pulseEnd := none } else s)

/-- BLAST_END (R145): EJECT_A is released and the ejector is REST. -/
def execBlastEnd (s : State) : Result :=
  .next
    (if s.phaseOver .blasting then
      s.modReject fun x => { x with state := .rest, releaseA := some s.clock.run }
    else s)

/-- EXTEND_TIME_END (R146): EJECT_A is released and the ejector is DIVERTED, which a dwell already
travelled leaves at once. -/
def execExtendTimeEnd (s : State) : Result :=
  .next
    (if s.phaseOver .extending then
      dwellTest (s.modReject fun x => { x with state := .diverted, releaseA := some s.clock.run })
    else s)

/-- RETRACT_TIME_END (R146): EJECT_B is released; the ejector goes to EXTEND_WAIT when an extend is
pending, and to REST otherwise. -/
def execRetractTimeEnd (s : State) : Result :=
  .next
    (if s.phaseOver .retracting then
      leaveWaits (s.modReject fun x =>
        { x with state := if x.extendPending then .extendWait else .rest,
                 releaseB := some s.clock.run })
    else s)

/-- NON_OVERLAP_END (R146, R148): a wait for the non-overlap time is over. -/
def execNonOverlapEnd (s : State) : Result := .next (leaveWaits s)

/-- INHIBIT_END (R145, R146, R148): the reset inhibit has ended; a held fire is served, or a wait for
it is over. -/
def execInhibitEnd (s : State) : Result :=
  .next
    (if s.reject.inhibitEnd ≤ s.clock.run then
      if s.reject.heldFire then startBlast s else leaveWaits s
    else s)

end Sys2Proof.Machine
end

