-- ==== Sys2Proof/Machine/PortEvents.lean ====
section
/-! DEFINITION. The commands of reception and transmission (R7, R24, R37, R38, R80, R82). -/

namespace Sys2Proof.Machine

/-- RECEPTION_CELL_TAKE (R8, R24, R25): the first octet of an arriving frame stamps it and takes a cell,
and each further 256 octets take one more, up to the 9,216th octet; an overrun reception takes none. A
port that is DOWN receives nothing. -/
def execReceptionCellTake (o : ArrivingOctet) (s : State) : Result :=
  .next
    (if s.ports[o.port].link then
      let r := s.reception o.port
      let (r, mem) :=
        if !r.overrun && s.octetNeedsCell o r then takeCell r s.mem else (r, s.mem)
      { s.modRx o.port (fun x => { x with cur := some r }) with mem := mem }
    else s)

/-- PIECE_RECEIVED (R82, R83): with receive preemption disabled, or when its start delimiter came
before that was enabled (R84), a piece is received as a frame. -/
def execPieceReceived (p : PortId) (marker : PieceMarker) (octets : Octets) (s : State) : Result :=
  .next
    (if s.ports[p].link then
      if s.ports[p].cfg.rxPreempt && (s.reception p).marked then markedPiece p marker octets s
      else wholeFrame p octets s
    else s)

/-- FRAME_RECEPTION_END (R7): reception of a frame ends. -/
def execFrameReceptionEnd (p : PortId) (octets : Octets) (s : State) : Result :=
  .next (if s.ports[p].link then wholeFrame p octets s else s)

/-- TRANSMITTER_CHOICE (R37): an idle transmitter chooses. -/
def execTransmitterChoice (p : PortId) (s : State) : Result :=
  .next (if s.transmitterIdle p then chooseNext p s else s)

/-- PIECE_CUT (R80): a piece whose cut point was chosen ends with its piece check. -/
def execPieceCut (p : PortId) (s : State) : Result :=
  .next
    (match s.egress[p].tx with
    | some t =>
      match t.cutAt with
      | some c => if t.cutEnd p c ≤ s.clock.ticks then cutPiece p t c s else s
      | none => s
    | none => s)

/-- TRANSMISSION_COMPLETE (R38): the last octet of a frame has been sent. -/
def execTransmissionComplete (p : PortId) (s : State) : Result :=
  .next
    (match s.egress[p].tx with
    | some t =>
      if t.cutAt.isNone && decide (t.lastEnd p ≤ s.clock.ticks) then completePiece p t s else s
    | none => s)

end Sys2Proof.Machine
end

