-- ==== Sys2Proof/Machine/TableRequests.lean ====
section
/-! DEFINITION. The table, counter and state requests, RESTART, and the requests of no known kind
(R185 to R190, R192). -/

namespace Sys2Proof.Machine

/-! ## READ TABLE (R186) -/

def actReadTable : Act := fun q s =>
  orRefuse s do
    let count := field q.body 1 1
    let first := field q.body 2 2
    let t ← valueOf (tableOf (field q.body 0 1))
    need (decide (1 ≤ count ∧ count ≤ 32)) .badValue
    need (decide (first + count ≤ t.size)) .badIndex
    let (s, l) := readRecords t count first s
    pure (taken s (q.body.take 4 ++ l))

/-- READ_TABLE. -/
def execReadTable (s : State) : Result := .next (runHead .readTable actReadTable s)

/-! ## WRITE TABLE (R187, R197) -/

/-- The body of a WRITE TABLE's answer: the count written, the refusing code and the refused index. -/
def writeBody (count : Nat) (code : Status) (refused : Option Nat) : Octets :=
  beBytes 1 count ++ beBytes 1 code.code ++ optBytes 2 refused

/-- The reply to a WRITE TABLE by how its writing ended (R187). -/
def WriteEnd.reply (e : WriteEnd) : Reply :=
  match e.refused with
  | none => { status := .ok, body := writeBody e.count .ok none }
  | some (x, i) =>
    { status := if e.count = 0 then x else .partialWrite, body := writeBody e.count x (some i) }

/-- A WRITE TABLE whose table, count or body is bad writes nothing (R187, R197). DEDUCED (log 28): its
answer carries count 0, the code BAD_VALUE and index none. -/
def badWrite (s : State) : State × Reply :=
  (s, { status := .badValue, body := writeBody 0 .badValue none })

def actWriteTable : Act := fun q s =>
  let count := field q.body 1 1
  match tableOf (field q.body 0 1) with
  | none => badWrite s
  | some t =>
    if count = 0 ∨ 32 < count then badWrite s
    else match splitRecords t count (q.body.drop 4) with
      | none => badWrite s
      | some records =>
        let e := writeRecords t records (field q.body 2 2) 0 s
        (e.state, e.reply)

/-- WRITE_PORT_RECORD (R3). -/
def execWritePortRecord (s : State) : Result := .next (runHead (.write .port) actWriteTable s)

/-- WRITE_STREAM_RECORD (R13). -/
def execWriteStreamRecord (s : State) : Result := .next (runHead (.write .stream) actWriteTable s)

/-- WRITE_ROBOT_RECORD (R87). -/
def execWriteRobotRecord (s : State) : Result := .next (runHead (.write .robot) actWriteTable s)

/-- WRITE_HOLD_FRAME (R105). -/
def execWriteHoldFrame (s : State) : Result := .next (runHead (.write .holdFrame) actWriteTable s)

/-- WRITE_CAMERA_RECORD (R130). -/
def execWriteCameraRecord (s : State) : Result := .next (runHead (.write .camera) actWriteTable s)

/-- WRITE_TRACKING_RECORD (R114). -/
def execWriteTrackingRecord (s : State) : Result :=
  .next (runHead (.write .tracking) actWriteTable s)

/-- WRITE_EJECTOR_RECORD (R144). -/
def execWriteEjectorRecord (s : State) : Result := .next (runHead (.write .ejector) actWriteTable s)

/-- WRITE_CLOCK_RECORD (R45). -/
def execWriteClockRecord (s : State) : Result := .next (runHead (.write .clock) actWriteTable s)

/-- WRITE_DEVICE_RECORD (R188). -/
def execWriteDeviceRecord (s : State) : Result := .next (runHead (.write .device) actWriteTable s)

/-! ## READ COUNTERS (R189) and READ STATE (R190) -/

/-- The counters of a subject are returned, and zeroed when the clear flag is set. DESIGN CHOICE (log 52):
the group and the subject are judged before the clear flag, so a bad subject is BAD_INDEX also when the
flag is bad too. -/
def actReadCounters (clear : Bool) : Act := fun q s =>
  orRefuse s do
    let x ← counterSubject q.body
    let _ ← valueOf (yesNoOf (field q.body 1 1))
    let body := countersBody q.body (s.counters.values x)
    pure (taken (if clear then clearCounters x s else s) body)

/-- READ_COUNTERS: the clear flag is not set. -/
def execReadCounters (s : State) : Result := .next (runHead .readCounters (actReadCounters false) s)

/-- READ_AND_CLEAR_COUNTERS: the clear flag is set. -/
def execReadAndClearCounters (s : State) : Result :=
  .next (runHead .readAndClearCounters (actReadCounters true) s)

def actReadState : Act := fun q s =>
  orRefuse s do
    let x ← stateSubject q.body
    let (s, l) := stateRecord x s
    pure (taken s l)

/-- READ_STATE. -/
def execReadState (s : State) : Result := .next (runHead (.other .readState) actReadState s)

/-! ## RESTART (R192) -/

/-- A RESTART is answered and, when it is taken, stays at the head until it is carried out. -/
def runRestart (q : Request) (s : State) : State :=
  let (s, r) := performFitted (fun _ s => taken s []) q s
  let (s, h) := sendAnswer q r s
  if r.status = .ok then
    s.modMgmt fun m =>
      { m with restart := some { answer := h, builtAt := s.clock.run, due := h.isNone } }
  else leaveQueue s

/-- RESTART. -/
def execRestart (s : State) : Result :=
  .next
    (match s.headRequest (.other .restart) with
    | some q => runRestart q s
    | none => s)

/-- UNKNOWN_REQUEST: an unknown version or kind, which the checks of R185 answer. -/
def execUnknownRequest (s : State) : Result :=
  .next (runHead .unknown (fun _ s => refuse .unknownRequest s) s)

end Sys2Proof.Machine
end

