-- ==== Sys2Proof/Machine/TimeEvents.lean ====
section
/-! DEFINITION. The commands of the two time bases, the hall clock and the gate engines (R42, R44, R47,
R52, R57, R68, R69, R77). -/

namespace Sys2Proof.Machine

/-- TIME_MARK (R47): the hall clock reads the oldest mark it has been handed. -/
def execTimeMark (s : State) : Result :=
  .next
    (match s.clock.marks with
    | [] => s
    | m :: rest => readMark m (s.modClock fun c => { c with marks := rest }))

/-- HALL_TIME_ADVANCE (R42): one 8 ns period of reference time. A frame whose first octet leaves a port
now is given its transmit time (R8). -/
def execHallTimeAdvance (s : State) : Result :=
  .next (forEach (List.finRange 12) stampSent (s.modClock fun c =>
    { c with hall := c.hall.advance c.increment, ticks := c.ticks + 1 }))

/-- RUN_TIME_ADVANCE (R44): one microsecond of reference time. The 64-bit count wraps (log 25). -/
def execRunTimeAdvance (s : State) : Result :=
  .next (s.modClock fun c => { c with run := (c.run + 1) % 2 ^ 64 })

/-- MARK_TIMEOUT (R52). -/
def execMarkTimeout (s : State) : Result :=
  .next (if s.clock.holdoverDue then enterHoldover s else s)

/-- PROBE_DUE (R57): the due instant becomes the last due instant. -/
def execProbeDue (s : State) : Result :=
  .next (if s.probeReady then takeProbeDue s.clock.nextProbe s else s)

/-- OPEN_GRID_BOUNDARY (R68): hall time reaches a boundary of the 1 ms grid in OPEN. -/
def execOpenGridBoundary (p : PortId) (s : State) : Result :=
  .next (if s.gates[p].mode = .opened ∧ s.cycleOver p then takeBoundary p s else s)

/-- CYCLE_BOUNDARY (R69): hall time reaches a boundary of the active list in RUNNING. -/
def execCycleBoundary (p : PortId) (s : State) : Result :=
  .next (if s.gates[p].mode = .running ∧ s.cycleOver p then takeBoundary p s else s)

/-- WINDOW_START (R69): hall time reaches a window edge within the cycle. -/
def execWindowStart (p : PortId) (s : State) : Result :=
  .next (if s.windowOver p then takeWindow p s else s)

/-- RESYNC_TARGET_BOUNDARY (R77): hall time reaches the target boundary in RESYNC. -/
def execResyncTargetBoundary (p : PortId) (s : State) : Result :=
  .next
    (match s.gates[p].mode, s.gates[p].active with
    | .resync, some l =>
      if s.clock.hall.reached (l.boundary s.gates[p].target) then takeTarget p l s else s
    | _, _ => s)

end Sys2Proof.Machine
end

