-- ==== Sys2Proof/Machine/Dispatch.lean ====
section
/-! DEFINITION. The dispatch: one arm per command, each one direct call of its meaning. -/

namespace Sys2Proof.Machine

def exec (i : Instr) (s : State) : Host.Outcome State Fault Refusal :=
  match i with
  | .powerOnReset pins => Sys2Proof.Machine.execPowerOnReset pins s
  | .hardReset pins => Sys2Proof.Machine.execHardReset pins s
  | .linkGained p => Sys2Proof.Machine.execLinkGained p s
  | .linkLost p => Sys2Proof.Machine.execLinkLost p s
  | .receptionCellTake o => Sys2Proof.Machine.execReceptionCellTake o s
  | .pieceReceived p marker octets => Sys2Proof.Machine.execPieceReceived p marker octets s
  | .frameReceptionEnd p octets => Sys2Proof.Machine.execFrameReceptionEnd p octets s
  | .timeMark => Sys2Proof.Machine.execTimeMark s
  | .hallTimeAdvance => Sys2Proof.Machine.execHallTimeAdvance s
  | .runTimeAdvance => Sys2Proof.Machine.execRunTimeAdvance s
  | .markTimeout => Sys2Proof.Machine.execMarkTimeout s
  | .probeDue => Sys2Proof.Machine.execProbeDue s
  | .transmitterChoice p => Sys2Proof.Machine.execTransmitterChoice p s
  | .pieceCut p => Sys2Proof.Machine.execPieceCut p s
  | .transmissionComplete p => Sys2Proof.Machine.execTransmissionComplete p s
  | .openGridBoundary p => Sys2Proof.Machine.execOpenGridBoundary p s
  | .cycleBoundary p => Sys2Proof.Machine.execCycleBoundary p s
  | .windowStart p => Sys2Proof.Machine.execWindowStart p s
  | .resyncTargetBoundary p => Sys2Proof.Machine.execResyncTargetBoundary p s
  | .controllerTimeout => Sys2Proof.Machine.execControllerTimeout s
  | .encoderTransition a b => Sys2Proof.Machine.execEncoderTransition a b s
  | .sensorLeadingEdge => Sys2Proof.Machine.execSensorLeadingEdge s
  | .sensorTrailingEdge => Sys2Proof.Machine.execSensorTrailingEdge s
  | .speedWindowEnd => Sys2Proof.Machine.execSpeedWindowEnd s
  | .triggerPulseEnd c => Sys2Proof.Machine.execTriggerPulseEnd c s
  | .blastEnd => Sys2Proof.Machine.execBlastEnd s
  | .extendTimeEnd => Sys2Proof.Machine.execExtendTimeEnd s
  | .retractTimeEnd => Sys2Proof.Machine.execRetractTimeEnd s
  | .nonOverlapEnd => Sys2Proof.Machine.execNonOverlapEnd s
  | .inhibitEnd => Sys2Proof.Machine.execInhibitEnd s
  | .scrubRead struck error => Sys2Proof.Machine.execScrubRead struck error s
  | .serviceExpiryWarning w => Sys2Proof.Machine.execServiceExpiryWarning w s
  | .serviceWindowExpiry w => Sys2Proof.Machine.execServiceWindowExpiry w s
  | .noticeSendAttempt => Sys2Proof.Machine.execNoticeSendAttempt s
  | .restartCarriedOut => Sys2Proof.Machine.execRestartCarriedOut s
  | .readTable => Sys2Proof.Machine.execReadTable s
  | .writePortRecord => Sys2Proof.Machine.execWritePortRecord s
  | .writeStreamRecord => Sys2Proof.Machine.execWriteStreamRecord s
  | .writeRobotRecord => Sys2Proof.Machine.execWriteRobotRecord s
  | .writeHoldFrame => Sys2Proof.Machine.execWriteHoldFrame s
  | .writeCameraRecord => Sys2Proof.Machine.execWriteCameraRecord s
  | .writeTrackingRecord => Sys2Proof.Machine.execWriteTrackingRecord s
  | .writeEjectorRecord => Sys2Proof.Machine.execWriteEjectorRecord s
  | .writeClockRecord => Sys2Proof.Machine.execWriteClockRecord s
  | .writeDeviceRecord => Sys2Proof.Machine.execWriteDeviceRecord s
  | .readCounters => Sys2Proof.Machine.execReadCounters s
  | .readAndClearCounters => Sys2Proof.Machine.execReadAndClearCounters s
  | .readState => Sys2Proof.Machine.execReadState s
  | .restart => Sys2Proof.Machine.execRestart s
  | .armRobot => Sys2Proof.Machine.execArmRobot s
  | .disarmRobot => Sys2Proof.Machine.execDisarmRobot s
  | .setLossAction => Sys2Proof.Machine.execSetLossAction s
  | .setClock => Sys2Proof.Machine.execSetClock s
  | .adjustClock => Sys2Proof.Machine.execAdjustClock s
  | .loadSchedule => Sys2Proof.Machine.execLoadSchedule s
  | .commitSchedule => Sys2Proof.Machine.execCommitSchedule s
  | .clearTracking => Sys2Proof.Machine.execClearTracking s
  | .openServiceWindow => Sys2Proof.Machine.execOpenServiceWindow s
  | .extendServiceWindow => Sys2Proof.Machine.execExtendServiceWindow s
  | .closeServiceWindow => Sys2Proof.Machine.execCloseServiceWindow s
  | .lowerLevel => Sys2Proof.Machine.execLowerLevel s
  | .releaseHold => Sys2Proof.Machine.execReleaseHold s
  | .unknownRequest => Sys2Proof.Machine.execUnknownRequest s

end Sys2Proof.Machine
end

