-- ==== Sys2Proof/Safety.lean ====
section
/-! DEFINITION. The terms in which the statements speak: what a command leaves unchanged, what it counts
and notices, and the invariants of a safe run. -/

namespace Sys2Proof.Machine

/-! ## Frames -/

/-- A notice block with nothing in it. -/
def NoticeBlock.blank : NoticeBlock :=
  { records := [], overflow := 0, lastAttempt := none, frameSeq := 0 }

/-- A state with its counters and its notice block blanked: two states equal under it differ in those
alone. -/
def State.uncounted (s : State) : State :=
  { s with counters := Counters.zero, notices := NoticeBlock.blank }

/-- A state with what the answer to a request may change blanked too: cell memory, the egress side, the
request queue, the counters and the notice block. -/
def State.unanswered (s : State) : State :=
  { s.uncounted with mem := CellMem.reset, egress := Vector.replicate 12 Egress.reset,
                     mgmt := { queue := [], restart := none } }

/-- A state with what a boundary or a window start may change blanked too: beside what an answer may
change, the robots, the controller watch, the service windows and the hold block. -/
def State.unsupervised (s : State) : State :=
  { s.unanswered with
    robots := Vector.replicate 24 Robot.reset, watch := Watch.reset .report
    windows := Vector.replicate 2 ServiceWindow.reset, hold := Hold.reset }

/-! ## Counters and notices -/

/-- The three counters that a raised notice itself grows (R182). -/
def CounterRef.ofNotices : CounterRef → Bool
  | .device .noticesRaised | .device .noticesCoalesced | .device .noticeOverflows => true
  | _ => false

/-- A counter at `v` that grows by at most `n` crosses neither point of R181. -/
def Uncrossed (v n : Nat) : Prop :=
  (Config.counterHalf ≤ v ∨ v + n < Config.counterHalf) ∧
    (Config.counterMax ≤ v ∨ v + n < Config.counterMax)

/-- No counter that a command grows crosses a point of R181: those of `l`, each as often as it stands
there, and those of the notices themselves, of which the command raises `n`. -/
def Quiet (s : State) (l : List CounterRef) (n : Nat) : Prop :=
  ∀ c, c ∈ l ∨ c.ofNotices = true → Uncrossed (s.counter c) (l.count c + n)

/-- From `s` to `t`, the counters of `l` grow by one each time they stand there, saturating, and no
other counter changes but those of notices; and the notices `es` are raised at the hall time `now`, in
their order, and no other, when no counter crosses a point of R181. -/
structure Effects (s t : State) (now : BaseTime) (l : List CounterRef) (es : List NoticeEvent) :
    Prop where
  counters : ∀ c, c.ofNotices = false → t.counter c =
    if c ∈ l then min (s.counter c + l.count c) Config.counterMax else s.counter c
  ofNotices : Quiet s l es.length → ∀ c, c.ofNotices = true →
    min (s.counter c) Config.counterMax ≤ t.counter c ∧ t.counter c ≤ s.counter c + es.length
  notices : Quiet s l es.length →
    t.notices = es.foldl (fun b e => (b.put e now).1) s.notices

/-- A command's result: it completes in a state that differs from `u` in counters and notices alone,
which change as `Effects` says. -/
def Completes (c : Instr) (s u : State) (l : List CounterRef) (es : List NoticeEvent) : Prop :=
  ∃ t, exec c s = .next t ∧ t.uncounted = u.uncounted ∧ Effects s t s.clock.hall.base l es

/-! ## Requests -/

/-- The request `q` is at the head of the queue, no RESTART waits there, and its header is good: its
version is 1, its kind `kind`, its stated body fits, and it came in at a line port. -/
structure LineRequest (s : State) (q : Request) (kind : Nat) : Prop where
  head : s.mgmt.queue.head? = some q
  idle : s.mgmt.restart = none
  version : q.version = 1
  isKind : q.kind = kind
  fits : q.bodyFits = true
  line : q.port.val < 10

/-- A request is run: the command completes, its request leaves the queue, and apart from the answer
the state becomes `u`. -/
def Runs (c : Instr) (s u : State) : Prop :=
  ∃ t, exec c s = .next t ∧ t.unanswered = u.unanswered ∧
    t.mgmt = { s.mgmt with queue := s.mgmt.queue.tail }

/-- The answer `r` to `q` finds room: the port is UP, its Q2 admits the frame, and the free list holds
its cells. -/
def AnswerRoom (s : State) (q : Request) (r : Reply) : Prop :=
  s.ports[q.port].link = true ∧
    s.fitsLimit 2 (cellsFor (answerFrame s.station q r).length) q.port = true ∧
    cellsFor (answerFrame s.station q r).length ≤ s.mem.free.length

/-- The answer `r` to `q` is the last frame waiting in Q2 of the port of arrival. -/
def Answered (t : State) (q : Request) (r : Reply) : Prop :=
  ∃ x f, t.egress[q.port].queues[(2 : QueueId)].getLast? = some x ∧ t.mem.frames[x.frame] = some f ∧
    f.octets = answerFrame t.station q r ∧ f.kind = .answer

/-- A request is run as `Runs` says, and answered `r` when there is room for the answer. -/
def RunsAnswered (c : Instr) (s u : State) (q : Request) (r : Reply) : Prop :=
  ∃ t, exec c s = .next t ∧ t.unanswered = u.unanswered ∧
    t.mgmt = { s.mgmt with queue := s.mgmt.queue.tail } ∧ (AnswerRoom s q r → Answered t q r)

/-- A request is run as `Runs` says, and what it counts and notices is said too: beside the answer's own
refusal and its drop, which count where the answer finds no room, the counters of `l` grow; and when
there is room the request is answered `r` and the notices `es` are raised. -/
def RunsCounting (c : Instr) (s u : State) (q : Request) (r : Reply) (l : List CounterRef)
    (es : List NoticeEvent) : Prop :=
  ∃ t, exec c s = .next t ∧ t.unanswered = u.unanswered ∧
    t.mgmt = { s.mgmt with queue := s.mgmt.queue.tail } ∧
    (∀ k, k ≠ .port q.port (.refused 2) → k ≠ .device (.generationDrops .answer) →
      k.ofNotices = false → t.counter k =
        if k ∈ l then min (s.counter k + l.count k) Config.counterMax else s.counter k) ∧
    (AnswerRoom s q r → Answered t q r ∧ Effects s t s.clock.hall.base l es)

/-- The command that runs a request (log 5). -/
def Request.command (q : Request) : Instr :=
  match q.row with
  | .readTable => .readTable
  | .write .port => .writePortRecord
  | .write .stream => .writeStreamRecord
  | .write .robot => .writeRobotRecord
  | .write .holdFrame => .writeHoldFrame
  | .write .camera => .writeCameraRecord
  | .write .tracking => .writeTrackingRecord
  | .write .ejector => .writeEjectorRecord
  | .write .clock => .writeClockRecord
  | .write .device => .writeDeviceRecord
  | .readCounters | .other .readCounters => .readCounters
  | .readAndClearCounters => .readAndClearCounters
  | .other .readTable => .readTable
  | .other .writeTable => .writePortRecord
  | .other .readState => .readState
  | .other .restart => .restart
  | .other .armRobot => .armRobot
  | .other .disarmRobot => .disarmRobot
  | .other .setLossAction => .setLossAction
  | .other .setClock => .setClock
  | .other .adjustClock => .adjustClock
  | .other .loadSchedule => .loadSchedule
  | .other .commitSchedule => .commitSchedule
  | .other .clearTracking => .clearTracking
  | .other .openServiceWindow => .openServiceWindow
  | .other .extendServiceWindow => .extendServiceWindow
  | .other .closeServiceWindow => .closeServiceWindow
  | .other .lowerLevel => .lowerLevel
  | .other .releaseHold => .releaseHold
  | .unknown => .unknownRequest

/-- The answer to a WRITE TABLE that wrote `n` records and was then refused `x` at index `i` (R187,
R197). -/
def refusedWrite (n : Nat) (x : Status) (i : Nat) : Reply :=
  { status := if n = 0 then x else .partialWrite
    body := beBytes 1 n ++ beBytes 1 x.code ++ beBytes 2 i }

/-- The answer to a WRITE TABLE that wrote all its `n` records (R187, R197). -/
def wholeWrite (n : Nat) : Reply := { status := .ok, body := beBytes 1 n ++ [0, 0xFF, 0xFF] }

/-- A robot may be armed on a port (R90, check 3): its record and its two streams' are sound and fit it,
and the one port of the command stream's egress set has role ROBOT and an active list with the command
window. -/
def State.fitToArm (s : State) (r : RobotId) (p : PortId) : Prop :=
  ∃ (b : RobotCfg) (x y : Stream) (l : GateList), b = s.robots[r].cfg ∧
    x = s.streams[b.statusStream] ∧ y = s.streams[b.commandStream] ∧
    s.robots[r].damaged = false ∧
    x.cfg.valid = true ∧ x.damaged = false ∧ x.cfg.role = .status ∧ x.cfg.subject = .robot r ∧
    y.cfg.valid = true ∧ y.damaged = false ∧ y.cfg.role = .command ∧ y.cfg.subject = .robot r ∧
    y.cfg.cls = .cycle ∧ y.cfg.maxLength ≤ 256 ∧
    (∀ k : PortId, y.cfg.egress.getLsbD k.val = true ↔ k = p) ∧ s.ports[p].cfg.role = .robot ∧
    s.gates[p].active = some l ∧ b.window < l.windows.length

/-! ## The hall clock -/

/-- `n` is `x` ÷ `d` rounded to the nearest whole number, a half away from zero (R43, R48). -/
def Rounded (x : Int) (d : Nat) (n : Int) : Prop :=
  2 * (x - n * d).natAbs ≤ d ∧ (2 * (x - n * d).natAbs = d → x.natAbs < n.natAbs * d)

/-- A mark is malformed (R47): its version is not 1, its nanoseconds exceed 999,999,999, or its carried
delay exceeds 1 s. -/
def Mark.bad (m : Mark) : Prop :=
  field (framePayload m.octets) 0 1 ≠ 1 ∨ 999999999 < field (framePayload m.octets) 8 4 ∨
    65536000000000 < field (framePayload m.octets) 12 8

/-- `n` is the offset of a mark with a link delay of `d` units of 2^-16 ns (R48): its receive time less its
origin time, its carried delay and `d`, in units of 2^-32 ns with the seconds subtracted modulo 2^48 and
read as signed, rounded to whole nanoseconds. -/
def Mark.offsetIs (m : Mark) (d n : Int) : Prop :=
  ∃ corrected span : Int,
    corrected =
      (field (framePayload m.octets) 2 6 * 1000000000 + field (framePayload m.octets) 8 4) *
        4294967296 + (field (framePayload m.octets) 12 8 + d) * 65536 ∧
    -140737488355328 ≤ span ∧ span < 140737488355328 ∧
    ((m.recvTime.sec : Int) - corrected / (1000000000 * 4294967296) - span) % 281474976710656 = 0 ∧
    Rounded (span * (1000000000 * 4294967296) + (m.recvTime.ns * 4294967296 + m.recvTime.frac) -
      corrected % (1000000000 * 4294967296)) 4294967296 n

/-! ## Arriving frames -/

/-- A good frame ends on a port that is UP: its reception holds the cells it needs, and it passes the
receive checks (R7, R24). -/
structure GoodArrival (s : State) (p : PortId) (octets : Octets) (r : Reception) : Prop where
  up : s.ports[p].link = true
  current : s.rx[p].cur = some r
  notOverrun : r.overrun = false
  cells : r.cells.length = (octets.length + 255) / 256
  long : 64 ≤ octets.length
  short : octets.length ≤ 9216
  check : fcsMatches octets = true

/-- The frame's EtherType is none of those that R9 sets apart: management, TIME MARK, RANGE PROBE and
RANGE REPLY. -/
def ordinary (octets : Octets) : Prop :=
  frameEtherType octets ∉ [0x88B5, 0x88B6, 0x88B7, 0x88B8]

/-- The frame matches the stream: its record is the one that carries the frame's key, it holds no bit
error, and its ingress set names the port (R15). -/
def State.matched (s : State) (p : PortId) (octets : Octets) (i : StreamId) : Prop :=
  s.keyHolder (frameDst octets) (frameVlan octets) = some i ∧ s.streams[i].ecc = .clean ∧
    s.streams[i].cfg.ingress.getLsbD p.val = true

/-- The frame is unmatched: no record carries its key, or the one that does holds no bit error and its
ingress set does not name the port (R15). -/
def State.unmatched (s : State) (p : PortId) (octets : Octets) : Prop :=
  s.keyHolder (frameDst octets) (frameVlan octets) = none ∨
    ∃ i, s.keyHolder (frameDst octets) (frameVlan octets) = some i ∧ s.streams[i].ecc = .clean ∧
      s.streams[i].cfg.ingress.getLsbD p.val = false

/-- The reception on a port is over. -/
def State.received (s : State) (p : PortId) : State :=
  { s with rx := upd s.rx p fun x => { x with cur := none } }

/-- The reception on a port is over and its cells have joined the tail of the free list. -/
def State.dropped (s : State) (p : PortId) (r : Reception) : State :=
  { s.received p with mem := { s.mem with free := s.mem.free ++ r.cells } }

/-- What the receive checks count of a good frame (R7). -/
def receivedCounts (p : PortId) (octets : Octets) : List CounterRef :=
  .port p .framesReceived :: List.replicate octets.length (.port p .octetsReceived)

/-- What a matched frame counts of its stream (R16). -/
def streamCounts (i : StreamId) (octets : Octets) : List CounterRef :=
  .stream i .frames :: List.replicate octets.length (.stream i .octets)

/-- A queue admits a frame of `n` cells: the frame passes the free test, which class CYCLE always does,
and the queue's limit test (R29, R30). -/
def State.admits (s : State) (q : QueueId) (n : Nat) (p : PortId) : Bool :=
  (decide (q = 3) || decide (128 ≤ s.mem.free.length)) && s.fitsLimit q n p

/-- A cut trigger stands for the piece on a port's wire (R80): an express frame is at the head of Q3 or Q2
with its gate open, or the piece's own queue gate is closed. -/
def State.cutTriggered (s : State) (p : PortId) (w : Tx) : Prop :=
  s.egress[p].queues[(3 : QueueId)] ≠ [] ∧ s.gates[p].isOpen 3 = true ∨
    s.egress[p].queues[(2 : QueueId)] ≠ [] ∧ s.gates[p].isOpen 2 = true ∨
    s.gates[p].isOpen w.queue = false

/-- The boundary after `k` octets of the piece on the wire is a cut point at or after the current position
(R80): 64 octets of the frame are in the piece before it, 64 remain after it, and the wire has not passed
it, by the model's count of reference periods (log 9). -/
def State.cutPoint (s : State) (p : PortId) (w : Tx) (k : Nat) : Prop :=
  64 ≤ k ∧ k + 64 ≤ w.octets.length - w.offset ∧
    s.clock.ticks ≤ w.startTick + (8 + k) * octetTicks p

/-- `c` is the cut point of the piece `w` once a trigger has been looked for (R80): with a trigger the
earliest one at or after the current position, or none where there is none; without one, or for a piece
that may not be cut or whose cut point is chosen, what it was. -/
structure CutNoted (s : State) (p : PortId) (w : Tx) (c : Option Nat) : Prop where
  kept : w.cuttable = false ∨ w.cutAt.isSome = true ∨ ¬ s.cutTriggered p w → c = w.cutAt
  chosen : w.cuttable = true → w.cutAt = none → s.cutTriggered p w →
    ∀ k, c = some k ↔ s.cutPoint p w k ∧ ∀ j, s.cutPoint p w j → k ≤ j

/-- An entry joins the tail of a queue of a port. Of the rest of the port only a cut point may be chosen
for the piece on the wire, as R80 says. -/
def JoinsTail (s t : State) (p : PortId) (q : QueueId) (x : QEntry) : Prop :=
  ∃ tx, t.egress[p] =
      { s.egress[p] with
        queues := s.egress[p].queues.set q (s.egress[p].queues[q] ++ [x]), tx := tx } ∧
    (s.egress[p].tx = none → tx = none) ∧
    ∀ w, s.egress[p].tx = some w → ∃ c, tx = some { w with cutAt := c } ∧ CutNoted t p w c

/-- A frame is stored once, with one entry in queue `q` of each port of `yes` and a reference for each;
with no such port its cells are returned (R30). -/
def AdmittedTo (s t : State) (q : QueueId) (yes : List PortId) (cells : List CellId)
    (octets : Octets) : Prop :=
  (yes = [] → t.mem = { s.mem with free := s.mem.free ++ cells } ∧ t.egress = s.egress) ∧
    (yes ≠ [] → ∃ h rest, cells = h :: rest ∧
      t.mem = s.mem.store
        { cells := cells, octets := octets, refs := yes.length, kind := .received } ∧
      ∀ x : PortId, (x ∈ yes → JoinsTail s t x q { frame := h, kind := .normal, delayCounted := false,
                                                   holdCounted := false }) ∧
        (x ∉ yes → t.egress[x] = s.egress[x]))

/-- The state `u`, in which a frame of stream `i` has been admitted under its first cell, with the copies
that windows take of it (R35, R168); one of no stream, or that no queue admitted, is not copied. -/
def State.copied (u : State) (i : Option StreamId) (h : Option CellId) : State :=
  match i, h with
  | some i, some h => mirrorFrame i h u
  | _, _ => u

/-- A good frame of a port goes to queue `q` of each of `ports`, and each refusal counts against `owner`
(R30, R31, R41); with no port it is counted unforwarded and its cells are returned (R16, R17). Beside
what it does to queues and cells it counts `l`. One of stream `i` that a queue admits is copied to the
windows then (R168). -/
def Admission (c : Instr) (s : State) (p : PortId) (octets : Octets) (r : Reception)
    (i : Option StreamId) (q : QueueId) (ports : List PortId) (owner : CounterRef)
    (l : List CounterRef) : Prop :=
  (ports = [] → Completes c s (s.dropped p r) (l ++ [.port p .unforwarded]) []) ∧
    (ports ≠ [] → ∃ t,
      exec c s = .next (t.copied i
        (if ports.any (s.admits q r.cells.length) then r.cells.head? else none)) ∧
      t.unanswered = (s.received p).unanswered ∧ t.mgmt = s.mgmt ∧
      AdmittedTo s t q (ports.filter (s.admits q r.cells.length)) r.cells octets ∧
      Effects s t s.clock.hall.base
        (l ++ ((ports.filter fun x => !s.admits q r.cells.length x).flatMap fun x =>
            [.port x (.refused q), owner]) ++
          (ports.filter (s.admits q r.cells.length)).map fun x => .port x (.admitted q)) [])

/-- The subject of a stream is a camera of the window's camera set or a robot of its robot set (R165,
condition 3). -/
def ServiceWindow.covers (x : ServiceWindow) (c : StreamCfg) : Prop :=
  (∃ k : CameraId, c.subject = .camera k ∧ x.cameras.getLsbD k.val = true) ∨
    ∃ r : RobotId, c.subject = .robot r ∧ x.robots.getLsbD r.val = true

/-- The robot a stream is for is IDLE or PARKED, or in SERVICE held by the window at level MAINTAIN
(R165, condition 4). -/
def State.robotAllows (s : State) (w : WindowId) (c : StreamCfg) : Prop :=
  ∀ r : RobotId, c.subject = .robot r → s.robots[r].state = .idle ∨ s.robots[r].state = .parked ∨
    s.robots[r].state = .service ∧ s.robots[r].holder = some w ∧ s.windows[w].level = .maintain

/-- The technician's frame is passed on: the window is ACTIVE and the frame is from the technician
address (R158). -/
def State.passesOn (s : State) (w : WindowId) (octets : Octets) : Prop :=
  s.windows[w].state = .active ∧ s.windows[w].technician = some (frameSrc octets)

/-- A frame on the service port of a window is a trap for this reason, the first that applies, with the
window as it stands (R158, R159, R165). -/
def State.trapsFor (s : State) (w : WindowId) (octets : Octets) (reason : TrapReason) : Prop :=
  match reason with
  | .closed => s.windows[w].state = .closed
  | .groupSource => s.windows[w].state = .granted ∧ s.windows[w].technician = none ∧
      isGroup (frameSrc octets) = true
  | .foreignSource => (s.windows[w].state = .active ∨
      s.windows[w].state = .granted ∧ s.windows[w].technician ≠ none) ∧
      s.windows[w].technician ≠ some (frameSrc octets)
  | .misdirected => s.passesOn w octets ∧ frameEtherType octets = 0x88B5 ∧
      frameDst octets ≠ s.station
  | .unmatched => s.passesOn w octets ∧ ordinary octets ∧ s.unmatched (windowPort w) octets
  | .level => s.passesOn w octets ∧ ordinary octets ∧ s.windows[w].level = .observe ∧
      ∃ i, s.matched (windowPort w) octets i
  | .subject => s.passesOn w octets ∧ ordinary octets ∧ s.windows[w].level ≠ .observe ∧
      ∃ i, s.matched (windowPort w) octets i ∧ ¬s.windows[w].covers s.streams[i].cfg
  | .robotState => s.passesOn w octets ∧ ordinary octets ∧ s.windows[w].level ≠ .observe ∧
      ∃ i, s.matched (windowPort w) octets i ∧ s.windows[w].covers s.streams[i].cfg ∧
        ¬s.robotAllows w s.streams[i].cfg
  | .tooLong => s.passesOn w octets ∧ ordinary octets ∧ s.windows[w].level ≠ .observe ∧
      ∃ i, s.matched (windowPort w) octets i ∧ s.windows[w].covers s.streams[i].cfg ∧
        s.robotAllows w s.streams[i].cfg ∧ s.streams[i].cfg.maxLength < octets.length

/-- The first octet of the frame on a port's wire leaves with the next 8 ns of reference time: the start
delimiter ends 8 octet times after the start (R8, R73). -/
def State.firstOctetLeaves (s : State) (p : PortId) (t : Tx) : Prop :=
  s.egress[p].tx = some t ∧ t.offset = 0 ∧
    t.startTick + 8 * (if p.val < 10 then 1 else 10) = s.clock.ticks + 1

/-! ## Gates and the transmitter's choice -/

/-- A window with open set `x` of list `l` begins at the instant `i`, in the cycle that begins at boundary
`k` or in a later one (R66). -/
def GateList.beginsFrom (l : GateList) (k i : Int) (x : QueueSet) : Prop :=
  ∃ (j : Int) (w : Nat) (v : GateWindow), k ≤ j ∧ l.windows[w]? = some v ∧ x = v.openSet ∧
    i = l.base.toNs + j * l.cycle + l.windowOffset w ∧ i < l.base.toNs + (j + 1) * l.cycle

/-- Ahead of a gate engine, under the list it has now, a window with open set `x` begins at `i`: in what is
left of the cycle in progress or in a later cycle, or in RESYNC from the target boundary on (R73). -/
def Gate.beginsAhead (g : Gate) (i : Int) (x : QueueSet) : Prop :=
  match g.mode, g.active with
  | .running, some l =>
    (∃ (w : Nat) (v : GateWindow), g.windowIndex < w ∧ l.windows[w]? = some v ∧ x = v.openSet ∧
      i = g.cycleStart + l.windowOffset w ∧ i < l.base.toNs + (g.cycleIndex + 1) * l.cycle) ∨
    l.beginsFrom (g.cycleIndex + 1) i x
  | .resync, some l => l.beginsFrom g.target i x
  | _, _ => False

/-- The same, read across the switch-over at `T` to list `l` when one is fixed: from `T` on the windows of
`l` take over, laid from `T` up to the first boundary of `l` later than it, and from there on by `l`
(R72, R73). -/
def Gate.willBegin (g : Gate) (i : Int) (x : QueueSet) : Prop :=
  match g.switchAt, g.loaded with
  | some T, some l =>
    g.beginsAhead i x ∧ i < T ∨
      ∃ k : Int, T < l.base.toNs + k * l.cycle ∧ l.base.toNs + (k - 1) * l.cycle ≤ T ∧
        ((∃ (w : Nat) (v : GateWindow), l.windows[w]? = some v ∧ x = v.openSet ∧
            i = T + l.windowOffset w ∧ i < l.base.toNs + k * l.cycle) ∨
          l.beginsFrom k i x)
  | _, _ => g.beginsAhead i x

/-- A frame at the head of a queue may start: its gate is open; an express frame fits its window (R74); and
a preemptable one finds no remainder held and fits its window too, or transmit preemption is enabled
(R75). -/
def State.mayStart (s : State) (p : PortId) (q : QueueId) (x : QEntry) : Prop :=
  s.gates[p].isOpen q = true ∧ (q.val < 2 → s.egress[p].remainder = none) ∧
    (q.val < 2 ∧ s.ports[p].cfg.txPreempt = true ∨
      s.gates[p].fits p q (s.mem.octetsOf x.frame).length s.clock.hall = true)

/-- A queue's head may start. -/
def State.queueReady (s : State) (p : PortId) (q : QueueId) : Prop :=
  ∃ x, s.egress[p].queues[q].head? = some x ∧ s.mayStart p q x

/-- The head of a preemptable queue is held back by its window alone, for the first time in its run of open
windows (R75). -/
def State.heldBack (s : State) (p : PortId) (q : QueueId) : Bool :=
  match s.egress[p].queues[q] with
  | [] => false
  | x :: _ =>
    !x.holdCounted && s.gates[p].isOpen q && s.egress[p].remainder.isNone &&
      !s.ports[p].cfg.txPreempt &&
      !s.gates[p].fits p q (s.mem.octetsOf x.frame).length s.clock.hall

/-- The heads of the queues of `l` are marked as counted in holds. -/
def State.markHeld (s : State) (p : PortId) (l : List QueueId) : State :=
  s.modEgress p fun e =>
    { e with queues := Vector.ofFn fun q => if q ∈ l then
        match e.queues[q] with
        | [] => []
        | x :: rest => { x with holdCounted := true } :: rest
      else e.queues[q] }

/-- The point at which a piece that begins now with `n` octets of a frame to send is to be cut from the
first: after 64 octets, when an express head waits whose gate is open and 64 octets are left then (R80). -/
def State.cutFromStart (s : State) (p : PortId) (n : Nat) : Option Nat :=
  if (∃ q : QueueId, 2 ≤ q.val ∧ s.egress[p].queues[q] ≠ [] ∧ s.gates[p].isOpen q = true) ∧ 128 ≤ n
  then some 64 else none

/-! ## The encoder and the counters of a group -/

/-- The pair of levels that follows a pair in the forward order 00, 10, 11, 01, as A and B (R111). -/
def nextLevels : Bool × Bool → Bool × Bool
  | (false, false) => (true, false)
  | (true, false) => (true, true)
  | (true, true) => (false, true)
  | (false, true) => (false, false)

/-- The counting mode counts the transition from one pair of levels to the next in the forward order:
X4 counts all four, X2 the two in which A alone changes, X1 the one from 00 to 10 (R111). -/
def countsForward (mode : CountMode) (old : Bool × Bool) : Bool :=
  match mode, old with
  | .x4, _ => true
  | .x2, (false, false) => true
  | .x2, (true, true) => true
  | .x1, (false, false) => true
  | _, _ => false

/-- A counter is one of the counters of a subject of READ COUNTERS (R189, R198). -/
def CounterRef.belongsTo : CounterRef → CounterSubject → Bool
  | .port p _, .port x => decide (p = x)
  | .stream i _, .stream x => decide (i = x)
  | .robot r _, .robot x => decide (r = x)
  | .controllerLosses, .controller => true
  | .camera c _, .camera x => decide (c = x)
  | .service w _, .service x => decide (w = x)
  | .clock _, .clock => true
  | .tracker _, .tracker => true
  | .reject _, .reject => true
  | .device _, .device => true
  | _, _ => false

/-! ## A fire of the ejector -/

/-- The tables of a fire (R145 to R147): what it makes of the ejector `x` at the run time `now` and the
position `pos`, and what it counts beside fires. Where a fire is held in REST and the inhibit has ended,
the first and the third row of R145 both apply; that the fire is absorbed there is the model's choice
(DESIGN CHOICE, log 32). -/
def FireTable (x y : Reject) (now : Nat) (pos : Position) (l : List RejectCounter) : Prop :=
  x.cfg.mode = .pulse ∧
      (x.state = .rest ∧ x.heldFire = false ∧ x.inhibitEnd ≤ now ∧ l = [.blasts] ∧
          y = { x with state := .blasting, phaseEnd := now + x.cfg.blastTime } ∨
        x.state = .rest ∧ x.heldFire = false ∧ now < x.inhibitEnd ∧ l = [.deferredFires] ∧
          y = { x with heldFire := true } ∨
        x.state = .rest ∧ x.heldFire = true ∧ l = [.absorbedFires] ∧ y = x ∨
        x.state = .blasting ∧ l = [.blastRestarts] ∧
          y = { x with phaseEnd := now + x.cfg.blastTime }) ∨
    x.cfg.mode = .diverter ∧
      (x.state = .rest ∧ x.inhibitEnd ≤ now ∧
          (∀ b, x.releaseB = some b → b + x.cfg.nonOverlap ≤ now) ∧ l = [.extendsMade] ∧
          y = { x with dwellStart := some pos, state := .extending, extendPending := false
                       phaseEnd := now + x.cfg.extendTime * 1000 } ∨
        x.state = .rest ∧
          (now < x.inhibitEnd ∨ ∃ b, x.releaseB = some b ∧ now < b + x.cfg.nonOverlap) ∧
          l = [.deferredFires] ∧ y = { x with dwellStart := some pos, state := .extendWait } ∨
        (x.state = .extending ∨ x.state = .extendWait) ∧ l = [.absorbedFires] ∧
          y = { x with dwellStart := some pos } ∨
        x.state = .diverted ∧ l = [] ∧ y = { x with dwellStart := some pos } ∨
        x.state = .retractWait ∧ l = [.retractsCancelled] ∧
          y = { x with dwellStart := some pos, state := .diverted } ∨
        x.state = .retracting ∧ x.extendPending = false ∧ l = [] ∧
          y = { x with dwellStart := some pos, extendPending := true } ∨
        x.state = .retracting ∧ x.extendPending = true ∧ l = [.absorbedFires] ∧
          y = { x with dwellStart := some pos })

/-! ## Invariants -/

/-- R176 and R177: at most 64 records, no two of them of one kind and subject, each with a repeat count
of 1 to 65,535, and an overflow count of at most 65,535. -/
def NoticeInv (s : State) : Prop :=
  s.notices.records.length ≤ Config.noticeCapacity ∧
    s.notices.records.Pairwise (fun a b => a.event.folds b.event = false) ∧
    (∀ r ∈ s.notices.records, 1 ≤ r.repeats ∧ r.repeats ≤ 65535) ∧ s.notices.overflow ≤ 65535

/-- R42, R43 and R50: hall time in its ranges, trim and the integral within their bound, and the
increment that of the trim. -/
def ClockInv (s : State) : Prop :=
  s.clock.hall.wf = true ∧ s.clock.trim.natAbs ≤ 200000 ∧ s.clock.integral.natAbs ≤ 200000 ∧
    s.clock.increment = incrementOf s.clock.trim

/-- R184 and R192: at most four requests are held, and a RESTART that waits is one of them. -/
def RequestInv (s : State) : Prop :=
  s.mgmt.queue.length ≤ Config.requestCapacity ∧ (s.mgmt.restart.isSome = true → s.mgmt.queue ≠ [])

/-- R121: at most 256 records, whose sequence numbers run without a gap up to the next one. -/
def TrackInv (s : State) : Prop :=
  s.tracker.records.length ≤ Config.trackingCapacity ∧
    ∀ i (h : i < s.tracker.records.length),
      (s.tracker.records[i]).seq + BitVec.ofNat 32 (s.tracker.records.length - i) = s.tracker.nextSeq

/-- R170 and R171: while a hold source is present the latch is SET. -/
def HoldInv (s : State) : Prop := s.hold.present.toList ≠ [] → s.hold.latch = true

/-- R101 and R162: a robot is in SERVICE exactly when a window holds it, that window is its holder, and
a window that holds a robot is ACTIVE at level MAINTAIN. -/
def ServiceInv (s : State) : Prop :=
  (∀ (r : RobotId) (w : WindowId), s.windows[w].heldSet.getLsbD r.val = true ↔
      s.robots[r].state = .service ∧ s.robots[r].holder = some w) ∧
    (∀ r : RobotId, s.robots[r].state = .service ↔ s.robots[r].holder.isSome = true) ∧
    (∀ w : WindowId, s.windows[w].heldSet ≠ 0 → s.windows[w].maintains = true)

/-- R21, R89, R91, R106, R107 and R170: a robot that is not armed holds no frame, a damaged one is IDLE,
one that is not IDLE has a robot port, the watch is IDLE exactly when no robot is armed, and a robot or
the controller is a hold source only while it is LOST. -/
def SupervisorInv (s : State) : Prop :=
  (∀ r : RobotId, s.robots[r].state.armed = false → s.robots[r].slot = none ∧ s.robots[r].store = none) ∧
    (∀ r : RobotId, s.robots[r].damaged = true → s.robots[r].state = .idle) ∧
    (∀ r : RobotId, s.robots[r].state ≠ .idle → s.robots[r].port.isSome = true) ∧
    (s.watch.state = .idle ↔ s.noneArmed = true) ∧
    (∀ r : RobotId, s.hold.present.robots.getLsbD r.val = true → s.robots[r].state = .lost) ∧
    (s.hold.present.controller = true → s.watch.state = .lost)

/-- The cells that something holds or that are free (R22, R23). -/
def State.allCellsOf (s : State) : List CellId :=
  s.mem.free ++
    (s.mem.frames.toList.flatMap fun o => (o.map Frame.cells).getD []) ++
    (s.rx.toList.flatMap fun x =>
      ((x.cur.map Reception.cells).getD []) ++ ((x.asm.map Assembly.cells).getD []))

/-- The holders of references on a port (R26). -/
def Egress.holders (e : Egress) : List CellId :=
  (e.queues.toList.flatMap fun l => l.map QEntry.frame) ++ (e.tx.map Tx.frame).toList ++
    (e.remainder.map Remainder.frame).toList

/-- The frames that a reference names, once for each reference (R26). -/
def State.references (s : State) : List CellId :=
  (s.egress.toList.flatMap Egress.holders) ++
    (s.robots.toList.flatMap fun b => b.slot.toList ++ b.store.toList)

/-- R22, R23 and R26: every cell is free or in exactly one frame, stored or arriving; a stored frame
lies under its first cell and its count is the number of its holders, at least one; and a holder's
frame is stored. -/
def CellInv (s : State) : Prop :=
  s.allCellsOf.Perm (List.finRange 2048) ∧
    (∀ h : CellId,
      match s.mem.frames[h] with
      | none => s.references.count h = 0
      | some f => f.cells.head? = some h ∧ 1 ≤ f.refs ∧ s.references.count h = f.refs) ∧
    s.mem.low ≤ s.mem.free.length

/-- R37 and R80: while a piece that may be cut, or is to be cut, is on a port's wire, the port holds no
remainder. -/
def CutInv (s : State) : Prop :=
  ∀ (p : PortId) (t : Tx), s.egress[p].tx = some t → t.cuttable = true ∨ t.cutAt.isSome = true →
    s.egress[p].remainder = none

/-- All invariants of a safe run together. -/
def Safe (s : State) : Prop :=
  NoticeInv s ∧ ClockInv s ∧ RequestInv s ∧ TrackInv s ∧ HoldInv s ∧ ServiceInv s ∧
    SupervisorInv s ∧ CellInv s ∧ CutInv s

end Sys2Proof.Machine
end

