-- ==== Sys2Proof/Certificates/Slice0/Obligations.lean ====
section
/-! DEFINITION. The statements for the provers. Each docstring says which sentences of the spec it
formalises, or that it states the model's own choice. -/

open Sys2Proof Sys2Proof.Machine

/-! ## The step -/

/-- Opcode table, Read first: each command is taken in turn. With a command at the front of the queue, a
step is that command's meaning on the state with the rest of the queue. -/
def Obligations.StepRunsFrontCommand : Prop :=
  ∀ (c : Instr) (rest : List Instr) (s : State), s.pending = c :: rest →
    step s = exec c { s with pending := rest }

/-- Every command completes, whatever the state, and none touches the queue of commands that wait. That
is the model's own choice: a command that is not due, or whose request is not at the head of the request
queue, changes nothing and completes (log 2), and the queue of commands is kept over a reset (log 4). -/
def Obligations.EveryCommandCompletes : Prop :=
  ∀ (c : Instr) (s : State), ∃ t, exec c s = .next t ∧ t.pending = s.pending

/-! ## Power and links -/

/-- R108, R172, R191 and R194: a power-on and a hard reset complete from every state, write the reset
cause and sample the straps; run time is 0, every cell is free, the latch is SET with cause RESET, and
its HOLD_SET is the only notice; a power-on reset makes the loss action REPORT and a hard reset keeps
it. -/
def Obligations.ResetsWriteCauseAndKeepLossAction : Prop :=
  ∀ (pins : ResetPins) (s : State),
    (∃ t, exec (.powerOnReset pins) s = .next t ∧ t.straps.cause = .powerOn ∧
      t.straps.addr = pins.addrStrap ∧ t.straps.mgmt = pins.mgmtStrap ∧ t.watch.action = .report ∧
      t.clock.run = 0 ∧ t.hold.latch = true ∧ t.hold.cause = .reset ∧ t.mem.free = List.finRange 2048 ∧
      t.notices.records.map NoticeRec.event = [.holdSet .reset]) ∧
    (∃ t, exec (.hardReset pins) s = .next t ∧ t.straps.cause = .resetPin ∧
      t.straps.addr = pins.addrStrap ∧ t.straps.mgmt = pins.mgmtStrap ∧
      t.watch.action = s.watch.action ∧ t.clock.run = 0 ∧ t.hold.latch = true ∧
      t.hold.cause = .reset ∧ t.mem.free = List.finRange 2048 ∧
      t.notices.records.map NoticeRec.event = [.holdSet .reset])

/-- R14: after both resets every stream record has the values listed and its counters are 0, no key is
carried by a valid record, so that every frame is unmatched, and a RESTART carried out leaves the table
and its counters unchanged. -/
def Obligations.StreamTableAfterResets : Prop :=
  (∀ (pins : ResetPins) (s : State) (c : Instr), c = .powerOnReset pins ∨ c = .hardReset pins →
    ∃ t, exec c s = .next t ∧
      (∀ i : StreamId, t.streams[i].cfg.valid = false ∧ t.streams[i].damaged = false ∧
        t.streams[i].cfg.key = 0 ∧ t.streams[i].cfg.vlan = 0 ∧ t.streams[i].cfg.ingress = 0 ∧
        t.streams[i].cfg.egress = 0 ∧ t.streams[i].cfg.cls = .bulk ∧
        t.streams[i].cfg.subject = .none ∧ t.streams[i].cfg.role = .plain ∧
        t.streams[i].cfg.maxLength = 9216 ∧
        ∀ k : StreamCounter, t.counter (.stream i k) = 0) ∧
      ∀ (dst : Mac) (vlan : Nat), t.keyHolder dst vlan = none) ∧
  ∀ s : State, ∃ t, exec .restartCarriedOut s = .next t ∧ t.streams = s.streams ∧
    ∀ (i : StreamId) (k : StreamCounter), t.counter (.stream i k) = s.counter (.stream i k)

/-- R88: after both resets every robot record holds the values listed, so that no status frame reads as
parked, and a RESTART carried out leaves every robot record as written. -/
def Obligations.RobotTableAfterResets : Prop :=
  (∀ (pins : ResetPins) (s : State) (c : Instr), c = .powerOnReset pins ∨ c = .hardReset pins →
    ∃ t, exec c s = .next t ∧ ∀ r : RobotId,
      t.robots[r].cfg =
        { statusStream := 0, commandStream := 0, window := 0, period := 1, phase := 0, deadline := 0,
          modeOffset := 0, modeMask := 0x00, parkedValue := 0xFF, tolerance := 3, repeatLimit := 2,
          lossPolicy := .report } ∧
      t.robots[r].port = none ∧ t.robots[r].damaged = false ∧
      ∀ frame : Octets, readsParked t.robots[r].cfg frame = false) ∧
  ∀ s : State, ∃ t, exec .restartCarriedOut s = .next t ∧ ∀ r : RobotId,
    t.robots[r].cfg = s.robots[r].cfg ∧ t.robots[r].port = s.robots[r].port ∧
      t.robots[r].damaged = s.robots[r].damaged

/-- R5: a DOWN port whose link is gained goes UP and raises LINK_CHANGE, and a report that repeats the
state is no transition. -/
def Obligations.LinkGainedRaisesChange : Prop :=
  ∀ (p : PortId) (s : State),
    (s.ports[p].link = true → exec (.linkGained p) s = .next s) ∧
    (s.ports[p].link = false →
      Completes (.linkGained p) s (s.modPort p fun x => { x with link := true }) []
        [.linkChange p true])

/-- R5, R6, R39, R84 and R157: a port whose link is lost goes DOWN and raises LINK_CHANGE; its reception
is aborted, its assembler is IDLE, and its queues, its transmission and its held remainder are gone;
nothing of another port changes. On a service port an open window closes with cause LINK: each robot it
held is ARMING again with no holder, its sets are empty, its technician is absent and SERVICE_CLOSED
carries the cause and the session traps; a CLOSED window stays as it is. That a FIRST or NEXT piece which
the lost link breaks off is not counted in pieces sent is the model's choice (log 36). -/
def Obligations.LinkLostEmptiesThePort : Prop :=
  ∀ (p : PortId) (s : State),
    (s.ports[p].link = false → exec (.linkLost p) s = .next s) ∧
    (s.ports[p].link = true → ∃ t, exec (.linkLost p) s = .next t ∧
      t.mgmt.queue = s.mgmt.queue ∧
      (∀ q : QueueId, t.egress[p].queues[q] = []) ∧ t.egress[p].tx = none ∧
      t.egress[p].remainder = none ∧ (∀ x : PortId, x ≠ p → t.egress[x] = s.egress[x]) ∧
      ((∀ w : WindowId, p.val = 10 + w.val → s.windows[w].state = .closed) →
        t.unanswered = ({ s with ports := upd s.ports p fun x => { x with link := false },
                                 rx := upd s.rx p fun _ => Rx.reset }).unanswered ∧
        Effects s t s.clock.hall.base
          (if s.rx[p].cur.isSome then [.port p .abortedReceptions] else []) [.linkChange p false]) ∧
      (∀ w : WindowId, p.val = 10 + w.val → s.windows[w].state ≠ .closed →
        t.unsupervised = ({ s with ports := upd s.ports p fun x => { x with link := false },
                                   rx := upd s.rx p fun _ => Rx.reset }).unsupervised ∧
        t.windows[w] = { s.windows[w] with
          state := .closed, technician := none, learned := false, warned := false
          lastClose := some .link, pendingSet := 0, heldSet := 0 } ∧
        (∀ r : RobotId, s.windows[w].heldSet.getLsbD r.val = true →
          t.robots[r].state = .arming ∧ t.robots[r].holder = none ∧
            t.robots[r].partialPeriod = true) ∧
        (∀ r : RobotId, s.windows[w].heldSet.getLsbD r.val = false → t.robots[r] = s.robots[r]) ∧
        t.hold = s.hold ∧
        Effects s t s.clock.hall.base
          (if s.rx[p].cur.isSome then [.port p .abortedReceptions] else [])
          [.linkChange p false, .serviceClosed w .link s.windows[w].sessionTraps]))

/-! ## The two clocks -/

/-- R8, R42, R44, R58 and R60: each 8 ns the increment is added to hall time, whose parts stay in their
ranges and whose seconds wrap at 2^48; each microsecond run time counts one. As the first octet of a
frame leaves a port, its transmit time is the hall time then: that of the outstanding probe is recorded
as t1, and that of a range reply is written into it as t3 with its FCS computed anew. Nothing else
changes but the model's own count of reference periods (log 9). That run time wraps modulo 2^64 is the
model's choice (log 25), and so is the instant of the first octet in that count (log 10). -/
def Obligations.TimeBasesAdvance : Prop :=
  (∀ s : State, s.clock.hall.wf = true → ∃ t, exec .hallTimeAdvance s = .next t ∧
    t.clock.hall.wf = true ∧
    t.clock.hall.units = (s.clock.hall.units + s.clock.increment) % (nsWrap * fracPerNs) ∧
    t = { s with clock := { s.clock with hall := t.clock.hall, ticks := s.clock.ticks + 1,
                                         probe := t.clock.probe }
                 egress := t.egress } ∧
    ((∀ q, t.clock.probe = some q → ∃ b, s.clock.probe = some b ∧ q.seq = b.seq) ∧
      ∀ b, s.clock.probe = some b →
        ((∃ p x, s.firstOctetLeaves p x ∧ s.kindOf x.frame = .rangeProbe b.seq) →
          t.clock.probe = some { b with t1 := some t.clock.hall }) ∧
        ((∀ p x, s.firstOctetLeaves p x → s.kindOf x.frame ≠ .rangeProbe b.seq) →
          t.clock.probe = some b)) ∧
    ∀ p : PortId,
      (∀ x, s.firstOctetLeaves p x → s.kindOf x.frame = .rangeReply →
        t.egress[p] = { s.egress[p] with tx := some { x with
          octets := refreshFcs (overwrite x.octets (payloadOffset x.octets + 16)
            (timestampBytes t.clock.hall)) } }) ∧
      ((∀ x, s.firstOctetLeaves p x → s.kindOf x.frame ≠ .rangeReply) →
        t.egress[p] = s.egress[p])) ∧
  (∀ s : State, s.clock.run < 2 ^ 64 → ∃ t, exec .runTimeAdvance s = .next t ∧
    t = { s with clock := { s.clock with run := t.clock.run } } ∧
    (s.clock.run + 1 < 2 ^ 64 → t.clock.run = s.clock.run + 1) ∧
    (s.clock.run + 1 = 2 ^ 64 → t.clock.run = 0))

/-- R52: in ACQUIRING or LOCKED, when the mark timeout has passed since the later of the last accepted
mark and the last clock request, the servo enters HOLDOVER: trim becomes the integral, the increment is
that of the new trim, and CLOCK_HOLDOVER carries the trim; before that, or in another servo state,
nothing happens. R57: when a probe falls due, the due instant becomes the last one and an outstanding
probe counts as lost; with the third loss in a row the delay goes stale and RANGE_STALE carries it. With
no TIME_UP port that is UP no probe is built. R57 and R58: with one, the next probe is outstanding with
the next sequence number modulo 65,536 and no t1 yet, and its frame waits in that port's Q2 when there
is room for it. -/
def Obligations.ClockTimeoutsFallDue : Prop :=
  (∀ s : State,
    ((s.clock.servo = .acquiring ∨ s.clock.servo = .locked) →
      (∃ t, s.clock.lastMark = some t ∨ s.clock.lastRequest = some t) →
      (∀ t, s.clock.lastMark = some t ∨ s.clock.lastRequest = some t →
        t + s.clock.cfg.markTimeout * 1000 ≤ s.clock.run) →
      Completes .markTimeout s
        (s.modClock fun c =>
          { c with servo := .holdover, trim := c.integral, increment := incrementOf c.integral }) []
        [.clockHoldover s.clock.integral]) ∧
    ((s.clock.servo = .unset ∨ s.clock.servo = .holdover ∨
        ∃ t, (s.clock.lastMark = some t ∨ s.clock.lastRequest = some t) ∧
          s.clock.run < t + s.clock.cfg.markTimeout * 1000) →
      exec .markTimeout s = .next s)) ∧
  (∀ (s u : State) (lost : List CounterRef) (stale : List NoticeEvent),
    s.clock.lastProbeDue + s.clock.cfg.probeInterval * 1000 ≤ s.clock.run →
    u = s.modClock (fun c =>
      { c with lastProbeDue := c.lastProbeDue + c.cfg.probeInterval * 1000, probe := none,
               lostProbes := if c.probe.isSome then c.lostProbes + 1 else c.lostProbes,
               stale := c.stale || (c.probe.isSome && decide (3 ≤ c.lostProbes + 1)) }) →
    lost = (if s.clock.probe.isSome then [.clock .probesLost] else []) →
    stale = (if s.clock.probe.isSome ∧ 3 ≤ s.clock.lostProbes + 1 ∧ s.clock.stale = false then
      [.rangeStale s.clock.delay] else []) →
    ((∀ p, s.timeUpPort = some p → s.ports[p].link = false) →
      Completes .probeDue s u lost stale) ∧
    (∀ (p : PortId) (seq : Nat) (frame : Octets), s.timeUpPort = some p →
      s.ports[p].link = true → seq = (s.clock.probeSeq + 1) % 65536 →
      frame = formFrame 0x014A0BFF0001#48 s.station 0 0x88B7 ([1, 0] ++ beBytes 2 seq) →
      ∃ t, exec .probeDue s = .next t ∧ t.mgmt = s.mgmt ∧
        t.unanswered = (u.modClock fun c =>
          { c with probeSeq := seq, probe := some { seq := seq, t1 := none } }).unanswered ∧
        (s.fitsLimit 2 1 p = true → s.mem.free ≠ [] →
          Effects s t s.clock.hall.base lost stale ∧
          ∃ x f, t.egress[p].queues[(2 : QueueId)].getLast? = some x ∧
            t.mem.frames[x.frame] = some f ∧ f.octets = frame ∧ f.kind = .rangeProbe seq)))

/-- R47: a mark with another version than 1, with nanoseconds above 999,999,999 or with a carried delay
above 1 s is counted malformed, and one stamped before the latest step is counted discarded; both leave
the list of marks and change nothing else. R48: the offset is the receive time less the origin time, the
carried delay and D, taken exactly, with the seconds modulo 2^48 and signed, and rounded to whole
nanoseconds, halves away from zero. R47, R49 and R53: an accepted mark read in UNSET, or with an offset
beyond the step limit, steps hall time by its offset: the servo is ACQUIRING with no good mark, the
outstanding probe is cancelled, and every gate engine takes the step; the mark and the step are counted
and CLOCK_STEP carries the cause and the offset. Cell memory and the egress side are left out of the
comparison, since waiting relayed copies are void, a copy may be relayed, and a cut point may be chosen;
where a copy is relayed, so are the other counters and notices. That the offset is not clamped is the
model's choice (log 44). R76: a step leaves an OPEN engine OPEN, with its next boundary the first of the
1 ms grid later than the new hall time, and takes another to RESYNC, with Q3 and Q2 alone open and its
target the first boundary of the active list later than it; the cycle is disturbed, and the lists and a
pending commit stay. The cycle index that an engine holds after a step until the next boundary is the
model's choice (log 42). R61: with relay enabled, an accepted mark, one that steps hall time or not, is
copied once for Q2 of every TIME_DOWN port that is UP and has room: the mark with the station address as
its source, and with its receive time and carried delay beside it; of a mark that steps, the receive time
less the offset (R62). With no TIME_DOWN port nothing is built or counted; with all of them DOWN one
generation drop is. -/
def Obligations.MarkBeyondTheLimitSteps : Prop :=
  (∀ (s : State) (m : Mark) (rest : List Mark), s.clock.marks = m :: rest → m.malformed = false →
    m.epoch = s.clock.epoch →
    (s.clock.servo = .unset ∨
      s.clock.cfg.stepLimit < (m.offset (s.clock.delay.getD 0)).natAbs) →
    ∃ t, exec .timeMark s = .next t ∧ t.mgmt = s.mgmt ∧
      t.unanswered =
        ({ s with
            clock :=
              { s.clock with
                marks := rest, lastMark := some m.recvRun, servo := .acquiring, goodMarks := 0
                probe := none, epoch := s.clock.epoch + 1
                hall := s.clock.hall.stepBy (-(m.offset (s.clock.delay.getD 0))) },
            gates := s.gates.map
              (Gate.afterStep (s.clock.hall.stepBy (-(m.offset (s.clock.delay.getD 0)))))
          } : State).unanswered ∧
      t.counter (.clock .marksAccepted) =
        min (s.counter (.clock .marksAccepted) + 1) Config.counterMax ∧
      t.counter (.clock .steps) = min (s.counter (.clock .steps) + 1) Config.counterMax ∧
      (s.clock.cfg.relay = false → Effects s t t.clock.hall.base
        [.clock .marksAccepted, .clock .steps]
        [.clockStep .mark (m.offset (s.clock.delay.getD 0))])) ∧
  (∀ (now : HallTime) (g t : Gate), t = g.afterStep now →
    t.disturbed = true ∧ t.active = g.active ∧ t.loaded = g.loaded ∧ t.commit = g.commit ∧
      t.activation = g.activation ∧
      (g.mode = .opened → t.mode = .opened ∧ (∀ q, t.isOpen q = true) ∧
        ∃ k : Int, t.cycleEnd = k * 1000000 ∧ (k - 1) * 1000000 ≤ now.toNs ∧
          now.toNs < k * 1000000) ∧
      (∀ l, g.mode ≠ .opened → g.active = some l → 0 < l.cycle →
        t.mode = .resync ∧ (∀ q, t.isOpen q = decide (2 ≤ q.val)) ∧
          l.base.toNs + (t.target - 1) * l.cycle ≤ now.toNs ∧
          now.toNs < l.base.toNs + t.target * l.cycle)) ∧
  (∀ (s : State) (m : Mark) (rest : List Mark), s.clock.marks = m :: rest →
    (m.malformed = true ↔ m.bad) ∧
    (m.bad → Completes .timeMark s (s.modClock fun c => { c with marks := rest })
      [.clock .marksMalformed] []) ∧
    (¬m.bad → m.epoch ≠ s.clock.epoch →
      Completes .timeMark s (s.modClock fun c => { c with marks := rest })
        [.clock .marksDiscarded] [])) ∧
  (∀ s : State, s.clock.marks = [] → exec .timeMark s = .next s) ∧
  (∀ (m : Mark) (d : Int), 0 ≤ d → m.offsetIs d (m.offset d)) ∧
  ∀ (s : State) (m : Mark) (rest : List Mark) (offset : Int) (recv : HallTime)
      (yes : List PortId), s.clock.marks = m :: rest → m.malformed = false →
    m.epoch = s.clock.epoch → s.clock.cfg.relay = true →
    offset = m.offset (s.clock.delay.getD 0) →
    ((s.clock.servo = .unset ∨ s.clock.cfg.stepLimit < offset.natAbs) ∧
        recv = m.recvTime.stepBy (-offset) ∨
      s.clock.servo ≠ .unset ∧ offset.natAbs ≤ s.clock.cfg.stepLimit ∧ recv = m.recvTime) →
    64 ≤ m.octets.length →
    yes = (List.finRange 12).filter (fun p => decide (s.ports[p].cfg.timing = .timeDown) &&
      s.ports[p].link && s.fitsLimit 2 ((m.octets.length + 255) / 256) p) →
    ∃ t, exec .timeMark s = .next t ∧
      (yes ≠ [] → (m.octets.length + 255) / 256 ≤ s.mem.free.length →
        ∃ h f, t.mem.frames[h] = some f ∧ f.kind = .relayed recv m.carried false ∧
          f.octets = refreshFcs (overwrite m.octets 6 (macBytes s.station)) ∧
          f.refs = yes.length ∧
          ∀ p : PortId,
            (p ∈ yes → ∃ x, x.frame = h ∧
              t.egress[p].queues[(2 : QueueId)] = s.egress[p].queues[(2 : QueueId)] ++ [x]) ∧
            (p ∉ yes →
              t.egress[p].queues[(2 : QueueId)] = s.egress[p].queues[(2 : QueueId)])) ∧
      ((∀ p : PortId, s.ports[p].cfg.timing = .timeDown → s.ports[p].link = false) →
        (∀ p : PortId,
          t.egress[p].queues[(2 : QueueId)] = s.egress[p].queues[(2 : QueueId)]) ∧
        t.counter (.device (.generationDrops .relayedMark)) =
          if ∃ p : PortId, s.ports[p].cfg.timing = .timeDown then
            min (s.counter (.device (.generationDrops .relayedMark)) + 1) Config.counterMax
          else s.counter (.device (.generationDrops .relayedMark)))

/-- R50: an accepted mark that does not step moves the integral by offset × Gi ÷ 16 and sets trim to the
new integral less offset × Gp ÷ 16, quotients truncated toward zero and both values held within ±200,000,
and the increment is that of the trim. R43: the increment of a trim is 34,359,738,368 and the trim
correction, 34,359,738,368 × trim ÷ 1,000,000,000 rounded to the nearest, halves away from zero. R51:
ACQUIRING counts a mark within the lock threshold and becomes LOCKED at the fourth, with CLOCK_LOCKED,
and starts again at 0 after one above it; LOCKED stays within four times the threshold and otherwise
becomes ACQUIRING with count 0, as HOLDOVER always does. Hall time is not stepped. -/
def Obligations.MarkWithinTheLimitTrims : Prop :=
  (∀ trim : Int, trim.natAbs ≤ 200000 →
    Rounded (34359738368 * trim) 1000000000 ((incrementOf trim : Int) - 34359738368)) ∧
  ∀ (s : State) (m : Mark) (rest : List Mark) (offset integral trim : Int),
    s.clock.marks = m :: rest → m.malformed = false → m.epoch = s.clock.epoch →
    s.clock.servo ≠ .unset → offset = m.offset (s.clock.delay.getD 0) →
    offset.natAbs ≤ s.clock.cfg.stepLimit →
    integral = max (-200000) (min 200000 (s.clock.integral - Int.tdiv (offset * s.clock.cfg.gi) 16)) →
    trim = max (-200000) (min 200000 (integral - Int.tdiv (offset * s.clock.cfg.gp) 16)) →
    ∃ t, exec .timeMark s = .next t ∧ t.mgmt = s.mgmt ∧
      t.unanswered = ({ s with clock := { s.clock with
        marks := rest, lastMark := some m.recvRun, integral := integral, trim := trim
        increment := incrementOf trim, servo := t.clock.servo
        goodMarks := t.clock.goodMarks } } : State).unanswered ∧
      (s.clock.servo = .acquiring → offset.natAbs ≤ s.clock.cfg.lockThreshold →
        t.clock.goodMarks = s.clock.goodMarks + 1 ∧
          (t.clock.servo = .locked ↔ s.clock.goodMarks = 3) ∧
          (t.clock.servo = .acquiring ↔ s.clock.goodMarks ≠ 3)) ∧
      (s.clock.servo = .acquiring → s.clock.cfg.lockThreshold < offset.natAbs →
        t.clock.servo = .acquiring ∧ t.clock.goodMarks = 0) ∧
      (s.clock.servo = .locked → offset.natAbs ≤ 4 * s.clock.cfg.lockThreshold →
        t.clock.servo = .locked ∧ t.clock.goodMarks = s.clock.goodMarks) ∧
      (s.clock.servo = .locked → 4 * s.clock.cfg.lockThreshold < offset.natAbs →
        t.clock.servo = .acquiring ∧ t.clock.goodMarks = 0) ∧
      (s.clock.servo = .holdover → t.clock.servo = .acquiring ∧ t.clock.goodMarks = 0) ∧
      (s.clock.cfg.relay = false → Effects s t s.clock.hall.base [.clock .marksAccepted]
        (if s.clock.servo = .acquiring ∧ offset.natAbs ≤ s.clock.cfg.lockThreshold ∧
            s.clock.goodMarks = 3 then [.clockLocked offset.natAbs] else []))

/-! ## Gate engines -/

/-- R66, R68 and R69: when hall time has reached the next boundary of a port, of the 1 ms grid in OPEN or
of the active list in RUNNING, and no commit is fixed to it (R72), the next cycle begins with its index,
its start and window 0, and the disturbed mark is clear; where hall time wraps, the grid's index begins
again at 0 and a pending commit keeps its boundary (log 19). Beside it only the supervisor's side, cell
memory, the queues, counters and notices may change: the boundary is signalled to the supervisor, and in
RUNNING the start of window 0 after it. R92, R93 and R96: for an armed robot of the port with a sound
record, the boundary of a disturbed cycle marks its period disturbed, and one whose index is that of its
phase modulo P ends the period: probation falls by one; a period neither partial nor disturbed is judged,
and grows silent periods if its command window did not open; the marks, opening taken and the period hit
are cleared; and the period start is the boundary's hall time. R97 and R99: a judged period with a hit
takes an armed robot that is not LOST to RUNNING, or to PARKED, with miss count 0; without one it grows
the arming count in ARMING, with ARM_STALLED at 64, and otherwise misses, and below the tolerance the
miss count, RUNNING becoming LATE; a LOST robot stays LOST, but that a hit takes one that is not barred
to RUNNING or PARKED with probation 256, ROBOT_BACK, and no hold source. A loss itself is the subject of
ToleranceReachedLosesRobot. No window waits for the robot in these clauses. -/
def Obligations.BoundariesBeginCycles : Prop :=
  (∀ (p : PortId) (s : State) (k n : Int), s.gates[p].mode = .opened →
    s.gates[p].commit = false ∨ s.gates[p].switchIndex ≠ k + 1 → s.gates[p].cycleIndex = k →
    n = (if k + 1 = gridIndexes then 0 else k + 1) →
    s.clock.hall.reached ((k + 1) * 1000000) = true →
    ∃ t, exec (.openGridBoundary p) s = .next t ∧ t.mgmt = s.mgmt ∧
      t.unsupervised = (s.modGate p fun g =>
        { g with cycleIndex := n, windowIndex := 0, cycleStart := n * 1000000, disturbed := false
                 commitFrom := if k + 1 = gridIndexes then
                   g.commitFrom.map fun c => c - gridIndexes else g.commitFrom }).unsupervised) ∧
  (∀ (p : PortId) (s : State) (l : GateList) (k : Int), s.gates[p].mode = .running →
    s.gates[p].active = some l → s.gates[p].commit = false ∨ s.gates[p].switchIndex ≠ k + 1 →
    s.gates[p].cycleIndex = k → s.clock.hall.reached (l.base.toNs + (k + 1) * l.cycle) = true →
    ∃ t, exec (.cycleBoundary p) s = .next t ∧ t.mgmt = s.mgmt ∧
      t.unsupervised = (s.modGate p fun g =>
        { g with cycleIndex := k + 1, windowIndex := 0,
                 cycleStart := l.base.toNs + (k + 1) * l.cycle, disturbed := false }).unsupervised) ∧
  (∀ (p : PortId) (s : State) (T k n : Int) (c : Instr),
    (s.gates[p].mode = .opened ∧ c = .openGridBoundary p ∧ T = (k + 1) * 1000000 ∧
        n = (if k + 1 = gridIndexes then 0 else k + 1) ∨
      s.gates[p].mode = .running ∧ c = .cycleBoundary p ∧ n = k + 1 ∧
        ∃ l, s.gates[p].active = some l ∧ T = l.base.toNs + (k + 1) * l.cycle) →
    s.gates[p].commit = false ∨ s.gates[p].switchIndex ≠ k + 1 → s.gates[p].cycleIndex = k →
    s.clock.hall.reached T = true →
    ∃ u, exec c s = .next (if s.gates[p].mode = .opened then u else signalWindow p 0 u) ∧
      (∀ r : RobotId, s.robots[r].port ≠ some p ∨ s.robots[r].state.armed = false →
        u.robots[r] = s.robots[r]) ∧
      ∀ (r : RobotId) (b v : Robot) (marked : Bool), b = s.robots[r] → b.state.armed = true →
        b.port = some p → b.damaged = false → b.ecc = .clean →
        (∀ w : WindowId, s.windows[w].pendingSet.getLsbD r.val = false) →
        marked = (b.disturbed || s.gates[p].disturbed) →
        (n.emod b.cfg.period ≠ b.cfg.phase →
          u.robots[r] = { b with disturbed := marked } ∧
          ∀ x : RobotCounter, u.counter (.robot r x) = s.counter (.robot r x)) ∧
        (n.emod b.cfg.period = b.cfg.phase →
          v = (if b.partialPeriod = true ∨ marked = true then
              { b with probation := b.probation - 1 }
            else (judgePeriod r
              (s.modRobot r fun b => { b with probation := b.probation - 1 })).robots[r]) →
          u.robots[r] =
            { v with partialPeriod := false, disturbed := false, openingTaken := false
                     hit := none, periodStart := HallTime.ofNs T } ∧
          u.counter (.robot r .silentPeriods) =
            if b.partialPeriod = false ∧ marked = false ∧ b.openingTaken = false then
              min (s.counter (.robot r .silentPeriods) + 1) Config.counterMax
            else s.counter (.robot r .silentPeriods))) ∧
  ∀ (r : RobotId) (s : State) (b : Robot) (st : RobotState), b = s.robots[r] →
    (∀ w : WindowId, s.windows[w].pendingSet.getLsbD r.val = false) →
    (∀ parked, b.hit = some parked → st = (if parked then .parked else .running) →
      (b.state = .arming ∨ b.state = .running ∨ b.state = .late ∨ b.state = .parked →
        judgePeriod r s = s.modRobot r fun b => { b with state := st, missCount := 0 }) ∧
      (b.state = .lost → b.barred = true → judgePeriod r s = s) ∧
      (b.state = .lost → b.barred = false →
        (judgePeriod r s).uncounted = ((leaveHold (.robot r) s).modRobot r fun b =>
          { b with state := st, missCount := 0, probation := 256 }).uncounted ∧
        Effects s (judgePeriod r s) s.clock.hall.base [] [.robotBack r st])) ∧
    (b.hit = none →
      (b.state = .arming →
        (judgePeriod r s).uncounted = (s.modRobot r fun b =>
          { b with armingCount := min (b.armingCount + 1) 65535 }).uncounted ∧
        Effects s (judgePeriod r s) s.clock.hall.base []
          (if b.armingCount = 63 then [.armStalled r 64] else [])) ∧
      (∀ n, (b.state = .running ∧ n = 1 ∧ st = .late ∨
          (b.state = .late ∨ b.state = .parked) ∧ n = b.missCount + 1 ∧ st = b.state) →
        n ≤ 15 → n < b.cfg.tolerance →
        (judgePeriod r s).uncounted =
          (s.modRobot r fun b => { b with state := st, missCount := n }).uncounted ∧
        Effects s (judgePeriod r s) s.clock.hall.base [.robot r .misses] []) ∧
      (b.state = .lost →
        (judgePeriod r s).uncounted = s.uncounted ∧
        Effects s (judgePeriod r s) s.clock.hall.base [.robot r .misses] []))

/-- R72: at the boundary T that a pending commit's switch-over is fixed to, from OPEN or RUNNING, the
pending list becomes the active one and no list and no commit is pending; the state is RUNNING; the
index is k1 − 1, where base + k1 × cycle length is the first boundary of the new list later than T;
window 0 begins at T; and SCHEDULE_APPLIED is raised with that index, after the boundary is signalled and
before the start of window 0 is. Where no robot of the port is armed, nothing is counted or noticed before
it. -/
def Obligations.SwitchOverTakesTheList : Prop :=
  ∀ (p : PortId) (s : State) (l : GateList) (T k1 : Int),
    (s.gates[p].mode = .opened ∨
      (s.gates[p].mode = .running ∧ ∃ a, s.gates[p].active = some a ∧ 0 < a.cycle)) →
    s.gates[p].commit = true → s.gates[p].loaded = some l → 0 < l.cycle →
    s.gates[p].cycleEnd = T → s.gates[p].switchAt = some T → s.clock.hall.reached T = true →
    T < l.base.toNs + k1 * l.cycle → l.base.toNs + (k1 - 1) * l.cycle ≤ T →
    ∃ u t, exec (if s.gates[p].mode = .opened then .openGridBoundary p else .cycleBoundary p) s
        = .next t ∧ t.mgmt = s.mgmt ∧
      t = signalWindow p 0 (raise (.scheduleApplied p (k1 - 1)) u) ∧
      ((∀ r : RobotId, s.robots[r].port = some p → s.robots[r].state.armed = false) →
        u.counters = s.counters ∧ u.notices = s.notices) ∧
      t.unsupervised = (s.modGate p fun g =>
        { g with mode := .running, active := some l, loaded := none, commit := false
                 activation := none, commitFrom := none, cycleIndex := k1 - 1, windowIndex := 0
                 cycleStart := T, disturbed := false }).unsupervised

/-- R69: when hall time has reached the next window edge within the cycle, the next window begins and its
start is signalled to the supervisor; before it, and when no further window of the cycle is left, nothing
happens. R77: when hall time reaches the target boundary of a RESYNC, the engine enters RUNNING at that
boundary's index with window 0, the disturbed mark is clear, and a pending commit stays pending; the
boundary is signalled disturbed, so that it judges no armed robot of the port (R93, R96), then
SCHEDULE_RESYNC is raised with the index, and then the start of window 0 is signalled. R75 and R80: as a
window begins, the entries of a preemptable queue whose gate closes may be counted in holds again, and
the cut of the piece on the wire is looked for. R103: the start of a window opens the command window of
each armed robot of the port whose command window it is and whose opening is not taken: opening taken
becomes yes; on a DOWN port it counts a silent period alone; else the slot's frame is sent and becomes
the store, or below the repeat limit the store's is sent again, or the hold frame is, each counted; and
with none of these, or no free cell for the only hold frame, a silent period counts. No other robot
changes. R33 and R104: the sends join Q3 in increasing robot index, behind the sends that wait there and
ahead of the rest; and each send that waits at a window start is counted once in delayed sends. The
records of the port's armed robots are sound in these clauses. -/
def Obligations.WindowEdgesAndTargets : Prop :=
  (∀ (p : PortId) (s : State) (l : GateList) (edge : Int), s.gates[p].mode = .running →
    s.gates[p].active = some l →
    edge = s.gates[p].cycleStart + l.windowOffset (s.gates[p].windowIndex + 1) →
    (s.gates[p].windowIndex + 1 < l.windows.length →
      edge < l.base.toNs + (s.gates[p].cycleIndex + 1) * l.cycle → s.clock.hall.reached edge = true →
      ∃ u t, exec (.windowStart p) s = .next t ∧ t.mgmt = s.mgmt ∧
        t.unsupervised = (s.modGate p fun g =>
          { g with windowIndex := s.gates[p].windowIndex + 1 }).unsupervised ∧
        t = signalWindow p (s.gates[p].windowIndex + 1) u ∧
        u = { s.modGate p (fun g => { g with windowIndex := s.gates[p].windowIndex + 1 }) with
              egress := u.egress } ∧
        (∀ x : PortId, x ≠ p → u.egress[x] = s.egress[x]) ∧
        u.egress[p] =
          { s.egress[p] with queues := u.egress[p].queues, tx := u.egress[p].tx } ∧
        (s.egress[p].tx = none → u.egress[p].tx = none) ∧
        (∀ x, s.egress[p].tx = some x →
          ∃ k, u.egress[p].tx = some { x with cutAt := k } ∧ CutNoted u p x k) ∧
        ∀ q : QueueId, u.egress[p].queues[q] =
          if q.val < 2 ∧ s.gates[p].isOpen q = true ∧ u.gates[p].isOpen q = false then
            s.egress[p].queues[q].map fun e => { e with holdCounted := false }
          else s.egress[p].queues[q]) ∧
    (l.windows.length ≤ s.gates[p].windowIndex + 1 ∨
      l.base.toNs + (s.gates[p].cycleIndex + 1) * l.cycle ≤ edge ∨
      s.clock.hall.reached edge = false → exec (.windowStart p) s = .next s)) ∧
  (∀ (p : PortId) (s : State) (l : GateList) (T : Int), s.gates[p].mode = .resync →
    s.gates[p].active = some l → T = l.base.toNs + s.gates[p].target * l.cycle →
    s.clock.hall.reached T = true →
    ∃ v u t, exec (.resyncTargetBoundary p) s = .next t ∧ t.mgmt = s.mgmt ∧
      u = raise (.scheduleResync p s.gates[p].target) v ∧
      ((∀ r : RobotId, s.robots[r].port = some p → s.robots[r].state.armed = false) →
        v.counters = s.counters ∧ v.notices = s.notices) ∧
      t.unsupervised = (s.modGate p fun g =>
        { g with mode := .running, cycleIndex := g.target, windowIndex := 0,
                 cycleStart := T, disturbed := false }).unsupervised ∧
      t = signalWindow p 0 u ∧
      ∀ (r : RobotId) (b : Robot), b = s.robots[r] →
        (b.port ≠ some p ∨ b.state.armed = false → u.robots[r] = b) ∧
        (b.port = some p → b.state.armed = true → b.damaged = false → b.ecc = .clean →
          u.robots[r] =
            if s.gates[p].target.emod b.cfg.period = b.cfg.phase then
              { b with probation := b.probation - 1, partialPeriod := false, disturbed := false
                       openingTaken := false, hit := none, periodStart := HallTime.ofNs T }
            else { b with disturbed := true })) ∧
  ∀ (p : PortId) (w : Nat) (s t : State) (openers : List RobotId), t = signalWindow p w s →
    (∀ r : RobotId, s.robots[r].port = some p → s.robots[r].state.armed = true →
      s.robots[r].damaged = false ∧ s.robots[r].ecc = .clean) →
    openers = (List.finRange 24).filter (fun r => s.robots[r].state.armed &&
      decide (s.robots[r].port = some p ∧ s.robots[r].cfg.window = w) &&
      !s.robots[r].openingTaken) →
    (∀ r : RobotId, r ∉ openers → t.robots[r] = s.robots[r]) ∧
    (∀ r ∈ openers, ∀ (b x : Robot) (n : RobotCounter), b = s.robots[r] →
      (s.ports[p].link = false ∧ x = { b with openingTaken := true } ∧ n = .silentPeriods ∨
        s.ports[p].link = true ∧
          ((∃ h, b.slot = some h ∧ n = .commandsSent ∧
              x = { b with openingTaken := true, slot := none, store := some h
                           repeatsUsed := 0 }) ∨
            b.slot = none ∧
              (b.store.isSome = true ∧ b.repeatsUsed < b.cfg.repeatLimit ∧ n = .repeatsSent ∧
                  x = { b with openingTaken := true, repeatsUsed := b.repeatsUsed + 1 } ∨
                (b.store = none ∨ b.cfg.repeatLimit ≤ b.repeatsUsed) ∧
                  x = { b with openingTaken := true } ∧
                  (s.holdFrames[r] = [] ∧ n = .silentPeriods ∨
                    s.holdFrames[r] ≠ [] ∧
                      (24 ≤ s.mem.free.length ∧ n = .holdFramesSent ∨
                        s.mem.free = [] ∧ openers = [r] ∧ n = .silentPeriods))))) →
      t.robots[r] = x ∧ ∀ k : RobotCounter, k ≠ .delayedSends → t.counter (.robot r k) =
        if k = n then min (s.counter (.robot r k) + 1) Config.counterMax
        else s.counter (.robot r k)) ∧
    (∀ sends others : List QEntry, s.egress[p].queues[(3 : QueueId)] = sends ++ others →
      (∀ x ∈ sends, ∃ r, x.kind = .robotSend r) → (∀ x ∈ others, ∀ r, x.kind ≠ .robotSend r) →
      (∀ (r : RobotId) (n : Nat),
        n = (sends.filter fun x =>
          decide (x.kind = .robotSend r) && !x.delayCounted).length →
        t.counter (.robot r .delayedSends) = if n = 0 then s.counter (.robot r .delayedSends)
          else min (s.counter (.robot r .delayedSends) + n) Config.counterMax) ∧
      (s.ports[p].link = true →
        (∀ r ∈ openers, s.robots[r].slot.isSome = true ∨ s.robots[r].store.isSome = true ∧
          s.robots[r].repeatsUsed < s.robots[r].cfg.repeatLimit) →
        t.egress[p].queues[(3 : QueueId)] =
          (sends.map fun x => { x with delayCounted := true }) ++
            (openers.filterMap fun r => (s.robots[r].slot <|> s.robots[r].store).map fun h =>
              { frame := h, kind := .robotSend r, delayCounted := false
                holdCounted := false }) ++ others))

/-! ## Robots and the controller watch -/

/-- R97 to R100: a judged period without a hit that brings the miss count to the tolerance loses the
robot: losses grows and ROBOT_LOST carries the state it was in; it is barred, with ROBOT_BARRED, when
probation remains; and it is a hold source exactly when its policy is HOLD_LINE or it is barred. R95: a
status frame of an armed robot received before the period start is counted late and noticed, and is no
hit; one at or after it is the period's hit, with its mode, when there is none yet and is counted extra
otherwise, and beyond a deadline other than 0 it is counted late and noticed as well, with the time by
which it is late, whose nanoseconds are rounded down by the model's choice (log 34). A robot that is not
armed takes no status frame. -/
def Obligations.ToleranceReachedLosesRobot : Prop :=
  (∀ (r : RobotId) (s : State) (n : Nat), s.robots[r].hit = none →
    (s.robots[r].state = .running ∧ n = 1 ∨
      (s.robots[r].state = .late ∨ s.robots[r].state = .parked) ∧ n = s.robots[r].missCount + 1) →
    n ≤ 15 → s.robots[r].cfg.tolerance ≤ n → s.robots[r].barred = false →
    (judgePeriod r s).robots[r].state = .lost ∧ (judgePeriod r s).robots[r].missCount = n ∧
      ((judgePeriod r s).robots[r].barred = true ↔ 0 < s.robots[r].probation) ∧
      (s.hold.present.has (.robot r) = false →
        ((judgePeriod r s).hold.present.has (.robot r) = true ↔
          s.robots[r].cfg.lossPolicy = .holdLine ∨ 0 < s.robots[r].probation)) ∧
      (judgePeriod r s).counter (.robot r .losses) =
        min (s.counter (.robot r .losses) + 1) Config.counterMax ∧
      (s.notices.records.length ≤ 32 →
        (∃ x ∈ (judgePeriod r s).notices.records, x.event = .robotLost r s.robots[r].state) ∧
        (0 < s.robots[r].probation → ∃ x ∈ (judgePeriod r s).notices.records,
          x.event = .robotBarred r s.robots[r].probation)) ∧
      (∀ x : RobotId, x ≠ r → (judgePeriod r s).robots[x] = s.robots[x])) ∧
  ∀ (r : RobotId) (i : StreamId) (octets : Octets) (recv : HallTime) (s : State) (d past : Int),
    (s.robots[r].state.armed = false → statusFrame r i octets recv s = s) ∧
    (s.robots[r].state.armed = true → s.robots[r].damaged = false → s.robots[r].ecc = .clean →
      d = HallTime.diff recv s.robots[r].periodStart →
      past = d - s.robots[r].cfg.deadline * fracPerNs →
      (d < 0 →
        (statusFrame r i octets recv s).uncounted = s.uncounted ∧
        Effects s (statusFrame r i octets recv s) s.clock.hall.base
          [.robot r .lateStatus, .stream i .late] [.statusLate r none]) ∧
      (0 ≤ d →
        (statusFrame r i octets recv s).uncounted =
          (s.modRobot r fun b =>
            { b with hit := if b.hit.isSome then b.hit
                            else some (readsParked b.cfg octets) }).uncounted ∧
        Effects s (statusFrame r i octets recv s) s.clock.hall.base
          ((if s.robots[r].hit.isSome then .robot r .extraStatus else .robot r .statusHits) ::
            if s.robots[r].cfg.deadline ≠ 0 ∧ 0 < past then
              [.robot r .lateStatus, .stream i .late] else [])
          (if s.robots[r].cfg.deadline ≠ 0 ∧ 0 < past then
            [.statusLate r (some (past / fracPerNs).toNat)] else [])))

/-- R106 and R108: when the controller timeout has passed since the restart time while the watch is
WATCHING, the controller is lost: the watch is LOST, controller losses grows, CONTROLLER_LOST carries the
loss action, and under HOLD_LINE the controller becomes a hold source, which sets the latch. Before that
nothing happens. R16, R32, R102, R106 and R107: a frame of the command stream of an armed robot within
the length restarts the watch, and in LOST ends the loss with CONTROLLER_BACK, whose milliseconds are
rounded down by the model's choice (log 17), and the controller is no hold source. With a port in its
egress set it goes to the slot before the opening, where a frame it overwrites gives up its reference and
is counted, and after the opening it is late and replaces the store with repeats used 0; with none it is
unforwarded and not stored. That one that is not stored is counted in neither late counter is the model's
choice (log 46). -/
def Obligations.ControllerTimeoutLosesController : Prop :=
  (∀ s : State,
    (s.watch.state = .watching →
      s.watch.restartTime + s.device.controllerTimeout * 1000 ≤ s.clock.run →
      ∃ t, exec .controllerTimeout s = .next t ∧
        t.uncounted = ({ s with watch := { s.watch with state := .lost, lostAt := s.clock.run },
                                hold := t.hold } : State).uncounted ∧
        t.counter .controllerLosses = min (s.counter .controllerLosses + 1) Config.counterMax ∧
        (s.notices.records.length ≤ 32 →
          ∃ x ∈ t.notices.records, x.event = .controllerLost s.watch.action) ∧
        (s.watch.action = .report → t.hold = s.hold) ∧
        (s.watch.action = .holdLine →
          t.hold.latch = true ∧ t.hold.present = { s.hold.present with controller := true } ∨
            s.hold.present.controller = true ∧ t.hold = s.hold)) ∧
    (s.watch.state ≠ .watching ∨
      s.clock.run < s.watch.restartTime + s.device.controllerTimeout * 1000 →
      exec .controllerTimeout s = .next s)) ∧
  ∀ (p : PortId) (octets : Octets) (s u : State) (c : Reception) (i : StreamId) (r : RobotId)
      (h : CellId) (back : List NoticeEvent), p.val < 10 →
    GoodArrival s p octets c → ordinary octets → s.matched p octets i →
    octets.length ≤ s.streams[i].cfg.maxLength → s.streams[i].cfg.role = .command →
    s.streams[i].cfg.subject = .robot r → s.robots[r].cfg.commandStream = i →
    s.robots[r].state.armed = true → s.robots[r].damaged = false → s.robots[r].ecc = .clean →
    c.cells.head? = some h →
    u = { s.received p with
          watch := if s.watch.state = .idle then s.watch
                   else { s.watch with state := .watching, restartTime := s.clock.run }
          hold := if s.watch.state = .lost then
                    { s.hold with present := { s.hold.present with controller := false } }
                  else s.hold } →
    back = (if s.watch.state = .lost then
      [.controllerBack ((s.clock.run - s.watch.lostAt) / 1000)] else []) →
    (s.egressPorts s.streams[i].cfg.egress p = [] →
      Completes (.frameReceptionEnd p octets) s
        { u with mem := { s.mem with free := s.mem.free ++ c.cells } }
        (receivedCounts p octets ++ streamCounts i octets ++ [.port p .unforwarded]) back) ∧
    (s.egressPorts s.streams[i].cfg.egress p ≠ [] → s.robots[r].openingTaken = false →
      Completes (.frameReceptionEnd p octets) s
        (((u.releaseOpt s.robots[r].slot).modMem fun m => m.store
            { cells := c.cells, octets := octets, refs := 1, kind := .received }).modRobot r fun b =>
          { b with slot := some h })
        (receivedCounts p octets ++ streamCounts i octets ++
          if s.robots[r].slot.isSome then [.robot r .overwritten] else []) back) ∧
    (s.egressPorts s.streams[i].cfg.egress p ≠ [] → s.robots[r].openingTaken = true →
      Completes (.frameReceptionEnd p octets) s
        (((u.releaseOpt s.robots[r].store).modMem fun m => m.store
            { cells := c.cells, octets := octets, refs := 1, kind := .received }).modRobot r fun b =>
          { b with store := some h, repeatsUsed := 0 })
        (receivedCounts p octets ++ streamCounts i octets ++
          [.robot r .lateCommands, .stream i .late]) back)

/-! ## Table integrity -/

/-- R18 to R21: a scrub read always completes and moves to the next record, after the last to the first:
bit errors that come in with it stand in their record, but for one marked damaged, and the record at the
position is checked. A read of any kind that checks a record draws nothing from a clean one; corrects and
counts a single error; marks a stream record with a double error damaged, invalid and counted, with
TABLE_DAMAGE; and counts a damaged one again, whatever error stands in it, and keeps its contents. A
double error marks a robot record damaged too, and the robot goes to IDLE whatever its state: its slot
and store are empty, it is no hold source, and no window holds it or waits for it. That errors come in
with the read, and that the stream records are read before the robot records, are the model's choices
(log 8). -/
def Obligations.ScrubChecksRecords : Prop :=
  (∀ (x : EccRecord) (e : EccError) (s : State), ∃ t, exec (.scrubRead x e) s = .next t ∧
    t.scrub.val = (s.scrub.val + 1) % 280) ∧
  (∀ (x : EccRecord) (s : State),
    (∀ i : StreamId, s.scrub.val = i.val →
      exec (.scrubRead x .clean) s =
        .next (checkStream i .scrub { s with scrub := s.scrub + 1 })) ∧
    ∀ r : RobotId, s.scrub.val = 256 + r.val →
      exec (.scrubRead x .clean) s =
        .next (checkRobot r .scrub { s with scrub := s.scrub + 1 })) ∧
  (∀ (e : EccError) (s : State), e ≠ .clean →
    (∀ i : StreamId, exec (.scrubRead (.stream i) e) s = exec (.scrubRead (.stream i) .clean)
      (if s.streams[i].damaged = true then s else s.modStream i fun x => { x with ecc := e })) ∧
    ∀ r : RobotId, exec (.scrubRead (.robot r) e) s = exec (.scrubRead (.robot r) .clean)
      (if s.robots[r].damaged = true then s else s.modRobot r fun x => { x with ecc := e })) ∧
  (∀ (i : StreamId) (k : ReadKind) (s : State),
    (s.streams[i].damaged = true → (checkStream i k s).uncounted = s.uncounted ∧
      Effects s (checkStream i k s) s.clock.hall.base [.device .damagedStream] []) ∧
    (s.streams[i].damaged = false → s.streams[i].ecc = .clean → checkStream i k s = s) ∧
    (s.streams[i].damaged = false → s.streams[i].ecc = .single →
      (checkStream i k s).uncounted =
        (s.modStream i fun x => { x with ecc := .clean }).uncounted ∧
      Effects s (checkStream i k s) s.clock.hall.base [.device .correctedStream] []) ∧
    (∀ flips, s.streams[i].damaged = false → s.streams[i].ecc = .double flips →
      (checkStream i k s).uncounted =
        (s.modStream i fun x =>
          { x with cfg := { x.cfg with valid := false }, damaged := true }).uncounted ∧
      Effects s (checkStream i k s) s.clock.hall.base [.device .damagedStream]
        [.tableDamage (.stream i) k])) ∧
  ∀ (r : RobotId) (k : ReadKind) (s : State),
    (s.robots[r].damaged = true → (checkRobot r k s).uncounted = s.uncounted ∧
      Effects s (checkRobot r k s) s.clock.hall.base [.device .damagedRobot] []) ∧
    (s.robots[r].damaged = false → s.robots[r].ecc = .clean → checkRobot r k s = s) ∧
    (s.robots[r].damaged = false → s.robots[r].ecc = .single →
      (checkRobot r k s).uncounted =
        (s.modRobot r fun x => { x with ecc := .clean }).uncounted ∧
      Effects s (checkRobot r k s) s.clock.hall.base [.device .correctedRobot] []) ∧
    (∀ flips t, s.robots[r].damaged = false → s.robots[r].ecc = .double flips →
      t = checkRobot r k s →
      t.robots[r].damaged = true ∧ t.robots[r].state = .idle ∧ t.robots[r].slot = none ∧
        t.robots[r].store = none ∧ t.robots[r].cfg = s.robots[r].cfg ∧
        t.hold.present.has (.robot r) = false ∧ t.hold.latch = s.hold.latch ∧
        (∀ w : WindowId, t.windows[w].heldSet.getLsbD r.val = false ∧
          t.windows[w].pendingSet.getLsbD r.val = false) ∧
        (∀ x : RobotId, x ≠ r → t.robots[x] = s.robots[x]) ∧
        Effects s t s.clock.hall.base [.device .damagedRobot] [.tableDamage (.robot r) k])

/-! ## Encoder, sensor and speed -/

/-- R112: a transition in which both phases change makes no count: the phase state becomes the new pair,
encoder faults grows by one and ENCODER_FAULT carries the position and both pairs; nothing else
changes. -/
def Obligations.IllegalTransitionIsFault : Prop :=
  ∀ (a b : Bool) (s : State), s.tracker.phaseA ≠ a → s.tracker.phaseB ≠ b →
    Completes (.encoderTransition a b) s
      (s.modTracker fun t => { t with phaseA := a, phaseB := b }) [.tracker .encoderFaults]
      [.encoderFault s.tracker.position s.tracker.phaseA s.tracker.phaseB a b]

/-- R111: a transition to the next pair of levels in the forward order moves the position by one when its
counting mode counts it, one to the pair before it by minus one, either with its sign reversed under
direction invert, and one that is not counted changes the phase state alone. R117: a count that leaves
the position ahead of the high-water mark makes it the mark and ends an excursion, and one that leaves it
behind begins one, counted, which a MEASURING or QUALIFIED occlusion does not outlive. R142: after a
forward count the head record that is left is not due, and a reverse count decides none. R132 to R134:
the record at a camera's pointer is reached when its travel is at least the trigger offset: an enabled
camera with an idle output fires, which asserts the output for the pulse width and marks the record; one
whose output is busy skips, with TRIGGER_SKIPPED, and the record's PENDING or PASS becomes NO_IMAGE; a
disabled one does neither; and the pointer moves on. A pointer at no record, or at one that is not
reached, changes nothing. Several records reached at once are taken in turn: the first fires and the rest
are skipped. R120 to R123: a count that begins no excursion and brings a MEASURING occlusion to the
minimum qualifies it, with a record or untracked, and one that brings a QUALIFIED one to the maximum
makes it a jam, counted, flagged in its record, and under HOLD_LINE a hold source; below those lengths it
goes on. Each camera is tested after every count, at the new position: the output of an enabled and idle
one whose pointer's record is reached is asserted for its pulse width and the fire counted; that of one
that is busy, disabled or not there yet stays as it was, and a skip is counted of the busy one. -/
def Obligations.EncoderCountsByTable : Prop :=
  (∀ (a b : Bool) (s : State) (old : Bool × Bool), old = (s.tracker.phaseA, s.tracker.phaseB) →
    (nextLevels old = (a, b) → countsForward s.tracker.cfg.mode old = true →
      ∃ t, exec (.encoderTransition a b) s = .next t ∧ t.tracker.phaseA = a ∧ t.tracker.phaseB = b ∧
        t.tracker.position =
          s.tracker.position + if s.tracker.cfg.invert then BitVec.ofInt 32 (-1) else 1) ∧
    (nextLevels (a, b) = old → countsForward s.tracker.cfg.mode (a, b) = true →
      ∃ t, exec (.encoderTransition a b) s = .next t ∧ t.tracker.phaseA = a ∧ t.tracker.phaseB = b ∧
        t.tracker.position =
          s.tracker.position + if s.tracker.cfg.invert then 1 else BitVec.ofInt 32 (-1)) ∧
    (nextLevels old = (a, b) ∧ countsForward s.tracker.cfg.mode old = false ∨
        nextLevels (a, b) = old ∧ countsForward s.tracker.cfg.mode (a, b) = false →
      exec (.encoderTransition a b) s =
        .next (s.modTracker fun t => { t with phaseA := a, phaseB := b }))) ∧
  (∀ (a b : Bool) (s t : State) (d : Int), exec (.encoderTransition a b) s = .next t →
    t.tracker.position ≠ s.tracker.position →
    d = (t.tracker.position - s.tracker.highWater).toInt →
    (0 < d → t.tracker.highWater = t.tracker.position ∧ t.tracker.excursion = false) ∧
    (d ≤ 0 → t.tracker.highWater = s.tracker.highWater ∧
      (t.tracker.excursion = true ↔ d < 0 ∨ s.tracker.excursion = true)) ∧
    t.counter (.tracker .excursions) = (if d < 0 ∧ s.tracker.excursion = false then
      min (s.counter (.tracker .excursions) + 1) Config.counterMax
      else s.counter (.tracker .excursions)) ∧
    (d < 0 → s.tracker.excursion = false →
      ((s.tracker.sensor = .measuring ∨ s.tracker.sensor = .qualified) →
        t.tracker.sensor = .ignoring ∧ t.tracker.leading = none) ∧
      (s.tracker.sensor ≠ .measuring → s.tracker.sensor ≠ .qualified →
        t.tracker.sensor = s.tracker.sensor)) ∧
    (t.tracker.position = s.tracker.position + 1 →
      ∀ r, t.tracker.records.head? = some r →
        (t.tracker.position - r.position).toInt < (t.reject.cfg.distance : Int) - t.reject.lead) ∧
    (t.tracker.position = s.tracker.position + BitVec.ofInt 32 (-1) →
      ∀ r ∈ s.tracker.records, ∃ x ∈ t.tracker.records, x.seq = r.seq ∧ x.position = r.position) ∧
    ∀ (lead : Position) (length : Int), s.tracker.leading = some lead →
      length = (t.tracker.position - lead).toInt → 0 ≤ d ∨ s.tracker.excursion = true →
      (s.tracker.sensor = .measuring →
        (length < s.tracker.cfg.minOcclusion →
          t.tracker.sensor = .measuring ∧ t.tracker.leading = some lead ∧
            t.tracker.nextSeq = s.tracker.nextSeq ∧
            t.counter (.tracker .bottlesTracked) = s.counter (.tracker .bottlesTracked) ∧
            t.counter (.tracker .untracked) = s.counter (.tracker .untracked)) ∧
        (s.tracker.cfg.minOcclusion ≤ length → length < s.tracker.cfg.maxOcclusion →
          t.tracker.sensor = .qualified ∧ t.tracker.leading = some lead ∧
          (s.tracker.records.length < 256 →
            t.tracker.link = some s.tracker.nextSeq ∧
            t.tracker.nextSeq = s.tracker.nextSeq + 1 ∧
            t.counter (.tracker .bottlesTracked) =
              min (s.counter (.tracker .bottlesTracked) + 1) Config.counterMax) ∧
          (256 ≤ s.tracker.records.length →
            t.tracker.link = none ∧ t.tracker.nextSeq = s.tracker.nextSeq ∧
            t.counter (.tracker .untracked) =
              min (s.counter (.tracker .untracked) + 1) Config.counterMax))) ∧
      (s.tracker.sensor = .qualified →
        (length < s.tracker.cfg.maxOcclusion →
          t.tracker.sensor = .qualified ∧
            t.counter (.tracker .jams) = s.counter (.tracker .jams)) ∧
        (s.tracker.cfg.maxOcclusion ≤ length →
          t.tracker.sensor = .jammed ∧
          t.counter (.tracker .jams) =
            min (s.counter (.tracker .jams) + 1) Config.counterMax ∧
          (∀ x ∈ t.tracker.records, s.tracker.link = some x.seq → x.jam = true) ∧
          (s.tracker.cfg.jamPolicy = .holdLine → t.hold.present.jam = true) ∧
          (s.tracker.cfg.jamPolicy = .report →
            t.hold.present.jam = s.hold.present.jam)))) ∧
  (∀ (c : CameraId) (s : State), (∀ x ∈ s.tracker.records, x.seq ≠ s.cameras[c].pointer) →
    testTrigger c s = s) ∧
  ∀ (c : CameraId) (s : State) (l rest : List TrackRec) (r : TrackRec),
    s.tracker.records = l ++ r :: rest → (∀ x ∈ l, x.seq ≠ s.cameras[c].pointer) →
    r.seq = s.cameras[c].pointer →
    ((s.tracker.position - r.position).toInt < s.cameras[c].cfg.offset → testTrigger c s = s) ∧
    ((s.cameras[c].cfg.offset : Int) ≤ (s.tracker.position - r.position).toInt →
      (∀ x, rest.head? = some x →
        (s.tracker.position - x.position).toInt < s.cameras[c].cfg.offset) →
      (s.cameras[c].cfg.enabled = false →
        testTrigger c s = s.modCamera c fun k => { k with pointer := k.pointer + 1 }) ∧
      (s.cameras[c].cfg.enabled = true → s.cameras[c].pulseEnd = none →
        (testTrigger c s).unanswered =
          ((s.modRecord r.seq fun x => { x with triggered := x.triggered.set c true }).modCamera c
            fun k => { k with pulseEnd := some (s.clock.run + k.cfg.pulseWidth),
                              pointer := k.pointer + 1 }).unanswered ∧
        (testTrigger c s).mgmt = s.mgmt ∧
        (testTrigger c s).counter (.camera c .triggersFired) =
          min (s.counter (.camera c .triggersFired) + 1) Config.counterMax) ∧
      (s.cameras[c].cfg.enabled = true → s.cameras[c].pulseEnd.isSome = true →
        (testTrigger c s).uncounted =
          ((s.modRecord r.seq fun x => { x with verdicts := upd x.verdicts c fun v =>
              if v = .pending ∨ v = .pass then .noImage else v }).modCamera c
            fun k => { k with pointer := k.pointer + 1 }).uncounted ∧
        Effects s (testTrigger c s) s.clock.hall.base [.camera c .triggersSkipped]
          [.triggerSkipped c r.seq])) ∧
    (∀ more far : List TrackRec, rest = more ++ far →
      (∀ x ∈ r :: more,
        (s.cameras[c].cfg.offset : Int) ≤ (s.tracker.position - x.position).toInt) →
      (∀ x, far.head? = some x →
        (s.tracker.position - x.position).toInt < s.cameras[c].cfg.offset) →
      s.cameras[c].cfg.enabled = true → s.cameras[c].pulseEnd = none →
      (testTrigger c s).cameras[c].pulseEnd = some (s.clock.run + s.cameras[c].cfg.pulseWidth) ∧
      (testTrigger c s).cameras[c].pointer =
        s.cameras[c].pointer + BitVec.ofNat 32 (more.length + 1) ∧
      (testTrigger c s).counter (.camera c .triggersFired) =
        min (s.counter (.camera c .triggersFired) + 1) Config.counterMax ∧
      (testTrigger c s).counter (.camera c .triggersSkipped) =
        if more = [] then s.counter (.camera c .triggersSkipped)
        else min (s.counter (.camera c .triggersSkipped) + more.length) Config.counterMax) ∧
    ∀ (a b : Bool) (t : State), exec (.encoderTransition a b) s = .next t →
      t.tracker.position ≠ s.tracker.position →
      ((t.tracker.position - r.position).toInt < s.cameras[c].cfg.offset ∨
          s.cameras[c].cfg.enabled = false →
        t.cameras[c].pulseEnd = s.cameras[c].pulseEnd ∧
        t.counter (.camera c .triggersFired) = s.counter (.camera c .triggersFired) ∧
        t.counter (.camera c .triggersSkipped) = s.counter (.camera c .triggersSkipped)) ∧
      ((s.cameras[c].cfg.offset : Int) ≤ (t.tracker.position - r.position).toInt →
        s.cameras[c].cfg.enabled = true →
        (s.cameras[c].pulseEnd = none →
          t.cameras[c].pulseEnd = some (s.clock.run + s.cameras[c].cfg.pulseWidth) ∧
          t.counter (.camera c .triggersFired) =
            min (s.counter (.camera c .triggersFired) + 1) Config.counterMax) ∧
        (s.cameras[c].pulseEnd.isSome = true →
          t.cameras[c].pulseEnd = s.cameras[c].pulseEnd ∧
          t.counter (.camera c .triggersFired) = s.counter (.camera c .triggersFired) ∧
          ∀ x, rest.head? = some x →
            (t.tracker.position - x.position).toInt < s.cameras[c].cfg.offset →
            t.counter (.camera c .triggersSkipped) =
              min (s.counter (.camera c .triggersSkipped) + 1) Config.counterMax))

/-- R119: as the sensor goes active in CLEAR it begins to measure from the position, or, in an excursion,
is ignored and counted; in every other sensor state the edge changes the level alone. R120 and R124: as
it goes inactive the occlusion ends in CLEAR: one still measured was too short and is counted; one that
is a jam stops being a hold source, and the latch stays as it is. -/
def Obligations.SensorEdgesMoveTheSensor : Prop :=
  (∀ s : State, s.tracker.sense ≠ s.tracker.cfg.activeHigh →
    (s.tracker.sensor = .clear → s.tracker.excursion = false →
      exec .sensorLeadingEdge s = .next (s.modTracker fun t =>
        { t with sense := t.cfg.activeHigh, sensor := .measuring, leading := some t.position,
                 link := none })) ∧
    (s.tracker.sensor = .clear → s.tracker.excursion = true →
      Completes .sensorLeadingEdge s (s.modTracker fun t =>
        { t with sense := t.cfg.activeHigh, sensor := .ignoring }) [.tracker .ignoredOcclusions] []) ∧
    (s.tracker.sensor ≠ .clear →
      exec .sensorLeadingEdge s = .next (s.modTracker fun t =>
        { t with sense := t.cfg.activeHigh }))) ∧
  (∀ (s u : State), s.tracker.sense = s.tracker.cfg.activeHigh →
    u = s.modTracker (fun t =>
      { t with sense := !t.cfg.activeHigh, sensor := .clear, leading := none, link := none }) →
    (s.tracker.sensor = .measuring →
      Completes .sensorTrailingEdge s u [.tracker .shortOcclusions] []) ∧
    (s.tracker.sensor = .qualified ∨ s.tracker.sensor = .ignoring →
      exec .sensorTrailingEdge s = .next u) ∧
    (s.tracker.sensor = .jammed →
      exec .sensorTrailingEdge s =
        .next (u.modHold fun h => { h with present := { h.present with jam := false } })))

/-- R115 and R141: at the end of a speed window of `w` ms with delta `d`, speed_q8 is
floor(|d| × 256 ÷ w), at most 16,777,215; the direction and still are those of `d`; the next window
begins where this one ends, with the configured span; and the lead is that of the new speed. -/
def Obligations.SpeedWindowMeasures : Prop :=
  ∀ (s : State) (w : Nat) (d : Int), s.tracker.windowSpan = w →
    d = (s.tracker.position - s.tracker.windowPosition).toInt →
    s.tracker.windowStart + w * 1000 ≤ s.clock.run →
    exec .speedWindowEnd s = .next
      { s with
        tracker :=
          { s.tracker with
            speed := min (d.natAbs * 256 / w) 16777215
            direction := if d = 0 then .still else if 0 < d then .forward else .reverse
            still := decide (d = 0), windowStart := s.tracker.windowStart + w * 1000
            windowSpan := s.tracker.cfg.speedWindow, windowPosition := s.tracker.position }
        reject :=
          { s.reject with
            lead := min s.reject.cfg.leadMax
              ((min (d.natAbs * 256 / w) 16777215 * s.reject.cfg.latency + 128000) / 256000)
            leadSpeed := min (d.natAbs * 256 / w) 16777215 } }

/-- R120 to R122: an occlusion that qualifies while the list has room appends one record with the next
sequence number at the leading position, PENDING for the cameras that are enabled and required and
NOT_REQUIRED for the rest; when 256 records are held the bottle goes untracked and is counted, and
TRACK_FULL becomes a hold source. -/
def Obligations.QualifyAppendsOrGoesUntracked : Prop :=
  ∀ (s : State) (lead : Position), s.tracker.leading = some lead →
    (s.tracker.records.length < 256 →
      (∃ r, (qualify s).uncounted = (s.modTracker fun t =>
          { t with sensor := .qualified, records := t.records ++ [r], link := some t.nextSeq,
                   nextSeq := t.nextSeq + 1 }).uncounted ∧
        r.seq = s.tracker.nextSeq ∧ r.position = lead ∧ r.jam = false ∧
        ∀ c : CameraId, r.triggered[c] = false ∧ r.verdicts[c] =
          if s.cameras[c].cfg.enabled = true ∧ s.cameras[c].cfg.required = true then .pending
          else .notRequired) ∧
      Effects s (qualify s) s.clock.hall.base [.tracker .bottlesTracked] []) ∧
    (256 ≤ s.tracker.records.length →
      (qualify s).tracker = { s.tracker with sensor := .qualified, link := none } ∧
      (qualify s).hold.present = { s.hold.present with trackFull := true } ∧
      (HoldInv s → (qualify s).hold.latch = true) ∧
      (qualify s).counter (.tracker .untracked) =
        min (s.counter (.tracker .untracked) + 1) Config.counterMax)

/-! ## Cameras and the reject station -/

/-- R133: at its pulse end a camera's output becomes idle; before it nothing happens. R145 and R146: when
the time of a driven ejector state is over its output is released at the run time now: BLASTING ends in
REST, EXTENDING in DIVERTED while the dwell is not travelled, RETRACTING in REST when no extend is
pending; nothing else changes. A dwell that is travelled when EXTENDING ends passes through DIVERTED, and
a pending extend takes RETRACTING to EXTEND_WAIT; since the other output is released only then, the wait
is left at once just when the non-overlap time is 0 and the reset inhibit is over (R148). After each
count, its fires done, a gate that was in DIVERTED in DIVERTER mode is there still while the travel from
the dwell start is below the dwell, and has otherwise left for RETRACT_WAIT, and that for RETRACTING if
the inhibit and the non-overlap time since EJECT_A's release are over, a release of none being satisfied.
The dwell start is that of before the count, or the position after it where a fire has set it; a reverse
count, or one after which the head record is not due while no occlusion is measured, fires nothing. -/
def Obligations.TimedOutputsEnd : Prop :=
  (∀ (c : CameraId) (s : State),
    (∀ t, s.cameras[c].pulseEnd = some t → t ≤ s.clock.run →
      ∃ u, exec (.triggerPulseEnd c) s = .next u ∧ u.camTrig c = false ∧
        u = s.modCamera c fun k => { k with pulseEnd := none }) ∧
    (∀ t, s.cameras[c].pulseEnd = some t → s.clock.run < t →
      exec (.triggerPulseEnd c) s = .next s ∧ s.camTrig c = true)) ∧
  (∀ (s : State), s.reject.phaseEnd ≤ s.clock.run →
    (s.reject.state = .blasting → s.ejectA = true ∧ ∃ t, exec .blastEnd s = .next t ∧
      t.ejectA = false ∧
      t = s.modReject fun x => { x with state := .rest, releaseA := some s.clock.run }) ∧
    (∀ d, s.reject.state = .extending → s.reject.dwellStart = some d →
      (s.tracker.position - d).toInt < s.reject.cfg.dwell → s.ejectA = true ∧
      ∃ t, exec .extendTimeEnd s = .next t ∧ t.ejectA = false ∧
        t = s.modReject fun x => { x with state := .diverted, releaseA := some s.clock.run }) ∧
    (∀ d, s.reject.state = .extending → s.reject.dwellStart = some d →
      (s.reject.cfg.dwell : Int) ≤ (s.tracker.position - d).toInt →
      (s.reject.cfg.nonOverlap = 0 → s.reject.inhibitEnd ≤ s.clock.run →
        Completes .extendTimeEnd s (s.modReject fun x =>
          { x with state := .retracting, releaseA := some s.clock.run
                   phaseEnd := s.clock.run + x.cfg.retractTime * 1000 }) [.reject .retractsMade] []) ∧
      (0 < s.reject.cfg.nonOverlap ∨ s.clock.run < s.reject.inhibitEnd →
        exec .extendTimeEnd s = .next (s.modReject fun x =>
          { x with state := .retractWait, releaseA := some s.clock.run }))) ∧
    (s.reject.state = .retracting → s.reject.extendPending = false → s.ejectB = true ∧
      ∃ t, exec .retractTimeEnd s = .next t ∧ t.ejectB = false ∧
        t = s.modReject fun x => { x with state := .rest, releaseB := some s.clock.run }) ∧
    (s.reject.state = .retracting → s.reject.extendPending = true →
      (s.reject.cfg.nonOverlap = 0 → s.reject.inhibitEnd ≤ s.clock.run →
        Completes .retractTimeEnd s (s.modReject fun x =>
          { x with state := .extending, extendPending := false, releaseB := some s.clock.run
                   phaseEnd := s.clock.run + x.cfg.extendTime * 1000 }) [.reject .extendsMade] []) ∧
      (0 < s.reject.cfg.nonOverlap ∨ s.clock.run < s.reject.inhibitEnd →
        exec .retractTimeEnd s = .next (s.modReject fun x =>
          { x with state := .extendWait, releaseB := some s.clock.run })))) ∧
  (∀ s : State, s.clock.run < s.reject.phaseEnd →
    exec .blastEnd s = .next s ∧ exec .extendTimeEnd s = .next s ∧
      exec .retractTimeEnd s = .next s) ∧
  ∀ (a b : Bool) (s t : State), exec (.encoderTransition a b) s = .next t →
    t.tracker.position ≠ s.tracker.position → s.reject.cfg.mode = .diverter →
    s.reject.state = .diverted →
    (t.reject.dwellStart = s.reject.dwellStart ∨
      t.reject.dwellStart = some t.tracker.position) ∧
    (t.tracker.position = s.tracker.position + BitVec.ofInt 32 (-1) ∨
        s.tracker.sensor ≠ .measuring ∧ (∀ r, s.tracker.records.head? = some r →
          (t.tracker.position - r.position).toInt < (s.reject.cfg.distance : Int) - s.reject.lead) →
      t.reject.dwellStart = s.reject.dwellStart) ∧
    t.reject.releaseA = s.reject.releaseA ∧ t.reject.releaseB = s.reject.releaseB ∧
    ∀ d, t.reject.dwellStart = some d →
      ((t.tracker.position - d).toInt < s.reject.cfg.dwell → t.reject.state = .diverted ∧
        t.counter (.reject .retractsMade) = s.counter (.reject .retractsMade)) ∧
      ((s.reject.cfg.dwell : Int) ≤ (t.tracker.position - d).toInt →
        (s.reject.inhibitEnd ≤ s.clock.run →
          (∀ x, s.reject.releaseA = some x → x + s.reject.cfg.nonOverlap ≤ s.clock.run) →
          t.reject.state = .retracting ∧
            t.reject.phaseEnd = s.clock.run + s.reject.cfg.retractTime * 1000 ∧
            t.counter (.reject .retractsMade) =
              min (s.counter (.reject .retractsMade) + 1) Config.counterMax) ∧
        (s.clock.run < s.reject.inhibitEnd ∨
            (∃ x, s.reject.releaseA = some x ∧ s.clock.run < x + s.reject.cfg.nonOverlap) →
          t.reject.state = .retractWait ∧
            t.counter (.reject .retractsMade) = s.counter (.reject .retractsMade)))

/-- R145, R146 and R148: a gate that waits to extend does so once the reset inhibit and the non-overlap
time since EJECT_B's release have both passed, and one that waits to retract once they have passed since
EJECT_A's, where no release recorded is satisfied; until then it waits, and a gate that waits for neither
stays as it is. A fire held in the reset inhibit is served when the inhibit ends: BLASTING begins, and
lasts the blast time. -/
def Obligations.EjectorWaitsEnd : Prop :=
  (∀ (s : State) (c : Instr), c = .nonOverlapEnd ∨ c = .inhibitEnd ∧ s.reject.heldFire = false →
    (s.reject.state = .extendWait →
      (s.reject.inhibitEnd ≤ s.clock.run →
        (∀ b, s.reject.releaseB = some b → b + s.reject.cfg.nonOverlap ≤ s.clock.run) →
        Completes c s (s.modReject fun x =>
          { x with state := .extending, extendPending := false,
                   phaseEnd := s.clock.run + x.cfg.extendTime * 1000 }) [.reject .extendsMade] []) ∧
      (s.clock.run < s.reject.inhibitEnd ∨
          (∃ b, s.reject.releaseB = some b ∧ s.clock.run < b + s.reject.cfg.nonOverlap) →
        exec c s = .next s)) ∧
    (s.reject.state = .retractWait →
      (s.reject.inhibitEnd ≤ s.clock.run →
        (∀ a, s.reject.releaseA = some a → a + s.reject.cfg.nonOverlap ≤ s.clock.run) →
        Completes c s (s.modReject fun x =>
          { x with state := .retracting, phaseEnd := s.clock.run + x.cfg.retractTime * 1000 })
          [.reject .retractsMade] []) ∧
      (s.clock.run < s.reject.inhibitEnd ∨
          (∃ a, s.reject.releaseA = some a ∧ s.clock.run < a + s.reject.cfg.nonOverlap) →
        exec c s = .next s)) ∧
    (s.reject.state ≠ .extendWait → s.reject.state ≠ .retractWait → exec c s = .next s)) ∧
  (∀ s : State, s.reject.heldFire = true →
    (s.reject.inhibitEnd ≤ s.clock.run →
      Completes .inhibitEnd s (s.modReject fun x =>
        { x with state := .blasting, heldFire := false, phaseEnd := s.clock.run + x.cfg.blastTime })
        [.reject .blasts] []) ∧
    (s.clock.run < s.reject.inhibitEnd → exec .inhibitEnd s = .next s))

/-- R148: no command asserts an output of the ejector within the reset inhibit, and none asserts
EJECT_A within the non-overlap time of a release of EJECT_B in DIVERTER mode, nor EJECT_B within that of
a release of EJECT_A. -/
def Obligations.OutputsKeepApart : Prop :=
  ∀ (s t : State), step s = .next t →
    (s.ejectA = false → t.ejectA = true → t.reject.inhibitEnd ≤ t.clock.run ∧
      (t.reject.state = .extending →
        ∀ b, t.reject.releaseB = some b → b + t.reject.cfg.nonOverlap ≤ t.clock.run)) ∧
    (s.ejectB = false → t.ejectB = true → t.reject.inhibitEnd ≤ t.clock.run ∧
      ∀ a, t.reject.releaseA = some a → a + t.reject.cfg.nonOverlap ≤ t.clock.run)

/-- R143: the head record that is due is decided by the first reason that applies: its jam, the lowest
camera that rejects it, a camera without an image, a camera without a verdict; and it passes when none
does. R136, R142 and R143: a head whose travel has not reached the eject distance less the lead is not
decided; one whose travel has is decided, counted by its outcome, a REJECT under its reason and for
CAMERA under its camera, and under no other; it becomes the last decision and leaves the list, TRACK_FULL
is no longer present, and pointers at it move to the new head or the next sequence number; one that
passes does nothing else, one that is rejected fires the ejector, and the test is repeated. R145 to R147:
a fire does what the tables of PULSE mode and of DIVERTER mode give for the ejector's state, from REST
and out of it: it blasts, lengthens a blast, extends, waits, is held, is absorbed, cancels a retract or
marks an extend pending; in DIVERTER mode it sets the dwell start to its position; and it is counted as
they say. Where a fire is held in REST and the inhibit has ended, the first and the third row of R145
both apply, and that the fire is absorbed there, as before the inhibit's end, is the model's choice (log
32). -/
def Obligations.DecisionTakesFirstReason : Prop :=
  (∀ r : TrackRec,
    (r.jam = true → decideRecord r = some .jam) ∧
    (∀ (c : CameraId) (reason : Nat), r.jam = false → r.verdicts[c] = .reject reason →
      (∀ d : CameraId, d < c → ∀ x, r.verdicts[d] ≠ .reject x) →
      decideRecord r = some (.camera c reason)) ∧
    (r.jam = false → (∀ (c : CameraId) (x : Nat), r.verdicts[c] ≠ .reject x) →
      ((∃ c : CameraId, r.verdicts[c] = .noImage) → decideRecord r = some .noImage) ∧
      ((∀ c : CameraId, r.verdicts[c] ≠ .noImage) →
        ((∃ c : CameraId, r.verdicts[c] = .pending) → decideRecord r = some .noVerdict) ∧
        ((∀ c : CameraId, r.verdicts[c] ≠ .pending) → decideRecord r = none)))) ∧
  ∀ (s u : State) (r : TrackRec) (rest : List TrackRec) (next : BitVec 32),
    s.tracker.records = r :: rest →
    next = (match rest with | [] => s.tracker.nextSeq | x :: _ => x.seq) →
    u = { s with
          tracker := { s.tracker with records := rest }
          cameras := s.cameras.map fun k =>
            if k.pointer = r.seq then { k with pointer := next } else k
          reject := { s.reject with
            last := some { seq := r.seq, reason := decideRecord r, position := s.tracker.position } }
          hold := { s.hold with present := { s.hold.present with trackFull := false } } } →
    ((s.tracker.position - r.position).toInt < (s.reject.cfg.distance : Int) - s.reject.lead →
      decideDue (r :: rest) s = s) ∧
    ((s.reject.cfg.distance : Int) - s.reject.lead ≤ (s.tracker.position - r.position).toInt →
      decideDue (r :: rest) s = decideDue rest (decideHead r s)) ∧
    (decideRecord r = none →
      (decideHead r s).uncounted = u.uncounted ∧
      Effects s (decideHead r s) s.clock.hall.base [.reject .decisionsPass] []) ∧
    (∀ x, decideRecord r = some x →
      (decideHead r s).uncounted =
        ({ u with reject := (fireEjector u).reject } : State).uncounted ∧
      (decideHead r s).counter (.reject .fires) =
        min (s.counter (.reject .fires) + 1) Config.counterMax ∧
      ∀ o : RejectCounter,
        (x = .jam ∧ o = .rejectJam ∨ (∃ c n, x = .camera c n ∧ o = .rejectCamera c) ∨
          x = .noImage ∧ o = .rejectNoImage ∨ x = .noVerdict ∧ o = .rejectNoVerdict) →
        (decideHead r s).counter (.reject o) =
          min (s.counter (.reject o) + 1) Config.counterMax ∧
        ∀ (y : Reject) (l : List RejectCounter),
          FireTable u.reject y s.clock.run s.tracker.position l →
          (decideHead r s).reject = y ∧
          ∀ k : RejectCounter,
            (decideHead r s).counter (.reject k) = if k ∈ o :: .fires :: l then
              min (s.counter (.reject k) + 1) Config.counterMax else s.counter (.reject k))

/-- R137: a verdict frame with an entry count of 0 or above 16, one that ends before its last entry, and
one with an entry whose camera is above 3, whose result is no code, or whose REJECT carries a reason of 0
or above 15, is counted malformed and applies no entry; the entries of any other are applied in the order
of the frame. R138: an entry whose place modulo 2^32, from the head's sequence number or, in an empty
list, from the next, is that of no record is older than the list where the difference is negative as a
signed number, counted late and noticed with VERDICT_LATE, and otherwise unknown, and counted so; neither
changes a record. R139: one whose frame is not of the camera's source stream, or whose camera is not
enabled or not required, or NOT_REQUIRED in the record, is ignored and counted so. A verdict for a record
in the list, from a camera's own source stream and for a camera that is enabled, required and not
NOT_REQUIRED there, fills a PENDING state, turns a PASS into a REJECT, and is otherwise a duplicate that
changes nothing but its counter. -/
def Obligations.VerdictFillsPending : Prop :=
  (∀ (i : StreamId) (octets l : Octets) (n : Nat) (entry : Nat → VerdictEntry) (bad : Prop) (s : State),
    l = framePayload octets → n = field l 1 1 →
    (∀ k, entry k = { camera := field l (2 + 8 * k) 1, result := field l (3 + 8 * k) 1
                      reason := field l (4 + 8 * k) 1
                      seq := BitVec.ofNat 32 (field l (6 + 8 * k) 4) }) →
    (bad ↔ n = 0 ∨ 16 < n ∨ l.length < 2 + 8 * n ∨ ∃ k, k < n ∧ (3 < (entry k).camera ∨
      1 < (entry k).result ∨
        (entry k).result = 1 ∧ ((entry k).reason = 0 ∨ 15 < (entry k).reason))) →
    (bad → (readVerdicts i octets s).uncounted = s.uncounted ∧
      Effects s (readVerdicts i octets s) s.clock.hall.base [.reject .malformedVerdicts] []) ∧
    (¬bad → readVerdicts i octets s =
      (List.range n).foldl (fun u k => applyVerdict i (entry k) u) s)) ∧
  (∀ (i : StreamId) (c : CameraId) (e : VerdictEntry) (s : State) (first : BitVec 32),
    e.camera = c.val →
    (s.tracker.records = [] ∧ first = s.tracker.nextSeq ∨
      ∃ r, s.tracker.records.head? = some r ∧ first = r.seq) →
    ((e.seq - first).toNat < s.tracker.records.length →
      applyVerdict i e s = applyInList i c e s) ∧
    (s.tracker.records.length ≤ (e.seq - first).toNat → (e.seq - first).toInt < 0 →
      (applyVerdict i e s).uncounted = s.uncounted ∧
      Effects s (applyVerdict i e s) s.clock.hall.base [.camera c .lateVerdicts]
        [.verdictLate c e.seq]) ∧
    (s.tracker.records.length ≤ (e.seq - first).toNat → 0 ≤ (e.seq - first).toInt →
      (applyVerdict i e s).uncounted = s.uncounted ∧
      Effects s (applyVerdict i e s) s.clock.hall.base [.camera c .unknownVerdicts] [])) ∧
  (∀ (i : StreamId) (c : CameraId) (e : VerdictEntry) (s : State) (r : TrackRec),
    s.tracker.find e.seq = some r →
    s.cameras[c].cfg.source ≠ some i ∨ s.cameras[c].cfg.enabled = false ∨
      s.cameras[c].cfg.required = false ∨ r.verdicts[c] = .notRequired →
    (applyInList i c e s).uncounted = s.uncounted ∧
    Effects s (applyInList i c e s) s.clock.hall.base [.camera c .ignoredVerdicts] []) ∧
  ∀ (i : StreamId) (c : CameraId) (e : VerdictEntry) (s : State) (r : TrackRec),
    s.cameras[c].cfg.source = some i → s.cameras[c].cfg.enabled = true →
    s.cameras[c].cfg.required = true → s.tracker.find e.seq = some r →
    r.verdicts[c] ≠ .notRequired →
    (r.verdicts[c] = .pending ∨ r.verdicts[c] = .pass ∧ e.result = 1 →
      (applyInList i c e s).uncounted = (s.modRecord e.seq fun r =>
        { r with verdicts := r.verdicts.set c (if e.result = 0 then .pass else .reject e.reason)
          }).uncounted ∧
      Effects s (applyInList i c e s) s.clock.hall.base [.camera c .verdictsApplied] []) ∧
    (r.verdicts[c] ≠ .pending → ¬(r.verdicts[c] = .pass ∧ e.result = 1) →
      (applyInList i c e s).uncounted = s.uncounted ∧
      Effects s (applyInList i c e s) s.clock.hall.base [.camera c .duplicateVerdicts] [])

/-! ## Line hold, counters and notices -/

/-- R170 and R171: a source that joins the present set while the latch is RELEASED sets the latch with
that cause at the run time now, raises HOLD_SET and counts; while the latch is SET it joins and nothing
else happens; and a source that is present already changes nothing. A source that leaves leaves the
latch as it is. -/
def Obligations.JoiningSourceSetsLatch : Prop :=
  ∀ (h : HoldSource) (s : State),
    (s.hold.present.has h = true → joinHold h s = s) ∧
    (s.hold.present.has h = false → s.hold.latch = true →
      joinHold h s = { s with hold := { s.hold with present := s.hold.present.join h } }) ∧
    (s.hold.present.has h = false → s.hold.latch = false →
      (joinHold h s).uncounted = ({ s with hold :=
        { s.hold with present := s.hold.present.join h, latch := true, cause := .source h,
                      setTime := some s.clock.run } } : State).uncounted ∧
      Effects s (joinHold h s) s.clock.hall.base [.device .holdSets] [.holdSet (.source h)]) ∧
    (leaveHold h s).hold.latch = s.hold.latch ∧ (leaveHold h s).hold.present.has h = false ∧
    (∀ x, x ≠ h → (leaveHold h s).hold.present.has x = s.hold.present.has x ∧
      (joinHold h s).hold.present.has x = s.hold.present.has x) ∧
    (joinHold h s).hold.present.has h = true ∧ (HoldInv s → (joinHold h s).hold.latch = true)

/-- R176 and R177: a raised notice folds into the record of its kind and subject, which keeps its place
and its first hall time and takes the new detail and hall time and a repeat count one higher, at most
65,535; with none, it is appended as a record of its own while fewer than 64 are held; and in a full
queue it is dropped and the overflow count grows, at most to 65,535. -/
def Obligations.RaisedNoticeFoldsOrQueues : Prop :=
  ∀ (b : NoticeBlock) (e : NoticeEvent) (now : BaseTime),
    (∀ (l l' : List NoticeRec) (r : NoticeRec), b.records = l ++ r :: l' →
      r.event.folds e = true → (∀ x ∈ l ++ l', x.event.folds e = false) →
      (b.put e now).1 = { b with records := l ++
        { r with event := e, lastTime := now, repeats := min (r.repeats + 1) 65535 } :: l' }) ∧
    ((∀ x ∈ b.records, x.event.folds e = false) → b.records.length < 64 →
      (b.put e now).1 = { b with records := b.records ++
        [{ event := e, firstTime := now, lastTime := now, repeats := 1 }] }) ∧
    ((∀ x ∈ b.records, x.event.folds e = false) → 64 ≤ b.records.length →
      (b.put e now).1 = { b with overflow := min (b.overflow + 1) 65535 })

/-- R181 and section 1.6: a counter that grows saturates at 4,294,967,295; as it crosses 2,147,483,648
it raises COUNTER_HALF, and as it reaches its end COUNTER_FULL, each with the value, and an increment
that crosses both raises both; it raises nothing otherwise. No other counter changes but those of
notices, and no other state. Where it raises, the three notice counters are taken not to cross a point
themselves, which would raise a notice of their own. -/
def Obligations.CountersSaturateAndNotice : Prop :=
  ∀ (c : CounterRef) (n : Nat) (s : State) (now : BaseTime), c.ofNotices = false →
    now = s.clock.hall.base →
    (bumpBy c n s).uncounted = s.uncounted ∧
    (bumpBy c n s).counter c = min (s.counter c + n) 4294967295 ∧
    (∀ d, d ≠ c → d.ofNotices = false → (bumpBy c n s).counter d = s.counter d) ∧
    (s.counter c + n < 2147483648 ∨
        2147483648 ≤ s.counter c ∧ s.counter c + n < 4294967295 ∨ 4294967295 ≤ s.counter c →
      (bumpBy c n s).notices = s.notices) ∧
    ((∀ d, d.ofNotices = true → Uncrossed (s.counter d) 2) →
      (s.counter c < 2147483648 → 2147483648 ≤ s.counter c + n → s.counter c + n < 4294967295 →
        (bumpBy c n s).notices = (s.notices.put (.counterHalf c (s.counter c + n)) now).1) ∧
      (2147483648 ≤ s.counter c → s.counter c < 4294967295 → 4294967295 ≤ s.counter c + n →
        (bumpBy c n s).notices = (s.notices.put (.counterFull c 4294967295) now).1) ∧
      (s.counter c < 2147483648 → 4294967295 ≤ s.counter c + n →
        (bumpBy c n s).notices =
          ((s.notices.put (.counterHalf c 4294967295) now).1.put
            (.counterFull c 4294967295) now).1))

/-! ## Reception -/

/-- R8 and R24: the first octet of an arriving frame stamps it and takes the cell at the head of the free
list, and each further 256 octets take one more, up to the 9,216th octet; a reception that finds no free
cell is overrun, and takes none from then on. R25: an octet of the NEXT piece that an open frame expects
counts from that frame's octets and cells. A port that is DOWN receives nothing. -/
def Obligations.ReceptionTakesCells : Prop :=
  ∀ (o : ArrivingOctet) (p : PortId) (s : State), p = o.port →
    (s.ports[p].link = false → exec (.receptionCellTake o) s = .next s) ∧
    ∀ (r : Reception) (before held : Nat), s.ports[p].link = true →
      (s.rx[p].cur = some r ∨ s.rx[p].cur = none ∧ r =
        { cells := [], recvTime := s.clock.hall, recvRun := s.clock.run, epoch := s.clock.epoch
          overrun := false, marked := s.ports[p].cfg.rxPreempt }) →
      ((∃ a, s.rx[p].asm = some a ∧ o.marker = some (.next a.expect) ∧ r.marked = true ∧
          s.ports[p].cfg.rxPreempt = true ∧ before = a.octets.length ∧ held = a.cells.length) ∨
        (before = 0 ∧ held = 0 ∧ (r.marked = false ∨ s.ports[p].cfg.rxPreempt = false ∨
          ∀ a, s.rx[p].asm = some a → o.marker ≠ some (.next a.expect)))) →
      (r.overrun = false →
        held + r.cells.length < (min (before + o.number) 9216 + 255) / 256 →
        (∀ c rest, s.mem.free = c :: rest → exec (.receptionCellTake o) s = .next
          { s with
            rx := upd s.rx p fun x => { x with cur := some { r with cells := r.cells ++ [c] } }
            mem := { s.mem with free := rest, low := min s.mem.low rest.length } }) ∧
        (s.mem.free = [] → exec (.receptionCellTake o) s = .next
          { s with
            rx := upd s.rx p fun x => { x with cur := some { r with overrun := true } } })) ∧
      (r.overrun = true ∨
          (min (before + o.number) 9216 + 255) / 256 ≤ held + r.cells.length →
        exec (.receptionCellTake o) s = .next
          { s with rx := upd s.rx p fun x => { x with cur := some r } })

/-- R7 and R24: a reception that ends with its cells is put to the checks in their order; a frame that
fails one is dropped, counted by that check alone, and its cells join the tail of the free list. One that
was overrun is dropped and counted in receive overruns. R15 to R17, R29 to R31 and R41: a good frame of a
line port whose EtherType is not set apart is counted; unmatched, it is dropped and counted under DROP,
and under DEFAULT goes to Q0 of its default egress set less its own port and those that are DOWN;
matched, it is dropped and counted beyond the stream's longest length, and otherwise counts in its frames
and octets and, in role PLAIN or as a frame that no one reads, goes to its class's queue of its egress
set less the same ports. A queue admits it by the free test and its limit, and each refusal is counted
against the stream or the port; with no port left it is unforwarded, and with no queue its cells are
returned. In role STATUS or VERDICT it is read as well. That a STATUS or COMMAND stream which the record
of its robot does not name is only forwarded is the model's reading (log 18). R35 and R168: a frame of a
stream that a queue admits is copied to each ACTIVE window that mirrors the stream, S0 before S1 by the
model's choice (log 49), and one that no queue admits is not: the copy joins the tail of Q0 of the
window's port with a reference more when its limit admits the frame's cells, whatever the free count, and
otherwise is refused there and counted in mirror drops alone. -/
def Obligations.ReceiveChecksDropBadFrames : Prop :=
  (∀ (p : PortId) (octets : Octets) (s : State) (r : Reception) (c : PortCounter),
    s.ports[p].link = true → s.rx[p].cur = some r →
    (r.overrun = true ∧ c = .receiveOverruns ∨
      r.overrun = false ∧ r.cells.length = (min octets.length 9216 + 255) / 256 ∧
        (octets.length < 64 ∧ c = .undersize ∨ 9216 < octets.length ∧ c = .oversize ∨
          64 ≤ octets.length ∧ octets.length ≤ 9216 ∧ fcsMatches octets = false ∧ c = .fcsErrors)) →
    Completes (.frameReceptionEnd p octets) s
      { s with rx := upd s.rx p fun x => { x with cur := none }
               mem := { s.mem with free := s.mem.free ++ r.cells } } [.port p c] []) ∧
  (∀ (p : PortId) (octets : Octets) (s : State) (r : Reception), p.val < 10 →
    GoodArrival s p octets r → ordinary octets →
    (s.unmatched p octets →
      (s.ports[p].cfg.unmatched = .drop →
        Completes (.frameReceptionEnd p octets) s (s.dropped p r)
          (receivedCounts p octets ++ [.port p .unmatchedDrops]) []) ∧
      (s.ports[p].cfg.unmatched = .default →
        Admission (.frameReceptionEnd p octets) s p octets r none 0
          (s.egressPorts s.ports[p].cfg.defaultEgress p) (.port p .unmatchedCellDrops)
          (receivedCounts p octets))) ∧
    ∀ i : StreamId, s.matched p octets i →
      (s.streams[i].cfg.maxLength < octets.length →
        Completes (.frameReceptionEnd p octets) s (s.dropped p r)
          (receivedCounts p octets ++ [.stream i .lengthDrops]) []) ∧
      (octets.length ≤ s.streams[i].cfg.maxLength →
        (s.streams[i].cfg.role = .plain ∨
            (s.streams[i].cfg.role = .status ∧
              ∀ b : RobotId, s.streams[i].cfg.subject = .robot b → s.robots[b].cfg.statusStream ≠ i) ∨
            (s.streams[i].cfg.role = .command ∧
              ∀ b : RobotId, s.streams[i].cfg.subject = .robot b →
                s.robots[b].state.armed = false ∨ s.robots[b].cfg.commandStream ≠ i) →
          Admission (.frameReceptionEnd p octets) s p octets r (some i) s.streams[i].cfg.cls.queue
            (s.egressPorts s.streams[i].cfg.egress p) (.stream i .cellDrops)
            (receivedCounts p octets ++ streamCounts i octets)) ∧
        ∀ read : State → State,
          ((∃ b : RobotId, s.streams[i].cfg.role = .status ∧ s.streams[i].cfg.subject = .robot b ∧
              s.robots[b].cfg.statusStream = i ∧ s.robots[b].damaged = false ∧
              s.robots[b].ecc = .clean ∧ read = statusFrame b i octets r.recvTime) ∨
            s.streams[i].cfg.role = .verdict ∧ read = readVerdicts i octets) →
          ∃ t,
            exec (.frameReceptionEnd p octets) s = .next (t.copied i
              (if (s.egressPorts s.streams[i].cfg.egress p).any
                  (s.admits s.streams[i].cfg.cls.queue r.cells.length) then r.cells.head?
                else none)) ∧
            t.unanswered = (read (s.received p)).unanswered ∧ t.mgmt = s.mgmt ∧
            AdmittedTo s t s.streams[i].cfg.cls.queue
              ((s.egressPorts s.streams[i].cfg.egress p).filter
                (s.admits s.streams[i].cfg.cls.queue r.cells.length)) r.cells octets ∧
            t.counter (.stream i .frames) =
              min (s.counter (.stream i .frames) + 1) Config.counterMax)) ∧
  ∀ (i : StreamId) (h : CellId) (f : Frame) (s : State) (copy : WindowId → State → State),
    s.mem.frames[h] = some f →
    (∀ w u, copy w u =
      if u.windows[w].state = .active ∧ i ∈ u.windows[w].mirror then mirrorTo w h u else u) →
    mirrorFrame i h s = copy 1 (copy 0 s) ∧
    ∀ (w : WindowId) (p : PortId) (t : State), p = windowPort w → t = mirrorTo w h s →
      (s.fitsLimit 0 f.cells.length p = true →
        t.unanswered = s.unanswered ∧ t.mgmt = s.mgmt ∧
        Effects s t s.clock.hall.base [.port p (.admitted 0)] [] ∧
        t.mem = { s.mem with frames := s.mem.frames.set h (some { f with refs := f.refs + 1 }) } ∧
        JoinsTail s t p 0 { frame := h, kind := .mirror, delayCounted := false
                            holdCounted := false } ∧
        ∀ x : PortId, x ≠ p → t.egress[x] = s.egress[x]) ∧
      (s.fitsLimit 0 f.cells.length p = false →
        t.uncounted = s.uncounted ∧
        Effects s t s.clock.hall.base [.port p (.refused 0), .service w .mirrorDrops] [])

/-- R10, R159, R183 and R184: a good management frame to the station address, on a line port with
management allowed or from the technician of an ACTIVE window, is counted malformed when its source is a
group address; else it joins the tail of the request queue when fewer than four are held, and with four
is answered BUSY at once, with its tag and no body; its cells are returned then. R158, R159, R165 and
R167: a trap on a service port returns its cells and is counted in the window's traps and session traps,
SERVICE_TRAP carrying the first reason that applies and the source; an open window of trap action CLOSE
closes with cause TRAP. R158 and R162: a GRANTED window's first frame from its technician, or from an
individual source where it has none, makes it ACTIVE and is handled as there; at MAINTAIN the window
takes its PARKED robots into SERVICE and waits for those neither PARKED nor IDLE, and where that frame is
a trap that closes the window, those it took are ARMING. R165 and R166: a frame that passes the injection
check goes, whatever its class and role, to Q0 of the UP line ports of its stream's egress set, counted
as injected. R10 and R11: a management frame on a line port without management allowed, or to another
destination than the station address, is dropped as a management refusal; a TIME MARK on the TIME_UP port
joins the hall clock's marks with its receive time; elsewhere it counts as misplaced, as do a RANGE PROBE
off a TIME_DOWN port and a RANGE REPLY off the TIME_UP port. R11 and R59: a RANGE REPLY on the TIME_UP
port with nanoseconds out of range counts as malformed, one that answers no outstanding probe with a t1
as unmatched; one that does ends the probe, and its sample ((t4 − t1) − (t3 − t2)) ÷ 2 is discarded below
0 and above 100,000 ns, else sets D or moves it by an eighth of the difference, clears stale and the lost
count, and is counted. R11 and R60: a RANGE PROBE on a TIME_DOWN port whose Q2 has room is answered there
with its sequence number and t2, t3 being 0 until sent; that the reply is untagged is log 43, that the
probe's cells are returned first log 33. That the cells of a TIME MARK taken on the TIME_UP port are
returned in this step, while the mark waits in the clock's list to be read, is the model's choice (log
12). -/
def Obligations.ManagementFrameJoinsQueue : Prop :=
  (∀ (p : PortId) (octets : Octets) (s : State) (r : Reception) (q : Request) (busy : Reply),
    GoodArrival s p octets r →
    (p.val < 10 ∧ s.ports[p].cfg.mgmtAllowed = true ∨
      ∃ w : WindowId, p = windowPort w ∧ s.passesOn w octets) →
    frameEtherType octets = 0x88B5 → frameDst octets = s.station →
    q = { port := p, source := frameSrc octets, vlan := frameVlan octets
          payload := framePayload octets } →
    busy = { status := .busy, body := [] } →
    (isGroup (frameSrc octets) = false → s.mgmt.queue.length < 4 →
      Completes (.frameReceptionEnd p octets) s
        { s.dropped p r with mgmt := { s.mgmt with queue := s.mgmt.queue ++ [q] } }
        (receivedCounts p octets ++ [.device .requestsQueued]) []) ∧
    (isGroup (frameSrc octets) = false → 4 ≤ s.mgmt.queue.length →
      ∃ t, exec (.frameReceptionEnd p octets) s = .next t ∧
        t.unanswered = (s.received p).unanswered ∧ t.mgmt = s.mgmt ∧
        t.counter (.device .busyAnswers) =
          min (s.counter (.device .busyAnswers) + 1) Config.counterMax ∧
        (AnswerRoom s q busy → Answered t q busy ∧
          t.mem.free = s.mem.free.drop (cellsFor (answerFrame s.station q busy).length) ++ r.cells ∧
          Effects s t s.clock.hall.base
            (receivedCounts p octets ++ [.device .busyAnswers]) [])) ∧
    (isGroup (frameSrc octets) = true →
      Completes (.frameReceptionEnd p octets) s (s.dropped p r)
        (receivedCounts p octets ++ [.device .malformedRequests]) [])) ∧
  (∀ (w : WindowId) (p : PortId) (octets : Octets) (s : State) (r : Reception), p = windowPort w →
    GoodArrival s p octets r →
    (ordinary octets ∧
        (∀ i, s.keyHolder (frameDst octets) (frameVlan octets) = some i →
          s.streams[i].ecc = .clean) ∨
      frameEtherType octets = 0x88B5) →
    (∀ (reason : TrapReason) (traps : Nat), s.trapsFor w octets reason →
      traps = min (s.windows[w].sessionTraps + 1) 65535 →
      (s.windows[w].state = .closed ∨ s.windows[w].trapCloses = false →
        Completes (.frameReceptionEnd p octets) s
          ((s.dropped p r).modWindow w fun x => { x with sessionTraps := traps })
          (receivedCounts p octets ++ [.service w .traps])
          [.serviceTrap w reason (frameSrc octets)]) ∧
      (s.windows[w].state ≠ .closed → s.windows[w].trapCloses = true →
        ∃ t, exec (.frameReceptionEnd p octets) s = .next t ∧
          t.unsupervised = (s.received p).unsupervised ∧ t.mgmt = s.mgmt ∧ t.hold = s.hold ∧
          (∀ x : PortId, x.val < 10 → t.egress[x] = s.egress[x]) ∧
          t.windows[w] = { s.windows[w] with
            state := .closed, technician := none, learned := false, warned := false
            lastClose := some .trap, sessionTraps := traps, pendingSet := 0, heldSet := 0 } ∧
          (∀ b : RobotId, s.windows[w].heldSet.getLsbD b.val = true →
            t.robots[b].state = .arming ∧ t.robots[b].holder = none) ∧
          (∀ b : RobotId, s.windows[w].heldSet.getLsbD b.val = false → t.robots[b] = s.robots[b]) ∧
          Effects s t s.clock.hall.base (receivedCounts p octets ++ [.service w .traps])
            [.serviceTrap w reason (frameSrc octets), .serviceClosed w .trap traps])) ∧
    (s.windows[w].state = .granted →
      s.windows[w].technician = some (frameSrc octets) ∨
        s.windows[w].technician = none ∧ isGroup (frameSrc octets) = false →
      (s.windows[w].level ≠ .maintain →
        exec (.frameReceptionEnd p octets) s =
          exec (.frameReceptionEnd p octets) (s.modWindow w fun x =>
            { x with state := .active, technician := some (frameSrc octets)
                     learned := x.learned || x.technician.isNone })) ∧
      (s.windows[w].level = .maintain → s.windows[w].trapCloses = true →
        ∀ reason, (s.modWindow w fun x =>
          { x with state := .active, technician := some (frameSrc octets) }).trapsFor w octets
            reason →
        ∃ t, exec (.frameReceptionEnd p octets) s = .next t ∧ t.windows[w].state = .closed ∧
          t.windows[w].lastClose = some .trap ∧ t.windows[w].technician = none ∧
          t.windows[w].heldSet = 0 ∧ t.windows[w].pendingSet = 0 ∧
          t.windows[w].sessionTraps = min (s.windows[w].sessionTraps + 1) 65535 ∧
          ∀ b : RobotId,
            (s.windows[w].robots.getLsbD b.val = true → s.robots[b].state = .parked →
              t.robots[b].state = .arming ∧ t.robots[b].holder = none ∧
                t.robots[b].slot = none ∧ t.robots[b].store = none) ∧
            (s.windows[w].robots.getLsbD b.val = false ∨ s.robots[b].state ≠ .parked →
              s.windows[w].heldSet.getLsbD b.val = false → t.robots[b] = s.robots[b])) ∧
      (s.windows[w].level = .maintain →
        (s.windows[w].trapCloses = false ∨ ∀ reason, ¬(s.modWindow w fun x =>
          { x with state := .active, technician := some (frameSrc octets) }).trapsFor w octets
            reason) →
        ∃ t, exec (.frameReceptionEnd p octets) s = .next t ∧ t.windows[w].state = .active ∧
          t.windows[w].technician = some (frameSrc octets) ∧
          ∀ b : RobotId,
            (s.windows[w].robots.getLsbD b.val = true → s.robots[b].state = .parked →
              t.robots[b].state = .service ∧ t.robots[b].holder = some w ∧
                t.robots[b].slot = none ∧ t.robots[b].store = none ∧
                t.windows[w].heldSet.getLsbD b.val = true) ∧
            (s.windows[w].robots.getLsbD b.val = false ∨ s.robots[b].state ≠ .parked →
              t.robots[b] = s.robots[b]) ∧
            (s.windows[w].robots.getLsbD b.val = true → s.robots[b].state ≠ .parked →
              s.robots[b].state ≠ .idle → t.windows[w].pendingSet.getLsbD b.val = true))) ∧
    (∀ i : StreamId, ordinary octets → s.passesOn w octets → s.matched p octets i →
      s.windows[w].level ≠ .observe → s.windows[w].covers s.streams[i].cfg →
      s.robotAllows w s.streams[i].cfg → octets.length ≤ s.streams[i].cfg.maxLength →
      Admission (.frameReceptionEnd p octets) s p octets r (some i) 0
        ((s.egressPorts s.streams[i].cfg.egress p).filter fun x => decide (x.val < 10))
        (.stream i .cellDrops)
        (receivedCounts p octets ++ streamCounts i octets ++ [.service w .injected]))) ∧
  (∀ (p : PortId) (octets : Octets) (s : State) (r : Reception), GoodArrival s p octets r →
    (frameEtherType octets = 0x88B6 → s.ports[p].cfg.timing = .timeUp →
      Completes (.frameReceptionEnd p octets) s
        ((s.dropped p r).modClock fun c => { c with marks := c.marks ++
          [{ recvTime := r.recvTime, recvRun := r.recvRun, epoch := r.epoch, octets := octets }] })
        (receivedCounts p octets) []) ∧
    ∀ k : PortCounter,
      (frameEtherType octets = 0x88B6 ∧ s.ports[p].cfg.timing ≠ .timeUp ∧ k = .misplacedMarks ∨
        frameEtherType octets = 0x88B7 ∧ s.ports[p].cfg.timing ≠ .timeDown ∧
          k = .misplacedRange ∨
        frameEtherType octets = 0x88B8 ∧ s.ports[p].cfg.timing ≠ .timeUp ∧ k = .misplacedRange ∨
        frameEtherType octets = 0x88B5 ∧ p.val < 10 ∧ k = .managementRefusals ∧
          (s.ports[p].cfg.mgmtAllowed = false ∨ frameDst octets ≠ s.station)) →
      Completes (.frameReceptionEnd p octets) s (s.dropped p r)
        (receivedCounts p octets ++ [.port p k]) []) ∧
  ∀ (p : PortId) (octets : Octets) (s : State) (r : Reception) (seq : Nat) (t2 t3 : HallTime),
    GoodArrival s p octets r → seq = field (framePayload octets) 2 2 →
    t2 = timestampOf (slice (framePayload octets) 4 12) →
    t3 = timestampOf (slice (framePayload octets) 16 12) →
    (frameEtherType octets = 0x88B8 → s.ports[p].cfg.timing = .timeUp →
      (999999999 < t2.ns ∨ 999999999 < t3.ns →
        Completes (.frameReceptionEnd p octets) s (s.dropped p r)
          (receivedCounts p octets ++ [.clock .rangeMalformed]) []) ∧
      (t2.ns ≤ 999999999 → t3.ns ≤ 999999999 →
        ((∀ b, s.clock.probe = some b → b.seq ≠ seq ∨ b.t1 = none) →
          Completes (.frameReceptionEnd p octets) s (s.dropped p r)
            (receivedCounts p octets ++ [.clock .repliesUnmatched]) []) ∧
        ∀ (t1 : HallTime) (sample : Int), s.clock.probe = some { seq := seq, t1 := some t1 } →
          sample = Int.tdiv (HallTime.diff r.recvTime t1 - HallTime.diff t3 t2) 131072 →
          (sample < 0 ∨ 6553600000 < sample →
            Completes (.frameReceptionEnd p octets) s
              ((s.dropped p r).modClock fun c => { c with probe := none })
              (receivedCounts p octets ++ [.clock .samplesDiscarded]) []) ∧
          (0 ≤ sample → sample ≤ 6553600000 →
            Completes (.frameReceptionEnd p octets) s
              ((s.dropped p r).modClock fun c =>
                { c with
                  probe := none, stale := false, lostProbes := 0
                  delay := some (match c.delay with
                    | none => sample
                    | some d => d + Int.tdiv (sample - d) 8) })
              (receivedCounts p octets ++ [.clock .samplesGood]) []))) ∧
    (frameEtherType octets = 0x88B7 → s.ports[p].cfg.timing = .timeDown →
      s.fitsLimit 2 1 p = true →
      ∃ t x f, exec (.frameReceptionEnd p octets) s = .next t ∧
        t.unanswered = (s.received p).unanswered ∧ t.mgmt = s.mgmt ∧
        Effects s t s.clock.hall.base (receivedCounts p octets) [] ∧
        t.egress[p].queues[(2 : QueueId)] = s.egress[p].queues[(2 : QueueId)] ++ [x] ∧
        t.mem.frames[x.frame] = some f ∧ f.kind = .rangeReply ∧
        f.octets = formFrame (frameSrc octets) s.station 0 0x88B8
          ([1, 0] ++ beBytes 2 seq ++ timestampBytes r.recvTime ++ List.replicate 12 0))

/-- R82 to R84: with receive preemption disabled a piece is received as a frame. With it enabled, a
non-last FIRST piece in IDLE opens a frame that expects number 0, and in ASSEMBLING it does so after the
open frame is discarded and counted in assembly errors, as a last FIRST piece does too; the expected
non-last NEXT piece joins its octets and advances the number when the frame's cells and the piece's hold
them; another NEXT piece discards the open frame with its cells and counts an assembly error; and in IDLE
a NEXT piece is an orphan. A last piece, FIRST in IDLE or the expected NEXT, makes the frame whole: it is
counted in assembly OK, and goes to the receive checks as a frame received whole, with the receive time
of its first piece. R25: a FIRST or an expected NEXT piece that found the free list empty, with cells
short of what the frame needs, is an overrun, and the frame is discarded with its cells. R83: a piece of
fewer than 64 octets of data discards the open frame and counts an assembly error, or in IDLE is an
orphan. That a wrong or a short piece returns its cells before the open frame's, and a FIRST piece keeps
its own, is the model's choice of order (log 41); that a wrong, a short or an orphan piece for which a
cell was missing counts as that, and as no overrun, is the model's reading (log 22). -/
def Obligations.AssemblerFollowsMarkers : Prop :=
  ∀ (p : PortId) (m : PieceMarker) (octets : Octets) (s : State),
    (s.ports[p].cfg.rxPreempt = false →
      exec (.pieceReceived p m octets) s = exec (.frameReceptionEnd p octets) s) ∧
    ∀ r : Reception, s.ports[p].cfg.rxPreempt = true → s.ports[p].link = true →
      s.rx[p].cur = some r → r.marked = true →
      (∀ data : Octets, 64 ≤ data.length → octets = data ++ pieceCheckOf data →
        (∀ free : List CellId, m = .first → r.overrun = false → data.length ≤ 9216 →
          r.cells.length = (data.length + 255) / 256 →
          (s.rx[p].asm = none ∧ free = s.mem.free ∨
            ∃ a, s.rx[p].asm = some a ∧ free = s.mem.free ++ a.cells) →
          Completes (.pieceReceived p m octets) s
            { s with
              rx := upd s.rx p fun _ =>
                { cur := none
                  asm := some
                    { expect := 0, octets := data, cells := r.cells, recvTime := r.recvTime,
                      recvRun := r.recvRun, epoch := r.epoch } }
              mem := { s.mem with free := free } }
            (.port p .piecesReceived ::
              if s.rx[p].asm.isSome then [.port p .assemblyErrors] else []) []) ∧
        (∀ free : List CellId, m = .first → r.overrun = true →
          r.cells.length < (min data.length 9216 + 255) / 256 →
          (s.rx[p].asm = none ∧ free = s.mem.free ∨
            ∃ a, s.rx[p].asm = some a ∧ free = s.mem.free ++ a.cells) →
          Completes (.pieceReceived p m octets) s
            { s with rx := upd s.rx p fun _ => Rx.reset
                     mem := { s.mem with free := free ++ r.cells } }
            (.port p .piecesReceived ::
              (if s.rx[p].asm.isSome then [.port p .assemblyErrors] else []) ++
              [.port p .receiveOverruns]) []) ∧
        (∀ a : Assembly, m = .next a.expect → s.rx[p].asm = some a →
          a.octets.length + data.length ≤ 9216 →
          a.cells.length + r.cells.length = (a.octets.length + data.length + 255) / 256 →
          Completes (.pieceReceived p m octets) s
            (s.modRx p fun _ =>
              { cur := none
                asm := some
                  { a with expect := a.expect + 1, octets := a.octets ++ data,
                           cells := a.cells ++ r.cells } }) [.port p .piecesReceived] []) ∧
        (∀ a : Assembly, m = .next a.expect → s.rx[p].asm = some a → r.overrun = true →
          a.cells.length + r.cells.length <
            (min (a.octets.length + data.length) 9216 + 255) / 256 →
          Completes (.pieceReceived p m octets) s
            { s with rx := upd s.rx p fun _ => Rx.reset
                     mem := { s.mem with free := s.mem.free ++ (a.cells ++ r.cells) } }
            [.port p .piecesReceived, .port p .receiveOverruns] []) ∧
        (∀ (a : Assembly) (n : Fin 8), m = .next n → n ≠ a.expect → s.rx[p].asm = some a →
          Completes (.pieceReceived p m octets) s
            { s with rx := upd s.rx p fun _ => Rx.reset
                     mem := { s.mem with free := s.mem.free ++ r.cells ++ a.cells } }
            [.port p .piecesReceived, .port p .assemblyErrors] []) ∧
        (∀ n : Fin 8, m = .next n → s.rx[p].asm = none →
          Completes (.pieceReceived p m octets) s
            { s with rx := upd s.rx p fun _ => Rx.reset
                     mem := { s.mem with free := s.mem.free ++ r.cells } }
            [.port p .piecesReceived, .port p .orphanPieces] [])) ∧
      (64 ≤ octets.length → endsWithPieceCheck octets = false →
        ∀ (whole : Octets) (x : Reception),
          (m = .first ∧ s.rx[p].asm = none ∧ whole = octets ∧ x = { r with overrun := false } ∨
            ∃ a, m = .next a.expect ∧ s.rx[p].asm = some a ∧ whole = a.octets ++ octets ∧
              x = { cells := a.cells ++ r.cells, recvTime := a.recvTime, recvRun := a.recvRun
                    epoch := a.epoch, overrun := false, marked := r.marked }) →
          x.cells.length = (min whole.length 9216 + 255) / 256 →
          exec (.pieceReceived p m octets) s =
            exec (.frameReceptionEnd p whole) (bump (.port p .assemblyOk)
              (bump (.port p .piecesReceived)
                (s.modRx p fun _ => { cur := some x, asm := none })))) ∧
      (64 ≤ octets.length → endsWithPieceCheck octets = false → m = .first →
        r.cells.length = (min octets.length 9216 + 255) / 256 →
        ∀ a : Assembly, s.rx[p].asm = some a →
          exec (.pieceReceived p m octets) s =
            exec (.frameReceptionEnd p octets) (bump (.port p .assemblyOk)
              (bump (.port p .assemblyErrors) (bump (.port p .piecesReceived)
                { s with rx := upd s.rx p fun _ =>
                           { cur := some { r with overrun := false }, asm := none }
                         mem := { s.mem with free := s.mem.free ++ a.cells } })))) ∧
      (∀ data : Octets, data.length < 64 →
        (octets = data ++ pieceCheckOf data ∨
          octets = data ∧ endsWithPieceCheck octets = false) →
        (∀ a : Assembly, s.rx[p].asm = some a →
          Completes (.pieceReceived p m octets) s
            { s with rx := upd s.rx p fun _ => Rx.reset
                     mem := { s.mem with free := s.mem.free ++ r.cells ++ a.cells } }
            [.port p .piecesReceived, .port p .assemblyErrors] []) ∧
        (s.rx[p].asm = none →
          Completes (.pieceReceived p m octets) s
            { s with rx := upd s.rx p fun _ => Rx.reset
                     mem := { s.mem with free := s.mem.free ++ r.cells } }
            [.port p .piecesReceived, .port p .orphanPieces] []))

/-! ## Transmission -/

/-- R36, R37, R74, R75 and R79: an idle transmitter of an UP port takes the head of the highest queue
whose head may start: an express head, when its gate is open and it fits its window, as WHOLE; a
preemptable head, when its gate is open and no remainder is held, as FIRST with transmit preemption
enabled, and without it as WHOLE when it fits. A held remainder whose gate is open goes before both
preemptable queues, as NEXT. A piece that may be cut and begins while an express head waits with its gate
open is to be cut after 64 octets, if 64 are left then (R80). A preemptable head that is held back counts
once in holds, unless something above it is taken, which is the model's choice (log 55); and with nothing
that may start nothing is taken. R66 and R76: a gate is open in OPEN, in RUNNING by the window's open
set, and in RESYNC for Q3 and Q2. R73: its closing instant is the first instant ahead at which a window
begins that does not hold the queue, read through the cycles to come and across a fixed switch-over or
the target boundary, and there is none when every window holds it; a frame fits when hall time plus (8 +
L) octet times is not later. Hall time is taken within 2^46 s of the next boundary there, where its wrap
(log 19) does not show. R62: a relayed copy that is next at the head of Q2 and is void, or whose new
carried delay would exceed 1 s, leaves the queue, gives up its reference and is counted, and the
transmitter chooses again; another is sent with the new carried delay, the original's with D and the
residence, written into it and its FCS computed anew. The residence ends at the transmit time of log 10,
and a copy leaves the queue when it may start, by log 48. A void copy counts in relay drops for step also
where its new carried delay would exceed 1 s, which is the model's choice (log 56), and another in relay
drops for delay. That a resumed remainder may be cut by the setting at the resume is log 51. -/
def Obligations.TransmitterTakesHighest : Prop :=
  (∀ (p : PortId) (s : State), s.ports[p].link = true → s.egress[p].tx = none →
    s.egress[p].idleUntil ≤ s.clock.ticks →
    (∀ (q : QueueId) (x : QEntry) (rest : List QEntry) (u : State),
      s.egress[p].queues[q] = x :: rest → s.mayStart p q x →
      (∀ q' : QueueId, q < q' → ¬s.queueReady p q') →
      (∀ recv carried void, s.kindOf x.frame ≠ .relayed recv carried void) →
      u = s.modEgress p (fun e =>
        { e with
          queues := e.queues.set q rest
          tx := some
            { frame := x.frame, queue := q, kind := x.kind, octets := s.mem.octetsOf x.frame
              offset := 0
              marker := if q.val < 2 ∧ s.ports[p].cfg.txPreempt = true then .first else .whole
              startTick := s.clock.ticks
              cuttable := decide (q.val < 2) && s.ports[p].cfg.txPreempt
              cutAt := if q.val < 2 ∧ s.ports[p].cfg.txPreempt = true then
                s.cutFromStart p (s.mem.octetsOf x.frame).length else none } }) →
      (q ≠ 0 ∨ s.heldBack p 1 = false → exec (.transmitterChoice p) s = .next u) ∧
      (q = 0 → s.heldBack p 1 = true →
        Completes (.transmitterChoice p) s (u.markHeld p [1]) [.port p .holds] [])) ∧
    (∀ r : Remainder, s.egress[p].remainder = some r → s.gates[p].isOpen r.queue = true →
      ¬s.queueReady p 3 → ¬s.queueReady p 2 →
      exec (.transmitterChoice p) s = .next (s.modEgress p fun e =>
        { e with
          remainder := none
          tx := some
            { frame := r.frame, queue := r.queue, kind := r.kind, octets := r.octets
              offset := r.offset, marker := .next r.nextN, startTick := s.clock.ticks
              cuttable := s.ports[p].cfg.txPreempt
              cutAt := if s.ports[p].cfg.txPreempt = true then
                s.cutFromStart p (r.octets.length - r.offset) else none } })) ∧
    (∀ held : List QueueId, held = [(1 : QueueId), 0].filter (s.heldBack p) →
      (∀ r, s.egress[p].remainder = some r → s.gates[p].isOpen r.queue = false) →
      (∀ q : QueueId, ¬s.queueReady p q) →
      Completes (.transmitterChoice p) s (s.markHeld p held)
        (held.map fun _ => .port p .holds) []) ∧
    ∀ (x : QEntry) (rest : List QEntry) (recv : HallTime) (carried : Nat) (void : Bool)
        (delay : Int), ¬s.queueReady p 3 → s.egress[p].queues[(2 : QueueId)] = x :: rest →
      s.mayStart p 2 x → s.kindOf x.frame = .relayed recv carried void →
      delay = carried + s.clock.delay.getD 0 +
        Int.tdiv (HallTime.diff (s.transmitTime p) recv) 65536 →
      (void = true ∨ 65536000000000 < delay →
        exec (.transmitterChoice p) s = exec (.transmitterChoice p)
          (bump (.clock (if void then .relayDropsStep else .relayDropsDelay))
            ((s.modEgress p fun e => { e with queues := e.queues.set 2 rest }).release x.frame))) ∧
      (void = false → 0 ≤ delay → delay ≤ 65536000000000 →
        exec (.transmitterChoice p) s = .next (s.modEgress p fun e =>
          { e with
            queues := e.queues.set 2 rest
            tx := some
              { frame := x.frame, queue := 2, kind := x.kind
                octets := refreshFcs (overwrite (s.mem.octetsOf x.frame)
                  (payloadOffset (s.mem.octetsOf x.frame) + 12) (beBytes 8 delay.toNat))
                offset := 0, marker := .whole, startTick := s.clock.ticks, cuttable := false
                cutAt := none } }))) ∧
  ∀ (g : Gate) (q : QueueId),
    (g.mode = .opened → g.isOpen q = true) ∧ (g.mode = .resync → g.isOpen q = decide (2 ≤ q.val)) ∧
    (∀ (l : GateList) (w : GateWindow), g.mode = .running → g.active = some l →
      l.windows[g.windowIndex]? = some w → g.isOpen q = w.openSet.getLsbD q.val) ∧
    ((∀ l, g.active = some l ∨ g.loaded = some l → 0 < l.cycle) →
      (∀ c : Int, g.closing q = some c ↔
        (∃ x, g.willBegin c x ∧ x.getLsbD q.val = false) ∧
          ∀ i x, g.willBegin i x → i < c → x.getLsbD q.val = true) ∧
      (g.closing q = none ↔ ∀ i x, g.willBegin i x → x.getLsbD q.val = true)) ∧
    ∀ (p : PortId) (n : Nat) (now : HallTime),
      (g.closing q = none → g.fits p q n now = true) ∧
      ∀ c : Int, g.closing q = some c → now.wf = true →
        ((now.units : Int) - g.nextBoundary * 4294967296).natAbs <
          2 ^ 46 * 1000000000 * 4294967296 →
        (g.fits p q n now = true ↔ (now.units : Int) +
          ((8 + n) * (if p.val < 10 then 8 else 80) : Nat) * 4294967296 ≤ c * 4294967296)

/-- R38, R79 and R80: a piece whose cut point is chosen ends after that many octets with its piece check,
counts in pieces sent and cuts, and leaves a remainder that goes on at the next octet with the marker's
next number, FIRST and the last NEXT giving 0. A piece that is not cut and whose last octet is sent gives
up its reference and counts its frame, and a piece not marked WHOLE in pieces sent as well. Before its
instant neither ends. That instant is measured by the model's count of reference periods (log 9). R58,
R60 and R62: a range probe that is sent counts in probes sent, a range reply in probes answered, a
relayed mark in relayed marks sent, and no other frame in any of them. R192: when the frame is the answer
of the RESTART that waits, the RESTART is due from then on. R80: where a frame joins a queue of the port,
or its gate engine takes a boundary, a window edge or a step, a piece on the wire that may be cut, with
no cut point yet, gets the earliest one at or after the current position, if there is one, when an
express frame waits in Q3 or Q2 with its gate open or the piece's own gate is closed; a piece that may
not be cut, or without such a trigger, keeps what it had. -/
def Obligations.PiecesEnd : Prop :=
  ∀ (p : PortId) (s : State) (t : Tx) (cell : Nat), s.egress[p].tx = some t →
    cell = (if p.val < 10 then 1 else 10) →
    (∀ c, t.cutAt = some c →
      (t.startTick + (8 + c + 4) * cell ≤ s.clock.ticks →
        Completes (.pieceCut p) s
          (s.modEgress p fun e =>
            { e with
              tx := none
              remainder := some
                { frame := t.frame, queue := t.queue, kind := t.kind, octets := t.octets
                  offset := t.offset + c
                  nextN := match t.marker with
                    | .next n => n + 1
                    | _ => 0 }
              idleUntil := t.startTick + (8 + c + 4) * cell + 12 * cell
              lastSent := some
                { marker := t.marker
                  octets := (t.octets.drop t.offset).take c ++
                    pieceCheckOf ((t.octets.drop t.offset).take c)
                  ending := .pieceCheck } })
          [.port p .piecesSent, .port p .cuts] []) ∧
      (s.clock.ticks < t.startTick + (8 + c + 4) * cell → exec (.pieceCut p) s = .next s)) ∧
    (∀ (k : List CounterRef) (m : Mgmt), t.cutAt = none → t.octets ≠ [] →
      ((∃ n, s.kindOf t.frame = .rangeProbe n) ∧ k = [.clock .probesSent] ∨
        s.kindOf t.frame = .rangeReply ∧ k = [.clock .probesAnswered] ∨
        (∃ x d v, s.kindOf t.frame = .relayed x d v) ∧ k = [.clock .relayedSent] ∨
        s.kindOf t.frame ∈ [.received, .notice, .answer, .triggerNote, .holdFrame] ∧ k = []) →
      (∀ w, s.mgmt.restart = some w → w.answer = some t.frame →
        m = { s.mgmt with restart := some { w with answer := none, due := true } }) →
      ((∀ w, s.mgmt.restart = some w → w.answer ≠ some t.frame) → m = s.mgmt) →
      t.startTick + (8 + (t.octets.length - t.offset)) * cell ≤ s.clock.ticks →
      Completes (.transmissionComplete p) s
        (((s.modEgress p fun e =>
            { e with
              tx := none
              idleUntil := t.startTick + (8 + (t.octets.length - t.offset)) * cell + 12 * cell
              lastSent := some
                { marker := t.marker, octets := t.octets.drop t.offset, ending := .complete } }).modMem
          fun m => m.release t.frame).modMgmt fun _ => m)
        ((if t.marker = .whole then [] else [.port p .piecesSent]) ++ [.port p .framesTransmitted] ++
          List.replicate t.octets.length (.port p .octetsTransmitted) ++ k) []) ∧
    (t.cutAt = none → s.clock.ticks < t.startTick + (8 + (t.octets.length - t.offset)) * cell →
      exec (.transmissionComplete p) s = .next s) ∧
    (∀ (q : QueueId) (x : QEntry) (r : RobotId) (h : CellId) (u : State),
      u = enqueue p q x s ∨ u = enqueueSend p r h s →
      ∃ c, u.egress[p].tx = some { t with cutAt := c } ∧ CutNoted u p t c) ∧
    ∀ (c : Instr) (u : State), c ∈ [.openGridBoundary p, .cycleBoundary p, .windowStart p,
        .resyncTargetBoundary p, .timeMark, .setClock, .adjustClock] →
      exec c s = .next u → u.gates[p] ≠ s.gates[p] →
      ∃ k, u.egress[p].tx = some { t with cutAt := k } ∧ CutNoted u p t k

/-! ## Service windows, notices and RESTART -/

/-- R156 and R157: when at most 60,000 ms of an open window remain and it is not warned yet, it becomes
so and SERVICE_EXPIRING carries the remaining; at its end time it is closed with cause EXPIRED: each
robot it held is ARMING again with no holder and no other robot changes, its sets are empty, its
technician is absent, and the mirror copies waiting on its port are gone. That it closes at its end time
in microseconds and not before, and that the remaining is rounded down to milliseconds, are the model's
choices (log 17). -/
def Obligations.WindowTimesPass : Prop :=
  ∀ (w : WindowId) (s : State), s.windows[w].state ≠ .closed →
    (s.windows[w].warned = false → (s.windows[w].endTime - s.clock.run) / 1000 ≤ 60000 →
      Completes (.serviceExpiryWarning w) s (s.modWindow w fun x => { x with warned := true }) []
        [.serviceExpiring w ((s.windows[w].endTime - s.clock.run) / 1000)]) ∧
    (s.windows[w].warned = true ∨ 60000 < (s.windows[w].endTime - s.clock.run) / 1000 →
      exec (.serviceExpiryWarning w) s = .next s) ∧
    (s.windows[w].endTime ≤ s.clock.run → ∃ t, exec (.serviceWindowExpiry w) s = .next t ∧
      t.windows[w] = { s.windows[w] with
        state := .closed, technician := none, learned := false, warned := false
        lastClose := some .expired, pendingSet := 0, heldSet := 0 } ∧
      (∀ r : RobotId, s.windows[w].heldSet.getLsbD r.val = true →
        t.robots[r].state = .arming ∧ t.robots[r].holder = none ∧
          t.robots[r].partialPeriod = true) ∧
      (∀ r : RobotId, s.windows[w].heldSet.getLsbD r.val = false → t.robots[r] = s.robots[r]) ∧
      (∀ x ∈ t.egress[windowPort w].queues[(0 : QueueId)], x.kind ≠ .mirror) ∧
      t.ports = s.ports ∧ t.gates = s.gates ∧ t.hold = s.hold ∧ t.mgmt = s.mgmt) ∧
    (s.clock.run < s.windows[w].endTime → exec (.serviceWindowExpiry w) s = .next s)

/-- R178 and R179: when an attempt is due and Q2 of an UP notice port and the free list have room, the
first 16 records leave in a NOTICE frame with the overflow count, which returns to 0, and the frame
sequence number grows by one modulo 65,536. With the notice port DOWN the records stay, and either way
the attempt is the last one. With no destination, or nothing to send, nothing happens. -/
def Obligations.NoticeAttemptSends : Prop :=
  ∀ s : State,
    (∀ (d : Dest) (frame : Octets), s.device.noticeDest = some d →
      (s.notices.records ≠ [] ∨ 0 < s.notices.overflow) →
      (∀ t, s.notices.lastAttempt = some t → t + s.device.pacing * 1000 ≤ s.clock.run) →
      frame = formFrame d.mac s.station d.vlan 0x88B9
        (noticePayload s.notices (s.notices.records.take 16)) →
      (s.ports[d.port].link = true → s.fitsLimit 2 (cellsFor frame.length) d.port = true →
        cellsFor frame.length ≤ s.mem.free.length →
        Quiet s [.device .noticeFramesBuilt] 0 →
        ∃ t, exec .noticeSendAttempt s = .next t ∧
          t.notices = { records := s.notices.records.drop 16, overflow := 0,
                        lastAttempt := some s.clock.run,
                        frameSeq := (s.notices.frameSeq + 1) % 65536 } ∧
          t.unanswered = s.unanswered ∧ t.mgmt = s.mgmt ∧
          ∃ x f, t.egress[d.port].queues[(2 : QueueId)].getLast? = some x ∧
            t.mem.frames[x.frame] = some f ∧ f.octets = frame ∧ f.kind = .notice) ∧
      (s.ports[d.port].link = false →
        ∃ t, exec .noticeSendAttempt s = .next t ∧ t.uncounted = s.uncounted ∧
          (Quiet s [.device (.generationDrops .notice)] 0 →
            t.notices = { s.notices with lastAttempt := some s.clock.run }))) ∧
    (s.device.noticeDest = none ∨ s.notices.records = [] ∧ s.notices.overflow = 0 →
      exec .noticeSendAttempt s = .next s)

/-- R40, R78, R84, R149, R152, R192 and R193: a RESTART that is due is carried out and leaves the queue:
every cell is free, every queue is empty and nothing is on the wire, held or under reception; both
windows are CLOSED; every cycle in progress is disturbed; the ejector is at REST with its outputs
released and inhibited for 2,000 µs; and the ports, streams, clock, tracker, latch, present jam and lists
are kept. -/
def Obligations.RestartCarriedOutFreesTheFramePath : Prop :=
  ∀ (s : State) (w : RestartWait), s.mgmt.restart = some w →
    (w.due = true ∨ w.builtAt + 10000 ≤ s.clock.run) →
    ∃ t, exec .restartCarriedOut s = .next t ∧
      t.mgmt = { queue := s.mgmt.queue.tail, restart := none } ∧ t.mem = CellMem.reset ∧
      (∀ p : PortId, t.rx[p] = Rx.reset ∧ t.egress[p].tx = none ∧ t.egress[p].remainder = none ∧
        (∀ q : QueueId, t.egress[p].queues[q] = []) ∧
        t.gates[p] = { s.gates[p] with disturbed := true }) ∧
      (∀ r : RobotId, t.robots[r].slot = none ∧ t.robots[r].store = none ∧
        t.robots[r].cfg = s.robots[r].cfg) ∧
      (∀ v : WindowId, t.windows[v].state = .closed) ∧ t.reject.state = .rest ∧
      t.ejectA = false ∧ t.ejectB = false ∧ t.reject.inhibitEnd = s.clock.run + 2000 ∧
      t.reject.cfg = s.reject.cfg ∧ t.ports = s.ports ∧ t.streams = s.streams ∧
      t.clock = s.clock ∧ t.tracker = s.tracker ∧ t.hold.latch = s.hold.latch ∧
      t.hold.present.jam = s.hold.present.jam ∧ t.watch.action = s.watch.action ∧
      t.device = s.device ∧ t.cameras = s.cameras

/-! ## Requests that read -/

/-- R186, R189 and R190: READ TABLE of up to 32 records of a table answers the header fields and the
records as they are laid out, when none of them holds a bit error or is marked damaged; READ COUNTERS
without clear answers its subject's counters in their order; READ STATE answers its subject's state
record; and none of them changes anything else, no counter among it but those of an answer that finds no
room. -/
def Obligations.ReadsAnswerAndChangeNothing : Prop :=
  ∀ (s : State) (q : Request),
    (∀ (t : TableId) (code n first : Nat), LineRequest s q 1 → tableOf code = some t → code < 256 →
      1 ≤ n → n ≤ 32 → first + n ≤ t.size →
      q.body = beBytes 1 code ++ beBytes 1 n ++ beBytes 2 first →
      (t = .stream → ∀ i : StreamId, first ≤ i.val → i.val < first + n →
        s.streams[i].damaged = false ∧ s.streams[i].ecc = .clean) →
      (t = .robot → ∀ r : RobotId, first ≤ r.val → r.val < first + n →
        s.robots[r].damaged = false ∧ s.robots[r].ecc = .clean) →
      (t = .holdFrame → ∀ r : RobotId, s.holdFrames[r].length ≤ 256) →
      RunsCounting .readTable s s q
        { status := .ok, body := q.body ++
            (List.range n).flatMap fun k => (readRecord t (first + k) s).2 } [] []) ∧
    (∀ (x : CounterSubject), LineRequest s q 3 → q.row = .readCounters → 4 ≤ q.body.length →
      counterSubject q.body = .ok x → field q.body 1 1 = 0 →
      RunsCounting .readCounters s s q
        { status := .ok,
          body := q.body.take 1 ++ [0] ++ slice q.body 2 2 ++
            (s.counters.values x).flatMap (beBytes 4) } [] []) ∧
    (LineRequest s q 4 → 3 ≤ q.body.length →
      (stateSubject q.body = .ok .clock → RunsCounting .readState s s q
        { status := .ok, body := clockState s.clock } [] []) ∧
      (stateSubject q.body = .ok .controller → RunsCounting .readState s s q
        { status := .ok, body := controllerState s } [] []) ∧
      (∀ x : StateSubject, stateSubject q.body = .ok x → (field q.body 0 1 = 6 → 5 ≤ q.body.length) →
        (∀ r, x = .robot r → s.robots[r].damaged = false ∧ s.robots[r].ecc = .clean) →
        (answerFrame s.station q { status := .ok, body := (stateRecord x s).2 }).length ≤ 9216 →
        RunsCounting .readState s s q { status := .ok, body := (stateRecord x s).2 } [] []))

/-- R189 and R41: READ COUNTERS with clear answers the values and zeroes the counters of its subject and
no other; the answer's own refusal, its drop and their notices are counted after it. For every subject
but DEVICE, whose clear also moves the free low-water mark. -/
def Obligations.ReadAndClearZeroesSubject : Prop :=
  ∀ (s : State) (q : Request) (x : CounterSubject), LineRequest s q 3 →
    q.row = .readAndClearCounters → 4 ≤ q.body.length → counterSubject q.body = .ok x →
    x ≠ .device →
    ∃ t, exec .readAndClearCounters s = .next t ∧ t.unanswered = s.unanswered ∧
      t.mgmt = { s.mgmt with queue := s.mgmt.queue.tail } ∧
      (AnswerRoom s q
          { status := .ok,
            body := q.body.take 1 ++ [0] ++ slice q.body 2 2 ++
              (s.counters.values x).flatMap (beBytes 4) } →
        Answered t q
          { status := .ok,
            body := q.body.take 1 ++ [0] ++ slice q.body 2 2 ++
              (s.counters.values x).flatMap (beBytes 4) }) ∧
      ∀ c : CounterRef, c ≠ .port q.port (.refused 2) →
        c ≠ .device (.generationDrops .answer) → c.ofNotices = false →
        t.counter c = if c.belongsTo x then 0 else s.counter c

/-! ## WRITE TABLE -/

/-- R3, R13, R84, R87, R105, R130 and R187: a WRITE TABLE of one record is put to its table's checks and
answered by the first that fails, with count 0, the refusing code and the index, and nothing stored:
BAD_INDEX past the table's end, whatever the record holds; BAD_VALUE for a field outside its values, and
for a PORT role or timing or a STREAM role, subject or class that does not go together; DUPLICATE_KEY for
a second TIME_UP port or a valid key that another valid and sound record carries; and WRONG_STATE for a
PORT in use by a robot that leaves role ROBOT, a STREAM of a robot that is not IDLE, or a ROBOT that is
not. One that passes is stored and answered OK. A PORT record keeps the link state; where it disables
receive preemption the open frame is discarded and a piece under reception is not read by its marker. A
STREAM or ROBOT record written is no longer damaged, and that the robot port of one stays is the model's
choice (log 40). Nothing else changes but what R80 says of the transmission on a port whose transmit
preemption is disabled. Several records are put to their tables' checks one after another, each on the
state that the ones before it left: the first refused ends the writing, and the answer is its code where
none was written and PARTIAL otherwise, with the count written, that code and its index; with none
refused it is OK. A count of 0 or above 32, and a body that ends before the last record of fixed length,
write nothing and are BAD_VALUE. The order of the checks of a PORT, STREAM or ROBOT record is the rules';
that the index is judged before the value for a HOLD FRAME or CAMERA record, and in writing several
records for a TRACKING, CLOCK or DEVICE record too, is the model's choice (log 52). The body of the
answer that refuses a write as a whole, with count 0, the code BAD_VALUE and index none, is the model's
reading (log 28), and so are the octets of a record and the command that runs a request (logs 16 and 5).
-/
def Obligations.WritesStoreRecords : Prop :=
  ∀ (s : State) (q : Request) (l : Octets) (n : Nat), LineRequest s q 2 → n < 65536 →
    (q.body = [0, 1] ++ beBytes 2 n ++ l → l.length = 9 →
      (12 ≤ n → RunsAnswered .writePortRecord s s q (refusedWrite 0 .badIndex n)) ∧
      ∀ p : PortId, n = p.val →
        (decodePort l = none →
          RunsAnswered .writePortRecord s s q (refusedWrite 0 .badValue n)) ∧
        ∀ (c : PortCfg) (bad dup busy : Prop), decodePort l = some c →
          (bad ↔ p.val < 10 ∧ (c.role = .service ∨
              c.timing = .timeUp ∧ (c.role = .robot ∨ c.role = .camera)) ∨
            10 ≤ p.val ∧ (c.role ≠ .service ∨ c.timing ≠ .none ∨ c.mgmtAllowed = true)) →
          (dup ↔ c.timing = .timeUp ∧ ∃ x : PortId, x ≠ p ∧ s.ports[x].cfg.timing = .timeUp) →
          (busy ↔ s.ports[p].cfg.role = .robot ∧ c.role ≠ .robot ∧
            ∃ r : RobotId, s.robots[r].port = some p ∧ s.robots[r].state ≠ .idle) →
          (bad → RunsAnswered .writePortRecord s s q (refusedWrite 0 .badValue n)) ∧
          (¬bad → dup → RunsAnswered .writePortRecord s s q (refusedWrite 0 .duplicateKey n)) ∧
          (¬bad → ¬dup → busy →
            RunsAnswered .writePortRecord s s q (refusedWrite 0 .wrongState n)) ∧
          (¬bad → ¬dup → ¬busy → RunsAnswered .writePortRecord s
            { s with
              ports := upd s.ports p fun x => { x with cfg := c }
              rx := upd s.rx p fun x =>
                if c.rxPreempt then x
                else { cur := x.cur.map fun r => { r with marked := false }, asm := none } }
            q (wholeWrite 1))) ∧
    (q.body = [1, 1] ++ beBytes 2 n ++ l → l.length = 20 →
      (256 ≤ n → RunsAnswered .writeStreamRecord s s q (refusedWrite 0 .badIndex n)) ∧
      (4095 < field l 6 2 ∨ field l 16 2 < 64 ∨ 9216 < field l 16 2 ∨
          field l 14 1 = 1 ∧ 23 < field l 15 1 ∨ field l 14 1 = 2 ∧ 3 < field l 15 1 →
        decodeStream l = none) ∧
      ∀ i : StreamId, n = i.val →
        (decodeStream l = none →
          RunsAnswered .writeStreamRecord s s q (refusedWrite 0 .badValue n)) ∧
        ∀ (c : StreamCfg) (bad dup busy : Prop), decodeStream l = some c →
          (bad ↔ (c.role = .status ∨ c.role = .command) ∧
              (∀ r : RobotId, c.subject ≠ .robot r) ∨
            c.role = .verdict ∧ c.cls ≠ .prompt) →
          (dup ↔ c.valid = true ∧ ∃ (j : StreamId) (y : Stream), j ≠ i ∧ y = s.streams[j] ∧
            y.cfg.valid = true ∧ y.damaged = false ∧ y.cfg.key = c.key ∧ y.cfg.vlan = c.vlan) →
          (busy ↔ ∃ r : RobotId, s.robots[r].state ≠ .idle ∧
            (s.robots[r].cfg.statusStream = i ∨ s.robots[r].cfg.commandStream = i)) →
          (bad → RunsAnswered .writeStreamRecord s s q (refusedWrite 0 .badValue n)) ∧
          (¬bad → dup → RunsAnswered .writeStreamRecord s s q (refusedWrite 0 .duplicateKey n)) ∧
          (¬bad → ¬dup → busy →
            RunsAnswered .writeStreamRecord s s q (refusedWrite 0 .wrongState n)) ∧
          (¬bad → ¬dup → ¬busy → RunsAnswered .writeStreamRecord s
            (s.modStream i fun _ => { cfg := c, damaged := false, ecc := .clean }) q
            (wholeWrite 1))) ∧
    (q.body = [2, 1] ++ beBytes 2 n ++ l → l.length = 20 →
      (24 ≤ n → RunsAnswered .writeRobotRecord s s q (refusedWrite 0 .badIndex n)) ∧
      (decodeRobot l = none ↔ 15 < field l 2 1 ∨ field l 3 1 < 1 ∨ 16 < field l 3 1 ∨
        field l 3 1 ≤ field l 4 1 ∨ 160000000 < field l 8 4 ∨ field l 12 1 < 1 ∨
        15 < field l 12 1 ∨ 15 < field l 13 1 ∨ 1 < field l 14 1) ∧
      ∀ r : RobotId, n = r.val →
        (decodeRobot l = none →
          RunsAnswered .writeRobotRecord s s q (refusedWrite 0 .badValue n)) ∧
        ∀ c : RobotCfg, decodeRobot l = some c →
          (s.robots[r].state ≠ .idle →
            RunsAnswered .writeRobotRecord s s q (refusedWrite 0 .wrongState n)) ∧
          (s.robots[r].state = .idle → RunsAnswered .writeRobotRecord s
            (s.modRobot r fun x => { x with cfg := c, damaged := false, ecc := .clean }) q
            (wholeWrite 1))) ∧
    (q.body = [3, 1] ++ beBytes 2 n ++ beBytes 2 l.length ++ l → l.length < 65536 →
      (24 ≤ n → RunsAnswered .writeHoldFrame s s q (refusedWrite 0 .badIndex n)) ∧
      ∀ r : RobotId, n = r.val →
        (0 < l.length ∧ l.length < 64 ∨ 256 < l.length →
          RunsAnswered .writeHoldFrame s s q (refusedWrite 0 .badValue n)) ∧
        (l.length = 0 ∨ 64 ≤ l.length ∧ l.length ≤ 256 → RunsAnswered .writeHoldFrame s
          { s with holdFrames := s.holdFrames.set r l } q (wholeWrite 1))) ∧
    (q.body = [4, 1] ++ beBytes 2 n ++ l → l.length = 18 →
      (4 ≤ n → RunsAnswered .writeCameraRecord s s q (refusedWrite 0 .badIndex n)) ∧
      (1 < field l 0 1 ∨ 1 < field l 1 1 ∨ 1048575 < field l 2 3 ∨ field l 5 2 < 1 ∨
          1000 < field l 5 2 ∨
          slice l 7 9 ≠ List.replicate 9 0xFF ∧ (4095 < field l 13 2 ∨ 11 < field l 15 1) ∨
          255 < field l 16 2 ∧ field l 16 2 ≠ 65535 ↔ decodeCamera l = none) ∧
      ∀ k : CameraId, n = k.val →
        (decodeCamera l = none →
          RunsAnswered .writeCameraRecord s s q (refusedWrite 0 .badValue n)) ∧
        ∀ c : CameraCfg, decodeCamera l = some c →
          RunsAnswered .writeCameraRecord s (s.modCamera k fun x => { x with cfg := c }) q
            (wholeWrite 1)) ∧
    ∀ (t : TableId) (code k : Nat), tableOf code = some t → code < 9 → k < 256 →
      q.body = beBytes 1 code ++ beBytes 1 k ++ beBytes 2 n ++ l →
      (k = 0 ∨ 32 < k ∨ t ≠ .holdFrame ∧ l.length < k * t.octets →
        RunsAnswered q.command s s q
          { status := .badValue, body := [0, 6, 0xFF, 0xFF] }) ∧
      ∀ (records : List Octets) (left : Nat → State) (m : Nat) (r : Reply), 1 ≤ k → k ≤ 32 →
        records.length = k → l = records.flatten →
        (∀ x ∈ records, t ≠ .holdFrame ∧ x.length = t.octets ∨
          t = .holdFrame ∧ 2 ≤ x.length ∧ x.length = 2 + field x 0 2) →
        left 0 = s →
        (∀ (j : Nat) (x : Octets), j < m → records[j]? = some x →
          writeRecord t (n + j) x (left j) = .ok (left (j + 1))) →
        (m = k ∧ r = wholeWrite k ∨ ∃ x y, records[m]? = some x ∧
          writeRecord t (n + m) x (left m) = .error y ∧ r = refusedWrite m y (n + m)) →
        ∃ u, exec q.command s = .next u ∧ u.unanswered = (left m).unanswered ∧
          u.mgmt = { s.mgmt with queue := s.mgmt.queue.tail } ∧
          (AnswerRoom (left m) q r → Answered u q r)

/-- R45, R106, R114, R127, R144, R178 and R188: a written TRACKING, EJECTOR, CLOCK or DEVICE record is in
force at once. Under a tracker record the sensor is read again: what goes active in CLEAR begins to
measure, or in an excursion is ignored; what goes inactive ends the occlusion; and a measured occlusion
that reaches the new minimum qualifies, and a qualified one that reaches the new maximum is a jam. Policy
REPORT takes the jam out of the present set, and HOLD_LINE makes a jam in progress a hold source; that a
jam which the record's own polarity ends is none by then, so that the latch stays, rests on the order of
those effects, the model's choice (log 47). An ejector record sets the lead from the latest speed, and a
gate that waits moves when the new non-overlap time has passed; a change of mode away from REST or with
a fire held is refused. Under a clock record a mark timeout that has passed takes the servo to HOLDOVER,
and a probe whose instant has passed is due now, which is the model's reading (log 24). Under a device
record a controller timeout that has passed loses the controller, and a notice attempt that is due is
made. Where one clock or device record brings both about, they come in that order, by log 47 too. -/
def Obligations.SingleRecordsActAtOnce : Prop :=
  ∀ (s : State) (q : Request) (l : Octets) (ok : Reply), LineRequest s q 2 →
    ok = { status := .ok, body := [1, 0, 0xFF, 0xFF] } →
    (∀ (c : TrackerCfg) (v u : State) (length : Int), q.body = [5, 1, 0, 0] ++ l → l.length = 9 →
      decodeTracking l = some c →
      v = s.modTracker (fun t => { t with cfg := c }) →
      length = (match s.tracker.leading with
        | some a => (s.tracker.position - a).toInt
        | none => 0) →
      ((s.tracker.sense = s.tracker.cfg.activeHigh ↔ s.tracker.sense = c.activeHigh) →
        (s.tracker.sensor = .measuring → length < c.minOcclusion) →
        (s.tracker.sensor = .qualified → length < c.maxOcclusion) →
        u = (match c.jamPolicy with
          | .report => { v with hold := { s.hold with present := { s.hold.present with jam := false } } }
          | .holdLine => if s.tracker.sensor = .jammed then { v with hold := (joinHold .jam s).hold }
            else v) →
        RunsCounting .writeTrackingRecord s u q ok
          (if c.jamPolicy = .holdLine ∧ s.tracker.sensor = .jammed ∧ s.hold.present.jam = false ∧
              s.hold.latch = false then [.device .holdSets] else [])
          (if c.jamPolicy = .holdLine ∧ s.tracker.sensor = .jammed ∧ s.hold.present.jam = false ∧
              s.hold.latch = false then [.holdSet (.source .jam)] else [])) ∧
      (s.tracker.sense ≠ s.tracker.cfg.activeHigh → s.tracker.sense = c.activeHigh →
        s.tracker.sensor = .clear →
        u = v.modTracker (fun t =>
          if t.excursion then { t with sensor := .ignoring }
          else { t with sensor := .measuring, leading := some t.position, link := none }) →
        RunsCounting .writeTrackingRecord s
          (if c.jamPolicy = .report then
            { u with hold := { s.hold with present := { s.hold.present with jam := false } } } else u)
          q ok (if s.tracker.excursion then [.tracker .ignoredOcclusions] else []) []) ∧
      (s.tracker.sense = s.tracker.cfg.activeHigh → s.tracker.sense ≠ c.activeHigh →
        s.tracker.sensor ≠ .clear →
        u = v.modTracker (fun t => { t with sensor := .clear, leading := none, link := none }) →
        RunsCounting .writeTrackingRecord s
          (if c.jamPolicy = .report ∨ s.tracker.sensor = .jammed then
            { u with hold := { s.hold with present := { s.hold.present with jam := false } } } else u)
          q ok (if s.tracker.sensor = .measuring then [.tracker .shortOcclusions] else []) []) ∧
      ((s.tracker.sense = s.tracker.cfg.activeHigh ↔ s.tracker.sense = c.activeHigh) →
        s.tracker.sensor = .measuring → (c.minOcclusion : Int) ≤ length → length < c.maxOcclusion →
        Runs .writeTrackingRecord s
          (if c.jamPolicy = .report then leaveHold .jam (qualify v) else qualify v)) ∧
      ((s.tracker.sense = s.tracker.cfg.activeHigh ↔ s.tracker.sense = c.activeHigh) →
        s.tracker.sensor = .qualified → (c.maxOcclusion : Int) ≤ length →
        ∃ t, exec .writeTrackingRecord s = .next t ∧ t.tracker.cfg = c ∧
          t.tracker.sensor = .jammed ∧
          t.hold.present.jam = decide (c.jamPolicy = .holdLine) ∧
          t.counter (.tracker .jams) = min (s.counter (.tracker .jams) + 1) Config.counterMax ∧
          t.mgmt = { s.mgmt with queue := s.mgmt.queue.tail })) ∧
    (∀ (c : EjectorCfg) (u : State), q.body = [6, 1, 0, 0] ++ l → l.length = 18 →
      decodeEjector l = some c →
      u = s.modReject (fun x =>
        { x with cfg := c, lead := min c.leadMax ((s.tracker.speed * c.latency + 128000) / 256000)
                 leadSpeed := s.tracker.speed }) →
      (c.mode ≠ s.reject.cfg.mode → (s.reject.state ≠ .rest ∨ s.reject.heldFire = true) →
        RunsCounting .writeEjectorRecord s s q
          { status := .wrongState, body := [0, 8, 0, 0] } [] []) ∧
      (c.mode = s.reject.cfg.mode ∨ s.reject.state = .rest ∧ s.reject.heldFire = false →
        (s.clock.run < s.reject.inhibitEnd ∨
            (s.reject.state ≠ .extendWait ∨
              ∃ b, s.reject.releaseB = some b ∧ s.clock.run < b + c.nonOverlap) ∧
            (s.reject.state ≠ .retractWait ∨
              ∃ a, s.reject.releaseA = some a ∧ s.clock.run < a + c.nonOverlap) →
          RunsCounting .writeEjectorRecord s u q ok [] []) ∧
        (s.reject.state = .extendWait → s.reject.inhibitEnd ≤ s.clock.run →
          (∀ b, s.reject.releaseB = some b → b + c.nonOverlap ≤ s.clock.run) →
          RunsCounting .writeEjectorRecord s (u.modReject fun x =>
            { x with state := .extending, extendPending := false
                     phaseEnd := s.clock.run + c.extendTime * 1000 }) q ok
            [.reject .extendsMade] []) ∧
        (s.reject.state = .retractWait → s.reject.inhibitEnd ≤ s.clock.run →
          (∀ a, s.reject.releaseA = some a → a + c.nonOverlap ≤ s.clock.run) →
          RunsCounting .writeEjectorRecord s (u.modReject fun x =>
            { x with state := .retracting, phaseEnd := s.clock.run + c.retractTime * 1000 }) q ok
            [.reject .retractsMade] []))) ∧
    (∀ (c : ClockCfg) (holdover due : Bool) (u : State), q.body = [7, 1, 0, 0] ++ l →
      l.length = 14 → decodeClock l = some c →
      (holdover = true ↔ (s.clock.servo = .acquiring ∨ s.clock.servo = .locked) ∧
        (∃ t, s.clock.lastMark = some t ∨ s.clock.lastRequest = some t) ∧
        ∀ t, s.clock.lastMark = some t ∨ s.clock.lastRequest = some t →
          t + c.markTimeout * 1000 ≤ s.clock.run) →
      (due = true ↔ s.clock.lastProbeDue + c.probeInterval * 1000 ≤ s.clock.run) →
      u = s.modClock (fun k =>
        { k with
          cfg := c
          servo := if holdover then .holdover else k.servo
          trim := if holdover then k.integral else k.trim
          increment := if holdover then incrementOf k.integral else k.increment
          lastProbeDue := if due then k.run else k.lastProbeDue
          probe := if due then none else k.probe
          lostProbes := if due && k.probe.isSome then k.lostProbes + 1 else k.lostProbes
          stale := k.stale || (due && k.probe.isSome && decide (3 ≤ k.lostProbes + 1)) }) →
      ((due = true → ∀ p, s.timeUpPort = some p → s.ports[p].link = false) →
        RunsCounting .writeClockRecord s u q ok
          (if due && s.clock.probe.isSome then [.clock .probesLost] else [])
          ((if holdover then [.clockHoldover s.clock.integral] else []) ++
            if due = true ∧ s.clock.probe.isSome = true ∧ 3 ≤ s.clock.lostProbes + 1 ∧
                s.clock.stale = false then [.rangeStale s.clock.delay] else [])) ∧
      (∀ (p : PortId) (seq : Nat), due = true → s.timeUpPort = some p → s.ports[p].link = true →
        seq = (s.clock.probeSeq + 1) % 65536 →
        Runs .writeClockRecord s (u.modClock fun k =>
          { k with probeSeq := seq, probe := some { seq := seq, t1 := none } }))) ∧
    ∀ (c : DeviceCfg) (lost joins : Bool) (u : State), q.body = [8, 1, 0, 0] ++ l →
      l.length = 109 → decodeDevice l = some c →
      (lost = true ↔ s.watch.state = .watching ∧
        s.watch.restartTime + c.controllerTimeout * 1000 ≤ s.clock.run) →
      (joins = true ↔ lost = true ∧ s.watch.action = .holdLine ∧
        s.hold.present.controller = false ∧ s.hold.latch = false) →
      u = { s with
            device := c
            watch := if lost then { s.watch with state := .lost, lostAt := s.clock.run } else s.watch
            hold := if lost && decide (s.watch.action = .holdLine) then (joinHold .controller s).hold
                    else s.hold } →
      (c.noticeDest = none ∨
          (∃ t, s.notices.lastAttempt = some t ∧ s.clock.run < t + c.pacing * 1000) ∨
          (lost = false ∧ s.notices.records = [] ∧ s.notices.overflow = 0) →
        s.fitsLimit 2 (cellsFor (answerFrame s.station q ok).length) q.port =
          u.fitsLimit 2 (cellsFor (answerFrame s.station q ok).length) q.port →
        RunsCounting .writeDeviceRecord s u q ok
          ((if lost then [.controllerLosses] else []) ++
            if joins then [.device .holdSets] else [])
          ((if lost then [.controllerLost s.watch.action] else []) ++
            if joins then [.holdSet (.source .controller)] else [])) ∧
      (∀ (d : Dest) (frame : Octets), c.noticeDest = some d → lost = false →
        (s.notices.records ≠ [] ∨ 0 < s.notices.overflow) →
        (∀ t, s.notices.lastAttempt = some t → t + c.pacing * 1000 ≤ s.clock.run) →
        frame = formFrame d.mac s.station d.vlan 0x88B9
          (noticePayload s.notices (s.notices.records.take 16)) →
        ∃ t, exec .writeDeviceRecord s = .next t ∧ t.unanswered = u.unanswered ∧
          t.mgmt = { s.mgmt with queue := s.mgmt.queue.tail } ∧
          t.notices.lastAttempt = some s.clock.run ∧
          (s.ports[d.port].link = true → u.fitsLimit 2 (cellsFor frame.length) d.port = true →
            cellsFor frame.length ≤ s.mem.free.length → s.mem.free.Nodup →
            t.notices.frameSeq = (s.notices.frameSeq + 1) % 65536 ∧
            t.counter (.device .noticeFramesBuilt) =
              min (s.counter (.device .noticeFramesBuilt) + 1) Config.counterMax ∧
            ∃ x f, x ∈ t.egress[d.port].queues[(2 : QueueId)] ∧
              t.mem.frames[x.frame] = some f ∧ f.octets = frame ∧ f.kind = .notice) ∧
          (s.ports[d.port].link = false → t.notices.frameSeq = s.notices.frameSeq))

/-- R195 and R198: each record of a table, as READ TABLE lays it out, is decoded by WRITE TABLE to the
same fields, for every value the fields may take. -/
def Obligations.TableRecordsRoundTrip : Prop :=
  (∀ x : Port, decodePort x.bytes = some x.cfg) ∧
  (∀ x : Stream, x.damaged = false → x.cfg.vlan ≤ 4095 → 64 ≤ x.cfg.maxLength →
    x.cfg.maxLength ≤ 9216 → decodeStream x.bytes = some x.cfg) ∧
  (∀ x : Robot, x.damaged = false → x.cfg.window ≤ 15 → 1 ≤ x.cfg.period → x.cfg.period ≤ 16 →
    x.cfg.phase < x.cfg.period → x.cfg.deadline ≤ 160000000 → x.cfg.modeOffset ≤ 255 →
    1 ≤ x.cfg.tolerance → x.cfg.tolerance ≤ 15 → x.cfg.repeatLimit ≤ 15 →
    decodeRobot x.bytes = some x.cfg) ∧
  (∀ l : Octets, l.length = 0 ∨ 64 ≤ l.length ∧ l.length ≤ 256 →
    decodeHold (holdBytes l) = some l) ∧
  (∀ c : CameraCfg, c.offset ≤ 1048575 → 1 ≤ c.pulseWidth → c.pulseWidth ≤ 1000 →
    (∀ d, c.note = some d → d.vlan ≤ 4095) → decodeCamera c.bytes = some c) ∧
  (∀ c : TrackerCfg, 1 ≤ c.speedWindow → c.speedWindow ≤ 100 → 1 ≤ c.minOcclusion →
    c.minOcclusion ≤ 4095 → 16 ≤ c.maxOcclusion → c.minOcclusion < c.maxOcclusion →
    c.maxOcclusion ≤ 65535 → decodeTracking c.bytes = some c) ∧
  (∀ c : EjectorCfg, 100 ≤ c.blastTime → c.blastTime ≤ 50000 → 1 ≤ c.extendTime →
    c.extendTime ≤ 100 → 1 ≤ c.dwell → c.dwell ≤ 1048575 → 1 ≤ c.retractTime →
    c.retractTime ≤ 100 → 100 ≤ c.nonOverlap → c.nonOverlap ≤ 20000 → c.distance ≤ 1048575 →
    c.latency ≤ 20000 → c.leadMax < c.distance → decodeEjector c.bytes = some c) ∧
  (∀ c : ClockCfg, 10000 ≤ c.stepLimit → c.stepLimit ≤ 100000000 → 100 ≤ c.lockThreshold →
    c.lockThreshold ≤ 100000 → c.gp ≤ 255 → c.gi ≤ 255 → 50 ≤ c.markTimeout →
    c.markTimeout ≤ 5000 → 125 ≤ c.probeInterval → c.probeInterval ≤ 8000 →
    decodeClock c.bytes = some c) ∧
  (∀ c : DeviceCfg, limitsOk c.limits = true → 1 ≤ c.controllerTimeout →
    c.controllerTimeout ≤ 1000 → 1 ≤ c.pacing → c.pacing ≤ 1000 →
    (∀ d, c.noticeDest = some d → d.vlan ≤ 4095 ∧ d.port.val ≤ 9) →
    decodeDevice c.bytes = some c)

/-! ## Requests of the supervisor and the clock -/

/-- R90, R101 and R106: an ARM ROBOT is refused BAD_INDEX above robot 23, WRONG_STATE for a robot that is
not IDLE, and BAD_VALUE where its records hold no bit error and check 3 fails: its record is damaged, its
status or its command stream is not valid, damaged or does not fit it, or the one port of the command
stream is none, not of role ROBOT or without its command window; a refusal changes nothing. Of an IDLE
robot whose records are good and fit it is taken and answered OK: the robot
is ARMING with its derived port, its counts 0, not barred, in a partial period that starts now; the
watch starts if no robot was armed; no other robot changes. DISARM ROBOT of an armed robot takes it to
IDLE with its slot and store empty, its barred flag kept and no presence as a hold source; of an IDLE one
it changes nothing, and of one in SERVICE it is refused. -/
def Obligations.ArmAndDisarmMoveTheRobot : Prop :=
  (∀ (s : State) (q : Request) (n : Nat), 24 ≤ n → n < 256 → q.body = beBytes 1 n →
    (LineRequest s q 6 →
      RunsAnswered .armRobot s s q { status := .badIndex, body := [] }) ∧
    (LineRequest s q 7 →
      RunsAnswered .disarmRobot s s q { status := .badIndex, body := [] })) ∧
  ∀ (s : State) (q : Request) (r : RobotId), q.body = beBytes 1 r.val →
    (LineRequest s q 6 → s.robots[r].state ≠ .idle →
      RunsAnswered .armRobot s s q { status := .wrongState, body := [] }) ∧
    (LineRequest s q 6 → s.robots[r].state = .idle → s.robots[r].ecc = .clean →
      s.streams[s.robots[r].cfg.statusStream].ecc = .clean →
      s.streams[s.robots[r].cfg.commandStream].ecc = .clean → (∀ p, ¬s.fitToArm r p) →
      RunsAnswered .armRobot s s q { status := .badValue, body := [] }) ∧
    (∀ p : PortId, LineRequest s q 6 → s.robots[r].state = .idle → s.robots[r].ecc = .clean →
      s.streams[s.robots[r].cfg.statusStream].ecc = .clean →
      s.streams[s.robots[r].cfg.commandStream].ecc = .clean → s.fitToArm r p →
      ∃ t, exec .armRobot s = .next t ∧
        t.robots[r] = { s.robots[r] with
          port := some p, state := .arming, missCount := 0, repeatsUsed := 0, probation := 0
          armingCount := 0, barred := false, holder := none, partialPeriod := true
          disturbed := false, openingTaken := false, hit := none, periodStart := s.clock.hall } ∧
        (∀ x : RobotId, x ≠ r → t.robots[x] = s.robots[x]) ∧
        t.watch = (if s.noneArmed then
          { s.watch with state := .watching, restartTime := s.clock.run } else s.watch) ∧
        t.hold = s.hold ∧ t.clock = s.clock ∧ t.streams = s.streams ∧
        (AnswerRoom s q { status := .ok, body := [] } →
          Answered t q { status := .ok, body := [] }) ∧
        t.mgmt = { s.mgmt with queue := s.mgmt.queue.tail }) ∧
    (LineRequest s q 7 → s.robots[r].state.armed = true →
      ∃ t, exec .disarmRobot s = .next t ∧ t.robots[r].state = .idle ∧ t.robots[r].slot = none ∧
        t.robots[r].store = none ∧ t.robots[r].barred = s.robots[r].barred ∧
        t.robots[r].cfg = s.robots[r].cfg ∧ t.hold.present.has (.robot r) = false ∧
        t.hold.latch = s.hold.latch ∧ (∀ x : RobotId, x ≠ r → t.robots[x] = s.robots[x]) ∧
        (t.noneArmed = true → t.watch.state = .idle ∧
          (s.watch.state ≠ .idle → t.hold.present.controller = false)) ∧
        t.mgmt = { s.mgmt with queue := s.mgmt.queue.tail }) ∧
    (LineRequest s q 7 → s.robots[r].state = .idle →
      RunsAnswered .disarmRobot s s q { status := .ok, body := [] }) ∧
    (LineRequest s q 7 → s.robots[r].state = .service →
      RunsAnswered .disarmRobot s s q { status := .wrongState, body := [] })

/-- R108: SET LOSS ACTION with HOLD_LINE is always taken, and with the watch LOST makes the controller a
hold source; with REPORT it is taken while the action is REPORT and refused NOT_PERMITTED while it is
HOLD_LINE. The loss action is REPORT after a power-on reset, a hard reset and a RESTART keep it, and once
HOLD_LINE no step but a power-on reset returns it to REPORT. -/
def Obligations.LossActionHolds : Prop :=
  (∀ (s : State) (q : Request), LineRequest s q 8 →
    (q.body = [1] →
      ∃ t, exec .setLossAction s = .next t ∧ t.watch = { s.watch with action := .holdLine } ∧
        (s.watch.state = .lost → t.hold.present.has .controller = true) ∧
        (s.watch.state ≠ .lost → t.hold = s.hold) ∧
        (AnswerRoom s q { status := .ok, body := [] } →
          Answered t q { status := .ok, body := [] }) ∧
        t.mgmt = { s.mgmt with queue := s.mgmt.queue.tail } ∧
        t.unsupervised = s.unsupervised ∧ t.robots = s.robots ∧ t.windows = s.windows) ∧
    (q.body = [0] → s.watch.action = .report →
      RunsAnswered .setLossAction s s q { status := .ok, body := [] }) ∧
    (q.body = [0] → s.watch.action = .holdLine →
      RunsAnswered .setLossAction s s q { status := .notPermitted, body := [] })) ∧
  (∀ (s : State) (pins : ResetPins),
    (∃ t, exec (.powerOnReset pins) s = .next t ∧ t.watch.action = .report) ∧
    (∃ t, exec (.hardReset pins) s = .next t ∧ t.watch.action = s.watch.action) ∧
    (∃ t, exec .restartCarriedOut s = .next t ∧ t.watch.action = s.watch.action)) ∧
  ∀ s t : State, step s = .next t → s.watch.action = .holdLine → t.watch.action = .report →
    ∃ pins, s.pending.head? = some (.powerOnReset pins)

/-- R53 to R55 and R63: SET CLOCK steps hall time to its seconds and nanoseconds, and ADJUST CLOCK by its
signed nanoseconds, the fraction left as it stood. The servo becomes ACQUIRING and the request the last
clock request when a port is TIME_UP, and UNSET otherwise; the good-mark count is 0, the outstanding
probe is cancelled, and every gate engine takes the step, as MarkBeyondTheLimitSteps says. The step is
counted, and when the request's answer has room CLOCK_STEP carries the cause and the offset: for SET the
time before the step less the time set, within ±(2^63 − 1) ns, and for ADJUST the negative of its value.
The cycle index of an engine from the step to the next boundary is the model's choice (log 42), and so are
the 6 octets of the nanoseconds of ADJUST CLOCK (log 16). -/
def Obligations.ClockRequestsStep : Prop :=
  ∀ (s : State) (q : Request) (servo : Servo) (last : Option Nat),
    (s.timeUpPort.isSome = true → servo = .acquiring ∧ last = some s.clock.run) →
    (s.timeUpPort = none → servo = .unset ∧ last = s.clock.lastRequest) →
    (∀ sec ns : Nat, LineRequest s q 9 → sec < 2 ^ 48 → ns ≤ 999999999 →
      q.body = beBytes 6 sec ++ beBytes 4 ns →
      Runs .setClock s
        { s with
          clock := { s.clock with
            hall := { sec := sec, ns := ns, frac := s.clock.hall.frac }, servo := servo
            lastRequest := last, goodMarks := 0, probe := none, epoch := s.clock.epoch + 1 }
          gates := s.gates.map
            (Gate.afterStep { sec := sec, ns := ns, frac := s.clock.hall.frac }) }) ∧
    (∀ v : Int, LineRequest s q 10 → v.natAbs ≤ 1099511627776 → q.body = beInt 6 v →
      Runs .adjustClock s
        { s with
          clock := { s.clock with
            hall := s.clock.hall.stepBy v, servo := servo
            lastRequest := last, goodMarks := 0, probe := none, epoch := s.clock.epoch + 1 }
          gates := s.gates.map (Gate.afterStep (s.clock.hall.stepBy v)) }) ∧
    ∀ (c : Instr) (e : NoticeEvent),
      ((∃ sec ns : Nat, LineRequest s q 9 ∧ sec < 2 ^ 48 ∧ ns ≤ 999999999 ∧
          q.body = beBytes 6 sec ++ beBytes 4 ns ∧ c = .setClock ∧
          e = .clockStep .set (max (-9223372036854775807) (min 9223372036854775807
            (secDiff s.clock.hall.sec sec * 1000000000 + ((s.clock.hall.ns : Int) - ns))))) ∨
        ∃ v : Int, LineRequest s q 10 ∧ v.natAbs ≤ 1099511627776 ∧ q.body = beInt 6 v ∧
          c = .adjustClock ∧ e = .clockStep .adjust (-v)) →
      ∃ t, exec c s = .next t ∧
        t.counter (.clock .steps) = min (s.counter (.clock .steps) + 1) Config.counterMax ∧
        (AnswerRoom s q { status := .ok, body := [] } →
          Answered t q { status := .ok, body := [] } ∧
          Effects s t t.clock.hall.base [.clock .steps] [e])

/-- R70 and R71: LOAD SCHEDULE stores a gate list within the limits of R65 as the pending list of a port
with no commit pending, and is refused BUSY while one is; a list outside the limits is refused BAD_VALUE
in either case. The widths of the list's fields are the model's reading (log 16). COMMIT SCHEDULE, with
or without an activation time, marks a commit pending with it on every port of its set when each has a
pending list and no commit pending, and is answered PENDING; when a port refuses it no port changes, and
the answer names the first that does with BUSY for a pending commit and WRONG_STATE for no pending list;
that the port takes 1 octet, and that a BUSY refusal carries it although R197 gives a BUSY answer no
body, is the model's (log 28). R72: the switch-over of a pending commit, as the commit is run and as each
step fixes it anew, is fixed to the first boundary of the current list that comes after the cycle in
progress begins, is neither the target of a RESYNC nor the end of a disturbed cycle in OPEN, has not been
reached by hall time, and is at or after the activation time. That an activation time is one of the wrap
that hall time is in is the model's choice (log 19). -/
def Obligations.SchedulesLoadAndCommit : Prop :=
  ∀ (s : State) (q : Request),
    (∀ (p : PortId) (l : GateList) (rest : Octets), LineRequest s q 11 →
      q.body = beBytes 1 p.val ++ rest → gateListOf rest = some l →
      (s.gates[p].commit = false →
        RunsAnswered .loadSchedule s (s.modGate p fun g => { g with loaded := some l }) q
          { status := .ok, body := [] }) ∧
      (s.gates[p].commit = true →
        RunsAnswered .loadSchedule s s q { status := .busy, body := [] })) ∧
    (∀ (p : PortId) (rest : Octets), LineRequest s q 11 → q.body = beBytes 1 p.val ++ rest →
      gateListOf rest = none → RunsAnswered .loadSchedule s s q { status := .badValue, body := [] }) ∧
    (∀ (cycle sec ns : Nat) (windows : List (Nat × Nat)) (rest : Octets) (good : Prop),
      cycle < 2 ^ 24 → sec < 2 ^ 48 → ns < 2 ^ 32 → windows.length < 256 →
      (∀ w ∈ windows, w.1 < 2 ^ 24 ∧ w.2 < 256) →
      rest = beBytes 3 cycle ++ beBytes 6 sec ++ beBytes 4 ns ++ beBytes 1 windows.length ++
        windows.flatMap (fun w => beBytes 3 w.1 ++ beBytes 1 w.2) →
      (good ↔ 1 ≤ windows.length ∧ windows.length ≤ 16 ∧ 125000 ≤ cycle ∧ cycle ≤ 10000000 ∧
        cycle % 8 = 0 ∧ (∀ w ∈ windows, 64 ≤ w.1 ∧ w.1 % 8 = 0 ∧ w.2 < 16) ∧
        (windows.map Prod.fst).sum ≤ cycle ∧ ns ≤ 999999999) →
      (good → gateListOf rest = some
        { cycle := cycle, base := { sec := sec, ns := ns }
          windows := windows.map fun w => { duration := w.1, openSet := BitVec.ofNat 4 w.2 } }) ∧
      (¬good → gateListOf rest = none)) ∧
    (∀ (set : PortSet) (time : Option BaseTime) (l : Octets), LineRequest s q 12 → set ≠ 0 →
      (time = none → l = noneBytes 10) →
      (∀ t, time = some t → t.sec < 2 ^ 48 ∧ t.ns ≤ 999999999 ∧
        l = beBytes 6 t.sec ++ beBytes 4 t.ns) →
      q.body = beBytes 2 set.toNat ++ l →
      ((∀ p : PortId, set.getLsbD p.val = true →
          s.gates[p].commit = false ∧ s.gates[p].loaded.isSome = true) →
        RunsAnswered .commitSchedule s
          { s with gates := Vector.ofFn fun p =>
              if set.getLsbD p.val then
                { s.gates[p] with commit := true, activation := time
                                  commitFrom :=
                                    some (s.gates[p].commitIndex time s.clock.hall) }
              else s.gates[p] } q { status := .pending, body := [] }) ∧
      (∀ p : PortId, set.getLsbD p.val = true →
        (∀ x : PortId, x < p → set.getLsbD x.val = true →
          s.gates[x].commit = false ∧ s.gates[x].loaded.isSome = true) →
        (s.gates[p].commit = true →
          RunsAnswered .commitSchedule s s q { status := .busy, body := beBytes 1 p.val }) ∧
        (s.gates[p].commit = false → s.gates[p].loaded = none →
          RunsAnswered .commitSchedule s s q
            { status := .wrongState, body := beBytes 1 p.val }))) ∧
    ∀ (g u : Gate) (now : HallTime) (time : Option BaseTime) (T : Int → Int) (lap : Int),
      (g.mode = .opened ∧ T = (fun k => k * 1000000) ∨
        g.mode ≠ .opened ∧ ∃ l, g.active = some l ∧ 0 < l.cycle ∧
          T = fun k => l.base.toNs + k * l.cycle) →
      (u = { g with commit := true, activation := time
                    commitFrom := some (g.commitIndex time now) } ∨
        g.commit = true ∧ time = g.activation ∧ u = g.afterStep now) →
      now.wf = true → lap % (2 ^ 48 * 1000000000) = 0 →
      ((now.units : Int) + lap * 4294967296 - u.nextBoundary * 4294967296).natAbs <
        2 ^ 46 * 1000000000 * 4294967296 →
      u.commit = true ∧ u.activation = time ∧ u.switchAt = some (T u.switchIndex) ∧
      ∀ k : Int, u.switchIndex ≤ k ↔
        (if u.mode = .resync then u.target < k
          else if u.mode = .opened ∧ u.disturbed = true then u.cycleIndex + 1 < k
          else u.cycleIndex < k) ∧
        now.toNs + lap < T k ∧ ∀ a, time = some a → a.toNs + lap ≤ T k

/-! ## Requests of the tracker, the service block and the hold -/

/-- R116, R126 and R136: CLEAR TRACKING is taken at rest: the list is empty, the high-water mark is the
position, the excursion is over, every trigger pointer is the next sequence number, TRACK_FULL is no
longer present, clears grows, and the answer carries the number of records removed; the sensor and the
next sequence number stay. Away from rest it is refused and nothing changes. The two octets of the number
are the model's choice (log 28). -/
def Obligations.ClearTrackingEmptiesAtRest : Prop :=
  ∀ (s : State) (q : Request), LineRequest s q 13 →
    (s.tracker.still = true → s.tracker.position = s.tracker.windowPosition →
      RunsCounting .clearTracking s
        { s with
          tracker := { s.tracker with
            records := [], highWater := s.tracker.position, excursion := false }
          cameras := s.cameras.map fun c => { c with pointer := s.tracker.nextSeq }
          hold := { s.hold with present := { s.hold.present with trackFull := false } } } q
        { status := .ok, body := beBytes 2 s.tracker.records.length } [.tracker .clears] []) ∧
    (s.tracker.still = false ∨ s.tracker.position ≠ s.tracker.windowPosition →
      RunsCounting .clearTracking s s q { status := .wrongState, body := [] } [] [])

/-- R153 and R154: OPEN SERVICE WINDOW of a CLOSED window on an UP port grants it with its level, sets,
mirror list, trap action and technician, empty pending and held sets and a duration clamped to 1 to 3,600
s; SERVICE_OPENED carries the level and the applied duration, which is the answer, and at 60 s or less
warned becomes yes and SERVICE_EXPIRING follows. A request with an unknown code, a robot or camera beyond
the last, a mirror list of more than 8 or with one index twice, or a group address is refused BAD_VALUE.
EXTEND SERVICE WINDOW of an open one adds to what remains, at most 3,600 s in all, and moves its end time
so, clearing warned when more than 60 s remain; when 60 s or less remain and warned was no,
SERVICE_EXPIRING carries the remaining. A window in another state is refused and nothing changes. The
answer of an extension carries the new remaining in milliseconds. The 2 octets of the applied duration
and the 3 of the remaining are the model's reading (log 28), as the widths of the fields of the request
are (log 16). That the end time moves to that many milliseconds from now, so that the microseconds below
a whole millisecond are given up, is the model's choice (log 17). -/
def Obligations.WindowsOpenAndExtend : Prop :=
  ∀ (s : State) (q : Request) (w : WindowId),
    (∀ (g : Grant) (rest : Octets), LineRequest s q 14 →
      q.body = beBytes 1 (10 + w.val) ++ rest → grantOf rest = some g →
      (s.windows[w].state = .closed → s.ports[windowPort w].link = true →
        1 ≤ g.seconds ∧ g.seconds ≤ 3600 ∧
        RunsCounting .openServiceWindow s (s.modWindow w fun x =>
          { state := .granted, level := g.level, robots := g.robots, cameras := g.cameras,
            mirror := g.mirror, technician := g.technician, learned := false,
            endTime := s.clock.run + g.seconds * 1000000, warned := decide (g.seconds ≤ 60),
            trapCloses := g.trapCloses, pendingSet := 0, heldSet := 0, sessionTraps := 0,
            lastClose := x.lastClose }) q { status := .ok, body := beBytes 2 g.seconds } []
          (.serviceOpened w g.level g.seconds ::
            if g.seconds ≤ 60 then [.serviceExpiring w (g.seconds * 1000)] else [])) ∧
      (s.windows[w].state ≠ .closed ∨ s.ports[windowPort w].link = false →
        RunsAnswered .openServiceWindow s s q { status := .wrongState, body := [] })) ∧
    (∀ rest : Octets, LineRequest s q 14 → q.body = beBytes 1 (10 + w.val) ++ rest →
      grantOf rest = none →
      RunsAnswered .openServiceWindow s s q { status := .badValue, body := [] }) ∧
    (∀ (level robots cameras duration trap : Nat) (mirror : List Nat) (technician : Option Mac)
        (rest : Octets) (good : Prop), level < 256 → robots < 2 ^ 32 → cameras < 256 →
      duration < 65536 → trap < 256 → mirror.length < 256 → (∀ i ∈ mirror, i < 256) →
      technician ≠ some (BitVec.allOnes 48) →
      rest = beBytes 1 level ++ beBytes 4 robots ++ beBytes 1 cameras ++
        beBytes 1 mirror.length ++ mirror.flatMap (beBytes 1) ++ beBytes 2 duration ++
        beBytes 1 trap ++ beBytes 6 (match technician with
          | none => 2 ^ 48 - 1
          | some a => a.toNat) →
      (good ↔ level < 3 ∧ robots < 2 ^ 24 ∧ cameras < 2 ^ 4 ∧ mirror.length ≤ 8 ∧ mirror.Nodup ∧
        trap < 2 ∧ ∀ a, technician = some a → isGroup a = false) →
      (good → ∃ g, grantOf rest = some g ∧
        (level = 0 ∧ g.level = .observe ∨ level = 1 ∧ g.level = .adjust ∨
          level = 2 ∧ g.level = .maintain) ∧
        g.robots.toNat = robots ∧ g.cameras.toNat = cameras ∧ g.mirror.map Fin.val = mirror ∧
        g.seconds = max 1 (min duration 3600) ∧ (g.trapCloses = true ↔ trap = 1) ∧
        g.technician = technician) ∧
      (¬good → grantOf rest = none)) ∧
    (∀ (seconds remaining : Nat), LineRequest s q 15 → seconds ≤ 65535 →
      q.body = beBytes 1 (10 + w.val) ++ beBytes 2 seconds →
      remaining =
        min ((s.windows[w].endTime - s.clock.run) / 1000 + seconds * 1000) 3600000 →
      (s.windows[w].state ≠ .closed →
        RunsCounting .extendServiceWindow s (s.modWindow w fun x =>
          { x with endTime := s.clock.run + remaining * 1000,
                   warned := decide (remaining ≤ 60000) }) q
          { status := .ok, body := beBytes 3 remaining } []
          (if remaining ≤ 60000 ∧ s.windows[w].warned = false then
            [.serviceExpiring w remaining] else [])) ∧
      (s.windows[w].state = .closed →
        RunsAnswered .extendServiceWindow s s q { status := .wrongState, body := [] }))

/-- R155 and R157: CLOSE SERVICE WINDOW from the line controller is refused BAD_INDEX for a port other
than S0 and S1 and WRONG_STATE for a CLOSED window, and closes an open one with cause CONTROLLER: the
window is CLOSED, its robots are ARMING again, and its request is run. -/
def Obligations.ControllerClosesWindow : Prop :=
  ∀ (s : State) (q : Request) (n : Nat), LineRequest s q 16 → n < 256 → q.body = beBytes 1 n →
    (n ≠ 10 → n ≠ 11 →
      RunsAnswered .closeServiceWindow s s q { status := .badIndex, body := [] }) ∧
    ∀ w : WindowId, n = 10 + w.val →
      (s.windows[w].state = .closed →
        RunsAnswered .closeServiceWindow s s q { status := .wrongState, body := [] }) ∧
      (s.windows[w].state ≠ .closed → ∃ t, exec .closeServiceWindow s = .next t ∧
        t.windows[w].state = .closed ∧ t.windows[w].lastClose = some .controller ∧
        t.windows[w].heldSet = 0 ∧ t.windows[w].technician = none ∧
        (∀ r : RobotId, s.windows[w].heldSet.getLsbD r.val = true →
          t.robots[r].state = .arming ∧ t.robots[r].holder = none) ∧
        (∀ r : RobotId, s.windows[w].heldSet.getLsbD r.val = false → t.robots[r] = s.robots[r]) ∧
        t.mgmt = { s.mgmt with queue := s.mgmt.queue.tail })

/-- R159 to R161: a request on a service port whose window is not ACTIVE or whose source is not its
technician, and from the technician every request but READ STATE, READ COUNTERS, LOWER LEVEL and CLOSE
SERVICE WINDOW, is refused NOT_PERMITTED and changes nothing; one of these four that is too short is
BAD_VALUE. READ STATE and READ COUNTERS without clear are answered as the line controller's are for a
robot or a camera of the window's sets and for its own service port, and refused NOT_PERMITTED for any
other subject or with clear. LOWER LEVEL below the window's level sets it and is answered OK; from ADJUST
nothing else of the window changes, and from MAINTAIN the robots it held are ARMING again and its sets of
held and waiting robots are empty; not below it, it is refused NOT_PERMITTED. CLOSE SERVICE WINDOW that
names the window's own port is answered OK, and then the window closes with cause TECHNICIAN and its
robots are ARMING; another port is NOT_PERMITTED. Each such request, which the command of its row runs by
the model's choice (log 5), counts in technician requests, by the model's choice before it is run (log
23), and each NOT_PERMITTED in technician refusals. From the line controller every LOWER LEVEL is
refused. -/
def Obligations.TechnicianLowersLevel : Prop :=
  (∀ (s : State) (q : Request) (w : WindowId) (mine : Prop) (no ok : Reply),
    s.mgmt.queue.head? = some q → s.mgmt.restart = none → q.version = 1 → q.bodyFits = true →
    q.port = windowPort w →
    (mine ↔ s.windows[w].state = .active ∧ s.windows[w].technician = some q.source) →
    no = { status := .notPermitted, body := [] } → ok = { status := .ok, body := [] } →
    (¬mine ∨ q.kind ∉ [3, 4, 16, 17] →
      RunsCounting q.command s s q no [.service w .requests, .service w .refusals] []) ∧
    (mine → (q.kind = 3 ∧ q.body.length < 4 ∨ q.kind = 4 ∧ (q.body.length < 3 ∨
          field q.body 0 1 = 6 ∧ q.body.length < 5) ∨
        (q.kind = 16 ∨ q.kind = 17) ∧ q.body = []) →
      RunsCounting q.command s s q { status := .badValue, body := [] } [.service w .requests] []) ∧
    (∀ (x : StateSubject) (mayRead : Prop), mine → q.kind = 4 → 3 ≤ q.body.length →
      (field q.body 0 1 = 6 → 5 ≤ q.body.length) →
      (mayRead ↔ (∃ r, x = .robot r ∧ s.windows[w].robots.getLsbD r.val = true) ∨
        (∃ c, x = .camera c ∧ s.windows[w].cameras.getLsbD c.val = true) ∨ x = .service w) →
      stateSubject q.body = .ok x →
      (mayRead → (∀ r, x = .robot r → s.robots[r].damaged = false ∧ s.robots[r].ecc = .clean) →
        (answerFrame s.station q { status := .ok, body := (stateRecord x s).2 }).length ≤ 9216 →
        RunsCounting .readState s s q { status := .ok, body := (stateRecord x s).2 }
          [.service w .requests] []) ∧
      (¬mayRead →
        RunsCounting .readState s s q no [.service w .requests, .service w .refusals] [])) ∧
    (∀ (x : CounterSubject) (mayRead : Prop), mine → q.kind = 3 → 4 ≤ q.body.length →
      (mayRead ↔ (∃ r, x = .robot r ∧ s.windows[w].robots.getLsbD r.val = true) ∨
        (∃ c, x = .camera c ∧ s.windows[w].cameras.getLsbD c.val = true) ∨ x = .service w) →
      counterSubject q.body = .ok x →
      (mayRead → field q.body 1 1 = 0 →
        RunsCounting .readCounters s s q
          { status := .ok
            body := q.body.take 1 ++ [0] ++ slice q.body 2 2 ++
              ((bump (.service w .requests) s).counters.values x).flatMap (beBytes 4) }
          [.service w .requests] []) ∧
      (¬mayRead ∨ field q.body 1 1 = 1 →
        RunsCounting q.command s s q no [.service w .requests, .service w .refusals] [])) ∧
    (∀ n : Nat, mine → q.kind = 16 → n < 256 → q.body = beBytes 1 n →
      (n ≠ 10 + w.val → RunsCounting .closeServiceWindow s s q no
        [.service w .requests, .service w .refusals] []) ∧
      (n = 10 + w.val → ∃ u t, exec .closeServiceWindow s = .next t ∧
        t = closeWindow w .technician u ∧ u.unanswered = s.unanswered ∧
        u.mgmt = { s.mgmt with queue := s.mgmt.queue.tail } ∧ t.mgmt = u.mgmt ∧
        (AnswerRoom s q ok → Answered u q ok ∧
          Effects s t s.clock.hall.base [.service w .requests]
            [.serviceClosed w .technician s.windows[w].sessionTraps]) ∧
        t.windows[w] = { s.windows[w] with
          state := .closed, technician := none, learned := false, warned := false
          lastClose := some .technician, pendingSet := 0, heldSet := 0 } ∧
        (∀ r : RobotId, s.windows[w].heldSet.getLsbD r.val = true →
          t.robots[r].state = .arming ∧ t.robots[r].holder = none) ∧
        ∀ r : RobotId, s.windows[w].heldSet.getLsbD r.val = false →
          t.robots[r] = s.robots[r])) ∧
    (∀ (n : Nat) (level : ServiceLevel), mine → q.kind = 17 → n < 256 → q.body = beBytes 1 n →
      (levelOf n = some level → n < s.windows[w].level.code →
        ∃ t, exec .lowerLevel s = .next t ∧ t.windows[w].level = level ∧
          t.windows[w].endTime = s.windows[w].endTime ∧
          t.windows[w].trapCloses = s.windows[w].trapCloses ∧
          t.windows[w].robots = s.windows[w].robots ∧ t.windows[w].state = .active ∧
          (s.windows[w].level = .adjust → t.windows[w] = { s.windows[w] with level := level } ∧
            t.robots = s.robots) ∧
          (s.windows[w].level = .maintain → t.windows[w].heldSet = 0 ∧
            t.windows[w].pendingSet = 0 ∧
            ∀ r : RobotId, s.windows[w].heldSet.getLsbD r.val = true →
              t.robots[r].state = .arming ∧ t.robots[r].holder = none) ∧
          (AnswerRoom s q ok → Answered t q ok) ∧
          t.mgmt = { s.mgmt with queue := s.mgmt.queue.tail } ∧
          t.counter (.service w .requests) =
            min (s.counter (.service w .requests) + 1) Config.counterMax)) ∧
    (∀ n : Nat, mine → q.kind = 17 → n < 256 → q.body = beBytes 1 n →
      s.windows[w].level.code ≤ n →
      RunsCounting .lowerLevel s s q no [.service w .requests, .service w .refusals] [])) ∧
  ∀ (s : State) (q : Request), LineRequest s q 17 → q.body ≠ [] →
    RunsAnswered .lowerLevel s s q { status := .notPermitted, body := [] }

/-- R173: RELEASE HOLD with no source present releases a SET latch at the run time now, with
HOLD_RELEASED carrying the milliseconds it was held, at most 4,294,967,295, and counts a release; with
the latch RELEASED it changes nothing, no counter and no notice but those of an answer that finds no
room; and with a source present it is refused WRONG_STATE with the list of members, and counted. That the
milliseconds are rounded down is the model's choice (log 17). -/
def Obligations.ReleaseHoldJudgesPresentSet : Prop :=
  ∀ (s : State) (q : Request), LineRequest s q 18 →
    (∀ t0, s.hold.present.toList = [] → s.hold.latch = true → s.hold.setTime = some t0 →
      RunsAnswered .releaseHold s
        { s with hold := { s.hold with latch := false, releaseTime := some s.clock.run } } q
        { status := .ok, body := [] } ∧
      ∃ t, exec .releaseHold s = .next t ∧ t.lineHold = false ∧
        t.counter (.device .releases) =
          min (s.counter (.device .releases) + 1) Config.counterMax ∧
        (s.notices.records.length ≤ 32 → ∃ r ∈ t.notices.records,
          r.event = .holdReleased (min ((s.clock.run - t0) / 1000) 4294967295))) ∧
    (s.hold.present.toList = [] → s.hold.latch = false →
      RunsCounting .releaseHold s s q { status := .ok, body := [] } [] []) ∧
    (s.hold.present.toList ≠ [] →
      RunsAnswered .releaseHold s s q
        { status := .wrongState,
          body := beBytes 1 s.hold.present.toList.length ++
            s.hold.present.toList.flatMap fun h => beBytes 1 h.code } ∧
      ∃ t, exec .releaseHold s = .next t ∧ t.counter (.device .releaseRefusals) =
        min (s.counter (.device .releaseRefusals) + 1) Config.counterMax)

/-- R185 and R192: a request of an unknown version or kind from a line port is answered UNKNOWN_REQUEST
and changes nothing else. A RESTART is answered OK and stays at the head, waiting for its answer to be
sent; when the answer was not built it is due at once. -/
def Obligations.UnknownAndRestartAreAnswered : Prop :=
  ∀ (s : State) (q : Request), s.mgmt.queue.head? = some q → s.mgmt.restart = none →
    q.port.val < 10 →
    (q.version ≠ 1 ∨ q.bodyFits = true ∧ requestKindOf q.kind = none →
      RunsAnswered .unknownRequest s s q { status := .unknownRequest, body := [] }) ∧
    (q.version = 1 → q.kind = 5 → q.bodyFits = true →
      ∃ t, exec .restart s = .next t ∧ t.unanswered = s.unanswered ∧
        t.mgmt.queue = s.mgmt.queue ∧
        (AnswerRoom s q { status := .ok, body := [] } →
          Answered t q { status := .ok, body := [] } ∧
          ∃ h, t.mgmt.restart =
            some { answer := some h, builtAt := s.clock.run, due := false }) ∧
        (s.ports[q.port].link = false → t.mgmt.restart =
          some { answer := none, builtAt := s.clock.run, due := true }))

/-! ## Invariants -/

/-- Every invariant of a safe run holds right after a reset of either kind, of any pins, and so in
`State.reset`. -/
def Obligations.InvariantsHoldAtReset : Prop :=
  Safe State.reset ∧
    ∀ (cause : ResetCause) (action : HoldPolicy) (pins : ResetPins) (l : List Instr),
      Safe (State.afterReset cause action pins l)

/-- R176 and R177: every step keeps the notice queue at no more than 64 records with no two of one kind
and subject, every repeat count at 1 to 65,535 and the overflow count at no more than 65,535. -/
def Obligations.StepsKeepNoticeInvariant : Prop :=
  ∀ s t : State, NoticeInv s → step s = .next t → NoticeInv t

/-- R42, R43, R50, R121, R170, R171, R184 and R192: every step keeps hall time in its ranges, trim and
the integral within ±200,000 with the increment that of trim, the tracking list at no more than 256
records whose sequence numbers run without a gap to the next one, at most four requests, and the latch
SET while a source is present. -/
def Obligations.StepsKeepClockListAndHoldInvariants : Prop :=
  ∀ s t : State, ClockInv s → RequestInv s → TrackInv s → HoldInv s → step s = .next t →
    ClockInv t ∧ RequestInv t ∧ TrackInv t ∧ HoldInv t

/-- R21, R89, R91, R101, R106, R107, R162 and R170: every step keeps a robot in SERVICE exactly while an
ACTIVE MAINTAIN window holds it, robots that are not armed without frames, damaged robots IDLE, the watch
IDLE exactly while no robot is armed, and robots and the controller hold sources only while LOST. -/
def Obligations.StepsKeepRobotAndServiceInvariants : Prop :=
  ∀ s t : State, ServiceInv s → SupervisorInv s → step s = .next t →
    ServiceInv t ∧ SupervisorInv t

/-- R22, R23, R26 and R37: every step keeps every cell of cell memory free or in exactly one frame, and
every stored frame's count at the number of its holders: no cell is lost or given twice. It also keeps a
port from holding a remainder while a piece that may be cut, or is to be cut, is on its wire, without
which a cut would lose that remainder's reference. -/
def Obligations.StepsConserveCells : Prop :=
  ∀ s t : State, CellInv s → CutInv s → step s = .next t → CellInv t ∧ CutInv t

/-- R171 to R173: a step from a state in which LINE_HOLD is asserted to one in which it is not runs a
RELEASE HOLD, with no hold source present. -/
def Obligations.OnlyReleaseHoldReleasesTheLine : Prop :=
  ∀ s t : State, step s = .next t → s.lineHold = true → t.lineHold = false →
    s.pending.head? = some .releaseHold ∧ s.hold.present.toList = []
end

