-- ==== Sys2Proof/Laws/State.lean ====
section
/-! SUPPORT. One lemma per field per update of the state, each true by unfolding, so that no later
proof unfolds a record update. -/

namespace Sys2Proof.Machine

/-! ## modPort -/

@[simp] theorem State.modPort_straps (p : PortId) (f : Port → Port) (s : State) :
    (s.modPort p f).straps = s.straps := rfl
@[simp] theorem State.modPort_ports (p : PortId) (f : Port → Port) (s : State) :
    (s.modPort p f).ports = upd s.ports p f := rfl
@[simp] theorem State.modPort_rx (p : PortId) (f : Port → Port) (s : State) :
    (s.modPort p f).rx = s.rx := rfl
@[simp] theorem State.modPort_mem (p : PortId) (f : Port → Port) (s : State) :
    (s.modPort p f).mem = s.mem := rfl
@[simp] theorem State.modPort_egress (p : PortId) (f : Port → Port) (s : State) :
    (s.modPort p f).egress = s.egress := rfl
@[simp] theorem State.modPort_gates (p : PortId) (f : Port → Port) (s : State) :
    (s.modPort p f).gates = s.gates := rfl
@[simp] theorem State.modPort_streams (p : PortId) (f : Port → Port) (s : State) :
    (s.modPort p f).streams = s.streams := rfl
@[simp] theorem State.modPort_robots (p : PortId) (f : Port → Port) (s : State) :
    (s.modPort p f).robots = s.robots := rfl
@[simp] theorem State.modPort_scrub (p : PortId) (f : Port → Port) (s : State) :
    (s.modPort p f).scrub = s.scrub := rfl
@[simp] theorem State.modPort_holdFrames (p : PortId) (f : Port → Port) (s : State) :
    (s.modPort p f).holdFrames = s.holdFrames := rfl
@[simp] theorem State.modPort_watch (p : PortId) (f : Port → Port) (s : State) :
    (s.modPort p f).watch = s.watch := rfl
@[simp] theorem State.modPort_clock (p : PortId) (f : Port → Port) (s : State) :
    (s.modPort p f).clock = s.clock := rfl
@[simp] theorem State.modPort_tracker (p : PortId) (f : Port → Port) (s : State) :
    (s.modPort p f).tracker = s.tracker := rfl
@[simp] theorem State.modPort_cameras (p : PortId) (f : Port → Port) (s : State) :
    (s.modPort p f).cameras = s.cameras := rfl
@[simp] theorem State.modPort_reject (p : PortId) (f : Port → Port) (s : State) :
    (s.modPort p f).reject = s.reject := rfl
@[simp] theorem State.modPort_windows (p : PortId) (f : Port → Port) (s : State) :
    (s.modPort p f).windows = s.windows := rfl
@[simp] theorem State.modPort_hold (p : PortId) (f : Port → Port) (s : State) :
    (s.modPort p f).hold = s.hold := rfl
@[simp] theorem State.modPort_notices (p : PortId) (f : Port → Port) (s : State) :
    (s.modPort p f).notices = s.notices := rfl
@[simp] theorem State.modPort_mgmt (p : PortId) (f : Port → Port) (s : State) :
    (s.modPort p f).mgmt = s.mgmt := rfl
@[simp] theorem State.modPort_device (p : PortId) (f : Port → Port) (s : State) :
    (s.modPort p f).device = s.device := rfl
@[simp] theorem State.modPort_counters (p : PortId) (f : Port → Port) (s : State) :
    (s.modPort p f).counters = s.counters := rfl
@[simp] theorem State.modPort_pending (p : PortId) (f : Port → Port) (s : State) :
    (s.modPort p f).pending = s.pending := rfl

/-! ## modRx -/

@[simp] theorem State.modRx_straps (p : PortId) (f : Rx → Rx) (s : State) :
    (s.modRx p f).straps = s.straps := rfl
@[simp] theorem State.modRx_ports (p : PortId) (f : Rx → Rx) (s : State) :
    (s.modRx p f).ports = s.ports := rfl
@[simp] theorem State.modRx_rx (p : PortId) (f : Rx → Rx) (s : State) :
    (s.modRx p f).rx = upd s.rx p f := rfl
@[simp] theorem State.modRx_mem (p : PortId) (f : Rx → Rx) (s : State) :
    (s.modRx p f).mem = s.mem := rfl
@[simp] theorem State.modRx_egress (p : PortId) (f : Rx → Rx) (s : State) :
    (s.modRx p f).egress = s.egress := rfl
@[simp] theorem State.modRx_gates (p : PortId) (f : Rx → Rx) (s : State) :
    (s.modRx p f).gates = s.gates := rfl
@[simp] theorem State.modRx_streams (p : PortId) (f : Rx → Rx) (s : State) :
    (s.modRx p f).streams = s.streams := rfl
@[simp] theorem State.modRx_robots (p : PortId) (f : Rx → Rx) (s : State) :
    (s.modRx p f).robots = s.robots := rfl
@[simp] theorem State.modRx_scrub (p : PortId) (f : Rx → Rx) (s : State) :
    (s.modRx p f).scrub = s.scrub := rfl
@[simp] theorem State.modRx_holdFrames (p : PortId) (f : Rx → Rx) (s : State) :
    (s.modRx p f).holdFrames = s.holdFrames := rfl
@[simp] theorem State.modRx_watch (p : PortId) (f : Rx → Rx) (s : State) :
    (s.modRx p f).watch = s.watch := rfl
@[simp] theorem State.modRx_clock (p : PortId) (f : Rx → Rx) (s : State) :
    (s.modRx p f).clock = s.clock := rfl
@[simp] theorem State.modRx_tracker (p : PortId) (f : Rx → Rx) (s : State) :
    (s.modRx p f).tracker = s.tracker := rfl
@[simp] theorem State.modRx_cameras (p : PortId) (f : Rx → Rx) (s : State) :
    (s.modRx p f).cameras = s.cameras := rfl
@[simp] theorem State.modRx_reject (p : PortId) (f : Rx → Rx) (s : State) :
    (s.modRx p f).reject = s.reject := rfl
@[simp] theorem State.modRx_windows (p : PortId) (f : Rx → Rx) (s : State) :
    (s.modRx p f).windows = s.windows := rfl
@[simp] theorem State.modRx_hold (p : PortId) (f : Rx → Rx) (s : State) :
    (s.modRx p f).hold = s.hold := rfl
@[simp] theorem State.modRx_notices (p : PortId) (f : Rx → Rx) (s : State) :
    (s.modRx p f).notices = s.notices := rfl
@[simp] theorem State.modRx_mgmt (p : PortId) (f : Rx → Rx) (s : State) :
    (s.modRx p f).mgmt = s.mgmt := rfl
@[simp] theorem State.modRx_device (p : PortId) (f : Rx → Rx) (s : State) :
    (s.modRx p f).device = s.device := rfl
@[simp] theorem State.modRx_counters (p : PortId) (f : Rx → Rx) (s : State) :
    (s.modRx p f).counters = s.counters := rfl
@[simp] theorem State.modRx_pending (p : PortId) (f : Rx → Rx) (s : State) :
    (s.modRx p f).pending = s.pending := rfl

/-! ## modEgress -/

@[simp] theorem State.modEgress_straps (p : PortId) (f : Egress → Egress) (s : State) :
    (s.modEgress p f).straps = s.straps := rfl
@[simp] theorem State.modEgress_ports (p : PortId) (f : Egress → Egress) (s : State) :
    (s.modEgress p f).ports = s.ports := rfl
@[simp] theorem State.modEgress_rx (p : PortId) (f : Egress → Egress) (s : State) :
    (s.modEgress p f).rx = s.rx := rfl
@[simp] theorem State.modEgress_mem (p : PortId) (f : Egress → Egress) (s : State) :
    (s.modEgress p f).mem = s.mem := rfl
@[simp] theorem State.modEgress_egress (p : PortId) (f : Egress → Egress) (s : State) :
    (s.modEgress p f).egress = upd s.egress p f := rfl
@[simp] theorem State.modEgress_gates (p : PortId) (f : Egress → Egress) (s : State) :
    (s.modEgress p f).gates = s.gates := rfl
@[simp] theorem State.modEgress_streams (p : PortId) (f : Egress → Egress) (s : State) :
    (s.modEgress p f).streams = s.streams := rfl
@[simp] theorem State.modEgress_robots (p : PortId) (f : Egress → Egress) (s : State) :
    (s.modEgress p f).robots = s.robots := rfl
@[simp] theorem State.modEgress_scrub (p : PortId) (f : Egress → Egress) (s : State) :
    (s.modEgress p f).scrub = s.scrub := rfl
@[simp] theorem State.modEgress_holdFrames (p : PortId) (f : Egress → Egress) (s : State) :
    (s.modEgress p f).holdFrames = s.holdFrames := rfl
@[simp] theorem State.modEgress_watch (p : PortId) (f : Egress → Egress) (s : State) :
    (s.modEgress p f).watch = s.watch := rfl
@[simp] theorem State.modEgress_clock (p : PortId) (f : Egress → Egress) (s : State) :
    (s.modEgress p f).clock = s.clock := rfl
@[simp] theorem State.modEgress_tracker (p : PortId) (f : Egress → Egress) (s : State) :
    (s.modEgress p f).tracker = s.tracker := rfl
@[simp] theorem State.modEgress_cameras (p : PortId) (f : Egress → Egress) (s : State) :
    (s.modEgress p f).cameras = s.cameras := rfl
@[simp] theorem State.modEgress_reject (p : PortId) (f : Egress → Egress) (s : State) :
    (s.modEgress p f).reject = s.reject := rfl
@[simp] theorem State.modEgress_windows (p : PortId) (f : Egress → Egress) (s : State) :
    (s.modEgress p f).windows = s.windows := rfl
@[simp] theorem State.modEgress_hold (p : PortId) (f : Egress → Egress) (s : State) :
    (s.modEgress p f).hold = s.hold := rfl
@[simp] theorem State.modEgress_notices (p : PortId) (f : Egress → Egress) (s : State) :
    (s.modEgress p f).notices = s.notices := rfl
@[simp] theorem State.modEgress_mgmt (p : PortId) (f : Egress → Egress) (s : State) :
    (s.modEgress p f).mgmt = s.mgmt := rfl
@[simp] theorem State.modEgress_device (p : PortId) (f : Egress → Egress) (s : State) :
    (s.modEgress p f).device = s.device := rfl
@[simp] theorem State.modEgress_counters (p : PortId) (f : Egress → Egress) (s : State) :
    (s.modEgress p f).counters = s.counters := rfl
@[simp] theorem State.modEgress_pending (p : PortId) (f : Egress → Egress) (s : State) :
    (s.modEgress p f).pending = s.pending := rfl

/-! ## modGate -/

@[simp] theorem State.modGate_straps (p : PortId) (f : Gate → Gate) (s : State) :
    (s.modGate p f).straps = s.straps := rfl
@[simp] theorem State.modGate_ports (p : PortId) (f : Gate → Gate) (s : State) :
    (s.modGate p f).ports = s.ports := rfl
@[simp] theorem State.modGate_rx (p : PortId) (f : Gate → Gate) (s : State) :
    (s.modGate p f).rx = s.rx := rfl
@[simp] theorem State.modGate_mem (p : PortId) (f : Gate → Gate) (s : State) :
    (s.modGate p f).mem = s.mem := rfl
@[simp] theorem State.modGate_egress (p : PortId) (f : Gate → Gate) (s : State) :
    (s.modGate p f).egress = s.egress := rfl
@[simp] theorem State.modGate_gates (p : PortId) (f : Gate → Gate) (s : State) :
    (s.modGate p f).gates = upd s.gates p f := rfl
@[simp] theorem State.modGate_streams (p : PortId) (f : Gate → Gate) (s : State) :
    (s.modGate p f).streams = s.streams := rfl
@[simp] theorem State.modGate_robots (p : PortId) (f : Gate → Gate) (s : State) :
    (s.modGate p f).robots = s.robots := rfl
@[simp] theorem State.modGate_scrub (p : PortId) (f : Gate → Gate) (s : State) :
    (s.modGate p f).scrub = s.scrub := rfl
@[simp] theorem State.modGate_holdFrames (p : PortId) (f : Gate → Gate) (s : State) :
    (s.modGate p f).holdFrames = s.holdFrames := rfl
@[simp] theorem State.modGate_watch (p : PortId) (f : Gate → Gate) (s : State) :
    (s.modGate p f).watch = s.watch := rfl
@[simp] theorem State.modGate_clock (p : PortId) (f : Gate → Gate) (s : State) :
    (s.modGate p f).clock = s.clock := rfl
@[simp] theorem State.modGate_tracker (p : PortId) (f : Gate → Gate) (s : State) :
    (s.modGate p f).tracker = s.tracker := rfl
@[simp] theorem State.modGate_cameras (p : PortId) (f : Gate → Gate) (s : State) :
    (s.modGate p f).cameras = s.cameras := rfl
@[simp] theorem State.modGate_reject (p : PortId) (f : Gate → Gate) (s : State) :
    (s.modGate p f).reject = s.reject := rfl
@[simp] theorem State.modGate_windows (p : PortId) (f : Gate → Gate) (s : State) :
    (s.modGate p f).windows = s.windows := rfl
@[simp] theorem State.modGate_hold (p : PortId) (f : Gate → Gate) (s : State) :
    (s.modGate p f).hold = s.hold := rfl
@[simp] theorem State.modGate_notices (p : PortId) (f : Gate → Gate) (s : State) :
    (s.modGate p f).notices = s.notices := rfl
@[simp] theorem State.modGate_mgmt (p : PortId) (f : Gate → Gate) (s : State) :
    (s.modGate p f).mgmt = s.mgmt := rfl
@[simp] theorem State.modGate_device (p : PortId) (f : Gate → Gate) (s : State) :
    (s.modGate p f).device = s.device := rfl
@[simp] theorem State.modGate_counters (p : PortId) (f : Gate → Gate) (s : State) :
    (s.modGate p f).counters = s.counters := rfl
@[simp] theorem State.modGate_pending (p : PortId) (f : Gate → Gate) (s : State) :
    (s.modGate p f).pending = s.pending := rfl

/-! ## modStream -/

@[simp] theorem State.modStream_straps (i : StreamId) (f : Stream → Stream) (s : State) :
    (s.modStream i f).straps = s.straps := rfl
@[simp] theorem State.modStream_ports (i : StreamId) (f : Stream → Stream) (s : State) :
    (s.modStream i f).ports = s.ports := rfl
@[simp] theorem State.modStream_rx (i : StreamId) (f : Stream → Stream) (s : State) :
    (s.modStream i f).rx = s.rx := rfl
@[simp] theorem State.modStream_mem (i : StreamId) (f : Stream → Stream) (s : State) :
    (s.modStream i f).mem = s.mem := rfl
@[simp] theorem State.modStream_egress (i : StreamId) (f : Stream → Stream) (s : State) :
    (s.modStream i f).egress = s.egress := rfl
@[simp] theorem State.modStream_gates (i : StreamId) (f : Stream → Stream) (s : State) :
    (s.modStream i f).gates = s.gates := rfl
@[simp] theorem State.modStream_streams (i : StreamId) (f : Stream → Stream) (s : State) :
    (s.modStream i f).streams = upd s.streams i f := rfl
@[simp] theorem State.modStream_robots (i : StreamId) (f : Stream → Stream) (s : State) :
    (s.modStream i f).robots = s.robots := rfl
@[simp] theorem State.modStream_scrub (i : StreamId) (f : Stream → Stream) (s : State) :
    (s.modStream i f).scrub = s.scrub := rfl
@[simp] theorem State.modStream_holdFrames (i : StreamId) (f : Stream → Stream) (s : State) :
    (s.modStream i f).holdFrames = s.holdFrames := rfl
@[simp] theorem State.modStream_watch (i : StreamId) (f : Stream → Stream) (s : State) :
    (s.modStream i f).watch = s.watch := rfl
@[simp] theorem State.modStream_clock (i : StreamId) (f : Stream → Stream) (s : State) :
    (s.modStream i f).clock = s.clock := rfl
@[simp] theorem State.modStream_tracker (i : StreamId) (f : Stream → Stream) (s : State) :
    (s.modStream i f).tracker = s.tracker := rfl
@[simp] theorem State.modStream_cameras (i : StreamId) (f : Stream → Stream) (s : State) :
    (s.modStream i f).cameras = s.cameras := rfl
@[simp] theorem State.modStream_reject (i : StreamId) (f : Stream → Stream) (s : State) :
    (s.modStream i f).reject = s.reject := rfl
@[simp] theorem State.modStream_windows (i : StreamId) (f : Stream → Stream) (s : State) :
    (s.modStream i f).windows = s.windows := rfl
@[simp] theorem State.modStream_hold (i : StreamId) (f : Stream → Stream) (s : State) :
    (s.modStream i f).hold = s.hold := rfl
@[simp] theorem State.modStream_notices (i : StreamId) (f : Stream → Stream) (s : State) :
    (s.modStream i f).notices = s.notices := rfl
@[simp] theorem State.modStream_mgmt (i : StreamId) (f : Stream → Stream) (s : State) :
    (s.modStream i f).mgmt = s.mgmt := rfl
@[simp] theorem State.modStream_device (i : StreamId) (f : Stream → Stream) (s : State) :
    (s.modStream i f).device = s.device := rfl
@[simp] theorem State.modStream_counters (i : StreamId) (f : Stream → Stream) (s : State) :
    (s.modStream i f).counters = s.counters := rfl
@[simp] theorem State.modStream_pending (i : StreamId) (f : Stream → Stream) (s : State) :
    (s.modStream i f).pending = s.pending := rfl

/-! ## modRobot -/

@[simp] theorem State.modRobot_straps (r : RobotId) (f : Robot → Robot) (s : State) :
    (s.modRobot r f).straps = s.straps := rfl
@[simp] theorem State.modRobot_ports (r : RobotId) (f : Robot → Robot) (s : State) :
    (s.modRobot r f).ports = s.ports := rfl
@[simp] theorem State.modRobot_rx (r : RobotId) (f : Robot → Robot) (s : State) :
    (s.modRobot r f).rx = s.rx := rfl
@[simp] theorem State.modRobot_mem (r : RobotId) (f : Robot → Robot) (s : State) :
    (s.modRobot r f).mem = s.mem := rfl
@[simp] theorem State.modRobot_egress (r : RobotId) (f : Robot → Robot) (s : State) :
    (s.modRobot r f).egress = s.egress := rfl
@[simp] theorem State.modRobot_gates (r : RobotId) (f : Robot → Robot) (s : State) :
    (s.modRobot r f).gates = s.gates := rfl
@[simp] theorem State.modRobot_streams (r : RobotId) (f : Robot → Robot) (s : State) :
    (s.modRobot r f).streams = s.streams := rfl
@[simp] theorem State.modRobot_robots (r : RobotId) (f : Robot → Robot) (s : State) :
    (s.modRobot r f).robots = upd s.robots r f := rfl
@[simp] theorem State.modRobot_scrub (r : RobotId) (f : Robot → Robot) (s : State) :
    (s.modRobot r f).scrub = s.scrub := rfl
@[simp] theorem State.modRobot_holdFrames (r : RobotId) (f : Robot → Robot) (s : State) :
    (s.modRobot r f).holdFrames = s.holdFrames := rfl
@[simp] theorem State.modRobot_watch (r : RobotId) (f : Robot → Robot) (s : State) :
    (s.modRobot r f).watch = s.watch := rfl
@[simp] theorem State.modRobot_clock (r : RobotId) (f : Robot → Robot) (s : State) :
    (s.modRobot r f).clock = s.clock := rfl
@[simp] theorem State.modRobot_tracker (r : RobotId) (f : Robot → Robot) (s : State) :
    (s.modRobot r f).tracker = s.tracker := rfl
@[simp] theorem State.modRobot_cameras (r : RobotId) (f : Robot → Robot) (s : State) :
    (s.modRobot r f).cameras = s.cameras := rfl
@[simp] theorem State.modRobot_reject (r : RobotId) (f : Robot → Robot) (s : State) :
    (s.modRobot r f).reject = s.reject := rfl
@[simp] theorem State.modRobot_windows (r : RobotId) (f : Robot → Robot) (s : State) :
    (s.modRobot r f).windows = s.windows := rfl
@[simp] theorem State.modRobot_hold (r : RobotId) (f : Robot → Robot) (s : State) :
    (s.modRobot r f).hold = s.hold := rfl
@[simp] theorem State.modRobot_notices (r : RobotId) (f : Robot → Robot) (s : State) :
    (s.modRobot r f).notices = s.notices := rfl
@[simp] theorem State.modRobot_mgmt (r : RobotId) (f : Robot → Robot) (s : State) :
    (s.modRobot r f).mgmt = s.mgmt := rfl
@[simp] theorem State.modRobot_device (r : RobotId) (f : Robot → Robot) (s : State) :
    (s.modRobot r f).device = s.device := rfl
@[simp] theorem State.modRobot_counters (r : RobotId) (f : Robot → Robot) (s : State) :
    (s.modRobot r f).counters = s.counters := rfl
@[simp] theorem State.modRobot_pending (r : RobotId) (f : Robot → Robot) (s : State) :
    (s.modRobot r f).pending = s.pending := rfl

/-! ## modCamera -/

@[simp] theorem State.modCamera_straps (c : CameraId) (f : Camera → Camera) (s : State) :
    (s.modCamera c f).straps = s.straps := rfl
@[simp] theorem State.modCamera_ports (c : CameraId) (f : Camera → Camera) (s : State) :
    (s.modCamera c f).ports = s.ports := rfl
@[simp] theorem State.modCamera_rx (c : CameraId) (f : Camera → Camera) (s : State) :
    (s.modCamera c f).rx = s.rx := rfl
@[simp] theorem State.modCamera_mem (c : CameraId) (f : Camera → Camera) (s : State) :
    (s.modCamera c f).mem = s.mem := rfl
@[simp] theorem State.modCamera_egress (c : CameraId) (f : Camera → Camera) (s : State) :
    (s.modCamera c f).egress = s.egress := rfl
@[simp] theorem State.modCamera_gates (c : CameraId) (f : Camera → Camera) (s : State) :
    (s.modCamera c f).gates = s.gates := rfl
@[simp] theorem State.modCamera_streams (c : CameraId) (f : Camera → Camera) (s : State) :
    (s.modCamera c f).streams = s.streams := rfl
@[simp] theorem State.modCamera_robots (c : CameraId) (f : Camera → Camera) (s : State) :
    (s.modCamera c f).robots = s.robots := rfl
@[simp] theorem State.modCamera_scrub (c : CameraId) (f : Camera → Camera) (s : State) :
    (s.modCamera c f).scrub = s.scrub := rfl
@[simp] theorem State.modCamera_holdFrames (c : CameraId) (f : Camera → Camera) (s : State) :
    (s.modCamera c f).holdFrames = s.holdFrames := rfl
@[simp] theorem State.modCamera_watch (c : CameraId) (f : Camera → Camera) (s : State) :
    (s.modCamera c f).watch = s.watch := rfl
@[simp] theorem State.modCamera_clock (c : CameraId) (f : Camera → Camera) (s : State) :
    (s.modCamera c f).clock = s.clock := rfl
@[simp] theorem State.modCamera_tracker (c : CameraId) (f : Camera → Camera) (s : State) :
    (s.modCamera c f).tracker = s.tracker := rfl
@[simp] theorem State.modCamera_cameras (c : CameraId) (f : Camera → Camera) (s : State) :
    (s.modCamera c f).cameras = upd s.cameras c f := rfl
@[simp] theorem State.modCamera_reject (c : CameraId) (f : Camera → Camera) (s : State) :
    (s.modCamera c f).reject = s.reject := rfl
@[simp] theorem State.modCamera_windows (c : CameraId) (f : Camera → Camera) (s : State) :
    (s.modCamera c f).windows = s.windows := rfl
@[simp] theorem State.modCamera_hold (c : CameraId) (f : Camera → Camera) (s : State) :
    (s.modCamera c f).hold = s.hold := rfl
@[simp] theorem State.modCamera_notices (c : CameraId) (f : Camera → Camera) (s : State) :
    (s.modCamera c f).notices = s.notices := rfl
@[simp] theorem State.modCamera_mgmt (c : CameraId) (f : Camera → Camera) (s : State) :
    (s.modCamera c f).mgmt = s.mgmt := rfl
@[simp] theorem State.modCamera_device (c : CameraId) (f : Camera → Camera) (s : State) :
    (s.modCamera c f).device = s.device := rfl
@[simp] theorem State.modCamera_counters (c : CameraId) (f : Camera → Camera) (s : State) :
    (s.modCamera c f).counters = s.counters := rfl
@[simp] theorem State.modCamera_pending (c : CameraId) (f : Camera → Camera) (s : State) :
    (s.modCamera c f).pending = s.pending := rfl

/-! ## modWindow -/

@[simp] theorem State.modWindow_straps (w : WindowId) (f : ServiceWindow → ServiceWindow) (s : State) :
    (s.modWindow w f).straps = s.straps := rfl
@[simp] theorem State.modWindow_ports (w : WindowId) (f : ServiceWindow → ServiceWindow) (s : State) :
    (s.modWindow w f).ports = s.ports := rfl
@[simp] theorem State.modWindow_rx (w : WindowId) (f : ServiceWindow → ServiceWindow) (s : State) :
    (s.modWindow w f).rx = s.rx := rfl
@[simp] theorem State.modWindow_mem (w : WindowId) (f : ServiceWindow → ServiceWindow) (s : State) :
    (s.modWindow w f).mem = s.mem := rfl
@[simp] theorem State.modWindow_egress (w : WindowId) (f : ServiceWindow → ServiceWindow) (s : State) :
    (s.modWindow w f).egress = s.egress := rfl
@[simp] theorem State.modWindow_gates (w : WindowId) (f : ServiceWindow → ServiceWindow) (s : State) :
    (s.modWindow w f).gates = s.gates := rfl
@[simp] theorem State.modWindow_streams (w : WindowId) (f : ServiceWindow → ServiceWindow) (s : State) :
    (s.modWindow w f).streams = s.streams := rfl
@[simp] theorem State.modWindow_robots (w : WindowId) (f : ServiceWindow → ServiceWindow) (s : State) :
    (s.modWindow w f).robots = s.robots := rfl
@[simp] theorem State.modWindow_scrub (w : WindowId) (f : ServiceWindow → ServiceWindow) (s : State) :
    (s.modWindow w f).scrub = s.scrub := rfl
@[simp] theorem State.modWindow_holdFrames (w : WindowId) (f : ServiceWindow → ServiceWindow) (s : State) :
    (s.modWindow w f).holdFrames = s.holdFrames := rfl
@[simp] theorem State.modWindow_watch (w : WindowId) (f : ServiceWindow → ServiceWindow) (s : State) :
    (s.modWindow w f).watch = s.watch := rfl
@[simp] theorem State.modWindow_clock (w : WindowId) (f : ServiceWindow → ServiceWindow) (s : State) :
    (s.modWindow w f).clock = s.clock := rfl
@[simp] theorem State.modWindow_tracker (w : WindowId) (f : ServiceWindow → ServiceWindow) (s : State) :
    (s.modWindow w f).tracker = s.tracker := rfl
@[simp] theorem State.modWindow_cameras (w : WindowId) (f : ServiceWindow → ServiceWindow) (s : State) :
    (s.modWindow w f).cameras = s.cameras := rfl
@[simp] theorem State.modWindow_reject (w : WindowId) (f : ServiceWindow → ServiceWindow) (s : State) :
    (s.modWindow w f).reject = s.reject := rfl
@[simp] theorem State.modWindow_windows (w : WindowId) (f : ServiceWindow → ServiceWindow) (s : State) :
    (s.modWindow w f).windows = upd s.windows w f := rfl
@[simp] theorem State.modWindow_hold (w : WindowId) (f : ServiceWindow → ServiceWindow) (s : State) :
    (s.modWindow w f).hold = s.hold := rfl
@[simp] theorem State.modWindow_notices (w : WindowId) (f : ServiceWindow → ServiceWindow) (s : State) :
    (s.modWindow w f).notices = s.notices := rfl
@[simp] theorem State.modWindow_mgmt (w : WindowId) (f : ServiceWindow → ServiceWindow) (s : State) :
    (s.modWindow w f).mgmt = s.mgmt := rfl
@[simp] theorem State.modWindow_device (w : WindowId) (f : ServiceWindow → ServiceWindow) (s : State) :
    (s.modWindow w f).device = s.device := rfl
@[simp] theorem State.modWindow_counters (w : WindowId) (f : ServiceWindow → ServiceWindow) (s : State) :
    (s.modWindow w f).counters = s.counters := rfl
@[simp] theorem State.modWindow_pending (w : WindowId) (f : ServiceWindow → ServiceWindow) (s : State) :
    (s.modWindow w f).pending = s.pending := rfl

/-! ## modClock -/

@[simp] theorem State.modClock_straps (f : Clock → Clock) (s : State) :
    (s.modClock f).straps = s.straps := rfl
@[simp] theorem State.modClock_ports (f : Clock → Clock) (s : State) :
    (s.modClock f).ports = s.ports := rfl
@[simp] theorem State.modClock_rx (f : Clock → Clock) (s : State) :
    (s.modClock f).rx = s.rx := rfl
@[simp] theorem State.modClock_mem (f : Clock → Clock) (s : State) :
    (s.modClock f).mem = s.mem := rfl
@[simp] theorem State.modClock_egress (f : Clock → Clock) (s : State) :
    (s.modClock f).egress = s.egress := rfl
@[simp] theorem State.modClock_gates (f : Clock → Clock) (s : State) :
    (s.modClock f).gates = s.gates := rfl
@[simp] theorem State.modClock_streams (f : Clock → Clock) (s : State) :
    (s.modClock f).streams = s.streams := rfl
@[simp] theorem State.modClock_robots (f : Clock → Clock) (s : State) :
    (s.modClock f).robots = s.robots := rfl
@[simp] theorem State.modClock_scrub (f : Clock → Clock) (s : State) :
    (s.modClock f).scrub = s.scrub := rfl
@[simp] theorem State.modClock_holdFrames (f : Clock → Clock) (s : State) :
    (s.modClock f).holdFrames = s.holdFrames := rfl
@[simp] theorem State.modClock_watch (f : Clock → Clock) (s : State) :
    (s.modClock f).watch = s.watch := rfl
@[simp] theorem State.modClock_clock (f : Clock → Clock) (s : State) :
    (s.modClock f).clock = f s.clock := rfl
@[simp] theorem State.modClock_tracker (f : Clock → Clock) (s : State) :
    (s.modClock f).tracker = s.tracker := rfl
@[simp] theorem State.modClock_cameras (f : Clock → Clock) (s : State) :
    (s.modClock f).cameras = s.cameras := rfl
@[simp] theorem State.modClock_reject (f : Clock → Clock) (s : State) :
    (s.modClock f).reject = s.reject := rfl
@[simp] theorem State.modClock_windows (f : Clock → Clock) (s : State) :
    (s.modClock f).windows = s.windows := rfl
@[simp] theorem State.modClock_hold (f : Clock → Clock) (s : State) :
    (s.modClock f).hold = s.hold := rfl
@[simp] theorem State.modClock_notices (f : Clock → Clock) (s : State) :
    (s.modClock f).notices = s.notices := rfl
@[simp] theorem State.modClock_mgmt (f : Clock → Clock) (s : State) :
    (s.modClock f).mgmt = s.mgmt := rfl
@[simp] theorem State.modClock_device (f : Clock → Clock) (s : State) :
    (s.modClock f).device = s.device := rfl
@[simp] theorem State.modClock_counters (f : Clock → Clock) (s : State) :
    (s.modClock f).counters = s.counters := rfl
@[simp] theorem State.modClock_pending (f : Clock → Clock) (s : State) :
    (s.modClock f).pending = s.pending := rfl

/-! ## modTracker -/

@[simp] theorem State.modTracker_straps (f : Tracker → Tracker) (s : State) :
    (s.modTracker f).straps = s.straps := rfl
@[simp] theorem State.modTracker_ports (f : Tracker → Tracker) (s : State) :
    (s.modTracker f).ports = s.ports := rfl
@[simp] theorem State.modTracker_rx (f : Tracker → Tracker) (s : State) :
    (s.modTracker f).rx = s.rx := rfl
@[simp] theorem State.modTracker_mem (f : Tracker → Tracker) (s : State) :
    (s.modTracker f).mem = s.mem := rfl
@[simp] theorem State.modTracker_egress (f : Tracker → Tracker) (s : State) :
    (s.modTracker f).egress = s.egress := rfl
@[simp] theorem State.modTracker_gates (f : Tracker → Tracker) (s : State) :
    (s.modTracker f).gates = s.gates := rfl
@[simp] theorem State.modTracker_streams (f : Tracker → Tracker) (s : State) :
    (s.modTracker f).streams = s.streams := rfl
@[simp] theorem State.modTracker_robots (f : Tracker → Tracker) (s : State) :
    (s.modTracker f).robots = s.robots := rfl
@[simp] theorem State.modTracker_scrub (f : Tracker → Tracker) (s : State) :
    (s.modTracker f).scrub = s.scrub := rfl
@[simp] theorem State.modTracker_holdFrames (f : Tracker → Tracker) (s : State) :
    (s.modTracker f).holdFrames = s.holdFrames := rfl
@[simp] theorem State.modTracker_watch (f : Tracker → Tracker) (s : State) :
    (s.modTracker f).watch = s.watch := rfl
@[simp] theorem State.modTracker_clock (f : Tracker → Tracker) (s : State) :
    (s.modTracker f).clock = s.clock := rfl
@[simp] theorem State.modTracker_tracker (f : Tracker → Tracker) (s : State) :
    (s.modTracker f).tracker = f s.tracker := rfl
@[simp] theorem State.modTracker_cameras (f : Tracker → Tracker) (s : State) :
    (s.modTracker f).cameras = s.cameras := rfl
@[simp] theorem State.modTracker_reject (f : Tracker → Tracker) (s : State) :
    (s.modTracker f).reject = s.reject := rfl
@[simp] theorem State.modTracker_windows (f : Tracker → Tracker) (s : State) :
    (s.modTracker f).windows = s.windows := rfl
@[simp] theorem State.modTracker_hold (f : Tracker → Tracker) (s : State) :
    (s.modTracker f).hold = s.hold := rfl
@[simp] theorem State.modTracker_notices (f : Tracker → Tracker) (s : State) :
    (s.modTracker f).notices = s.notices := rfl
@[simp] theorem State.modTracker_mgmt (f : Tracker → Tracker) (s : State) :
    (s.modTracker f).mgmt = s.mgmt := rfl
@[simp] theorem State.modTracker_device (f : Tracker → Tracker) (s : State) :
    (s.modTracker f).device = s.device := rfl
@[simp] theorem State.modTracker_counters (f : Tracker → Tracker) (s : State) :
    (s.modTracker f).counters = s.counters := rfl
@[simp] theorem State.modTracker_pending (f : Tracker → Tracker) (s : State) :
    (s.modTracker f).pending = s.pending := rfl

/-! ## modReject -/

@[simp] theorem State.modReject_straps (f : Reject → Reject) (s : State) :
    (s.modReject f).straps = s.straps := rfl
@[simp] theorem State.modReject_ports (f : Reject → Reject) (s : State) :
    (s.modReject f).ports = s.ports := rfl
@[simp] theorem State.modReject_rx (f : Reject → Reject) (s : State) :
    (s.modReject f).rx = s.rx := rfl
@[simp] theorem State.modReject_mem (f : Reject → Reject) (s : State) :
    (s.modReject f).mem = s.mem := rfl
@[simp] theorem State.modReject_egress (f : Reject → Reject) (s : State) :
    (s.modReject f).egress = s.egress := rfl
@[simp] theorem State.modReject_gates (f : Reject → Reject) (s : State) :
    (s.modReject f).gates = s.gates := rfl
@[simp] theorem State.modReject_streams (f : Reject → Reject) (s : State) :
    (s.modReject f).streams = s.streams := rfl
@[simp] theorem State.modReject_robots (f : Reject → Reject) (s : State) :
    (s.modReject f).robots = s.robots := rfl
@[simp] theorem State.modReject_scrub (f : Reject → Reject) (s : State) :
    (s.modReject f).scrub = s.scrub := rfl
@[simp] theorem State.modReject_holdFrames (f : Reject → Reject) (s : State) :
    (s.modReject f).holdFrames = s.holdFrames := rfl
@[simp] theorem State.modReject_watch (f : Reject → Reject) (s : State) :
    (s.modReject f).watch = s.watch := rfl
@[simp] theorem State.modReject_clock (f : Reject → Reject) (s : State) :
    (s.modReject f).clock = s.clock := rfl
@[simp] theorem State.modReject_tracker (f : Reject → Reject) (s : State) :
    (s.modReject f).tracker = s.tracker := rfl
@[simp] theorem State.modReject_cameras (f : Reject → Reject) (s : State) :
    (s.modReject f).cameras = s.cameras := rfl
@[simp] theorem State.modReject_reject (f : Reject → Reject) (s : State) :
    (s.modReject f).reject = f s.reject := rfl
@[simp] theorem State.modReject_windows (f : Reject → Reject) (s : State) :
    (s.modReject f).windows = s.windows := rfl
@[simp] theorem State.modReject_hold (f : Reject → Reject) (s : State) :
    (s.modReject f).hold = s.hold := rfl
@[simp] theorem State.modReject_notices (f : Reject → Reject) (s : State) :
    (s.modReject f).notices = s.notices := rfl
@[simp] theorem State.modReject_mgmt (f : Reject → Reject) (s : State) :
    (s.modReject f).mgmt = s.mgmt := rfl
@[simp] theorem State.modReject_device (f : Reject → Reject) (s : State) :
    (s.modReject f).device = s.device := rfl
@[simp] theorem State.modReject_counters (f : Reject → Reject) (s : State) :
    (s.modReject f).counters = s.counters := rfl
@[simp] theorem State.modReject_pending (f : Reject → Reject) (s : State) :
    (s.modReject f).pending = s.pending := rfl

/-! ## modMem -/

@[simp] theorem State.modMem_straps (f : CellMem → CellMem) (s : State) :
    (s.modMem f).straps = s.straps := rfl
@[simp] theorem State.modMem_ports (f : CellMem → CellMem) (s : State) :
    (s.modMem f).ports = s.ports := rfl
@[simp] theorem State.modMem_rx (f : CellMem → CellMem) (s : State) :
    (s.modMem f).rx = s.rx := rfl
@[simp] theorem State.modMem_mem (f : CellMem → CellMem) (s : State) :
    (s.modMem f).mem = f s.mem := rfl
@[simp] theorem State.modMem_egress (f : CellMem → CellMem) (s : State) :
    (s.modMem f).egress = s.egress := rfl
@[simp] theorem State.modMem_gates (f : CellMem → CellMem) (s : State) :
    (s.modMem f).gates = s.gates := rfl
@[simp] theorem State.modMem_streams (f : CellMem → CellMem) (s : State) :
    (s.modMem f).streams = s.streams := rfl
@[simp] theorem State.modMem_robots (f : CellMem → CellMem) (s : State) :
    (s.modMem f).robots = s.robots := rfl
@[simp] theorem State.modMem_scrub (f : CellMem → CellMem) (s : State) :
    (s.modMem f).scrub = s.scrub := rfl
@[simp] theorem State.modMem_holdFrames (f : CellMem → CellMem) (s : State) :
    (s.modMem f).holdFrames = s.holdFrames := rfl
@[simp] theorem State.modMem_watch (f : CellMem → CellMem) (s : State) :
    (s.modMem f).watch = s.watch := rfl
@[simp] theorem State.modMem_clock (f : CellMem → CellMem) (s : State) :
    (s.modMem f).clock = s.clock := rfl
@[simp] theorem State.modMem_tracker (f : CellMem → CellMem) (s : State) :
    (s.modMem f).tracker = s.tracker := rfl
@[simp] theorem State.modMem_cameras (f : CellMem → CellMem) (s : State) :
    (s.modMem f).cameras = s.cameras := rfl
@[simp] theorem State.modMem_reject (f : CellMem → CellMem) (s : State) :
    (s.modMem f).reject = s.reject := rfl
@[simp] theorem State.modMem_windows (f : CellMem → CellMem) (s : State) :
    (s.modMem f).windows = s.windows := rfl
@[simp] theorem State.modMem_hold (f : CellMem → CellMem) (s : State) :
    (s.modMem f).hold = s.hold := rfl
@[simp] theorem State.modMem_notices (f : CellMem → CellMem) (s : State) :
    (s.modMem f).notices = s.notices := rfl
@[simp] theorem State.modMem_mgmt (f : CellMem → CellMem) (s : State) :
    (s.modMem f).mgmt = s.mgmt := rfl
@[simp] theorem State.modMem_device (f : CellMem → CellMem) (s : State) :
    (s.modMem f).device = s.device := rfl
@[simp] theorem State.modMem_counters (f : CellMem → CellMem) (s : State) :
    (s.modMem f).counters = s.counters := rfl
@[simp] theorem State.modMem_pending (f : CellMem → CellMem) (s : State) :
    (s.modMem f).pending = s.pending := rfl

/-! ## modWatch -/

@[simp] theorem State.modWatch_straps (f : Watch → Watch) (s : State) :
    (s.modWatch f).straps = s.straps := rfl
@[simp] theorem State.modWatch_ports (f : Watch → Watch) (s : State) :
    (s.modWatch f).ports = s.ports := rfl
@[simp] theorem State.modWatch_rx (f : Watch → Watch) (s : State) :
    (s.modWatch f).rx = s.rx := rfl
@[simp] theorem State.modWatch_mem (f : Watch → Watch) (s : State) :
    (s.modWatch f).mem = s.mem := rfl
@[simp] theorem State.modWatch_egress (f : Watch → Watch) (s : State) :
    (s.modWatch f).egress = s.egress := rfl
@[simp] theorem State.modWatch_gates (f : Watch → Watch) (s : State) :
    (s.modWatch f).gates = s.gates := rfl
@[simp] theorem State.modWatch_streams (f : Watch → Watch) (s : State) :
    (s.modWatch f).streams = s.streams := rfl
@[simp] theorem State.modWatch_robots (f : Watch → Watch) (s : State) :
    (s.modWatch f).robots = s.robots := rfl
@[simp] theorem State.modWatch_scrub (f : Watch → Watch) (s : State) :
    (s.modWatch f).scrub = s.scrub := rfl
@[simp] theorem State.modWatch_holdFrames (f : Watch → Watch) (s : State) :
    (s.modWatch f).holdFrames = s.holdFrames := rfl
@[simp] theorem State.modWatch_watch (f : Watch → Watch) (s : State) :
    (s.modWatch f).watch = f s.watch := rfl
@[simp] theorem State.modWatch_clock (f : Watch → Watch) (s : State) :
    (s.modWatch f).clock = s.clock := rfl
@[simp] theorem State.modWatch_tracker (f : Watch → Watch) (s : State) :
    (s.modWatch f).tracker = s.tracker := rfl
@[simp] theorem State.modWatch_cameras (f : Watch → Watch) (s : State) :
    (s.modWatch f).cameras = s.cameras := rfl
@[simp] theorem State.modWatch_reject (f : Watch → Watch) (s : State) :
    (s.modWatch f).reject = s.reject := rfl
@[simp] theorem State.modWatch_windows (f : Watch → Watch) (s : State) :
    (s.modWatch f).windows = s.windows := rfl
@[simp] theorem State.modWatch_hold (f : Watch → Watch) (s : State) :
    (s.modWatch f).hold = s.hold := rfl
@[simp] theorem State.modWatch_notices (f : Watch → Watch) (s : State) :
    (s.modWatch f).notices = s.notices := rfl
@[simp] theorem State.modWatch_mgmt (f : Watch → Watch) (s : State) :
    (s.modWatch f).mgmt = s.mgmt := rfl
@[simp] theorem State.modWatch_device (f : Watch → Watch) (s : State) :
    (s.modWatch f).device = s.device := rfl
@[simp] theorem State.modWatch_counters (f : Watch → Watch) (s : State) :
    (s.modWatch f).counters = s.counters := rfl
@[simp] theorem State.modWatch_pending (f : Watch → Watch) (s : State) :
    (s.modWatch f).pending = s.pending := rfl

/-! ## modHold -/

@[simp] theorem State.modHold_straps (f : Hold → Hold) (s : State) :
    (s.modHold f).straps = s.straps := rfl
@[simp] theorem State.modHold_ports (f : Hold → Hold) (s : State) :
    (s.modHold f).ports = s.ports := rfl
@[simp] theorem State.modHold_rx (f : Hold → Hold) (s : State) :
    (s.modHold f).rx = s.rx := rfl
@[simp] theorem State.modHold_mem (f : Hold → Hold) (s : State) :
    (s.modHold f).mem = s.mem := rfl
@[simp] theorem State.modHold_egress (f : Hold → Hold) (s : State) :
    (s.modHold f).egress = s.egress := rfl
@[simp] theorem State.modHold_gates (f : Hold → Hold) (s : State) :
    (s.modHold f).gates = s.gates := rfl
@[simp] theorem State.modHold_streams (f : Hold → Hold) (s : State) :
    (s.modHold f).streams = s.streams := rfl
@[simp] theorem State.modHold_robots (f : Hold → Hold) (s : State) :
    (s.modHold f).robots = s.robots := rfl
@[simp] theorem State.modHold_scrub (f : Hold → Hold) (s : State) :
    (s.modHold f).scrub = s.scrub := rfl
@[simp] theorem State.modHold_holdFrames (f : Hold → Hold) (s : State) :
    (s.modHold f).holdFrames = s.holdFrames := rfl
@[simp] theorem State.modHold_watch (f : Hold → Hold) (s : State) :
    (s.modHold f).watch = s.watch := rfl
@[simp] theorem State.modHold_clock (f : Hold → Hold) (s : State) :
    (s.modHold f).clock = s.clock := rfl
@[simp] theorem State.modHold_tracker (f : Hold → Hold) (s : State) :
    (s.modHold f).tracker = s.tracker := rfl
@[simp] theorem State.modHold_cameras (f : Hold → Hold) (s : State) :
    (s.modHold f).cameras = s.cameras := rfl
@[simp] theorem State.modHold_reject (f : Hold → Hold) (s : State) :
    (s.modHold f).reject = s.reject := rfl
@[simp] theorem State.modHold_windows (f : Hold → Hold) (s : State) :
    (s.modHold f).windows = s.windows := rfl
@[simp] theorem State.modHold_hold (f : Hold → Hold) (s : State) :
    (s.modHold f).hold = f s.hold := rfl
@[simp] theorem State.modHold_notices (f : Hold → Hold) (s : State) :
    (s.modHold f).notices = s.notices := rfl
@[simp] theorem State.modHold_mgmt (f : Hold → Hold) (s : State) :
    (s.modHold f).mgmt = s.mgmt := rfl
@[simp] theorem State.modHold_device (f : Hold → Hold) (s : State) :
    (s.modHold f).device = s.device := rfl
@[simp] theorem State.modHold_counters (f : Hold → Hold) (s : State) :
    (s.modHold f).counters = s.counters := rfl
@[simp] theorem State.modHold_pending (f : Hold → Hold) (s : State) :
    (s.modHold f).pending = s.pending := rfl

/-! ## modMgmt -/

@[simp] theorem State.modMgmt_straps (f : Mgmt → Mgmt) (s : State) :
    (s.modMgmt f).straps = s.straps := rfl
@[simp] theorem State.modMgmt_ports (f : Mgmt → Mgmt) (s : State) :
    (s.modMgmt f).ports = s.ports := rfl
@[simp] theorem State.modMgmt_rx (f : Mgmt → Mgmt) (s : State) :
    (s.modMgmt f).rx = s.rx := rfl
@[simp] theorem State.modMgmt_mem (f : Mgmt → Mgmt) (s : State) :
    (s.modMgmt f).mem = s.mem := rfl
@[simp] theorem State.modMgmt_egress (f : Mgmt → Mgmt) (s : State) :
    (s.modMgmt f).egress = s.egress := rfl
@[simp] theorem State.modMgmt_gates (f : Mgmt → Mgmt) (s : State) :
    (s.modMgmt f).gates = s.gates := rfl
@[simp] theorem State.modMgmt_streams (f : Mgmt → Mgmt) (s : State) :
    (s.modMgmt f).streams = s.streams := rfl
@[simp] theorem State.modMgmt_robots (f : Mgmt → Mgmt) (s : State) :
    (s.modMgmt f).robots = s.robots := rfl
@[simp] theorem State.modMgmt_scrub (f : Mgmt → Mgmt) (s : State) :
    (s.modMgmt f).scrub = s.scrub := rfl
@[simp] theorem State.modMgmt_holdFrames (f : Mgmt → Mgmt) (s : State) :
    (s.modMgmt f).holdFrames = s.holdFrames := rfl
@[simp] theorem State.modMgmt_watch (f : Mgmt → Mgmt) (s : State) :
    (s.modMgmt f).watch = s.watch := rfl
@[simp] theorem State.modMgmt_clock (f : Mgmt → Mgmt) (s : State) :
    (s.modMgmt f).clock = s.clock := rfl
@[simp] theorem State.modMgmt_tracker (f : Mgmt → Mgmt) (s : State) :
    (s.modMgmt f).tracker = s.tracker := rfl
@[simp] theorem State.modMgmt_cameras (f : Mgmt → Mgmt) (s : State) :
    (s.modMgmt f).cameras = s.cameras := rfl
@[simp] theorem State.modMgmt_reject (f : Mgmt → Mgmt) (s : State) :
    (s.modMgmt f).reject = s.reject := rfl
@[simp] theorem State.modMgmt_windows (f : Mgmt → Mgmt) (s : State) :
    (s.modMgmt f).windows = s.windows := rfl
@[simp] theorem State.modMgmt_hold (f : Mgmt → Mgmt) (s : State) :
    (s.modMgmt f).hold = s.hold := rfl
@[simp] theorem State.modMgmt_notices (f : Mgmt → Mgmt) (s : State) :
    (s.modMgmt f).notices = s.notices := rfl
@[simp] theorem State.modMgmt_mgmt (f : Mgmt → Mgmt) (s : State) :
    (s.modMgmt f).mgmt = f s.mgmt := rfl
@[simp] theorem State.modMgmt_device (f : Mgmt → Mgmt) (s : State) :
    (s.modMgmt f).device = s.device := rfl
@[simp] theorem State.modMgmt_counters (f : Mgmt → Mgmt) (s : State) :
    (s.modMgmt f).counters = s.counters := rfl
@[simp] theorem State.modMgmt_pending (f : Mgmt → Mgmt) (s : State) :
    (s.modMgmt f).pending = s.pending := rfl

/-! ## give -/

@[simp] theorem State.give_straps (l : List CellId) (s : State) : (s.give l).straps = s.straps := rfl
@[simp] theorem State.give_ports (l : List CellId) (s : State) : (s.give l).ports = s.ports := rfl
@[simp] theorem State.give_rx (l : List CellId) (s : State) : (s.give l).rx = s.rx := rfl
@[simp] theorem State.give_mem (l : List CellId) (s : State) : (s.give l).mem = s.mem.give l := rfl
@[simp] theorem State.give_egress (l : List CellId) (s : State) : (s.give l).egress = s.egress := rfl
@[simp] theorem State.give_gates (l : List CellId) (s : State) : (s.give l).gates = s.gates := rfl
@[simp] theorem State.give_streams (l : List CellId) (s : State) : (s.give l).streams = s.streams := rfl
@[simp] theorem State.give_robots (l : List CellId) (s : State) : (s.give l).robots = s.robots := rfl
@[simp] theorem State.give_scrub (l : List CellId) (s : State) : (s.give l).scrub = s.scrub := rfl
@[simp] theorem State.give_holdFrames (l : List CellId) (s : State) : (s.give l).holdFrames = s.holdFrames := rfl
@[simp] theorem State.give_watch (l : List CellId) (s : State) : (s.give l).watch = s.watch := rfl
@[simp] theorem State.give_clock (l : List CellId) (s : State) : (s.give l).clock = s.clock := rfl
@[simp] theorem State.give_tracker (l : List CellId) (s : State) : (s.give l).tracker = s.tracker := rfl
@[simp] theorem State.give_cameras (l : List CellId) (s : State) : (s.give l).cameras = s.cameras := rfl
@[simp] theorem State.give_reject (l : List CellId) (s : State) : (s.give l).reject = s.reject := rfl
@[simp] theorem State.give_windows (l : List CellId) (s : State) : (s.give l).windows = s.windows := rfl
@[simp] theorem State.give_hold (l : List CellId) (s : State) : (s.give l).hold = s.hold := rfl
@[simp] theorem State.give_notices (l : List CellId) (s : State) : (s.give l).notices = s.notices := rfl
@[simp] theorem State.give_mgmt (l : List CellId) (s : State) : (s.give l).mgmt = s.mgmt := rfl
@[simp] theorem State.give_device (l : List CellId) (s : State) : (s.give l).device = s.device := rfl
@[simp] theorem State.give_counters (l : List CellId) (s : State) : (s.give l).counters = s.counters := rfl
@[simp] theorem State.give_pending (l : List CellId) (s : State) : (s.give l).pending = s.pending := rfl

/-! ## addRef -/

@[simp] theorem State.addRef_straps (h : CellId) (s : State) : (s.addRef h).straps = s.straps := rfl
@[simp] theorem State.addRef_ports (h : CellId) (s : State) : (s.addRef h).ports = s.ports := rfl
@[simp] theorem State.addRef_rx (h : CellId) (s : State) : (s.addRef h).rx = s.rx := rfl
@[simp] theorem State.addRef_mem (h : CellId) (s : State) : (s.addRef h).mem = s.mem.addRef h := rfl
@[simp] theorem State.addRef_egress (h : CellId) (s : State) : (s.addRef h).egress = s.egress := rfl
@[simp] theorem State.addRef_gates (h : CellId) (s : State) : (s.addRef h).gates = s.gates := rfl
@[simp] theorem State.addRef_streams (h : CellId) (s : State) : (s.addRef h).streams = s.streams := rfl
@[simp] theorem State.addRef_robots (h : CellId) (s : State) : (s.addRef h).robots = s.robots := rfl
@[simp] theorem State.addRef_scrub (h : CellId) (s : State) : (s.addRef h).scrub = s.scrub := rfl
@[simp] theorem State.addRef_holdFrames (h : CellId) (s : State) : (s.addRef h).holdFrames = s.holdFrames := rfl
@[simp] theorem State.addRef_watch (h : CellId) (s : State) : (s.addRef h).watch = s.watch := rfl
@[simp] theorem State.addRef_clock (h : CellId) (s : State) : (s.addRef h).clock = s.clock := rfl
@[simp] theorem State.addRef_tracker (h : CellId) (s : State) : (s.addRef h).tracker = s.tracker := rfl
@[simp] theorem State.addRef_cameras (h : CellId) (s : State) : (s.addRef h).cameras = s.cameras := rfl
@[simp] theorem State.addRef_reject (h : CellId) (s : State) : (s.addRef h).reject = s.reject := rfl
@[simp] theorem State.addRef_windows (h : CellId) (s : State) : (s.addRef h).windows = s.windows := rfl
@[simp] theorem State.addRef_hold (h : CellId) (s : State) : (s.addRef h).hold = s.hold := rfl
@[simp] theorem State.addRef_notices (h : CellId) (s : State) : (s.addRef h).notices = s.notices := rfl
@[simp] theorem State.addRef_mgmt (h : CellId) (s : State) : (s.addRef h).mgmt = s.mgmt := rfl
@[simp] theorem State.addRef_device (h : CellId) (s : State) : (s.addRef h).device = s.device := rfl
@[simp] theorem State.addRef_counters (h : CellId) (s : State) : (s.addRef h).counters = s.counters := rfl
@[simp] theorem State.addRef_pending (h : CellId) (s : State) : (s.addRef h).pending = s.pending := rfl

/-! ## release -/

@[simp] theorem State.release_straps (h : CellId) (s : State) : (s.release h).straps = s.straps := rfl
@[simp] theorem State.release_ports (h : CellId) (s : State) : (s.release h).ports = s.ports := rfl
@[simp] theorem State.release_rx (h : CellId) (s : State) : (s.release h).rx = s.rx := rfl
@[simp] theorem State.release_mem (h : CellId) (s : State) : (s.release h).mem = s.mem.release h := rfl
@[simp] theorem State.release_egress (h : CellId) (s : State) : (s.release h).egress = s.egress := rfl
@[simp] theorem State.release_gates (h : CellId) (s : State) : (s.release h).gates = s.gates := rfl
@[simp] theorem State.release_streams (h : CellId) (s : State) : (s.release h).streams = s.streams := rfl
@[simp] theorem State.release_robots (h : CellId) (s : State) : (s.release h).robots = s.robots := rfl
@[simp] theorem State.release_scrub (h : CellId) (s : State) : (s.release h).scrub = s.scrub := rfl
@[simp] theorem State.release_holdFrames (h : CellId) (s : State) : (s.release h).holdFrames = s.holdFrames := rfl
@[simp] theorem State.release_watch (h : CellId) (s : State) : (s.release h).watch = s.watch := rfl
@[simp] theorem State.release_clock (h : CellId) (s : State) : (s.release h).clock = s.clock := rfl
@[simp] theorem State.release_tracker (h : CellId) (s : State) : (s.release h).tracker = s.tracker := rfl
@[simp] theorem State.release_cameras (h : CellId) (s : State) : (s.release h).cameras = s.cameras := rfl
@[simp] theorem State.release_reject (h : CellId) (s : State) : (s.release h).reject = s.reject := rfl
@[simp] theorem State.release_windows (h : CellId) (s : State) : (s.release h).windows = s.windows := rfl
@[simp] theorem State.release_hold (h : CellId) (s : State) : (s.release h).hold = s.hold := rfl
@[simp] theorem State.release_notices (h : CellId) (s : State) : (s.release h).notices = s.notices := rfl
@[simp] theorem State.release_mgmt (h : CellId) (s : State) : (s.release h).mgmt = s.mgmt := rfl
@[simp] theorem State.release_device (h : CellId) (s : State) : (s.release h).device = s.device := rfl
@[simp] theorem State.release_counters (h : CellId) (s : State) : (s.release h).counters = s.counters := rfl
@[simp] theorem State.release_pending (h : CellId) (s : State) : (s.release h).pending = s.pending := rfl

/-! ## The element that an update of an indexed record changes, and the others -/

theorem upd_getElem {α : Type} {n : Nat} (v : Vector α n) (i : Fin n) (f : α → α) (k : Nat)
    (hk : k < n) : (upd v i f)[k] = if i.val = k then f v[k] else v[k] := by
  simp only [upd, Vector.getElem_set]
  split
  · next h => subst h; rfl
  · rfl

@[simp] theorem upd_same {α : Type} {n : Nat} (v : Vector α n) (i : Fin n) (f : α → α) :
    (upd v i f)[i.val] = f v[i.val] := by
  simp [upd_getElem]

theorem upd_other {α : Type} {n : Nat} (v : Vector α n) (i j : Fin n) (f : α → α) (h : j ≠ i) :
    (upd v i f)[j.val] = v[j.val] := by
  have h' : i.val ≠ j.val := fun e => h (Fin.ext e.symm)
  simp [upd_getElem, h']

theorem upd_get {α : Type} {n : Nat} (v : Vector α n) (i j : Fin n) (f : α → α) :
    (upd v i f)[j.val] = if j = i then f v[i.val] else v[j.val] := by
  by_cases h : j = i
  · subst h; simp
  · simp [h, upd_other v i j f h]

end Sys2Proof.Machine
end

