-- ==== Sys2Proof/Laws/Counts.lean ====
section
/-! SUPPORT. The counters and the notice queue: what reading a counter after writing one gives, and what
a count and a raised notice can do. -/

namespace Sys2Proof.Machine

/-! ## A counter's place is its own -/

theorem PortCounter.idx_inj {a b : PortCounter} (h : a.idx = b.idx) : a = b := by
  cases a <;> cases b <;> simp [PortCounter.idx, Fin.ext_iff] at h ⊢ <;> omega

theorem StreamCounter.idx_inj {a b : StreamCounter} (h : a.idx = b.idx) : a = b := by
  cases a <;> cases b <;> simp [StreamCounter.idx] at h ⊢

theorem RobotCounter.idx_inj {a b : RobotCounter} (h : a.idx = b.idx) : a = b := by
  cases a <;> cases b <;> simp [RobotCounter.idx] at h ⊢

theorem CameraCounter.idx_inj {a b : CameraCounter} (h : a.idx = b.idx) : a = b := by
  cases a <;> cases b <;> simp [CameraCounter.idx] at h ⊢

theorem ServiceCounter.idx_inj {a b : ServiceCounter} (h : a.idx = b.idx) : a = b := by
  cases a <;> cases b <;> simp [ServiceCounter.idx] at h ⊢

theorem ClockCounter.idx_inj {a b : ClockCounter} (h : a.idx = b.idx) : a = b := by
  cases a <;> cases b <;> simp [ClockCounter.idx] at h ⊢

theorem TrackerCounter.idx_inj {a b : TrackerCounter} (h : a.idx = b.idx) : a = b := by
  cases a <;> cases b <;> simp [TrackerCounter.idx] at h ⊢

theorem RejectCounter.idx_inj {a b : RejectCounter} (h : a.idx = b.idx) : a = b := by
  have h := congrArg Fin.val h
  cases a <;> cases b <;> simp only [RejectCounter.idx, Fin.isValue, Fin.coe_ofNat_eq_mod] at h <;>
    first
    | rfl
    | omega
    | (congr 1; apply Fin.ext; omega)

theorem GenKind.idx_inj {a b : GenKind} (h : a.idx = b.idx) : a = b := by
  cases a <;> cases b <;> simp [GenKind.idx] at h ⊢

theorem DeviceCounter.idx_inj {a b : DeviceCounter} (h : a.idx = b.idx) : a = b := by
  have h := congrArg Fin.val h
  cases a <;> cases b <;>
    simp only [DeviceCounter.idx, Fin.isValue, Fin.coe_ofNat_eq_mod] at h <;>
    first
    | rfl
    | omega
    | (congr 1; apply GenKind.idx_inj; apply Fin.ext; omega)

/-! ## Reading a counter after writing one -/

@[simp] theorem Counters.get_put_same (k : Counters) (v : Nat) (c : CounterRef) :
    (k.put v c).get c = v := by
  cases c <;> simp [Counters.get, Counters.put, upd]

theorem set_get {α : Type} {m : Nat} (g : Vector α m) (a b : Fin m) (v : α) :
    (g.set a v)[b] = if b = a then v else g[b] := by
  simp only [Fin.getElem_fin, Vector.getElem_set, Fin.ext_iff, eq_comm]

theorem set_set_get {α : Type} {m n : Nat} (g : Vector (Vector α m) n) (i j : Fin n) (a b : Fin m)
    (v : α) : (upd g i fun x => x.set a v)[j][b] = if j = i ∧ b = a then v else g[j][b] := by
  simp only [Fin.getElem_fin, upd_get]
  by_cases h : j = i
  · subst h
    have := set_get g[j] a b v
    simp only [Fin.getElem_fin] at this
    simp [this]
  · simp [h]

theorem Counters.get_put (k : Counters) (v : Nat) (c d : CounterRef) :
    (k.put v c).get d = if d = c then v else k.get d := by
  cases c <;> cases d <;>
    simp only [Counters.get, Counters.put, set_get, set_set_get, reduceCtorEq, if_false,
      CounterRef.port.injEq, CounterRef.stream.injEq, CounterRef.robot.injEq,
      CounterRef.camera.injEq, CounterRef.service.injEq, CounterRef.clock.injEq,
      CounterRef.tracker.injEq, CounterRef.reject.injEq, CounterRef.device.injEq, if_true,
      (⟨PortCounter.idx_inj, congrArg _⟩ : PortCounter.idx _ = PortCounter.idx _ ↔ _ = _),
      (⟨StreamCounter.idx_inj, congrArg _⟩ : StreamCounter.idx _ = StreamCounter.idx _ ↔ _ = _),
      (⟨RobotCounter.idx_inj, congrArg _⟩ : RobotCounter.idx _ = RobotCounter.idx _ ↔ _ = _),
      (⟨CameraCounter.idx_inj, congrArg _⟩ : CameraCounter.idx _ = CameraCounter.idx _ ↔ _ = _),
      (⟨ServiceCounter.idx_inj, congrArg _⟩ : ServiceCounter.idx _ = ServiceCounter.idx _ ↔ _ = _),
      (⟨ClockCounter.idx_inj, congrArg _⟩ : ClockCounter.idx _ = ClockCounter.idx _ ↔ _ = _),
      (⟨TrackerCounter.idx_inj, congrArg _⟩ : TrackerCounter.idx _ = TrackerCounter.idx _ ↔ _ = _),
      (⟨RejectCounter.idx_inj, congrArg _⟩ : RejectCounter.idx _ = RejectCounter.idx _ ↔ _ = _),
      (⟨DeviceCounter.idx_inj, congrArg _⟩ : DeviceCounter.idx _ = DeviceCounter.idx _ ↔ _ = _)]

theorem Counters.get_put_other (k : Counters) (v : Nat) (c d : CounterRef) (h : d ≠ c) :
    (k.put v c).get d = k.get d := by
  simp [Counters.get_put, h]

theorem State.counter_put (s : State) (v : Nat) (c d : CounterRef) :
    ({ s with counters := s.counters.put v c } : State).counter d =
      if d = c then v else s.counter d := Counters.get_put s.counters v c d

/-! ## A count and a raised notice change nothing but counters and the notice block -/

theorem bumpWith_uncounted (f : NoticeEvent → State → State)
    (hf : ∀ e s, (f e s).uncounted = s.uncounted) (c : CounterRef) (n : Nat) (s : State) :
    (bumpWith f c n s).uncounted = s.uncounted := by
  unfold bumpWith
  dsimp only
  split <;> split <;> (try simp only [hf]) <;> rfl

theorem raiseDepth_uncounted (n : Nat) (e : NoticeEvent) (s : State) :
    (raiseDepth n e s).uncounted = s.uncounted := by
  induction n generalizing e s with
  | zero => rfl
  | succ n ih =>
    unfold raiseDepth
    dsimp only
    split <;> simp only [bumpWith_uncounted _ ih] <;> rfl

@[simp] theorem raise_uncounted (e : NoticeEvent) (s : State) :
    (raise e s).uncounted = s.uncounted := raiseDepth_uncounted 7 e s

@[simp] theorem bumpBy_uncounted (c : CounterRef) (n : Nat) (s : State) :
    (bumpBy c n s).uncounted = s.uncounted := bumpWith_uncounted _ raise_uncounted c n s

@[simp] theorem bump_uncounted (c : CounterRef) (s : State) :
    (bump c s).uncounted = s.uncounted := bumpBy_uncounted c 1 s

@[simp] theorem raise_straps (e : NoticeEvent) (s : State) : (raise e s).straps = s.straps :=
  (congrArg State.straps (raise_uncounted e s) :)
@[simp] theorem bumpBy_straps (c : CounterRef) (n : Nat) (s : State) : (bumpBy c n s).straps = s.straps :=
  (congrArg State.straps (bumpBy_uncounted c n s) :)
@[simp] theorem bump_straps (c : CounterRef) (s : State) : (bump c s).straps = s.straps :=
  (congrArg State.straps (bump_uncounted c s) :)
@[simp] theorem raise_ports (e : NoticeEvent) (s : State) : (raise e s).ports = s.ports :=
  (congrArg State.ports (raise_uncounted e s) :)
@[simp] theorem bumpBy_ports (c : CounterRef) (n : Nat) (s : State) : (bumpBy c n s).ports = s.ports :=
  (congrArg State.ports (bumpBy_uncounted c n s) :)
@[simp] theorem bump_ports (c : CounterRef) (s : State) : (bump c s).ports = s.ports :=
  (congrArg State.ports (bump_uncounted c s) :)
@[simp] theorem raise_rx (e : NoticeEvent) (s : State) : (raise e s).rx = s.rx :=
  (congrArg State.rx (raise_uncounted e s) :)
@[simp] theorem bumpBy_rx (c : CounterRef) (n : Nat) (s : State) : (bumpBy c n s).rx = s.rx :=
  (congrArg State.rx (bumpBy_uncounted c n s) :)
@[simp] theorem bump_rx (c : CounterRef) (s : State) : (bump c s).rx = s.rx :=
  (congrArg State.rx (bump_uncounted c s) :)
@[simp] theorem raise_mem (e : NoticeEvent) (s : State) : (raise e s).mem = s.mem :=
  (congrArg State.mem (raise_uncounted e s) :)
@[simp] theorem bumpBy_mem (c : CounterRef) (n : Nat) (s : State) : (bumpBy c n s).mem = s.mem :=
  (congrArg State.mem (bumpBy_uncounted c n s) :)
@[simp] theorem bump_mem (c : CounterRef) (s : State) : (bump c s).mem = s.mem :=
  (congrArg State.mem (bump_uncounted c s) :)
@[simp] theorem raise_egress (e : NoticeEvent) (s : State) : (raise e s).egress = s.egress :=
  (congrArg State.egress (raise_uncounted e s) :)
@[simp] theorem bumpBy_egress (c : CounterRef) (n : Nat) (s : State) : (bumpBy c n s).egress = s.egress :=
  (congrArg State.egress (bumpBy_uncounted c n s) :)
@[simp] theorem bump_egress (c : CounterRef) (s : State) : (bump c s).egress = s.egress :=
  (congrArg State.egress (bump_uncounted c s) :)
@[simp] theorem raise_gates (e : NoticeEvent) (s : State) : (raise e s).gates = s.gates :=
  (congrArg State.gates (raise_uncounted e s) :)
@[simp] theorem bumpBy_gates (c : CounterRef) (n : Nat) (s : State) : (bumpBy c n s).gates = s.gates :=
  (congrArg State.gates (bumpBy_uncounted c n s) :)
@[simp] theorem bump_gates (c : CounterRef) (s : State) : (bump c s).gates = s.gates :=
  (congrArg State.gates (bump_uncounted c s) :)
@[simp] theorem raise_streams (e : NoticeEvent) (s : State) : (raise e s).streams = s.streams :=
  (congrArg State.streams (raise_uncounted e s) :)
@[simp] theorem bumpBy_streams (c : CounterRef) (n : Nat) (s : State) : (bumpBy c n s).streams = s.streams :=
  (congrArg State.streams (bumpBy_uncounted c n s) :)
@[simp] theorem bump_streams (c : CounterRef) (s : State) : (bump c s).streams = s.streams :=
  (congrArg State.streams (bump_uncounted c s) :)
@[simp] theorem raise_robots (e : NoticeEvent) (s : State) : (raise e s).robots = s.robots :=
  (congrArg State.robots (raise_uncounted e s) :)
@[simp] theorem raise_scrub (e : NoticeEvent) (s : State) : (raise e s).scrub = s.scrub :=
  (congrArg State.scrub (raise_uncounted e s) :)
@[simp] theorem bumpBy_robots (c : CounterRef) (n : Nat) (s : State) : (bumpBy c n s).robots = s.robots :=
  (congrArg State.robots (bumpBy_uncounted c n s) :)
@[simp] theorem bumpBy_scrub (c : CounterRef) (n : Nat) (s : State) : (bumpBy c n s).scrub = s.scrub :=
  (congrArg State.scrub (bumpBy_uncounted c n s) :)
@[simp] theorem bump_robots (c : CounterRef) (s : State) : (bump c s).robots = s.robots :=
  (congrArg State.robots (bump_uncounted c s) :)
@[simp] theorem bump_scrub (c : CounterRef) (s : State) : (bump c s).scrub = s.scrub :=
  (congrArg State.scrub (bump_uncounted c s) :)
@[simp] theorem raise_holdFrames (e : NoticeEvent) (s : State) : (raise e s).holdFrames = s.holdFrames :=
  (congrArg State.holdFrames (raise_uncounted e s) :)
@[simp] theorem bumpBy_holdFrames (c : CounterRef) (n : Nat) (s : State) : (bumpBy c n s).holdFrames = s.holdFrames :=
  (congrArg State.holdFrames (bumpBy_uncounted c n s) :)
@[simp] theorem bump_holdFrames (c : CounterRef) (s : State) : (bump c s).holdFrames = s.holdFrames :=
  (congrArg State.holdFrames (bump_uncounted c s) :)
@[simp] theorem raise_watch (e : NoticeEvent) (s : State) : (raise e s).watch = s.watch :=
  (congrArg State.watch (raise_uncounted e s) :)
@[simp] theorem bumpBy_watch (c : CounterRef) (n : Nat) (s : State) : (bumpBy c n s).watch = s.watch :=
  (congrArg State.watch (bumpBy_uncounted c n s) :)
@[simp] theorem bump_watch (c : CounterRef) (s : State) : (bump c s).watch = s.watch :=
  (congrArg State.watch (bump_uncounted c s) :)
@[simp] theorem raise_clock (e : NoticeEvent) (s : State) : (raise e s).clock = s.clock :=
  (congrArg State.clock (raise_uncounted e s) :)
@[simp] theorem bumpBy_clock (c : CounterRef) (n : Nat) (s : State) : (bumpBy c n s).clock = s.clock :=
  (congrArg State.clock (bumpBy_uncounted c n s) :)
@[simp] theorem bump_clock (c : CounterRef) (s : State) : (bump c s).clock = s.clock :=
  (congrArg State.clock (bump_uncounted c s) :)
@[simp] theorem raise_tracker (e : NoticeEvent) (s : State) : (raise e s).tracker = s.tracker :=
  (congrArg State.tracker (raise_uncounted e s) :)
@[simp] theorem bumpBy_tracker (c : CounterRef) (n : Nat) (s : State) : (bumpBy c n s).tracker = s.tracker :=
  (congrArg State.tracker (bumpBy_uncounted c n s) :)
@[simp] theorem bump_tracker (c : CounterRef) (s : State) : (bump c s).tracker = s.tracker :=
  (congrArg State.tracker (bump_uncounted c s) :)
@[simp] theorem raise_cameras (e : NoticeEvent) (s : State) : (raise e s).cameras = s.cameras :=
  (congrArg State.cameras (raise_uncounted e s) :)
@[simp] theorem bumpBy_cameras (c : CounterRef) (n : Nat) (s : State) : (bumpBy c n s).cameras = s.cameras :=
  (congrArg State.cameras (bumpBy_uncounted c n s) :)
@[simp] theorem bump_cameras (c : CounterRef) (s : State) : (bump c s).cameras = s.cameras :=
  (congrArg State.cameras (bump_uncounted c s) :)
@[simp] theorem raise_reject (e : NoticeEvent) (s : State) : (raise e s).reject = s.reject :=
  (congrArg State.reject (raise_uncounted e s) :)
@[simp] theorem bumpBy_reject (c : CounterRef) (n : Nat) (s : State) : (bumpBy c n s).reject = s.reject :=
  (congrArg State.reject (bumpBy_uncounted c n s) :)
@[simp] theorem bump_reject (c : CounterRef) (s : State) : (bump c s).reject = s.reject :=
  (congrArg State.reject (bump_uncounted c s) :)
@[simp] theorem raise_windows (e : NoticeEvent) (s : State) : (raise e s).windows = s.windows :=
  (congrArg State.windows (raise_uncounted e s) :)
@[simp] theorem bumpBy_windows (c : CounterRef) (n : Nat) (s : State) : (bumpBy c n s).windows = s.windows :=
  (congrArg State.windows (bumpBy_uncounted c n s) :)
@[simp] theorem bump_windows (c : CounterRef) (s : State) : (bump c s).windows = s.windows :=
  (congrArg State.windows (bump_uncounted c s) :)
@[simp] theorem raise_hold (e : NoticeEvent) (s : State) : (raise e s).hold = s.hold :=
  (congrArg State.hold (raise_uncounted e s) :)
@[simp] theorem bumpBy_hold (c : CounterRef) (n : Nat) (s : State) : (bumpBy c n s).hold = s.hold :=
  (congrArg State.hold (bumpBy_uncounted c n s) :)
@[simp] theorem bump_hold (c : CounterRef) (s : State) : (bump c s).hold = s.hold :=
  (congrArg State.hold (bump_uncounted c s) :)
@[simp] theorem raise_mgmt (e : NoticeEvent) (s : State) : (raise e s).mgmt = s.mgmt :=
  (congrArg State.mgmt (raise_uncounted e s) :)
@[simp] theorem bumpBy_mgmt (c : CounterRef) (n : Nat) (s : State) : (bumpBy c n s).mgmt = s.mgmt :=
  (congrArg State.mgmt (bumpBy_uncounted c n s) :)
@[simp] theorem bump_mgmt (c : CounterRef) (s : State) : (bump c s).mgmt = s.mgmt :=
  (congrArg State.mgmt (bump_uncounted c s) :)
@[simp] theorem raise_device (e : NoticeEvent) (s : State) : (raise e s).device = s.device :=
  (congrArg State.device (raise_uncounted e s) :)
@[simp] theorem bumpBy_device (c : CounterRef) (n : Nat) (s : State) : (bumpBy c n s).device = s.device :=
  (congrArg State.device (bumpBy_uncounted c n s) :)
@[simp] theorem bump_device (c : CounterRef) (s : State) : (bump c s).device = s.device :=
  (congrArg State.device (bump_uncounted c s) :)
@[simp] theorem raise_pending (e : NoticeEvent) (s : State) : (raise e s).pending = s.pending :=
  (congrArg State.pending (raise_uncounted e s) :)
@[simp] theorem bumpBy_pending (c : CounterRef) (n : Nat) (s : State) : (bumpBy c n s).pending = s.pending :=
  (congrArg State.pending (bumpBy_uncounted c n s) :)
@[simp] theorem bump_pending (c : CounterRef) (s : State) : (bump c s).pending = s.pending :=
  (congrArg State.pending (bump_uncounted c s) :)

/-! ## The counters that a count and a raised notice change -/

theorem bumpWith_counter (f : NoticeEvent → State → State)
    (hf : ∀ e s d, d.ofNotices = false → (f e s).counter d = s.counter d)
    (c : CounterRef) (n : Nat) (s : State) (d : CounterRef) (hd : d.ofNotices = false) :
    (bumpWith f c n s).counter d =
      if d = c then min (s.counter c + n) Config.counterMax else s.counter d := by
  unfold bumpWith
  dsimp only
  split <;> split <;> simp only [hf _ _ _ hd, State.counter_put]

theorem raiseDepth_counter (n : Nat) (e : NoticeEvent) (s : State) (d : CounterRef)
    (hd : d.ofNotices = false) : (raiseDepth n e s).counter d = s.counter d := by
  induction n generalizing e s d with
  | zero => rfl
  | succ n ih =>
    have h1 : d ≠ .device .noticesRaised := by rintro rfl; simp [CounterRef.ofNotices] at hd
    have h2 : d ≠ .device .noticesCoalesced := by rintro rfl; simp [CounterRef.ofNotices] at hd
    have h3 : d ≠ .device .noticeOverflows := by rintro rfl; simp [CounterRef.ofNotices] at hd
    unfold raiseDepth
    dsimp only
    split <;> simp only [bumpWith_counter _ ih _ _ _ _ hd, h1, h2, h3, if_false] <;> rfl

theorem raise_counter (e : NoticeEvent) (s : State) (d : CounterRef) (hd : d.ofNotices = false) :
    (raise e s).counter d = s.counter d := raiseDepth_counter 7 e s d hd

theorem bumpBy_counter (c : CounterRef) (n : Nat) (s : State) (d : CounterRef)
    (hd : d.ofNotices = false) : (bumpBy c n s).counter d =
      if d = c then min (s.counter c + n) Config.counterMax else s.counter d :=
  bumpWith_counter raise raise_counter c n s d hd

/-! ## Counting without crossing a point of R181 -/

theorem Uncrossed.mono {v n m : Nat} (h : Uncrossed v n) (hm : m ≤ n) : Uncrossed v m := by
  unfold Uncrossed at *
  omega

theorem bumpWith_uncrossed (f : NoticeEvent → State → State) (c : CounterRef) (n : Nat) (s : State)
    (h : Uncrossed (s.counter c) n) : bumpWith f c n s =
      { s with counters := s.counters.put (min (s.counter c + n) Config.counterMax) c } := by
  have h1 : Config.counterHalf ≤ Config.counterMax := by decide
  unfold Uncrossed at h
  unfold bumpWith
  dsimp only
  rw [if_neg (by omega), if_neg (by omega)]

theorem bumpBy_uncrossed (c : CounterRef) (n : Nat) (s : State) (h : Uncrossed (s.counter c) n) :
    bumpBy c n s =
      { s with counters := s.counters.put (min (s.counter c + n) Config.counterMax) c } :=
  bumpWith_uncrossed raise c n s h

theorem bumpWith_quiet (f : NoticeEvent → State → State) (c : CounterRef) (n : Nat) (s : State)
    (h : Uncrossed (s.counter c) n) : (bumpWith f c n s).notices = s.notices ∧
      ∀ d, (bumpWith f c n s).counter d =
        if d = c then min (s.counter c + n) Config.counterMax else s.counter d := by
  rw [bumpWith_uncrossed f c n s h]
  exact ⟨rfl, fun d => State.counter_put s _ c d⟩

theorem raise_uncrossed (e : NoticeEvent) (s : State)
    (h : ∀ c, c.ofNotices = true → Uncrossed (s.counter c) 1) :
    (raise e s).notices = (s.notices.put e s.clock.hall.base).1 ∧
      ∀ c, c.ofNotices = true → min (s.counter c) Config.counterMax ≤ (raise e s).counter c ∧
        (raise e s).counter c ≤ s.counter c + 1 := by
  have hr := h (.device .noticesRaised) rfl
  have hc := h (.device .noticesCoalesced) rfl
  have ho := h (.device .noticeOverflows) rfl
  obtain ⟨n1, c1⟩ := bumpWith_quiet (raiseDepth 6) (.device .noticesRaised) 1
    { s with notices := (s.notices.put e s.clock.hall.base).1 } hr
  have k1 : ∀ d, (bumpWith (raiseDepth 6) (.device .noticesRaised) 1
      { s with notices := (s.notices.put e s.clock.hall.base).1 }).counter d =
      if d = .device .noticesRaised then min (s.counter (.device .noticesRaised) + 1)
        Config.counterMax else s.counter d := c1
  rw [show raise e s = raiseDepth 7 e s from rfl]
  unfold raiseDepth
  dsimp only
  generalize bumpWith (raiseDepth 6) (.device .noticesRaised) 1
    { s with notices := (s.notices.put e s.clock.hall.base).1 } = u at n1 k1 ⊢
  split
  · refine ⟨n1, fun c _ => ?_⟩
    rw [k1]
    split
    · next e => subst e; omega
    · omega
  · have k := k1 (.device .noticesCoalesced)
    rw [if_neg (by decide)] at k
    obtain ⟨n2, k2⟩ := bumpWith_quiet (raiseDepth 6) (.device .noticesCoalesced) 1 u (by rw [k]; exact hc)
    refine ⟨n2.trans n1, fun c _ => ?_⟩
    rw [k2, k, k1]
    split
    · next e => subst e; omega
    · split
      · next e => subst e; omega
      · omega
  · have k := k1 (.device .noticeOverflows)
    rw [if_neg (by decide)] at k
    obtain ⟨n2, k2⟩ := bumpWith_quiet (raiseDepth 6) (.device .noticeOverflows) 1 u (by rw [k]; exact ho)
    refine ⟨n2.trans n1, fun c _ => ?_⟩
    rw [k2, k, k1]
    split
    · next e => subst e; omega
    · split
      · next e => subst e; omega
      · omega

/-! ## The effects of a command, one after another -/

theorem Effects.refl (s : State) (now : BaseTime) : Effects s s now [] [] where
  counters c _ := by simp
  ofNotices _ c _ := by simp
  notices _ := rfl

theorem Effects.congr {s t u : State} {now : BaseTime} {l : List CounterRef}
    {es : List NoticeEvent} (h : Effects s t now l es) (hc : u.counters = t.counters)
    (hn : u.notices = t.notices) : Effects s u now l es := by
  have e : ∀ c, u.counter c = t.counter c := fun c => by unfold State.counter; rw [hc]
  exact ⟨fun c hk => (e c).trans (h.counters c hk), fun hq c hk => by rw [e]; exact h.ofNotices hq c hk,
    fun hq => hn.trans (h.notices hq)⟩

theorem Effects.congrLeft {s s' t : State} {now : BaseTime} {l : List CounterRef}
    {es : List NoticeEvent} (h : Effects s' t now l es) (hc : s'.counters = s.counters)
    (hn : s'.notices = s.notices) : Effects s t now l es := by
  have e : ∀ c, s'.counter c = s.counter c := fun c => by unfold State.counter; rw [hc]
  have q : Quiet s l es.length → Quiet s' l es.length := fun hq c hk => by rw [e]; exact hq c hk
  exact ⟨fun c hk => by rw [← e]; exact h.counters c hk,
    fun hq c hk => by rw [← e]; exact h.ofNotices (q hq) c hk, fun hq => by rw [← hn]; exact h.notices (q hq)⟩

theorem Quiet.mono {s : State} {l l' : List CounterRef} {n m : Nat} (h : Quiet s l n)
    (hl : ∀ c, l'.count c ≤ l.count c) (hm : m ≤ n) : Quiet s l' m := by
  intro c hc
  have hl := hl c
  refine (h c ?_).mono (by omega)
  rcases hc with hc | hc
  · have := List.count_pos_iff.mpr hc
    exact .inl (List.count_pos_iff.mp (by omega))
  · exact .inr hc

theorem Effects.bumpBy {s t : State} {now : BaseTime} {l : List CounterRef}
    {es : List NoticeEvent} (h : Effects s t now l es) (c : CounterRef) (n : Nat)
    (hc : c.ofNotices = false) (hn : 0 < n) :
    Effects s (Machine.bumpBy c n t) now (l ++ List.replicate n c) es := by
  have hcount : ∀ d, (l ++ List.replicate n c).count d = l.count d + if d = c then n else 0 := by
    intro d
    rw [List.count_append, List.count_replicate]
    by_cases e : c = d
    · simp [e]
    · simp [e, Ne.symm e]
  have hmem : ∀ d, d ∈ l ++ List.replicate n c ↔ d ∈ l ∨ d = c := by
    intro d
    simp only [List.mem_append, List.mem_replicate]
    constructor
    · rintro (h | ⟨-, h⟩); exacts [.inl h, .inr h]
    · rintro (h | h); exacts [.inl h, .inr ⟨by omega, h⟩]
  have hq : Quiet s (l ++ List.replicate n c) es.length → Quiet s l es.length :=
    fun q => q.mono (fun d => by rw [hcount]; omega) le_rfl
  have hcl := h.counters c hc
  have hun : Quiet s (l ++ List.replicate n c) es.length → Uncrossed (t.counter c) n := by
    intro q
    have hu := q c (.inl ((hmem c).mpr (.inr rfl)))
    rw [hcount, if_pos rfl] at hu
    rw [hcl]
    have hm : Config.counterHalf ≤ Config.counterMax := by decide
    by_cases hl : c ∈ l
    · rw [if_pos hl]; unfold Uncrossed at *; omega
    · rw [if_neg hl]; unfold Uncrossed at *; omega
  refine ⟨fun d hd => ?_, fun q d hd => ?_, fun q => ?_⟩
  · rw [bumpBy_counter c n t d hd, hcl, h.counters d hd, hcount]
    by_cases e : d = c
    · subst e
      rw [if_pos rfl, if_pos rfl, if_pos ((hmem d).mpr (.inr rfl))]
      by_cases hl : d ∈ l
      · rw [if_pos hl]; omega
      · rw [if_neg hl, List.count_eq_zero_of_not_mem hl, Nat.zero_add]
    · rw [if_neg e, if_neg e]
      by_cases hl : d ∈ l
      · rw [if_pos hl, if_pos ((hmem d).mpr (.inl hl)), Nat.add_zero]
      · rw [if_neg hl, if_neg]
        rw [hmem]
        rintro (h' | h')
        · exact hl h'
        · exact e h'
  · have e : d ≠ c := by rintro rfl; rw [hc] at hd; cases hd
    have := (bumpWith_quiet raise c n t (hun q)).2 d
    rw [if_neg e] at this
    change min _ _ ≤ (bumpWith raise c n t).counter d ∧ (bumpWith raise c n t).counter d ≤ _
    rw [this]
    exact h.ofNotices (hq q) d hd
  · exact (bumpWith_quiet raise c n t (hun q)).1.trans (h.notices (hq q))

theorem Effects.bump {s t : State} {now : BaseTime} {l : List CounterRef} {es : List NoticeEvent}
    (h : Effects s t now l es) (c : CounterRef) (hc : c.ofNotices = false := by rfl) :
    Effects s (Machine.bump c t) now (l ++ [c]) es := h.bumpBy c 1 hc Nat.one_pos

theorem Effects.raise {s t : State} {now : BaseTime} {l : List CounterRef} {es : List NoticeEvent}
    (h : Effects s t now l es) (e : NoticeEvent) (hnow : t.clock.hall.base = now) :
    Effects s (Machine.raise e t) now l (es ++ [e]) := by
  have hq : Quiet s l (es ++ [e]).length → Quiet s l es.length :=
    fun q => q.mono (fun _ => le_rfl) (by simp)
  have hm : Config.counterHalf ≤ Config.counterMax := by decide
  have hun : Quiet s l (es ++ [e]).length →
      ∀ c, c.ofNotices = true → Uncrossed (t.counter c) 1 := by
    intro q c hc
    have hu := q c (.inr hc)
    have hb := h.ofNotices (hq q) c hc
    rw [List.length_append, List.length_singleton] at hu
    unfold Uncrossed at *
    omega
  refine ⟨fun d hd => ?_, fun q d hd => ?_, fun q => ?_⟩
  · rw [raise_counter e t d hd]; exact h.counters d hd
  · have hb := h.ofNotices (hq q) d hd
    have hr := (raise_uncrossed e t (hun q)).2 d hd
    rw [List.length_append, List.length_singleton]
    omega
  · rw [(raise_uncrossed e t (hun q)).1, h.notices (hq q), hnow, List.foldl_append]
    rfl

end Sys2Proof.Machine
end

