-- ==== Sys2Proof/Laws/Ops.lean ====
section
/-! SUPPORT. What the shared operations over lists, index sets and hold sources can do. -/

namespace Sys2Proof.Machine

/-! ## Work done for each of a list -/

@[simp] theorem forEach_nil {α : Type} (f : α → State → State) (s : State) :
    forEach [] f s = s := rfl

@[simp] theorem forEach_cons {α : Type} (a : α) (l : List α) (f : α → State → State) (s : State) :
    forEach (a :: l) f s = forEach l f (f a s) := rfl

/-- What each piece of work keeps, all of it keeps. -/
theorem forEach_inv {α : Type} {P : State → Prop} {f : α → State → State} (l : List α)
    (hf : ∀ a ∈ l, ∀ s, P s → P (f a s)) (s : State) (hs : P s) : P (forEach l f s) := by
  induction l generalizing s with
  | nil => exact hs
  | cons a l ih =>
    exact ih (fun b hb => hf b (List.mem_cons_of_mem a hb)) _ (hf a List.mem_cons_self s hs)

/-- A view of the state that no piece of work changes is as before. -/
theorem forEach_keeps {α β : Type} (g : State → β) {f : α → State → State} (l : List α)
    (hf : ∀ a s, g (f a s) = g s) (s : State) : g (forEach l f s) = g s :=
  forEach_inv (P := fun t => g t = g s) l (fun a _ t ht => (hf a t).trans ht) s rfl

/-! ## Index sets -/

theorem getLsbD_withMember {n : Nat} (b : BitVec n) (i j : Fin n) :
    (withMember b i).getLsbD j.val = (b.getLsbD j.val || decide (j = i)) := by
  have hi := i.isLt
  have hj := j.isLt
  have hd : decide (j = i) = decide (j.val = i.val) := decide_eq_decide.mpr Fin.ext_iff
  rw [hd, withMember, BitVec.getLsbD_or, BitVec.getLsbD_shiftLeft, BitVec.getLsbD_one]
  congr 1
  by_cases h : j.val = i.val
  · simp [h]; omega
  · simp [h]; omega

theorem getLsbD_without {n : Nat} (b : BitVec n) (i j : Fin n) :
    (without b i).getLsbD j.val = (b.getLsbD j.val && !decide (j = i)) := by
  have hi := i.isLt
  have hj := j.isLt
  have hd : decide (j = i) = decide (j.val = i.val) := decide_eq_decide.mpr Fin.ext_iff
  rw [hd, without, BitVec.getLsbD_and, BitVec.getLsbD_not, BitVec.getLsbD_shiftLeft,
    BitVec.getLsbD_one]
  congr 1
  by_cases h : j.val = i.val
  · simp [h]; omega
  · simp [h]; omega

theorem mem_members {n : Nat} (b : BitVec n) (i : Fin n) :
    i ∈ members b ↔ b.getLsbD i.val = true := by
  simp [members]

/-! ## Hold sources (R170, R171) -/

theorem PresentSet.has_join (p : PresentSet) (h x : HoldSource) :
    (p.join h).has x = (p.has x || decide (x = h)) := by
  cases h <;> cases x <;> try simp [PresentSet.join, PresentSet.has]
  rename_i r x
  simpa using getLsbD_withMember p.robots r x

theorem PresentSet.has_leave (p : PresentSet) (h x : HoldSource) :
    (p.leave h).has x = (p.has x && !decide (x = h)) := by
  cases h <;> cases x <;> try simp [PresentSet.leave, PresentSet.has]
  rename_i r x
  simpa using getLsbD_without p.robots r x

theorem PresentSet.mem_toList (p : PresentSet) (h : HoldSource) :
    h ∈ p.toList ↔ p.has h = true := by
  cases h <;> cases hc : p.controller <;> cases hf : p.trackFull <;> cases hj : p.jam <;>
    simp [PresentSet.toList, PresentSet.has, mem_members, hc, hf, hj]

/-- All that a source that joins can do: nothing, when it is present; join, while the latch is SET; and
join and set the latch, with its notice and its count, while it is RELEASED. -/
theorem joinHold_cases (h : HoldSource) (s : State) :
    (s.hold.present.has h = true ∧ joinHold h s = s) ∨
    (s.hold.present.has h = false ∧ s.hold.latch = true ∧
      joinHold h s = s.modHold fun b => { b with present := b.present.join h }) ∨
    (s.hold.present.has h = false ∧ s.hold.latch = false ∧
      joinHold h s = bump (.device .holdSets) (raise (.holdSet (.source h)) (s.modHold fun b =>
        { b with present := b.present.join h, latch := true, cause := .source h,
                 setTime := some s.clock.run }))) := by
  unfold joinHold
  cases hp : s.hold.present.has h <;> cases hl : s.hold.latch <;>
    simp [State.modHold, hl]

/-- A source that joins changes the hold block, the counters and the notice block alone. -/
theorem joinHold_frame (h : HoldSource) (s : State) :
    (joinHold h s).uncounted = ({ s with hold := (joinHold h s).hold } : State).uncounted := by
  obtain ⟨-, e⟩ | ⟨-, -, e⟩ | ⟨-, -, e⟩ := joinHold_cases h s <;> rw [e] <;>
    simp <;> rfl

theorem leaveHold_hold (h : HoldSource) (s : State) :
    (leaveHold h s).hold = { s.hold with present := s.hold.present.leave h } := rfl

theorem leaveHold_frame (h : HoldSource) (s : State) :
    leaveHold h s = { s with hold := (leaveHold h s).hold } := rfl

/-! ## The notice queue (R176, R177) -/

/-- All that a raised notice can do to the notice block. -/
theorem NoticeBlock.put_cases (b : NoticeBlock) (e : NoticeEvent) (now : BaseTime) :
    (b.records.any (fun r => r.event.folds e) = true ∧ b.put e now =
      ({ b with records :=
          b.records.map fun r => if r.event.folds e then r.fold e now else r }, .folded)) ∨
    (b.records.any (fun r => r.event.folds e) = false ∧ b.records.length < Config.noticeCapacity ∧
      b.put e now =
        ({ b with records :=
            b.records ++ [{ event := e, firstTime := now, lastTime := now, repeats := 1 }] },
          .made)) ∨
    (b.records.any (fun r => r.event.folds e) = false ∧ Config.noticeCapacity ≤ b.records.length ∧
      b.put e now = ({ b with overflow := min (b.overflow + 1) 65535 }, .dropped)) := by
  unfold NoticeBlock.put
  by_cases ha : b.records.any (fun r => r.event.folds e) = true
  · exact .inl ⟨ha, by rw [if_pos ha]⟩
  · by_cases hl : b.records.length < Config.noticeCapacity
    · exact .inr (.inl ⟨by simpa using ha, hl, by rw [if_neg ha, if_pos hl]⟩)
    · exact .inr (.inr ⟨by simpa using ha, by omega, by rw [if_neg ha, if_neg hl]⟩)

end Sys2Proof.Machine
end

