-- ==== Sys2Proof/Laws/Cells.lean ====
section
/-! SUPPORT. What the operations of cell memory and of the egress queues can do (R22, R26, R30, R33). -/

namespace Sys2Proof.Machine

/-! ## Cell memory -/

/-- Cells are taken exactly when the free list holds them: from its head, and the low-water mark
follows the free count. -/
theorem CellMem.take_eq_some (m : CellMem) (n : Nat) (l : List CellId) (m' : CellMem) :
    m.take n = some (l, m') ↔ n ≤ m.free.length ∧ l = m.free.take n ∧
      m' = { m with free := m.free.drop n, low := min m.low (m.free.length - n) } := by
  unfold CellMem.take
  by_cases h : n ≤ m.free.length
  · rw [if_pos h]
    simp only [Option.some.injEq, Prod.mk.injEq, h, true_and, List.length_drop, eq_comm]
  · simp [h]

theorem CellMem.take_eq_none (m : CellMem) (n : Nat) : m.take n = none ↔ m.free.length < n := by
  unfold CellMem.take
  by_cases h : n ≤ m.free.length
  · simp [h]
  · simp [h]; omega

@[simp] theorem CellMem.give_free (m : CellMem) (l : List CellId) :
    (m.give l).free = m.free ++ l := rfl
@[simp] theorem CellMem.give_frames (m : CellMem) (l : List CellId) :
    (m.give l).frames = m.frames := rfl
@[simp] theorem CellMem.give_low (m : CellMem) (l : List CellId) : (m.give l).low = m.low := rfl

@[simp] theorem CellMem.store_free (m : CellMem) (f : Frame) : (m.store f).free = m.free := by
  unfold CellMem.store; split <;> rfl
@[simp] theorem CellMem.store_low (m : CellMem) (f : Frame) : (m.store f).low = m.low := by
  unfold CellMem.store; split <;> rfl

/-- A stored frame is read back under its first cell, and every other place is as before. -/
theorem CellMem.frames_store (m : CellMem) (f : Frame) (h : CellId) (t : List CellId)
    (hf : f.cells = h :: t) (x : CellId) :
    (m.store f).frames[x] = if x = h then some f else m.frames[x] := by
  have e : m.store f = { m with frames := m.frames.set h (some f) } := by
    simp [CellMem.store, hf]
  rw [e]
  by_cases hx : x = h
  · subst hx; simp
  · have : h.val ≠ x.val := fun c => hx (Fin.ext c.symm)
    simp [hx, this]

/-- A holder gains a reference: the count of that frame alone grows by one. -/
theorem CellMem.frames_addRef (m : CellMem) (h x : CellId) :
    (m.addRef h).frames[x] =
      if x = h then m.frames[x].map fun f => { f with refs := f.refs + 1 } else m.frames[x] := by
  unfold CellMem.addRef
  by_cases hx : x = h
  · subst hx
    cases hf : m.frames[x] <;> simp_all
  · have : h.val ≠ x.val := fun c => hx (Fin.ext c.symm)
    split <;> simp [hx, this]

@[simp] theorem CellMem.addRef_free (m : CellMem) (h : CellId) : (m.addRef h).free = m.free := by
  unfold CellMem.addRef; split <;> rfl
@[simp] theorem CellMem.addRef_low (m : CellMem) (h : CellId) : (m.addRef h).low = m.low := by
  unfold CellMem.addRef; split <;> rfl

/-- A holder gives up a reference: the count of that frame alone falls by one, and with the last
reference the frame is gone. -/
theorem CellMem.frames_release (m : CellMem) (h x : CellId) :
    (m.release h).frames[x] =
      if x = h then
        m.frames[x].bind fun f => if f.refs ≤ 1 then none else some { f with refs := f.refs - 1 }
      else m.frames[x] := by
  unfold CellMem.release
  by_cases hx : x = h
  · subst hx
    cases hf : m.frames[x] with
    | none => simp_all
    | some f => by_cases hr : f.refs ≤ 1 <;> simp [hr]
  · have : h.val ≠ x.val := fun c => hx (Fin.ext c.symm)
    split
    · rw [if_neg hx]
    · split <;> simp [this]

/-- The cells of a frame whose last reference goes join the tail of the free list. -/
theorem CellMem.release_free (m : CellMem) (h : CellId) :
    (m.release h).free = match m.frames[h] with
      | some f => if f.refs ≤ 1 then m.free ++ f.cells else m.free
      | none => m.free := by
  unfold CellMem.release
  cases hf : m.frames[h] with
  | none => rfl
  | some f => by_cases hr : f.refs ≤ 1 <;> simp [hr]

@[simp] theorem CellMem.release_low (m : CellMem) (h : CellId) : (m.release h).low = m.low := by
  unfold CellMem.release
  split
  · rfl
  · split <;> rfl

/-! ## Queues -/

/-- A cut trigger changes at most the wire's cut point: the other ports, and on its own port all but the
transmission, are as before. -/
theorem noteCut_cases (p : PortId) (s : State) :
    noteCut p s = s ∨ ∃ t c, s.egress[p].tx = some t ∧ t.cutAt = none ∧
      noteCut p s = s.modEgress p fun e => { e with tx := some { t with cutAt := some c } } := by
  unfold noteCut
  cases ht : s.egress[p].tx with
  | none => exact .inl rfl
  | some t =>
    dsimp only
    split
    · next h =>
      split
      · refine .inr ⟨t, _, rfl, ?_, rfl⟩
        simp only [Bool.and_eq_true, Option.isNone_iff_eq_none] at h
        exact h.1.2
      · exact .inl rfl
    · exact .inl rfl

theorem noteCut_frame (p : PortId) (s : State) :
    noteCut p s = { s with egress := (noteCut p s).egress } := by
  obtain e | ⟨t, c, -, -, e⟩ := noteCut_cases p s <;> rw [e] <;> rfl

theorem noteCut_queues (p x : PortId) (s : State) :
    (noteCut p s).egress[x].queues = s.egress[x].queues := by
  obtain e | ⟨t, c, -, -, e⟩ := noteCut_cases p s
  · rw [e]
  rw [e]
  simp only [State.modEgress, Fin.getElem_fin, upd_get]
  split
  · next h => subst h; rfl
  · rfl

theorem enqueue_frame (p : PortId) (q : QueueId) (x : QEntry) (s : State) :
    enqueue p q x s = { s with egress := (enqueue p q x s).egress } :=
  noteCut_frame p _

/-- An entry that joins a queue joins its tail, and no other queue changes. -/
theorem enqueue_queues (p y : PortId) (q k : QueueId) (x : QEntry) (s : State) :
    (enqueue p q x s).egress[y].queues[k] =
      if y = p ∧ k = q then s.egress[y].queues[k] ++ [x] else s.egress[y].queues[k] := by
  unfold enqueue
  rw [noteCut_queues]
  simp only [State.modEgress, Fin.getElem_fin, upd_get]
  by_cases hy : y = p
  · subst hy
    simp only [if_true, true_and, upd_get]
    by_cases hk : k = q
    · subst hk; simp
    · simp [hk]
  · simp [hy]

end Sys2Proof.Machine
end

