-- ==== Sys2Proof/Laws/Answers.lean ====
section
/-! SUPPORT. What building a frame and answering a request can do (R34, R185). -/

namespace Sys2Proof.Machine

/-! ## What leaves a state unanswered -/

theorem unanswered_of_uncounted {s t : State} (h : s.uncounted = t.uncounted) :
    s.unanswered = t.unanswered := by
  simp only [State.unanswered, h]

@[simp] theorem raise_unanswered (e : NoticeEvent) (s : State) :
    (raise e s).unanswered = s.unanswered := unanswered_of_uncounted (raise_uncounted e s)

@[simp] theorem bumpBy_unanswered (c : CounterRef) (n : Nat) (s : State) :
    (bumpBy c n s).unanswered = s.unanswered := unanswered_of_uncounted (bumpBy_uncounted c n s)

@[simp] theorem bump_unanswered (c : CounterRef) (s : State) :
    (bump c s).unanswered = s.unanswered := bumpBy_unanswered c 1 s

@[simp] theorem modMem_unanswered (f : CellMem → CellMem) (s : State) :
    (s.modMem f).unanswered = s.unanswered := rfl

@[simp] theorem modEgress_unanswered (p : PortId) (f : Egress → Egress) (s : State) :
    (s.modEgress p f).unanswered = s.unanswered := rfl

@[simp] theorem modMgmt_unanswered (f : Mgmt → Mgmt) (s : State) :
    (s.modMgmt f).unanswered = s.unanswered := rfl

@[simp] theorem noteCut_unanswered (p : PortId) (s : State) :
    (noteCut p s).unanswered = s.unanswered := by
  rw [noteCut_frame]; rfl

@[simp] theorem noteCut_mgmt (p : PortId) (s : State) : (noteCut p s).mgmt = s.mgmt := by
  rw [noteCut_frame]

@[simp] theorem enqueue_unanswered (p : PortId) (q : QueueId) (x : QEntry) (s : State) :
    (enqueue p q x s).unanswered = s.unanswered := by
  rw [enqueue_frame]; rfl

@[simp] theorem enqueue_mgmt (p : PortId) (q : QueueId) (x : QEntry) (s : State) :
    (enqueue p q x s).mgmt = s.mgmt := by
  rw [enqueue_frame]

@[simp] theorem enqueue_mem (p : PortId) (q : QueueId) (x : QEntry) (s : State) :
    (enqueue p q x s).mem = s.mem := by
  rw [enqueue_frame]

@[simp] theorem leaveQueue_unanswered (s : State) : (leaveQueue s).unanswered = s.unanswered := rfl

@[simp] theorem leaveQueue_mgmt (s : State) :
    (leaveQueue s).mgmt = { s.mgmt with queue := s.mgmt.queue.tail } := rfl

/-! ## Building a frame (R34) -/

/-- A view of the state that counting, queueing and cell memory leave alone is left by a build. -/
theorem buildFrame_keeps {β : Type} (g : State → β)
    (hb : ∀ c s, g (bump c s) = g s) (he : ∀ p x s, g (enqueue p 2 x s) = g s)
    (hm : ∀ m s, g { s with mem := m } = g s) (k : GenKind) (kind : FrameKind) (ports : List PortId)
    (octets : Octets) (s : State) : g (buildFrame k kind ports octets s).1 = g s := by
  have hno (l : List PortId) (s : State) :
      g (forEach l (fun p s => bump (.device (.generationDrops k)) (bump (.port p (.refused 2)) s)) s) =
        g s := forEach_keeps g l (fun p s => (hb _ _).trans (hb _ _)) s
  unfold buildFrame
  dsimp only
  split
  · exact hb _ s
  · split
    · exact hno _ s
    · split
      · exact (hb _ _).trans (hno _ s)
      · split
        · exact hno _ s
        · exact (forEach_keeps g _ (fun p s => he _ _ _) _).trans ((hm _ _).trans (hno _ s))

@[simp] theorem buildFrame_unanswered (k : GenKind) (kind : FrameKind) (ports : List PortId)
    (octets : Octets) (s : State) :
    (buildFrame k kind ports octets s).1.unanswered = s.unanswered :=
  buildFrame_keeps State.unanswered (fun _ _ => bump_unanswered _ _)
    (fun _ _ _ => enqueue_unanswered _ _ _ _) (fun _ _ => rfl) k kind ports octets s

@[simp] theorem buildFrame_mgmt (k : GenKind) (kind : FrameKind) (ports : List PortId)
    (octets : Octets) (s : State) : (buildFrame k kind ports octets s).1.mgmt = s.mgmt :=
  buildFrame_keeps State.mgmt (fun _ _ => bump_mgmt _ _) (fun _ _ _ => enqueue_mgmt _ _ _ _)
    (fun _ _ => rfl) k kind ports octets s

@[simp] theorem buildFrame_straps (k : GenKind) (kind : FrameKind) (ports : List PortId)
    (octets : Octets) (s : State) : (buildFrame k kind ports octets s).1.straps = s.straps :=
  buildFrame_keeps State.straps (fun _ _ => bump_straps _ _)
    (fun _ _ _ => by rw [enqueue_frame]) (fun _ _ => rfl) k kind ports octets s

/-- A frame for one port whose link is UP, whose Q2 admits it and whose cells are free is stored under
the cell at the head of the free list and joins the tail of that Q2. -/
theorem buildFrame_made (k : GenKind) (kind : FrameKind) (p : PortId) (octets : Octets) (s : State)
    (hl : s.ports[p].link = true) (hf : s.fitsLimit 2 (cellsFor octets.length) p = true)
    (hn : cellsFor octets.length ≤ s.mem.free.length) (hc : 0 < cellsFor octets.length) :
    ∃ h t, s.mem.free.take (cellsFor octets.length) = h :: t ∧
      (buildFrame k kind [p] octets s).2 = some h ∧
      (buildFrame k kind [p] octets s).1.mem.frames[h] =
        some { cells := h :: t, octets := octets, refs := 1, kind := kind } ∧
      (buildFrame k kind [p] octets s).1.egress[p].queues[(2 : QueueId)] =
        s.egress[p].queues[(2 : QueueId)] ++ [newEntry h .normal] := by
  simp only [Fin.getElem_fin] at hl
  have hne : s.mem.free.take (cellsFor octets.length) ≠ [] := by
    intro e
    have := congrArg List.length e
    rw [List.length_take, List.length_nil] at this
    omega
  obtain ⟨h, t, e⟩ := List.exists_cons_of_ne_nil hne
  refine ⟨h, t, e, ?_⟩
  have ht : s.mem.take (cellsFor octets.length) = some (h :: t, _) :=
    (CellMem.take_eq_some _ _ _ _).mpr ⟨hn, e.symm, rfl⟩
  have hu : [p].filter (fun p => s.ports[p].link) = [p] := by simp [hl]
  have hy : [p].filter (s.fitsLimit 2 (cellsFor octets.length)) = [p] := by simp [hf]
  have hno : [p].filter (fun p => !s.fitsLimit 2 (cellsFor octets.length) p) = [] := by simp [hf]
  unfold buildFrame
  simp only [hu, hy, hno, forEach_nil, forEach_cons, List.length_nil, List.length_cons, ht,
    enqueue_mem, true_and, Nat.zero_add]
  constructor
  · rw [CellMem.frames_store _ _ h t rfl]; simp
  · rw [enqueue_queues]; simp

/-! ## Answers (R185) -/

@[simp] theorem sendAnswer_unanswered (q : Request) (r : Reply) (s : State) :
    (sendAnswer q r s).1.unanswered = s.unanswered := buildFrame_unanswered _ _ _ _ _

@[simp] theorem sendAnswer_mgmt (q : Request) (r : Reply) (s : State) :
    (sendAnswer q r s).1.mgmt = s.mgmt := buildFrame_mgmt _ _ _ _ _

theorem formFrame_length_pos (dst src : Mac) (vlan etherType : Nat) (payload : Octets) :
    60 ≤ (formFrame dst src vlan etherType payload).length := by
  simp only [formFrame, List.length_append, List.length_replicate]
  omega

/-- With room for it, an answer is the last frame waiting in Q2 of the port of arrival. -/
theorem sendAnswer_answered (q : Request) (r : Reply) (s : State) (h : AnswerRoom s q r) :
    Answered (sendAnswer q r s).1 q r := by
  obtain ⟨hl, hf, hn⟩ := h
  have hc : 0 < cellsFor (answerFrame s.station q r).length := by
    have := formFrame_length_pos q.source s.station q.vlan etherMgmt
      (beBytes 1 1 ++ beBytes 1 q.kind ++ beBytes 2 q.tag ++ beBytes 1 r.status.code ++ [0] ++
        beBytes 2 r.body.length ++ r.body)
    unfold cellsFor answerFrame
    omega
  obtain ⟨c, t, -, -, e, eq⟩ :=
    buildFrame_made .answer .answer q.port (answerFrame s.station q r) s hl hf hn hc
  refine ⟨newEntry c .normal, _, ?_, e, ?_, rfl⟩
  · rw [show (sendAnswer q r s).1 = (buildFrame .answer .answer [q.port]
      (answerFrame s.station q r) s).1 from rfl, eq]
    exact List.getLast?_append_of_ne_nil _ (by simp)
  · have : (sendAnswer q r s).1.straps = s.straps := buildFrame_straps _ _ _ _ _
    have hs : (sendAnswer q r s).1.station = s.station := by unfold State.station; rw [this]
    rw [hs]

end Sys2Proof.Machine
end

