-- ==== Sys2Proof/Laws/Gates.lean ====
section
/-! SUPPORT. What the choice of a switch-over (R72) can do, said once, and the small lemmas of a commit. -/

namespace Sys2Proof.Machine

/-! ## The boundaries of a port's current list -/

/-- Every list that the gate engine may follow has a cycle (R65). -/
def Gate.hasCycle (g : Gate) : Prop := ∀ l, g.active = some l → 0 < l.cycle

theorem GateList.indexAfter_le_iff (l : GateList) (t k : Int) (h : 0 < l.cycle) :
    l.indexAfter t ≤ k ↔ t < l.boundary k := by
  have h : (0 : Int) < l.cycle := by exact_mod_cast h
  unfold GateList.indexAfter GateList.boundary
  rw [Int.add_one_le_iff, Int.ediv_lt_iff_lt_mul h]
  omega

theorem GateList.indexFrom_le_iff (l : GateList) (t k : Int) (h : 0 < l.cycle) :
    l.indexFrom t ≤ k ↔ t ≤ l.boundary k := by
  have h : (0 : Int) < l.cycle := by exact_mod_cast h
  unfold GateList.indexFrom GateList.boundary
  have e := Int.le_ediv_iff_mul_le h (a := -k) (b := l.base.toNs - t)
  rw [Int.neg_mul] at e
  omega

/-- `boundaryAfter` is the first boundary later than an instant. -/
theorem Gate.boundaryAfter_le_iff (g : Gate) (t k : Int) (h : g.hasCycle) :
    g.boundaryAfter t ≤ k ↔ t < g.boundaryAt k := by
  unfold Gate.boundaryAfter Gate.boundaryAt
  split
  · unfold gridBoundary Config.gridCycle; omega
  · unfold gridBoundary Config.gridCycle; omega
  · exact GateList.indexAfter_le_iff _ _ _ (h _ ‹_›)

/-- `boundaryFrom` is the first boundary at or after an instant. -/
theorem Gate.boundaryFrom_le_iff (g : Gate) (t k : Int) (h : g.hasCycle) :
    g.boundaryFrom t ≤ k ↔ t ≤ g.boundaryAt k := by
  unfold Gate.boundaryFrom Gate.boundaryAt
  split
  · unfold gridBoundary Config.gridCycle; omega
  · unfold gridBoundary Config.gridCycle; omega
  · exact GateList.indexFrom_le_iff _ _ _ (h _ ‹_›)

/-- A commit waits for the first boundary that hall time has not reached and that is at or after its
activation time (R72). -/
theorem Gate.commitIndex_le_iff (g : Gate) (a : Option BaseTime) (now : HallTime) (k : Int)
    (h : g.hasCycle) :
    g.commitIndex a now ≤ k ↔ g.nowNs now < g.boundaryAt k ∧
      ∀ x, a = some x → g.nowNs now + (x.toNs - now.toNs) ≤ g.boundaryAt k := by
  cases a with
  | none => simp [Gate.commitIndex, g.boundaryAfter_le_iff _ _ h]
  | some x =>
    simp [Gate.commitIndex, g.boundaryAfter_le_iff _ _ h, g.boundaryFrom_le_iff _ _ h]

/-! ## A commit fixed anew -/

@[simp] theorem Gate.fixCommit_mode (g : Gate) (now : HallTime) : (g.fixCommit now).mode = g.mode := rfl
@[simp] theorem Gate.fixCommit_active (g : Gate) (now : HallTime) :
    (g.fixCommit now).active = g.active := rfl
@[simp] theorem Gate.fixCommit_loaded (g : Gate) (now : HallTime) :
    (g.fixCommit now).loaded = g.loaded := rfl
@[simp] theorem Gate.fixCommit_commit (g : Gate) (now : HallTime) :
    (g.fixCommit now).commit = g.commit := rfl
@[simp] theorem Gate.fixCommit_activation (g : Gate) (now : HallTime) :
    (g.fixCommit now).activation = g.activation := rfl
@[simp] theorem Gate.fixCommit_cycleIndex (g : Gate) (now : HallTime) :
    (g.fixCommit now).cycleIndex = g.cycleIndex := rfl
@[simp] theorem Gate.fixCommit_windowIndex (g : Gate) (now : HallTime) :
    (g.fixCommit now).windowIndex = g.windowIndex := rfl
@[simp] theorem Gate.fixCommit_cycleStart (g : Gate) (now : HallTime) :
    (g.fixCommit now).cycleStart = g.cycleStart := rfl
@[simp] theorem Gate.fixCommit_target (g : Gate) (now : HallTime) :
    (g.fixCommit now).target = g.target := rfl
@[simp] theorem Gate.fixCommit_disturbed (g : Gate) (now : HallTime) :
    (g.fixCommit now).disturbed = g.disturbed := rfl

end Sys2Proof.Machine
end

