-- ==== Sys2Proof/Laws/PerInstr.lean ====
section
/-! SUPPORT. One lemma per command about the command as syntax: the opcode table gives no row bits, so
no word of any width spells it. -/

namespace Sys2Proof.Laws.NoWordSpells

/-- No word spells the command. -/
def Statement (i : Instr) : Prop := ∀ nbits w : Nat, decodeTableWord nbits w ≠ some i

/-- `decodeTableWord` refuses every word. -/
theorem of_no_bits (i : Instr) : Statement i := fun _ _ h => nomatch h

theorem powerOnReset : ∀ a, Statement (.powerOnReset a) := fun _ => of_no_bits _
theorem hardReset : ∀ a, Statement (.hardReset a) := fun _ => of_no_bits _
theorem linkGained : ∀ a, Statement (.linkGained a) := fun _ => of_no_bits _
theorem linkLost : ∀ a, Statement (.linkLost a) := fun _ => of_no_bits _
theorem receptionCellTake : ∀ a, Statement (.receptionCellTake a) := fun _ => of_no_bits _
theorem pieceReceived : ∀ a b c, Statement (.pieceReceived a b c) := fun _ _ _ => of_no_bits _
theorem frameReceptionEnd : ∀ a b, Statement (.frameReceptionEnd a b) := fun _ _ => of_no_bits _
theorem timeMark : Statement .timeMark := of_no_bits _
theorem hallTimeAdvance : Statement .hallTimeAdvance := of_no_bits _
theorem runTimeAdvance : Statement .runTimeAdvance := of_no_bits _
theorem markTimeout : Statement .markTimeout := of_no_bits _
theorem probeDue : Statement .probeDue := of_no_bits _
theorem transmitterChoice : ∀ a, Statement (.transmitterChoice a) := fun _ => of_no_bits _
theorem pieceCut : ∀ a, Statement (.pieceCut a) := fun _ => of_no_bits _
theorem transmissionComplete : ∀ a, Statement (.transmissionComplete a) := fun _ => of_no_bits _
theorem openGridBoundary : ∀ a, Statement (.openGridBoundary a) := fun _ => of_no_bits _
theorem cycleBoundary : ∀ a, Statement (.cycleBoundary a) := fun _ => of_no_bits _
theorem windowStart : ∀ a, Statement (.windowStart a) := fun _ => of_no_bits _
theorem resyncTargetBoundary : ∀ a, Statement (.resyncTargetBoundary a) := fun _ => of_no_bits _
theorem controllerTimeout : Statement .controllerTimeout := of_no_bits _
theorem encoderTransition : ∀ a b, Statement (.encoderTransition a b) := fun _ _ => of_no_bits _
theorem sensorLeadingEdge : Statement .sensorLeadingEdge := of_no_bits _
theorem sensorTrailingEdge : Statement .sensorTrailingEdge := of_no_bits _
theorem speedWindowEnd : Statement .speedWindowEnd := of_no_bits _
theorem triggerPulseEnd : ∀ a, Statement (.triggerPulseEnd a) := fun _ => of_no_bits _
theorem blastEnd : Statement .blastEnd := of_no_bits _
theorem extendTimeEnd : Statement .extendTimeEnd := of_no_bits _
theorem retractTimeEnd : Statement .retractTimeEnd := of_no_bits _
theorem nonOverlapEnd : Statement .nonOverlapEnd := of_no_bits _
theorem inhibitEnd : Statement .inhibitEnd := of_no_bits _
theorem scrubRead : ∀ a b, Statement (.scrubRead a b) := fun _ _ => of_no_bits _
theorem serviceExpiryWarning : ∀ a, Statement (.serviceExpiryWarning a) := fun _ => of_no_bits _
theorem serviceWindowExpiry : ∀ a, Statement (.serviceWindowExpiry a) := fun _ => of_no_bits _
theorem noticeSendAttempt : Statement .noticeSendAttempt := of_no_bits _
theorem restartCarriedOut : Statement .restartCarriedOut := of_no_bits _
theorem readTable : Statement .readTable := of_no_bits _
theorem writePortRecord : Statement .writePortRecord := of_no_bits _
theorem writeStreamRecord : Statement .writeStreamRecord := of_no_bits _
theorem writeRobotRecord : Statement .writeRobotRecord := of_no_bits _
theorem writeHoldFrame : Statement .writeHoldFrame := of_no_bits _
theorem writeCameraRecord : Statement .writeCameraRecord := of_no_bits _
theorem writeTrackingRecord : Statement .writeTrackingRecord := of_no_bits _
theorem writeEjectorRecord : Statement .writeEjectorRecord := of_no_bits _
theorem writeClockRecord : Statement .writeClockRecord := of_no_bits _
theorem writeDeviceRecord : Statement .writeDeviceRecord := of_no_bits _
theorem readCounters : Statement .readCounters := of_no_bits _
theorem readAndClearCounters : Statement .readAndClearCounters := of_no_bits _
theorem readState : Statement .readState := of_no_bits _
theorem restart : Statement .restart := of_no_bits _
theorem armRobot : Statement .armRobot := of_no_bits _
theorem disarmRobot : Statement .disarmRobot := of_no_bits _
theorem setLossAction : Statement .setLossAction := of_no_bits _
theorem setClock : Statement .setClock := of_no_bits _
theorem adjustClock : Statement .adjustClock := of_no_bits _
theorem loadSchedule : Statement .loadSchedule := of_no_bits _
theorem commitSchedule : Statement .commitSchedule := of_no_bits _
theorem clearTracking : Statement .clearTracking := of_no_bits _
theorem openServiceWindow : Statement .openServiceWindow := of_no_bits _
theorem extendServiceWindow : Statement .extendServiceWindow := of_no_bits _
theorem closeServiceWindow : Statement .closeServiceWindow := of_no_bits _
theorem lowerLevel : Statement .lowerLevel := of_no_bits _
theorem releaseHold : Statement .releaseHold := of_no_bits _
theorem unknownRequest : Statement .unknownRequest := of_no_bits _

end Sys2Proof.Laws.NoWordSpells
end

