-- ==== Sys2Proof/Laws/Reception.lean ====
section
/-! SUPPORT. What taking a cell for an arriving octet can do, when a frame fits its window, and what a
robot's period state becomes (R24, R25, R74, R96, R101). -/

namespace Sys2Proof.Machine

/-! ## Cells of a reception (R24, R25) -/

/-- No frame holds more than 36 cells. -/
theorem storedCells_le (n : Nat) : storedCells n ≤ 36 := by
  simp only [storedCells, cellsFor, Config.maxFrame]
  omega

/-- More octets never need fewer cells. -/
theorem storedCells_mono {m n : Nat} (h : m ≤ n) : storedCells m ≤ storedCells n := by
  simp only [storedCells, cellsFor, Config.maxFrame]
  omega

theorem takeCell_cons (r : Reception) (m : CellMem) (c : CellId) (rest : List CellId)
    (h : m.free = c :: rest) :
    takeCell r m = ({ r with cells := r.cells ++ [c] },
      { m with free := rest, low := min m.low rest.length }) := by
  simp [takeCell, CellMem.take, h]

theorem takeCell_nil (r : Reception) (m : CellMem) (h : m.free = []) :
    takeCell r m = ({ r with overrun := true }, m) := by
  simp [takeCell, CellMem.take, h]

/-- A piece joins the open frame only as the NEXT piece it expects. -/
theorem openFrameOf_eq_some (s : State) (p : PortId) (k : Option PieceMarker) (r : Reception)
    (a : Assembly) : s.openFrameOf p k r = some a ↔
      s.rx[p].asm = some a ∧ k = some (.next a.expect) ∧ r.marked = true ∧
        s.ports[p].cfg.rxPreempt = true := by
  unfold State.openFrameOf
  split
  · rename_i n b h
    rw [h]
    constructor
    · intro e
      split at e
      · rename_i c
        cases e
        simp only [Bool.and_eq_true, decide_eq_true_eq] at c
        obtain ⟨⟨c1, c2⟩, rfl⟩ := c
        exact ⟨rfl, rfl, c1, c2⟩
      · cases e
    · rintro ⟨e, k, c1, c2⟩
      cases e
      cases k
      exact if_pos (by simp only [Bool.and_eq_true, decide_eq_true_eq]; exact ⟨⟨c1, c2⟩, trivial⟩)
  · rename_i h
    constructor
    · intro e; cases e
    · rintro ⟨e, rfl, -, -⟩
      exact absurd e (h _ _ rfl)

/-- An octet that needs a cell leaves the frame within the 36 cells of the longest frame. -/
theorem octetNeedsCell_le (s : State) (o : ArrivingOctet) (r : Reception)
    (h : s.octetNeedsCell o r = true) : r.cells.length < 36 := by
  unfold State.octetNeedsCell at h
  split at h
  · rename_i a _
    have := storedCells_le (a.octets.length + o.number)
    simp only [decide_eq_true_eq] at h
    omega
  · have := storedCells_le o.number
    simp only [decide_eq_true_eq] at h
    omega

/-! ## The window of a frame (R73, R74) -/

/-- A gate that never closes holds back nothing. -/
theorem fits_of_open (g : Gate) (p : PortId) (q : QueueId) (n : Nat) (now : HallTime)
    (h : g.closing q = none) : g.fits p q n now = true := by
  simp [Gate.fits, h]

/-- Otherwise a frame fits when its wire time ends by the closing instant. -/
theorem fits_iff (g : Gate) (p : PortId) (q : QueueId) (n : Nat) (now : HallTime) (c : Int)
    (h : g.closing q = some c) : g.fits p q n now = true ↔
      g.nowUnits now + (wireNs p n : Int) * fracPerNs ≤ c * fracPerNs := by
  simp [Gate.fits, h]

/-- A gate that closes later holds back no frame that an earlier closing lets pass. -/
theorem fits_of_later (g : Gate) (p : PortId) (q : QueueId) (n : Nat) (now : HallTime) (c d : Int)
    (h : g.closing q = some d) (hc : c ≤ d)
    (hf : g.nowUnits now + (wireNs p n : Int) * fracPerNs ≤ c * fracPerNs) :
    g.fits p q n now = true := by
  rw [fits_iff g p q n now d h]
  have : c * (fracPerNs : Int) ≤ d * fracPerNs :=
    Int.mul_le_mul_of_nonneg_right hc (Int.natCast_nonneg _)
  omega

/-! ## The period state of a robot (R96, R101) -/

@[simp] theorem Robot.withoutPeriod_state (b : Robot) : b.withoutPeriod.state = b.state := rfl
@[simp] theorem Robot.withoutPeriod_probation (b : Robot) :
    b.withoutPeriod.probation = b.probation := rfl
@[simp] theorem Robot.withoutPeriod_openingTaken (b : Robot) :
    b.withoutPeriod.openingTaken = false := rfl
@[simp] theorem Robot.withoutPeriod_hit (b : Robot) : b.withoutPeriod.hit = none := rfl

/-- A robot that is not in SERVICE begins its next period at the boundary, with its marks cleared. -/
theorem Robot.nextPeriod_of_supervised (b : Robot) (t : HallTime) (h : b.state ≠ .service) :
    b.nextPeriod t = { b with partialPeriod := false, disturbed := false, openingTaken := false,
                              hit := none, periodStart := t } := by
  simp [Robot.nextPeriod, Robot.withoutPeriod, h]

/-- One that its period's judgement took into SERVICE begins none. -/
theorem Robot.nextPeriod_of_service (b : Robot) (t : HallTime) (h : b.state = .service) :
    b.nextPeriod t = b := by
  simp [Robot.nextPeriod, h]

@[simp] theorem Robot.nextPeriod_state (b : Robot) (t : HallTime) :
    (b.nextPeriod t).state = b.state := by
  unfold Robot.nextPeriod
  split <;> rfl

end Sys2Proof.Machine
end

