-- ==== Sys2Proof/Laws/Requests.lean ====
section
/-! SUPPORT. What running the request at the head of the queue can do (R184, R185). -/

namespace Sys2Proof.Machine

theorem portWindow_line {p : PortId} (h : p.val < 10) : portWindow p = none := by
  have h1 : p ≠ 10 := by rintro rfl; omega
  have h2 : p ≠ 11 := by rintro rfl; omega
  simp [portWindow, h1, h2]

@[simp] theorem portWindow_windowPort (w : WindowId) : portWindow (windowPort w) = some w := by
  revert w; decide

/-- A request of a line port is no technician request: nothing is counted for it. -/
theorem countTechnician_line {q : Request} (h : q.port.val < 10) (s : State) :
    countTechnician q s = s := by simp [countTechnician, portWindow_line h]

/-- A row that does not stand for the head request does nothing. -/
theorem runHead_other (row : RequestRow) (act : Act) (s : State) (h : s.headRequest row = none) :
    runHead row act s = s := by
  simp [runHead, h]

/-- The head request of a line port whose header is good is acted on, answered, and leaves the queue:
its row stands for it, its kind's fixed fields fit its body, and its answer fits a frame. -/
theorem runHead_line {s : State} {q : Request} {kind : Nat} (hq : LineRequest s q kind)
    (k : RequestKind) (hk : requestKindOf kind = some k) (act : Act)
    (hb : fixedOctets k q.body ≤ q.body.length)
    (hl : (answerFrame s.station q (act q s).2).length ≤ Config.maxFrame) :
    runHead q.row act s = leaveQueue (sendAnswer q (act q s).2 (act q s).1).1 := by
  obtain ⟨rest, hr⟩ : ∃ rest, s.mgmt.queue = q :: rest := by
    have := hq.head
    cases h : s.mgmt.queue with
    | nil => simp [h] at this
    | cons a l => simp [h] at this; exact ⟨l, by rw [this]⟩
  have hh : s.headRequest q.row = some q := by simp [State.headRequest, hr, hq.idle]
  have hp : perform act q s = act q s := by
    simp [perform, hq.version, hq.fits, portWindow_line hq.line, hq.isKind, hk, Nat.not_lt.mpr hb]
  simp [runHead, hh, runRequest, performFitted, countTechnician_line hq.line, hp, Nat.not_lt.mpr hl]

/-- The head request of a line port whose header is good, and whose fixed fields its body is too short
for, is answered BAD_VALUE and changes nothing. -/
theorem runHead_short {s : State} {q : Request} {kind : Nat} (hq : LineRequest s q kind)
    (k : RequestKind) (hk : requestKindOf kind = some k) (act : Act)
    (hb : q.body.length < fixedOctets k q.body)
    (hl : (answerFrame s.station q (.bare .badValue)).length ≤ Config.maxFrame) :
    runHead q.row act s = leaveQueue (sendAnswer q (.bare .badValue) s).1 := by
  obtain ⟨rest, hr⟩ : ∃ rest, s.mgmt.queue = q :: rest := by
    have := hq.head
    cases h : s.mgmt.queue with
    | nil => simp [h] at this
    | cons a l => simp [h] at this; exact ⟨l, by rw [this]⟩
  have hh : s.headRequest q.row = some q := by simp [State.headRequest, hr, hq.idle]
  have hp : perform act q s = (s, .bare .badValue) := by
    simp [perform, hq.version, hq.fits, portWindow_line hq.line, hq.isKind, hk, hb]
  simp [runHead, hh, runRequest, performFitted, countTechnician_line hq.line, hp, Nat.not_lt.mpr hl]

/-- A command that runs the head request has its act's effect: what the act makes of the state, apart
from what the answer may change. -/
theorem Runs.of_answer {c : Instr} {s u v : State} {q : Request} {r : Reply}
    (he : exec c s = .next (leaveQueue (sendAnswer q r v).1)) (hm : v.mgmt = s.mgmt)
    (hu : v.unanswered = u.unanswered) : Runs c s u :=
  ⟨_, he, by simpa using hu, by simp [hm]⟩

/-- And when its act leaves the state as it was, its answer is the act's reply. -/
theorem RunsAnswered.of_answer {c : Instr} {s u : State} {q : Request} {r : Reply}
    (he : exec c s = .next (leaveQueue (sendAnswer q r s).1))
    (hu : s.unanswered = u.unanswered) : RunsAnswered c s u q r :=
  ⟨_, he, by simpa using hu, by simp, fun h => sendAnswer_answered q r s h⟩

end Sys2Proof.Machine
end

