-- ==== Sys2Proof/Laws/Supervisor.lean ====
section
/-! SUPPORT. What the supervisor does at a boundary and at a window start leaves all but its own side of
the state as it was: the robots, the controller watch, the service windows, the hold block, cell memory,
the egress side, the counters and the notice block may change, and nothing else (R92, R103). -/

namespace Sys2Proof.Machine

/-- Two states differ at most in what the supervisor may change. -/
def SameBeside (s t : State) : Prop := t.unsupervised = s.unsupervised ∧ t.mgmt = s.mgmt

theorem SameBeside.refl (s : State) : SameBeside s s := ⟨rfl, rfl⟩

theorem SameBeside.trans {s t u : State} (a : SameBeside s t) (b : SameBeside t u) : SameBeside s u :=
  ⟨b.1.trans a.1, b.2.trans a.2⟩

/-- The part of a state that the supervisor leaves alone. -/
def State.beside (s : State) : State × Mgmt := (s.unsupervised, s.mgmt)

theorem sameBeside_iff (s t : State) : SameBeside s t ↔ t.beside = s.beside := by
  simp [SameBeside, State.beside]

theorem unsupervised_of_unanswered {s t : State} (h : s.unanswered = t.unanswered) :
    s.unsupervised = t.unsupervised := by
  simp only [State.unsupervised, h]

@[simp] theorem bumpBy_beside (c : CounterRef) (n : Nat) (s : State) :
    (bumpBy c n s).beside = s.beside := by
  simp [State.beside, unsupervised_of_unanswered (bumpBy_unanswered c n s)]

@[simp] theorem bump_beside (c : CounterRef) (s : State) : (bump c s).beside = s.beside :=
  bumpBy_beside c 1 s

@[simp] theorem raise_beside (e : NoticeEvent) (s : State) : (raise e s).beside = s.beside := by
  simp [State.beside, unsupervised_of_unanswered (raise_unanswered e s)]

@[simp] theorem modMem_beside (f : CellMem → CellMem) (s : State) :
    (s.modMem f).beside = s.beside := rfl
@[simp] theorem withMem_beside (m : CellMem) (s : State) :
    ({ s with mem := m } : State).beside = s.beside := rfl
@[simp] theorem addRef_beside (h : CellId) (s : State) : (s.addRef h).beside = s.beside := rfl
@[simp] theorem release_beside (h : CellId) (s : State) : (s.release h).beside = s.beside := rfl
@[simp] theorem releaseOpt_beside (h : Option CellId) (s : State) :
    (s.releaseOpt h).beside = s.beside := by cases h <;> rfl
@[simp] theorem modEgress_beside (p : PortId) (f : Egress → Egress) (s : State) :
    (s.modEgress p f).beside = s.beside := rfl
@[simp] theorem modRobot_beside (r : RobotId) (f : Robot → Robot) (s : State) :
    (s.modRobot r f).beside = s.beside := rfl
@[simp] theorem modWindow_beside (w : WindowId) (f : ServiceWindow → ServiceWindow) (s : State) :
    (s.modWindow w f).beside = s.beside := rfl
@[simp] theorem modWatch_beside (f : Watch → Watch) (s : State) :
    (s.modWatch f).beside = s.beside := rfl
@[simp] theorem modHold_beside (f : Hold → Hold) (s : State) :
    (s.modHold f).beside = s.beside := rfl
@[simp] theorem noteCut_beside (p : PortId) (s : State) : (noteCut p s).beside = s.beside := by
  simp [State.beside, unsupervised_of_unanswered (noteCut_unanswered p s)]

@[simp] theorem leaveHold_beside (h : HoldSource) (s : State) :
    (leaveHold h s).beside = s.beside := rfl

@[simp] theorem emptySlots_beside (r : RobotId) (s : State) :
    (emptySlots r s).beside = s.beside := by
  simp [emptySlots]

@[simp] theorem leavePending_beside (r : RobotId) (s : State) :
    (leavePending r s).beside = s.beside := by
  exact forEach_keeps State.beside _ (fun a s => by simp) s

@[simp] theorem leaveHeld_beside (r : RobotId) (s : State) :
    (leaveHeld r s).beside = s.beside := by
  exact forEach_keeps State.beside _ (fun a s => by simp) s

@[simp] theorem joinHold_beside (h : HoldSource) (s : State) :
    (joinHold h s).beside = s.beside := by
  unfold joinHold
  dsimp only
  repeat' split
  all_goals simp

@[simp] theorem watchIdleIfNone_beside (s : State) :
    (watchIdleIfNone s).beside = s.beside := by
  unfold watchIdleIfNone
  split <;> simp

@[simp] theorem startWatch_beside (s : State) :
    (startWatch s).beside = s.beside := rfl

@[simp] theorem toIdle_beside (r : RobotId) (s : State) :
    (toIdle r s).beside = s.beside := by
  simp [toIdle]

@[simp] theorem enterArming_beside (r : RobotId) (s : State) :
    (enterArming r s).beside = s.beside := by
  unfold enterArming
  dsimp only
  repeat' split
  all_goals simp

@[simp] theorem intoService_beside (r : RobotId) (w : WindowId) (s : State) :
    (intoService r w s).beside = s.beside := by
  simp [intoService]

@[simp] theorem reportParked_beside (r : RobotId) (s : State) :
    (reportParked r s).beside = s.beside := by
  unfold reportParked
  split <;> simp

@[simp] theorem giveBack_beside (r : RobotId) (s : State) :
    (giveBack r s).beside = s.beside := by
  simp [giveBack]

@[simp] theorem damageRobot_beside (r : RobotId) (s : State) :
    (damageRobot r s).beside = s.beside := by
  simp [damageRobot]

@[simp] theorem checkRobot_beside (r : RobotId) (k : ReadKind) (s : State) :
    (checkRobot r k s).beside = s.beside := by
  unfold checkRobot
  dsimp only
  repeat' split
  all_goals simp

@[simp] theorem loseRobot_beside (r : RobotId) (s : State) :
    (loseRobot r s).beside = s.beside := by
  unfold loseRobot
  dsimp only
  repeat' split
  all_goals simp

@[simp] theorem hitRobot_beside (r : RobotId) (parked : Bool) (s : State) :
    (hitRobot r parked s).beside = s.beside := by
  unfold hitRobot
  dsimp only
  repeat' split
  all_goals simp

@[simp] theorem missRobot_beside (r : RobotId) (s : State) :
    (missRobot r s).beside = s.beside := by
  unfold missRobot
  dsimp only
  repeat' split
  all_goals simp

@[simp] theorem stallRobot_beside (r : RobotId) (s : State) :
    (stallRobot r s).beside = s.beside := by
  unfold stallRobot
  dsimp only
  repeat' split
  all_goals simp

@[simp] theorem returnRobot_beside (r : RobotId) (parked : Bool) (s : State) :
    (returnRobot r parked s).beside = s.beside := by
  unfold returnRobot
  dsimp only
  repeat' split
  all_goals simp

@[simp] theorem judgePeriod_beside (r : RobotId) (s : State) :
    (judgePeriod r s).beside = s.beside := by
  unfold judgePeriod
  dsimp only
  repeat' split
  all_goals simp

@[simp] theorem periodEnd_beside (r : RobotId) (boundary : HallTime) (s : State) :
    (periodEnd r boundary s).beside = s.beside := by
  unfold periodEnd
  dsimp only
  repeat' split
  all_goals simp

@[simp] theorem boundaryFor_beside (p : PortId) (index : Int) (disturbed : Bool) (boundary : HallTime) (r : RobotId) (s : State) :
    (boundaryFor p index disturbed boundary r s).beside = s.beside := by
  unfold boundaryFor
  dsimp only
  repeat' split
  all_goals simp

@[simp] theorem signalBoundary_beside (p : PortId) (index : Int) (disturbed : Bool) (boundary : HallTime) (s : State) :
    (signalBoundary p index disturbed boundary s).beside = s.beside := by
  exact forEach_keeps State.beside _ (fun a s => by simp) s

@[simp] theorem countDelayed_beside (p : PortId) (s : State) :
    (countDelayed p s).beside = s.beside := by
  unfold countDelayed
  dsimp only
  rw [modEgress_beside]
  refine forEach_keeps State.beside _ (fun x s => ?_) s
  repeat' split
  all_goals simp

@[simp] theorem enqueueSend_beside (p : PortId) (r : RobotId) (h : CellId) (s : State) :
    (enqueueSend p r h s).beside = s.beside := by
  simp [enqueueSend]

@[simp] theorem sendHoldFrame_beside (r : RobotId) (p : PortId) (s : State) :
    (sendHoldFrame r p s).beside = s.beside := by
  unfold sendHoldFrame
  split <;> simp

@[simp] theorem sendSlot_beside (r : RobotId) (p : PortId) (h : CellId) (s : State) :
    (sendSlot r p h s).beside = s.beside := by
  simp [sendSlot]

@[simp] theorem sendRepeat_beside (r : RobotId) (p : PortId) (h : CellId) (s : State) :
    (sendRepeat r p h s).beside = s.beside := by
  simp [sendRepeat]

@[simp] theorem opening_beside (r : RobotId) (p : PortId) (s : State) :
    (opening r p s).beside = s.beside := by
  unfold opening
  dsimp only
  repeat' split
  all_goals simp

@[simp] theorem openingFor_beside (p : PortId) (w : Nat) (r : RobotId) (s : State) :
    (openingFor p w r s).beside = s.beside := by
  unfold openingFor
  dsimp only
  repeat' split
  all_goals simp

@[simp] theorem signalWindow_beside (p : PortId) (w : Nat) (s : State) :
    (signalWindow p w s).beside = s.beside := by
  exact (forEach_keeps State.beside _ (fun a s => by simp) _).trans (by simp)

/-! ## Gate changes -/

theorem clearHolds_frame (p : PortId) (q : QueueId) (s : State) :
    clearHolds p q s = { s with egress := (clearHolds p q s).egress } := rfl

/-- A change of a gate engine changes that engine and the egress side alone. -/
theorem changeGate_frame (p : PortId) (f : Gate → Gate) (s : State) :
    changeGate p f s = { s.modGate p f with egress := (changeGate p f s).egress } := by
  unfold changeGate
  simp only [forEach_cons, forEach_nil]
  rw [noteCut_frame]
  split <;> split <;> rfl

theorem changeGate_unanswered (p : PortId) (f : Gate → Gate) (s : State) :
    (changeGate p f s).unanswered = (s.modGate p f).unanswered := by
  rw [changeGate_frame]; rfl

theorem changeGate_beside (p : PortId) (f : Gate → Gate) (s : State) :
    (changeGate p f s).beside = (s.modGate p f).beside := by
  rw [changeGate_frame]; rfl

end Sys2Proof.Machine
end

