-- ==== Sys2Proof/Laws/Wire.lean ====
section
/-! SUPPORT. What stamping a sent frame, uncutting a piece and striking a protected record can do. -/

namespace Sys2Proof.Machine

/-! ## The transmit time (R8, R58, R60) -/

theorem recordT1_frame (q : Nat) (s : State) :
    recordT1 q s = { s with clock := { s.clock with probe := (recordT1 q s).clock.probe } } := rfl

theorem stampFrame_frame (p : PortId) (t : Tx) (s : State) :
    stampFrame p t s = { s with clock := { s.clock with probe := (stampFrame p t s).clock.probe }
                                egress := (stampFrame p t s).egress } := by
  unfold stampFrame
  split <;> rfl

/-- Stamping changes the outstanding probe and the egress side alone. -/
theorem stampSent_frame (p : PortId) (s : State) :
    stampSent p s = { s with clock := { s.clock with probe := (stampSent p s).clock.probe }
                             egress := (stampSent p s).egress } := by
  unfold stampSent
  split
  · split
    · exact stampFrame_frame ..
    · rfl
  · rfl

/-- It changes no other port. -/
theorem stampSent_other (p x : PortId) (s : State) (h : x ≠ p) :
    (stampSent p s).egress[x] = s.egress[x] := by
  have hv : ¬p.val = x.val := fun e => h (Fin.ext e.symm)
  unfold stampSent
  split
  · split
    · unfold stampFrame
      split <;> first | rfl | simp [State.modEgress, upd, hv]
    · rfl
  · rfl

/-! ## A piece that is not to be cut (R80) -/

@[simp] theorem Tx.uncut_cuttable (t : Tx) (p : PortId) (now : Nat) :
    (t.uncut p now).cuttable = false := rfl
@[simp] theorem Tx.uncut_frame (t : Tx) (p : PortId) (now : Nat) : (t.uncut p now).frame = t.frame := rfl
@[simp] theorem Tx.uncut_octets (t : Tx) (p : PortId) (now : Nat) :
    (t.uncut p now).octets = t.octets := rfl

/-- It keeps a cut point, and only one that it had, exactly when the wire has reached it. -/
theorem Tx.uncut_cutAt (t : Tx) (p : PortId) (now c : Nat) :
    (t.uncut p now).cutAt = some c ↔
      t.cutAt = some c ∧ t.firstOctet p + c * octetTicks p ≤ now := by
  simp [Tx.uncut, Option.filter_eq_some_iff]

/-! ## Bit errors that come in (R18) -/

/-- What a record that is struck holds. -/
theorem errorsFound_eq (old found : EccError) (damaged : Bool) :
    errorsFound old damaged found = if damaged = true ∨ found = .clean then old else found := by
  simp [errorsFound]

theorem takeHit_clean (x : EccRecord) (s : State) : takeHit x .clean s = s := by
  cases x with
  | stream i =>
    have h : upd s.streams i (fun x => { x with ecc := errorsFound x.ecc x.damaged .clean }) =
        s.streams := by
      rw [show (fun x : Stream => { x with ecc := errorsFound x.ecc x.damaged .clean }) = id from
        funext fun x => by cases x; simp [errorsFound_eq]]
      simp [upd]
    exact congrArg (fun v => ({ s with streams := v } : State)) h
  | robot r =>
    have h : upd s.robots r (fun x => { x with ecc := errorsFound x.ecc x.damaged .clean }) =
        s.robots := by
      rw [show (fun x : Robot => { x with ecc := errorsFound x.ecc x.damaged .clean }) = id from
        funext fun x => by cases x; simp [errorsFound_eq]]
      simp [upd]
    exact congrArg (fun v => ({ s with robots := v } : State)) h

end Sys2Proof.Machine
end

