-- ==== Sys2Proof/WellFormed.lean ====
section
/-! DEFINITION. The checks on a command's operands that its types do not make. -/

namespace Sys2Proof

/-- The most octets the model gives one reception: far beyond the oversize limit of R7, so that every
oversize frame of interest is well formed. -/
def maxReception : Nat := 65535

/-- A reception begins with a frame's first octet (R24), so a frame or a piece that ends has one. -/
def receptionOctetsOk (octets : Octets) : Bool := 1 ≤ octets.length && octets.length ≤ maxReception

/-- An arriving octet is one of a reception the model gives (R24). -/
def arrivingOctetOk (o : ArrivingOctet) : Bool := 1 ≤ o.number && o.number ≤ maxReception

/-- A command's operands are well formed. -/
def Instr.wellFormed : Instr → Bool
  | .receptionCellTake o => arrivingOctetOk o
  | .pieceReceived _ _ octets => receptionOctetsOk octets
  | .frameReceptionEnd _ octets => receptionOctetsOk octets
  | _ => true

end Sys2Proof
end

