-- ==== Sys2Proof/Tests/Slice0.lean ====
section
/-! SUPPORT. Tests of single commands on small states, with expected values worked from the rules, the
tables and the worked sequences of the spec; and, for every statement with hypotheses, a witness that
meets them. -/

namespace Sys2Proof.Tests

open Sys2Proof Sys2Proof.Machine

set_option Elab.async false

/-! ## Helpers -/

/-- The state a command leaves. -/
def after (c : Instr) (s : State) : State :=
  match exec c s with
  | .next t => t
  | _ => s

/-- The state that a whole list of commands leaves. -/
def afterAll (l : List Instr) (s : State) : State := l.foldl (fun s c => after c s) s

/-- The machine after a power-on reset, under a short name. -/
def s0 : State := State.reset

/-- A port is UP. -/
def linkUp (p : PortId) (s : State) : State := s.modPort p fun x => { x with link := true }

/-- Run time and hall time are set. -/
def atTime (run : Nat) (hall : HallTime) (s : State) : State :=
  s.modClock fun c => { c with run := run, hall := hall }

/-- Run time alone is set. -/
def atRun (run : Nat) (s : State) : State := s.modClock fun c => { c with run := run }

/-- The source address of the requests. -/
def controller : Mac := 0x0A0000000001

/-- A request of a kind with a body, with tag 7. -/
def request (p : PortId) (kind : Nat) (body : Octets) : Request :=
  { port := p, source := controller, vlan := 0,
    payload := beBytes 1 1 ++ beBytes 1 kind ++ beBytes 2 7 ++ beBytes 2 body.length ++ body }

/-- The request alone in the queue. -/
def withRequest (q : Request) (s : State) : State :=
  s.modMgmt fun _ => { queue := [q], restart := none }

/-- The state after a request from L0, which is DOWN, so that its answer is not made. -/
def afterRequest (c : Instr) (kind : Nat) (body : Octets) (s : State) : State :=
  after c (withRequest (request 0 kind body) s)

/-- The latest notice record. -/
def lastNotice (s : State) : Option NoticeEvent := s.notices.records.getLast?.map (·.event)

/-- A stored frame of one cell with one reference in a queue of a port. -/
def queued (p : PortId) (q : QueueId) (octets : Octets) (s : State) : State :=
  { s with
    mem :=
      { s.mem with
        frames :=
          s.mem.frames.set 0 (some { cells := [0], octets := octets, refs := 1, kind := .received })
        free := s.mem.free.tail }
    egress := upd s.egress p fun e =>
      { e with queues := e.queues.set q [newEntry 0 .normal] } }

/-- A transmission of a frame of `n` octets on a port, begun at tick 0. -/
def sending (n : Nat) (cut : Option Nat) : Tx :=
  { frame := 0, queue := 1, kind := .normal, octets := List.replicate n 5, offset := 0,
    marker := .first, startTick := 0, cuttable := true, cutAt := cut }

/-- The gate list of section 6.10, from base 0. -/
def list610 : GateList :=
  { cycle := 500000, base := { sec := 0, ns := 0 },
    windows := [⟨250000, 0x7⟩, ⟨40000, 0x8⟩, ⟨210000, 0x7⟩] }

/-- A port in RUNNING under a list, at a cycle that began at `start`. -/
def running (p : PortId) (l : GateList) (k : Int) (w : Nat) (start : Int) (s : State) : State :=
  s.modGate p fun g =>
    { g with mode := .running, active := some l, cycleIndex := k, windowIndex := w,
             cycleStart := start }

/-- Robot 5 of section 6.10, on L6, in a state. -/
def robot610 (st : RobotState) (misses : Nat) (s : State) : State :=
  s.modRobot 5 fun b =>
    { b with
      cfg := { b.cfg with statusStream := 12, commandStream := 13, window := 1, deadline := 200000,
                          modeOffset := 2, modeMask := 0x01, parkedValue := 0x01, tolerance := 2 }
      port := some 6, state := st, missCount := misses }

/-- A tracking record with all cameras PENDING. -/
def pendingRecord (seq : BitVec 32) (position : Position) : TrackRec :=
  { seq := seq, position := position, verdicts := Vector.replicate 4 .pending
    triggered := Vector.replicate 4 false, jam := false }

/-- The ejector record of section 8.7. -/
def ejector87 : EjectorCfg :=
  { mode := .diverter, blastTime := 8000, extendTime := 8, dwell := 1500, retractTime := 8,
    nonOverlap := 2000, distance := 6000, latency := 3500, leadMax := 1000 }

/-- A time mark with an origin and a carried delay, as a frame (R47). -/
def markOctets (sec ns carried : Nat) : Octets :=
  formFrame 0x011B19000000 controller 0 0x88B6
    ([1, 0] ++ beBytes 6 sec ++ beBytes 4 ns ++ beBytes 8 (carried * 65536))

/-- A mark received at an instant. -/
def markAt (sec ns carried : Nat) (recv : HallTime) : Mark :=
  { recvTime := recv, recvRun := 0, epoch := 0, octets := markOctets sec ns carried }

/-- The clock of section 4.8 before a mark: D, the servo and the integral, with one mark handed over. -/
def servo48 (d : Int) (servo : Servo) (good : Nat) (integral : Int) (m : Mark) (s : State) : State :=
  s.modClock fun c =>
    { c with delay := some d, servo := servo, goodMarks := good, integral := integral, marks := [m] }

/-- Robot 5 of section 6.10 at rest, with its streams and its list on L6. -/
def armable610 : State :=
  running 6 list610 0 0 0 (robot610 .idle 0 s0)
    |>.modPort 6 (fun x => { x with cfg := { x.cfg with role := .robot }, link := true })
    |>.modStream 12 (fun x => { x with cfg := { x.cfg with
        key := 12, ingress := 0x040, egress := 1, role := .status, subject := .robot 5,
        maxLength := 256, valid := true } })
    |>.modStream 13 (fun x => { x with cfg := { x.cfg with
        key := 13, ingress := 0x001, egress := 0x040, cls := .cycle, role := .command,
        subject := .robot 5, maxLength := 256, valid := true } })

/-- A reception in progress with these cells. -/
def receiving (p : PortId) (cells : List CellId) (overrun marked : Bool) (s : State) : State :=
  (linkUp p s).modRx p fun x =>
    { x with cur := some { cells := cells, recvTime := ⟨0, 0, 0⟩, recvRun := 0, epoch := 0,
                           overrun := overrun, marked := marked } }

/-- The reception of a frame of one cell. -/
def arrival : Reception :=
  { cells := [1], recvTime := ⟨0, 0, 0⟩, recvRun := 0, epoch := 0, overrun := false, marked := false }

/-- A data frame of the least length to a key. -/
def dataFrame (key : Mac) : Octets := formFrame key controller 0 0x0800 [1]

/-- A port whose assembler reads markers, with an open frame of 200 octets that expects 7. -/
def assembling : State :=
  receiving 0 [5] false true (s0.modPort 0 fun x => { x with cfg := { x.cfg with rxPreempt := true } })
    |>.modRx 0 fun x => { x with asm := some ⟨7, List.replicate 200 1, [9], ⟨0, 0, 0⟩, 0, 0⟩ }

/-- Section 5.9's commit on L4, run a nanosecond before 100 s for 100 s, at 100 s. -/
def list59 : GateList :=
  { cycle := 500000, base := { sec := 100, ns := 0 }, windows := [⟨40000, 8⟩, ⟨460000, 7⟩] }
def commit59 (mode : GateMode) : State :=
  atTime 0 ⟨100, 0, 0⟩ s0 |>.modGate 4 fun g =>
    Gate.fixCommit
      { g with mode := mode, active := some list610, loaded := some list59, commit := true,
               activation := some ⟨100, 0⟩
               cycleIndex := if mode = .opened then 99999 else 199999 } ⟨99, 999999999, 0⟩

/-- A management frame to the station address, of the least length. -/
def managementFrame : Octets := formFrame s0.station controller 0 0x88B5 [1]

/-! ## Well-formed commands: each check refuses an ill-formed term -/

theorem test_wf_refuses_empty_piece : (Instr.pieceReceived 0 .first []).wellFormed = false := by decide
theorem test_wf_refuses_empty_frame : (Instr.frameReceptionEnd 0 []).wellFormed = false := by decide
theorem test_wf_refuses_octet_zero :
    (Instr.receptionCellTake { port := 0, marker := none, number := 0 }).wellFormed = false := by decide
theorem test_wf_refuses_octet_beyond :
    (Instr.receptionCellTake { port := 0, marker := none, number := 65536 }).wellFormed = false := by
  decide
theorem test_wf_takes_one_octet : (Instr.frameReceptionEnd 0 [1]).wellFormed = true := by decide
theorem test_wf_takes_plain : Instr.timeMark.wellFormed = true := by decide

/-! ## Words: no row of the table has bits -/

theorem test_no_word : decodeTableWord 8 0 = none := by decide
theorem test_fetch_word_leaves_state : (s0.withFetchWord 8 0).pending = [] := by decide +kernel

/-! ## The step -/

theorem test_step_takes_front :
    (match step { s0 with pending := [.runTimeAdvance, .timeMark] } with
      | .next t => (t.clock.run, t.pending)
      | _ => (0, [])) = (1, [.timeMark]) := by decide +kernel

theorem test_step_idles :
    (match step s0 with
      | .next t => (t.clock.run, t.pending)
      | _ => (1, [])) = (0, []) := by decide +kernel

/-! ## Power and links (R4, R5, R108) -/

theorem test_powerOnReset_station :
    (after (.powerOnReset { pinsLow with addrStrap := 5 }) s0).station = 0x024A0B000005 := by
  decide +kernel

theorem test_hardReset_keeps_action :
    (after (.hardReset pinsLow) (s0.modWatch fun w => { w with action := .holdLine })).watch.action =
      .holdLine := by decide +kernel

theorem test_linkGained : lastNotice (after (.linkGained 3) s0) = some (.linkChange 3 true) := by
  decide +kernel

theorem test_linkLost_flushes :
    ((after (.linkLost 4) (queued 4 2 [1] (linkUp 4 s0))).egress[(4 : PortId)].queues[(2 : QueueId)],
      (after (.linkLost 4) (queued 4 2 [1] (linkUp 4 s0))).mem.free.length) = ([], 2048) := by
  decide +kernel

theorem test_linkLost_closes_window :
    (fun x : ServiceWindow => (x.state, x.lastClose))
      (after (.linkLost 11) (linkUp 11 s0 |>.modWindow 1 fun x =>
        { x with state := .granted })).windows[(1 : WindowId)] = (.closed, some .link) := by
  decide +kernel

/-! ## Reception (R7, R24, R82; section 2.6, frame D) -/

/-- The first octet of a frame on a port, or of a piece with a marker. -/
def octetOn (p : PortId) (marker : Option PieceMarker) (number : Nat) : ArrivingOctet :=
  { port := p, marker := marker, number := number }

theorem test_receptionCellTake :
    (after (.receptionCellTake (octetOn 3 none 1)) (linkUp 3 s0)).mem.free.length = 2047 := by
  decide +kernel

/-- R24 and R25: an overrun WHOLE frame takes no further cell, on a port with an open frame too; and the
NEXT piece of an open frame of 9,216 octets takes none. -/
theorem test_receptionCellTake_stored_no_more :
    (after (.receptionCellTake (octetOn 0 none 257))
      (receiving 0 [] true true assembling)).mem.free.length = 2048 ∧
    (after (.receptionCellTake (octetOn 0 (some (.next 7)) 1)) (receiving 0 [] false true
      (assembling.modRx 0 fun x => { x with asm := x.asm.map fun a =>
        { a with octets := List.replicate 9216 1, cells := List.replicate 36 9 } }))).mem.free.length =
      2048 := by decide +kernel

theorem test_frameReceptionEnd_undersize :
    (after (.frameReceptionEnd 3 (List.replicate 63 0)) (linkUp 3 s0)).counter (.port 3 .undersize) =
      1 := by decide +kernel

theorem test_frameReceptionEnd_bad_fcs :
    (after (.frameReceptionEnd 3 (List.replicate 64 0)) (linkUp 3 s0)).counter (.port 3 .fcsErrors) =
      1 := by decide +kernel

/-- R183: a BUSY answer is built while the refused request still holds its cell. -/
theorem test_frameReceptionEnd_busy_first :
    (after (.frameReceptionEnd 0 managementFrame) ((receiving 0 [1] false false s0).modMgmt fun m =>
      { m with queue := List.replicate 4 (request 0 3 []) })).mem.low = 2047 := by decide +kernel

theorem test_pieceReceived_orphan :
    (after (.pieceReceived 0 (.next 2) (List.replicate 20 9))
      (linkUp 0 s0 |>.modPort 0 fun x => { x with cfg := { x.cfg with rxPreempt := true } })).counter
        (.port 0 .orphanPieces) = 1 := by decide +kernel

/-- The check value of the CRC that Ethernet uses, over the digits 1 to 9 (general knowledge, log 6). -/
theorem test_crc_check_value :
    crc32 [0x31, 0x32, 0x33, 0x34, 0x35, 0x36, 0x37, 0x38, 0x39] = 0xCBF43926 := by decide +kernel

/-! ## The hall clock (section 4.8) -/

theorem test_hallTimeAdvance : (after .hallTimeAdvance s0).clock.hall.ns = 8 := by decide +kernel

theorem test_hallTimeAdvance_carry :
    (after .hallTimeAdvance (atTime 0 ⟨7, 999999996, 0⟩ s0)).clock.hall = ⟨8, 4, 0⟩ := by
  decide +kernel

/-- A port with the last tick of its preamble on the wire, sending stored frame 0 of a kind, while probe
5 is outstanding. -/
def leaving (p : PortId) (kind : FrameKind) (ticks : Nat) : State :=
  { s0 with mem := { s0.mem with frames := s0.mem.frames.set 0 (some
      { cells := [0], octets := List.replicate 64 5, refs := 1, kind := kind }) } }
    |>.modEgress p (fun e => { e with tx := some (sending 64 none) })
    |>.modClock fun c => { c with ticks := ticks, probe := some { seq := 5, t1 := none } }

/-- R8: the first octet of a probe leaves a line port 8 ticks after its start and a service port 80. -/
theorem test_hallTimeAdvance_stamps :
    (fun t : State => t.clock.probe.bind (·.t1)) (after .hallTimeAdvance (leaving 4 (.rangeProbe 5) 7)) =
      some ⟨0, 8, 0⟩ ∧
    (fun t : State => t.clock.probe.bind (·.t1)) (after .hallTimeAdvance (leaving 10 (.rangeProbe 5) 7)) =
      none ∧
    (fun t : State => t.clock.probe.bind (·.t1)) (after .hallTimeAdvance (leaving 10 (.rangeProbe 5) 79)) =
      some ⟨0, 8, 0⟩ := by decide +kernel

theorem test_runTimeAdvance : (after .runTimeAdvance s0).clock.run = 1 := by decide +kernel

/-- Mark A: 4,998.900001851 s are added as UNSET steps. -/
theorem test_timeMark_steps :
    (after .timeMark (servo48 (650 * 65536) .unset 0 0 (markAt 5000 100000000 1201 ⟨1, 200000000, 0⟩)
      (atTime 0 ⟨1, 200002000, 0⟩ s0))).clock.hall = ⟨5000, 100003851, 0⟩ := by decide +kernel

/-- Mark B: offset +2,500 gives integral −625, trim −5,625 and increment 34,359,545,094. -/
theorem test_timeMark_trims :
    (fun c : Clock => (c.integral, c.trim, c.increment, c.servo))
      (after .timeMark (servo48 (650 * 65536) .acquiring 0 0
        (markAt 5001 0 1201 ⟨5001, 4351, 0⟩) s0)).clock =
      (-625, -5625, 34359545094, .acquiring) := by decide +kernel

/-- HOLDOVER: trim becomes the integral, −746, and the increment 34,359,712,736. -/
theorem test_markTimeout :
    (fun c : Clock => (c.servo, c.trim, c.increment))
      (after .markTimeout (atRun 500000 s0 |>.modClock fun c =>
        { c with servo := .locked, lastMark := some 0, integral := -746, trim := -730 })).clock =
      (.holdover, -746, 34359712736) := by decide +kernel

theorem test_probeDue :
    (after .probeDue (atRun 1000000 s0)).clock.lastProbeDue = 1000000 := by decide +kernel

/-- A clock whose first probe is due, with L3 TIME_UP and UP and the last sequence number used. -/
def probing : State :=
  linkUp 3 (atRun 1000000 s0) |>.modPort 3 (fun x => { x with cfg := { x.cfg with timing := .timeUp } })
    |>.modClock fun c => { c with probeSeq := 65535 }

theorem test_probeDue_builds :
    (fun s : State => (s.clock.probe, s.egress[(3 : PortId)].queues[(2 : QueueId)].map fun x =>
        s.kindOf x.frame)) (after .probeDue probing) =
      (some { seq := 0, t1 := none }, [.rangeProbe 0]) := by decide +kernel

/-! ## Transmission (R37, R38, R79, R80) -/

theorem test_transmitterChoice :
    ((after (.transmitterChoice 4) (queued 4 2 [1, 2] (linkUp 4 s0))).egress[(4 : PortId)].tx.map
      fun t => (t.queue, t.marker, t.octets)) = some (2, .whole, [1, 2]) := by decide +kernel

/-- R74: a gate that only a switch-over 2^47 s ahead closes holds back no frame. -/
theorem test_transmitterChoice_far_activation :
    (((commit59 .opened).modGate 4 fun g =>
        { g with activation := some ⟨140737488355328 + 1000, 0⟩ }.fixCommit ⟨100, 0, 0⟩
      ).gates[(4 : PortId)].fits 4 2 64 ⟨100, 0, 0⟩) = true := by decide +kernel

/-- R72: in OPEN, a commit in the last cycle before hall time wraps, which a step has disturbed, is not
due at the boundary of the wrap, and is due at the one after it. -/
theorem test_openGridBoundary_wrap :
    (fun s : State => let t := after (.openGridBoundary 4) s
      ((t.gates[(4 : PortId)].cycleIndex, t.gates[(4 : PortId)].commit),
        (after (.openGridBoundary 4) (atTime 0 ⟨0, 1000000, 0⟩ t)).gates[(4 : PortId)].mode))
      (atTime 0 ⟨0, 0, 0⟩ s0 |>.modGate 4 fun g =>
        { g with loaded := some list59, commit := true, disturbed := true
                 cycleIndex := gridIndexes - 1 }.fixCommit ⟨2 ^ 48 - 1, 999500000, 0⟩) =
      ((0, true), .running) := by decide +kernel

/-- R72: in RUNNING after the wrap of hall time, an activation time of 2 s given at 1 s lies 1 s ahead. -/
theorem test_commit_after_wrap :
    (fun g : Gate => g.switchAt)
      ((running 4 list610 (2 * 2 ^ 48 * 1000 + 2000) 0 0 s0).gates[(4 : PortId)] |> fun g =>
        { g with commit := true, activation := some ⟨2, 0⟩ }.fixCommit ⟨1, 0, 0⟩) =
      some ((2 ^ 48 + 2) * 1000000000) := by decide +kernel

theorem test_pieceCut :
    ((after (.pieceCut 4) (s0.modEgress 4 (fun e => { e with tx := some (sending 200 (some 64)) })
        |>.modClock fun c => { c with ticks := 76 })).egress[(4 : PortId)].remainder.map
      fun r => (r.offset, r.nextN)) = some (64, 0) := by decide +kernel

theorem test_pieceCut_waits :
    (after (.pieceCut 4) (s0.modEgress 4 (fun e => { e with tx := some (sending 200 (some 64)) })
        |>.modClock fun c => { c with ticks := 75 })).egress[(4 : PortId)].remainder = none := by
  decide +kernel

theorem test_transmissionComplete :
    (after (.transmissionComplete 4) (s0.modEgress 4 (fun e => { e with tx := some (sending 64 none) })
        |>.modClock fun c => { c with ticks := 72 })).counter (.port 4 .octetsTransmitted) = 64 := by
  decide +kernel

/-! ## Gate engines (R68, R69, R77; section 6.10's list) -/

theorem test_openGridBoundary :
    ((after (.openGridBoundary 2) (atTime 0 ⟨0, 1000000, 0⟩ s0)).gates[(2 : PortId)].cycleIndex) = 1 := by
  decide +kernel

theorem test_cycleBoundary :
    ((after (.cycleBoundary 6) (running 6 list610 0 2 0 (atTime 0 ⟨0, 500000, 0⟩ s0))).gates[(6 : PortId)]
      |> fun g => (g.cycleIndex, g.windowIndex)) = (1, 0) := by decide +kernel

/-- R96 and R101: a robot that is taken into SERVICE at a period end keeps none of its period state. -/
theorem test_cycleBoundary_into_service :
    (fun b : Robot => (b.state, b.periodStart, b.partialPeriod, b.hit))
      (after (.cycleBoundary 6) (running 6 list610 0 2 0 (robot610 .running 0
          (atTime 0 ⟨0, 500000, 0⟩ s0))
        |>.modRobot 5 (fun b => { b with hit := some true, periodStart := ⟨0, 7, 0⟩ })
        |>.modWindow 1 fun x => { x with state := .active, level := .maintain, robots := 0x20
                                         pendingSet := 0x20 })).robots[(5 : RobotId)] =
      (.service, ⟨0, 0, 0⟩, false, none) := by decide +kernel

/-- The command window opens 250 µs after the boundary. -/
theorem test_windowStart :
    ((after (.windowStart 6) (running 6 list610 0 0 0 (atTime 0 ⟨0, 250000, 0⟩ s0))).gates[(6 : PortId)]).windowIndex =
      1 := by decide +kernel

theorem test_windowStart_waits :
    ((after (.windowStart 6) (running 6 list610 0 0 0 (atTime 0 ⟨0, 249999, 0⟩ s0))).gates[(6 : PortId)]).windowIndex =
      0 := by decide +kernel

theorem test_resyncTargetBoundary :
    ((after (.resyncTargetBoundary 6) (running 6 list610 0 0 0 (atTime 0 ⟨0, 1500000, 0⟩ s0)
        |>.modGate 6 fun g => { g with mode := .resync, target := 3 })).gates[(6 : PortId)]
      |> fun g => (g.mode, g.cycleIndex)) = (.running, 3) := by decide +kernel

/-! ## Supervision (R98, R106; section 6.10, cycle 202) -/

theorem test_controllerTimeout :
    lastNotice (after .controllerTimeout (atRun 20000 s0 |>.modWatch fun w =>
      { w with state := .watching })) = some (.controllerLost .report) := by decide +kernel

theorem test_boundary_loses_robot :
    ((after (.cycleBoundary 6) (running 6 list610 202 2 101000000
        (atTime 0 ⟨0, 101500000, 0⟩ (robot610 .late 1 s0)))).robots[(5 : RobotId)]
      |> fun b => (b.state, b.missCount, b.barred)) = (.lost, 2, false) := by decide +kernel

theorem test_scrubRead_corrects :
    (fun s : State => (s.counter (.device .correctedStream), s.scrub.val))
      (after (.scrubRead (.stream 0) .single) s0) = (1, 1) := by decide +kernel

/-- Section 2.6: the scrub's double-bit error in stream 5. -/
theorem test_scrubRead_damages :
    lastNotice (after (.scrubRead (.stream 5) (.double 3)) { s0 with scrub := 5 }) =
      some (.tableDamage (.stream 5) .scrub) := by decide +kernel

/-! ## Encoder, sensor and speed (R111, R112, R115; sections 7.10 and 8.7) -/

theorem test_encoderTransition_forward :
    (after (.encoderTransition true false) s0).tracker.position = 1 := by decide +kernel

theorem test_encoderTransition_illegal :
    lastNotice (after (.encoderTransition true true) s0) =
      some (.encoderFault 0 false false true true) := by decide +kernel

theorem test_sensorLeadingEdge :
    (fun t : Tracker => (t.sensor, t.leading))
      (after .sensorLeadingEdge (s0.modTracker fun t => { t with position := 10000 })).tracker =
      (.measuring, some 10000) := by decide +kernel

theorem test_sensorTrailingEdge_short :
    (after .sensorTrailingEdge (s0.modTracker fun t =>
      { t with sense := true, sensor := .measuring })).counter (.tracker .shortOcclusions) = 1 := by
  decide +kernel

/-- Section 8.7: delta 1,250 in 10 ms gives speed_q8 32,000, and the lead 438. -/
theorem test_speedWindowEnd :
    (fun s : State => (s.tracker.speed, s.reject.lead))
      (after .speedWindowEnd (atRun 10000 s0 |>.modTracker (fun t => { t with position := 1250 })
        |>.modReject fun x => { x with cfg := ejector87 })) = (32000, 438) := by decide +kernel

/-- Section 7.10, step 2: a count to length 20 appends record 41 at 10,000. -/
theorem test_count_qualifies :
    ((after (.encoderTransition true false) (s0.modTracker fun t =>
        { t with position := 10019, highWater := 10019, sense := true, sensor := .measuring,
                 leading := some 10000, nextSeq := 41 })).tracker
      |> fun t => (t.nextSeq, t.records.map fun r => (r.seq, r.position))) =
      (42, [(41, 10000)]) := by decide +kernel

/-! ## Outputs with a time (R133, R145, R146, R148) -/

theorem test_triggerPulseEnd :
    (after (.triggerPulseEnd 1) (atRun 100 s0 |>.modCamera 1 fun k =>
      { k with pulseEnd := some 100 })).camTrig 1 = false := by decide +kernel

theorem test_blastEnd_waits :
    (after .blastEnd (atRun 7999 s0 |>.modReject fun x =>
      { x with state := .blasting, phaseEnd := 8000 })).ejectA = true := by decide +kernel

theorem test_blastEnd :
    (after .blastEnd (atRun 8000 s0 |>.modReject fun x =>
      { x with state := .blasting, phaseEnd := 8000 })).ejectA = false := by decide +kernel

/-- Section 8.7 at 206,562: the extend ends with 700 of the dwell travelled. -/
theorem test_extendTimeEnd :
    (after .extendTimeEnd (atRun 8000 s0 |>.modTracker (fun t => { t with position := 206562 })
      |>.modReject fun x => { x with cfg := ejector87, state := .extending, phaseEnd := 8000,
                                     dwellStart := some 205862 })).reject.state = .diverted := by
  decide +kernel

/-- Section 8.7 at 208,362: the retract ends with an extend pending. -/
theorem test_retractTimeEnd :
    (after .retractTimeEnd (atRun 8000 s0 |>.modReject fun x =>
      { x with cfg := ejector87, state := .retracting, phaseEnd := 8000,
               extendPending := true })).reject.state = .extendWait := by decide +kernel

/-- Section 8.7 at 208,612: the gate waits 2,000 µs since EJECT_B's release. -/
theorem test_nonOverlapEnd :
    ((after .nonOverlapEnd (atRun 9999 s0 |>.modReject fun x =>
        { x with cfg := ejector87, state := .extendWait, releaseB := some 8000 })).reject.state,
      (after .nonOverlapEnd (atRun 10000 s0 |>.modReject fun x =>
        { x with cfg := ejector87, state := .extendWait, releaseB := some 8000 })).reject.state) =
      (.extendWait, .extending) := by decide +kernel

theorem test_inhibitEnd :
    ((after .inhibitEnd (atRun 1999 s0 |>.modReject fun x => { x with heldFire := true })).ejectA,
      (after .inhibitEnd (atRun 2000 s0 |>.modReject fun x => { x with heldFire := true })).ejectA) =
      (false, true) := by decide +kernel

/-! ## Service windows and notices (R156, R178) -/

theorem test_serviceExpiryWarning :
    lastNotice (after (.serviceExpiryWarning 0) (s0.modWindow 0 fun x =>
      { x with state := .active, endTime := 60000000 })) = some (.serviceExpiring 0 60000) := by
  decide +kernel

theorem test_serviceWindowExpiry :
    (fun x : ServiceWindow => (x.state, x.lastClose))
      (after (.serviceWindowExpiry 1) (s0.modWindow 1 fun x =>
        { x with state := .granted })).windows[(1 : WindowId)] = (.closed, some .expired) := by
  decide +kernel

theorem test_noticeSendAttempt :
    (fun s : State => (s.notices.records.length, s.notices.frameSeq))
      (after .noticeSendAttempt (linkUp 5 { s0 with device := { s0.device with
        noticeDest := some ⟨controller, 0, 5⟩ } })) = (0, 1) := by decide +kernel

theorem test_noticeSendAttempt_down :
    (fun s : State => (s.notices.records.length, s.counter (.device (.generationDrops .notice))))
      (after .noticeSendAttempt { s0 with device := { s0.device with
        noticeDest := some ⟨controller, 0, 5⟩ } }) = (1, 1) := by decide +kernel

theorem test_restartCarriedOut :
    (fun s : State => (s.mem.free.length, s.reject.inhibitEnd, s.mgmt.queue, s.mgmt.restart))
      (after .restartCarriedOut (atRun 50000 (queued 4 2 [1] (withRequest (request 0 5 []) s0))
        |>.modMgmt fun m => { m with restart := some ⟨none, 50000, true⟩ })) =
      (2048, 52000, [], none) := by decide +kernel

/-! ## Requests -/

theorem test_readTable_answers :
    ((after .readTable (withRequest (request 5 1 [4, 1, 0, 0]) (linkUp 5 s0))).egress[(5 : PortId)].queues[(2 : QueueId)].map
      fun x => x.frame) = [0] := by decide +kernel

theorem test_writePortRecord :
    ((afterRequest .writePortRecord 2 [0, 1, 0, 4, 1, 1, 2, 0, 1, 0, 0, 0xE0, 0] s0).ports[(4 : PortId)].cfg
      |> fun c => (c.role, c.txPreempt, c.defaultEgress)) = (.robot, true, 0x0E0) := by decide +kernel

/-- Section 2.6: stream 5's record. -/
theorem test_writeStreamRecord :
    ((afterRequest .writeStreamRecord 2 ([1, 1, 0, 5] ++
        [0x01, 0x3C, 0x00, 0x00, 0x02, 0x05, 0, 20, 0, 0x08, 0, 0x89, 2, 0, 2, 2, 0x24, 0x00, 1, 0])
        s0).streams[(5 : StreamId)].cfg |> fun c => (c.key, c.vlan, c.egress, c.subject, c.maxLength)) =
      (0x013C00000205, 20, 0x089, .camera 2, 9216) := by decide +kernel

theorem test_writeRobotRecord :
    ((afterRequest .writeRobotRecord 2 ([2, 1, 0, 5] ++
        [12, 13, 1, 1, 0, 2, 0x01, 0x01, 0, 0x03, 0x0D, 0x40, 2, 2, 0, 0xFF, 0, 0, 0, 0])
        s0).robots[(5 : RobotId)].cfg |> fun c => (c.statusStream, c.window, c.deadline, c.tolerance)) =
      (12, 1, 200000, 2) := by decide +kernel

theorem test_writeHoldFrame :
    (afterRequest .writeHoldFrame 2 ([3, 1, 0, 5, 0, 64] ++ List.replicate 64 7) s0).holdFrames[(5 : RobotId)] =
      List.replicate 64 7 := by decide +kernel

theorem test_writeTrackingRecord_refused :
    (afterRequest .writeTrackingRecord 2 [5, 1, 0, 0, 0, 0, 0, 0, 0, 0, 0, 0, 0] s0).tracker.cfg.speedWindow =
      10 := by decide +kernel

theorem test_readCounters_keeps :
    (afterRequest .readCounters 3 [8, 0, 0, 0] s0).counter (.device .holdSets) = 1 := by decide +kernel

theorem test_readAndClearCounters :
    (afterRequest .readAndClearCounters 3 [8, 1, 0, 0] s0).counter (.device .holdSets) = 0 := by
  decide +kernel

theorem test_restart_due :
    (afterRequest .restart 5 [] s0).mgmt.restart = some ⟨none, 0, true⟩ := by decide +kernel

theorem test_armRobot_refused :
    ((afterRequest .armRobot 6 [5] s0).robots[(5 : RobotId)]).state = .idle := by decide +kernel

theorem test_disarmRobot :
    ((afterRequest .disarmRobot 7 [5] (robot610 .late 1 s0)).robots[(5 : RobotId)]).state = .idle := by
  decide +kernel

theorem test_setLossAction :
    (afterRequest .setLossAction 8 [1] s0).watch.action = .holdLine := by decide +kernel

theorem test_setClock :
    (afterRequest .setClock 9 (beBytes 6 100 ++ beBytes 4 999999999) s0).clock.hall =
      ⟨100, 999999999, 0⟩ := by decide +kernel

theorem test_adjustClock_back :
    (afterRequest .adjustClock 10 (beInt 6 (-1)) (atTime 0 ⟨5, 0, 9⟩ s0)).clock.hall =
      ⟨4, 999999999, 9⟩ := by decide +kernel

/-- Section 5.9: the list of L4 is loaded. -/
theorem test_loadSchedule :
    ((afterRequest .loadSchedule 11 (beBytes 1 4 ++ beBytes 3 500000 ++ beBytes 6 100 ++ beBytes 4 0 ++
        [2] ++ beBytes 3 40000 ++ [8] ++ beBytes 3 460000 ++ [7]) s0).gates[(4 : PortId)]).loaded =
      some ⟨500000, ⟨100, 0⟩, [⟨40000, 8⟩, ⟨460000, 7⟩]⟩ := by decide +kernel

theorem test_commitSchedule_refused :
    ((afterRequest .commitSchedule 12 ([0, 0x10] ++ noneBytes 10) s0).gates[(4 : PortId)]).commit =
      false := by decide +kernel

theorem test_clearTracking :
    (afterRequest .clearTracking 13 [] (s0.modTracker fun t =>
      { t with still := true, records := [pendingRecord 38 9000], nextSeq := 39 })).tracker.records =
      [] := by decide +kernel

theorem test_openServiceWindow :
    ((afterRequest .openServiceWindow 14 ([10, 2] ++ beBytes 4 0x20 ++ [0, 0] ++ beBytes 2 600 ++ [1] ++
        noneBytes 6) (linkUp 10 s0)).windows[(0 : WindowId)] |> fun x => (x.state, x.level, x.endTime)) =
      (.granted, .maintain, 600000000) := by decide +kernel

theorem test_extendServiceWindow_cap :
    ((afterRequest .extendServiceWindow 15 [10, 0x0E, 0x10] (s0.modWindow 0 fun x =>
      { x with state := .granted, endTime := 5000000 })).windows[(0 : WindowId)]).endTime =
      3600000000 := by decide +kernel

theorem test_closeServiceWindow :
    ((afterRequest .closeServiceWindow 16 [11] (s0.modWindow 1 fun x =>
      { x with state := .granted })).windows[(1 : WindowId)]).lastClose = some .controller := by
  decide +kernel

theorem test_lowerLevel_line_refused :
    ((afterRequest .lowerLevel 17 [0] (s0.modWindow 1 fun x =>
      { x with state := .active, level := .adjust })).windows[(1 : WindowId)]).level = .adjust := by
  decide +kernel

theorem test_releaseHold :
    (afterRequest .releaseHold 18 [] (atRun 7000 s0)).lineHold = false := by decide +kernel

theorem test_releaseHold_notice :
    lastNotice (afterRequest .releaseHold 18 [] (atRun 7000 s0)) = some (.holdReleased 7) := by
  decide +kernel

theorem test_unknownRequest :
    (afterRequest .unknownRequest 19 [] s0).mgmt.queue = [] := by decide +kernel

/-! ## Decisions (R143; section 8.7) -/

/-- Record 50: camera 1's REJECT 3. -/
theorem test_decision_camera :
    decideRecord { pendingRecord 50 200000 with verdicts := #v[.pass, .reject 3, .notRequired, .notRequired] } =
      some (.camera 1 3) := by decide +kernel

/-- Record 51: camera 1's verdict is still on its way. -/
theorem test_decision_no_verdict :
    decideRecord { pendingRecord 51 200300 with verdicts := #v[.pass, .pending, .notRequired, .notRequired] } =
      some .noVerdict := by decide +kernel

/-! ## Witnesses: for each statement with hypotheses, a state and operands that meet them, clause by
clause and at the limits of its ranges -/

/-- A request that stands alone in the queue of a state with good header fields. -/
theorem line_of {s : State} {q : Request} {kind : Nat}
    (h : s.mgmt.queue.head? = some q ∧ s.mgmt.restart = none ∧ q.version = 1 ∧ q.kind = kind ∧
      q.bodyFits = true ∧ q.port.val < 10) : LineRequest s q kind :=
  ⟨h.1, h.2.1, h.2.2.1, h.2.2.2.1, h.2.2.2.2.1, h.2.2.2.2.2⟩

theorem witness_StepRunsFrontCommand :
    ({ s0 with pending := [.timeMark, .blastEnd] } : State).pending = .timeMark :: [.blastEnd] := rfl

/-- A good frame has ended on a port that is UP. -/
theorem good_of {s : State} {p : PortId} {octets : Octets} {r : Reception}
    (h : s.ports[p].link = true ∧ s.rx[p].cur = some r ∧ r.overrun = false ∧
      r.cells.length = (octets.length + 255) / 256 ∧ 64 ≤ octets.length ∧ octets.length ≤ 9216 ∧
      fcsMatches octets = true) : GoodArrival s p octets r :=
  ⟨h.1, h.2.1, h.2.2.1, h.2.2.2.1, h.2.2.2.2.1, h.2.2.2.2.2.1, h.2.2.2.2.2.2⟩

theorem witness_ResetsOfTables (pins : ResetPins) :
    Instr.hardReset pins = .powerOnReset pins ∨ Instr.hardReset pins = .hardReset pins := .inr rfl

theorem witness_LinkGainedRaisesChange :
    s0.ports[(11 : PortId)].link = false ∧ (linkUp 11 s0).ports[(11 : PortId)].link = true := by
  decide +kernel

theorem witness_LinkLostEmptiesThePort :
    (9 : PortId).val < 10 ∧ s0.ports[(9 : PortId)].link = false ∧
      (linkUp 9 s0).ports[(9 : PortId)].link = true ∧
      (∀ w : WindowId, (11 : PortId).val = 10 + w.val →
        (linkUp 11 s0).windows[w].state = .closed) ∧
      (fun s : State => s.ports[(11 : PortId)].link = true ∧
        (11 : PortId).val = 10 + (1 : WindowId).val ∧ s.windows[(1 : WindowId)].state ≠ .closed ∧
        s.windows[(1 : WindowId)].heldSet.getLsbD (5 : RobotId).val = true)
        (linkUp 11 s0 |>.modWindow 1 fun x => { x with state := .active, heldSet := 0x20 }) := by
  decide +kernel

theorem witness_TimeBasesAdvance :
    s0.clock.hall.wf = true ∧ (atRun (2 ^ 64 - 2) s0).clock.run + 1 < 2 ^ 64 ∧
      (atRun (2 ^ 64 - 1) s0).clock.run < 2 ^ 64 ∧ (atRun (2 ^ 64 - 1) s0).clock.run + 1 = 2 ^ 64 := by
  decide +kernel

theorem nothing_sent_at_reset : ∀ p : PortId, s0.egress[p].tx = none := by decide +kernel

/-- The first octet of the outstanding probe, of a range reply and of another frame leaves, the last on a
service port, and no octet leaves an idle switch. -/
theorem witness_TimeBasesAdvance_sent :
    (fun s : State => s.firstOctetLeaves 4 (sending 64 none) ∧ s.kindOf 0 = .rangeProbe 5 ∧
      s.clock.probe = some { seq := 5, t1 := none }) (leaving 4 (.rangeProbe 5) 7) ∧
    (fun s : State => s.firstOctetLeaves 9 (sending 64 none) ∧ s.kindOf 0 = .rangeReply)
      (leaving 9 .rangeReply 7) ∧
    (fun s : State => s.firstOctetLeaves 10 (sending 64 none) ∧ s.kindOf 0 ≠ .rangeReply)
      (leaving 10 (.rangeProbe 5) 79) ∧
    ∀ p x, ¬s0.firstOctetLeaves p x := by
  unfold State.firstOctetLeaves
  refine ⟨by decide +kernel, by decide +kernel, by decide +kernel, fun p x h => ?_⟩
  rw [nothing_sent_at_reset] at h
  cases h.1

/-- A LOCKED clock whose last mark came at run time 0. -/
def lockedAt (run : Nat) : State :=
  atRun run s0 |>.modClock fun c => { c with servo := .locked, lastMark := some 0 }

theorem witness_ClockTimeoutsFallDue_due :
    ((lockedAt 500000).clock.servo = .acquiring ∨ (lockedAt 500000).clock.servo = .locked) ∧
    (∃ t, (lockedAt 500000).clock.lastMark = some t ∨ (lockedAt 500000).clock.lastRequest = some t) ∧
    ∀ t, (lockedAt 500000).clock.lastMark = some t ∨ (lockedAt 500000).clock.lastRequest = some t →
      t + (lockedAt 500000).clock.cfg.markTimeout * 1000 ≤ (lockedAt 500000).clock.run := by
  refine ⟨by decide +kernel, ⟨0, .inl rfl⟩, ?_⟩
  rintro t (h | h)
  · cases h; decide +kernel
  · cases h

theorem witness_ClockTimeoutsFallDue_not_due :
    (s0.clock.servo = .unset) ∧
      ((lockedAt 499999).clock.lastMark = some 0 ∧
        (lockedAt 499999).clock.run < 0 + (lockedAt 499999).clock.cfg.markTimeout * 1000) := by
  decide +kernel

theorem witness_ClockTimeoutsFallDue_probe :
    (atRun 1000000 s0).timeUpPort = none ∧
      (atRun 1000000 s0).clock.lastProbeDue + (atRun 1000000 s0).clock.cfg.probeInterval * 1000 ≤
        (atRun 1000000 s0).clock.run ∧
      (fun s : State => s.clock.lastProbeDue + s.clock.cfg.probeInterval * 1000 ≤ s.clock.run ∧
        s.timeUpPort = some 3 ∧ s.ports[(3 : PortId)].link = true ∧
        0 = (s.clock.probeSeq + 1) % 65536 ∧ s.fitsLimit 2 1 3 = true ∧ s.mem.free ≠ []) probing := by
  decide +kernel

/-- A mark with an offset of so many nanoseconds from 5,000 s, and the clock that holds it. -/
def offsetMark (offset : Nat) : Mark := markAt 5000 0 0 ⟨5000, offset, 0⟩
def offsetState (servo : Servo) (good : Nat) (offset : Nat) : State :=
  servo48 0 servo good 0 (offsetMark offset) s0

theorem witness_MarkBeyondTheLimitSteps :
    (offsetState .unset 0 0).clock.marks = offsetMark 0 :: [] ∧ (offsetMark 0).malformed = false ∧
      (offsetMark 0).epoch = (offsetState .unset 0 0).clock.epoch ∧
      ((offsetState .unset 0 0).modClock fun c =>
        { c with cfg := { c.cfg with relay := false } }).clock.cfg.relay = false ∧
      (offsetMark 1000001).malformed = false ∧
      (offsetState .locked 0 1000001).clock.cfg.stepLimit <
        ((offsetMark 1000001).offset ((offsetState .locked 0 1000001).clock.delay.getD 0)).natAbs := by
  decide +kernel

/-- Marks that are malformed by their version, their nanoseconds and their carried delay, each just out of
range; one at the bounds; and one that was stamped before the latest step. -/
theorem witness_MarkBeyondTheLimitSteps_unused :
    field (framePayload (formFrame 1 controller 0 0x88B6 [2, 0])) 0 1 ≠ 1 ∧
    999999999 < field (framePayload (markAt 0 1000000000 0 ⟨0, 0, 0⟩).octets) 8 4 ∧
    65536000000000 < field (framePayload (markAt 0 0 1000000001 ⟨0, 0, 0⟩).octets) 12 8 ∧
    (fun m : Mark => m.malformed = false ∧ m.epoch ≠ s0.clock.epoch + 1)
      (markAt 0 999999999 1000000000 ⟨0, 0, 0⟩) ∧
    s0.clock.marks = [] ∧ (0 : Int) ≤ s0.clock.delay.getD 0 := by decide +kernel

/-- A mark to relay, with L4 TIME_DOWN and in a link state. -/
def relaying (link : Bool) (servo : Servo) (offset : Nat) : State :=
  offsetState servo 0 offset |>.modPort 4 (fun x =>
      { x with cfg := { x.cfg with timing := .timeDown }, link := link })
    |>.modClock fun c => { c with cfg := { c.cfg with relay := true } }

/-- An OPEN gate engine and one under a list; and a mark to relay, one that steps and one that does not,
to an UP port, to a DOWN one and to none. -/
theorem witness_MarkBeyondTheLimitSteps_more :
    s0.gates[(4 : PortId)].mode = .opened ∧
    (fun g : Gate => g.mode ≠ .opened ∧ g.active = some list610 ∧ 0 < list610.cycle)
      (running 6 list610 0 0 0 s0).gates[(6 : PortId)] ∧
    (fun s : State => s.clock.marks = offsetMark 1000001 :: [] ∧
      (offsetMark 1000001).malformed = false ∧ (offsetMark 1000001).epoch = s.clock.epoch ∧
      s.clock.cfg.relay = true ∧ (1000001 : Int) = (offsetMark 1000001).offset (s.clock.delay.getD 0) ∧
      s.clock.cfg.stepLimit < (1000001 : Int).natAbs ∧ 64 ≤ (offsetMark 1000001).octets.length ∧
      [(4 : PortId)] = (List.finRange 12).filter (fun p =>
        decide (s.ports[p].cfg.timing = .timeDown) && s.ports[p].link &&
          s.fitsLimit 2 (((offsetMark 1000001).octets.length + 255) / 256) p) ∧
      ((offsetMark 1000001).octets.length + 255) / 256 ≤ s.mem.free.length)
      (relaying true .locked 1000001) ∧
    (fun s : State => s.clock.servo ≠ .unset ∧ s.clock.cfg.stepLimit = 1000000 ∧
      (1000000 : Int) = (offsetMark 1000000).offset (s.clock.delay.getD 0) ∧
      ∀ p : PortId, s.ports[p].cfg.timing = .timeDown → s.ports[p].link = false)
      (relaying false .locked 1000000) ∧
    (∀ p : PortId, s0.ports[p].cfg.timing ≠ .timeDown) := by decide +kernel

/-- The hypotheses on a mark that trims. -/
def trims (s : State) (m : Mark) (offset integral trim : Int) : Bool :=
  decide (s.clock.marks = [m]) && !m.malformed && decide (m.epoch = s.clock.epoch) &&
    decide (s.clock.servo ≠ .unset) && decide (offset = m.offset (s.clock.delay.getD 0)) &&
    decide (offset.natAbs ≤ s.clock.cfg.stepLimit) &&
    decide (integral = max (-200000) (min 200000
      (s.clock.integral - Int.tdiv (offset * s.clock.cfg.gi) 16))) &&
    decide (trim = max (-200000) (min 200000 (integral - Int.tdiv (offset * s.clock.cfg.gp) 16)))

/-- ACQUIRING at the threshold with three good marks and beyond it, LOCKED at four times the threshold
and beyond it, and HOLDOVER at the step limit. -/
theorem witness_MarkWithinTheLimitTrims :
    trims (offsetState .acquiring 3 1000) (offsetMark 1000) 1000 (-250) (-2250) = true ∧
    trims (offsetState .acquiring 3 1001) (offsetMark 1001) 1001 (-250) (-2252) = true ∧
    trims (offsetState .locked 4 4000) (offsetMark 4000) 4000 (-1000) (-9000) = true ∧
    trims (offsetState .locked 4 4001) (offsetMark 4001) 4001 (-1000) (-9002) = true ∧
    trims (offsetState .holdover 0 1000000) (offsetMark 1000000) 1000000 (-200000) (-200000) = true := by
  decide +kernel

theorem witness_BoundariesBeginCycles :
    (fun s : State => s.gates[(2 : PortId)].mode = .opened ∧ s.gates[(2 : PortId)].commit = false ∧
      s.gates[(2 : PortId)].cycleIndex = 0 ∧ (0 : Int) + 1 ≠ gridIndexes ∧
      s.clock.hall.reached ((0 + 1) * 1000000) = true) (atTime 0 ⟨0, 1000000, 0⟩ s0) ∧
    (fun s : State => s.gates[(4 : PortId)].mode = .opened ∧ s.gates[(4 : PortId)].commit = true ∧
      s.gates[(4 : PortId)].switchIndex ≠ (gridIndexes - 1) + 1 ∧
      s.gates[(4 : PortId)].cycleIndex = gridIndexes - 1 ∧
      s.clock.hall.reached ((gridIndexes - 1 + 1) * 1000000) = true)
      ((commit59 .opened).modClock (fun c => { c with hall := ⟨0, 0, 0⟩ }) |>.modGate 4 fun g =>
        { g with cycleIndex := gridIndexes - 1, disturbed := true }) ∧
    (fun s : State => s.gates[(6 : PortId)].mode = .running ∧
      s.gates[(6 : PortId)].active = some list610 ∧ s.gates[(6 : PortId)].commit = false ∧
      s.gates[(6 : PortId)].cycleIndex = 0 ∧
      s.clock.hall.reached (list610.base.toNs + (0 + 1) * list610.cycle) = true)
      (running 6 list610 0 2 0 (atTime 0 ⟨0, 500000, 0⟩ s0)) := by decide +kernel

/-- Robot 5 in RUNNING at a boundary of L6 that ends its period, and, with a period of two cycles, at one
that does not; with no window that waits for it. -/
theorem witness_BoundariesBeginCycles_robot :
    (fun s : State => s.gates[(6 : PortId)].mode = .running ∧
      s.gates[(6 : PortId)].active = some list610 ∧
      (500000 : Int) = list610.base.toNs + (0 + 1) * list610.cycle ∧
      s.gates[(6 : PortId)].commit = false ∧ s.gates[(6 : PortId)].cycleIndex = 0 ∧
      s.clock.hall.reached 500000 = true ∧ s.robots[(5 : RobotId)].state.armed = true ∧
      s.robots[(5 : RobotId)].port = some 6 ∧ s.robots[(5 : RobotId)].damaged = false ∧
      s.robots[(5 : RobotId)].ecc = .clean ∧
      (∀ w : WindowId, s.windows[w].pendingSet.getLsbD (5 : RobotId).val = false) ∧
      ((0 : Int) + 1).emod s.robots[(5 : RobotId)].cfg.period = s.robots[(5 : RobotId)].cfg.phase ∧
      ((0 : Int) + 1).emod 2 ≠ s.robots[(5 : RobotId)].cfg.phase ∧
      s.robots[(5 : RobotId)].partialPeriod = false ∧
      (s.robots[(5 : RobotId)].disturbed || s.gates[(6 : PortId)].disturbed) = false)
      (running 6 list610 0 2 0 (robot610 .running 0 (atTime 0 ⟨0, 500000, 0⟩ s0))) ∧
    s0.robots[(5 : RobotId)].state.armed = false := by decide +kernel

/-- A judged hit, a miss one below the tolerance, and LOST robots, barred and not. -/
theorem witness_BoundariesBeginCycles_judged :
    (fun b : Robot => b.hit = some true ∧ b.state = .parked)
      ((robot610 .parked 1 s0).modRobot 5 fun b => { b with hit := some true }).robots[(5 : RobotId)] ∧
    (fun b : Robot => b.hit = none ∧ b.state = .arming ∧ b.armingCount = 63)
      ((robot610 .arming 0 s0).modRobot 5 fun b => { b with armingCount := 63 }).robots[(5 : RobotId)] ∧
    (fun b : Robot => b.hit = none ∧ b.state = .running ∧ 1 < b.cfg.tolerance)
      (robot610 .running 0 s0).robots[(5 : RobotId)] ∧
    (fun b : Robot => b.hit = none ∧ b.state = .late ∧ 14 = b.missCount + 1 ∧ 14 < b.cfg.tolerance)
      ((robot610 .late 13 s0).modRobot 5 fun b =>
        { b with cfg := { b.cfg with tolerance := 15 } }).robots[(5 : RobotId)] ∧
    (fun b : Robot => b.hit = some false ∧ b.state = .lost ∧ b.barred = false)
      ((robot610 .lost 2 s0).modRobot 5 fun b => { b with hit := some false }).robots[(5 : RobotId)] ∧
    (fun b : Robot => b.hit = none ∧ b.state = .lost)
      (robot610 .lost 2 s0).robots[(5 : RobotId)] := by decide +kernel

theorem witness_SwitchOverTakesTheList (mode : GateMode) (h : mode = .opened ∨ mode = .running) :
    (fun s : State =>
      (s.gates[(4 : PortId)].mode = .opened ∨ (s.gates[(4 : PortId)].mode = .running ∧
        s.gates[(4 : PortId)].active = some list610 ∧ 0 < list610.cycle)) ∧
      s.gates[(4 : PortId)].commit = true ∧ s.gates[(4 : PortId)].loaded = some list59 ∧
      0 < list59.cycle ∧ s.gates[(4 : PortId)].cycleEnd = 100000000000 ∧
      s.gates[(4 : PortId)].switchAt = some 100000000000 ∧
      s.clock.hall.reached 100000000000 = true ∧
      (100000000000 : Int) < list59.base.toNs + 1 * list59.cycle ∧
      list59.base.toNs + (1 - 1) * list59.cycle ≤ 100000000000 ∧
      (∀ r : RobotId, s.robots[r].port = some 4 → s.robots[r].state.armed = false))
      (commit59 mode) := by
  obtain rfl | rfl := h <;> decide +kernel

theorem witness_WindowEdgesAndTargets :
    (fun s : State => s.gates[(6 : PortId)].mode = .running ∧
      s.gates[(6 : PortId)].active = some list610 ∧
      (250000 : Int) = s.gates[(6 : PortId)].cycleStart +
        list610.windowOffset (s.gates[(6 : PortId)].windowIndex + 1) ∧
      s.gates[(6 : PortId)].windowIndex + 1 < list610.windows.length ∧
      250000 < list610.base.toNs + (s.gates[(6 : PortId)].cycleIndex + 1) * list610.cycle ∧
      s.clock.hall.reached 250000 = true) (running 6 list610 0 0 0 (atTime 0 ⟨0, 250000, 0⟩ s0)) ∧
    (fun s : State => s.gates[(6 : PortId)].mode = .running ∧
      s.gates[(6 : PortId)].active = some list610 ∧
      (500000 : Int) = s.gates[(6 : PortId)].cycleStart +
        list610.windowOffset (s.gates[(6 : PortId)].windowIndex + 1) ∧
      list610.windows.length ≤ s.gates[(6 : PortId)].windowIndex + 1)
      (running 6 list610 0 2 0 s0) ∧
    (fun s : State => s.gates[(6 : PortId)].mode = .resync ∧
      s.gates[(6 : PortId)].active = some list610 ∧
      s.clock.hall.reached
        (list610.base.toNs + s.gates[(6 : PortId)].target * list610.cycle) = true ∧
      (∀ r : RobotId, s.robots[r].port = some 6 → s.robots[r].state.armed = false))
      (running 6 list610 0 0 0 (atTime 0 ⟨0, 1500000, 0⟩ s0) |>.modGate 6 fun g =>
        { g with mode := .resync, target := 3 }) := by decide +kernel

/-- A piece on the wire of L6 as the next window, which closes its queue, begins. -/
theorem witness_WindowEdgesAndTargets_cut :
    (fun s : State => s.egress[(6 : PortId)].tx = some (sending 200 none) ∧
      s.gates[(6 : PortId)].isOpen 1 = true ∧
      (after (.windowStart 6) s).gates[(6 : PortId)].isOpen (sending 200 none).queue = false ∧
      (after (.windowStart 6) s).egress[(6 : PortId)].tx = some (sending 200 (some 64)))
      ((running 6 list610 0 0 0 (atTime 0 ⟨0, 250000, 0⟩ s0)).modEgress 6 fun e =>
        { e with tx := some (sending 200 none) }) := by decide +kernel

/-- Robot 5 of section 6.10 in RUNNING on L6, which is UP. -/
def openable (f : Robot → Robot) : State :=
  (robot610 .running 0 (linkUp 6 s0)).modRobot 5 f

/-- The premises of an opening of window 1 of L6 for robot 5 alone. -/
def opensForFive (s : State) : Prop :=
  (∀ r : RobotId, s.robots[r].port = some 6 → s.robots[r].state.armed = true →
    s.robots[r].damaged = false ∧ s.robots[r].ecc = .clean) ∧
  [(5 : RobotId)] = (List.finRange 24).filter (fun r => s.robots[r].state.armed &&
    decide (s.robots[r].port = some 6 ∧ s.robots[r].cfg.window = 1) && !s.robots[r].openingTaken)

/-- A slot with a frame; a store below the repeat limit and at it; a hold frame with cells enough, and
with none free; neither; and a DOWN port. -/
theorem witness_WindowEdgesAndTargets_opening :
    (fun s : State => opensForFive s ∧ s.ports[(6 : PortId)].link = true ∧
      s.robots[(5 : RobotId)].slot = some 3)
      (openable fun b => { b with slot := some 3 }) ∧
    (fun s : State => opensForFive s ∧ s.robots[(5 : RobotId)].slot = none ∧
      s.robots[(5 : RobotId)].store.isSome = true ∧
      s.robots[(5 : RobotId)].repeatsUsed < s.robots[(5 : RobotId)].cfg.repeatLimit)
      (openable fun b => { b with store := some 3, repeatsUsed := 1 }) ∧
    (fun s : State => opensForFive s ∧ s.robots[(5 : RobotId)].slot = none ∧
      s.robots[(5 : RobotId)].cfg.repeatLimit ≤ s.robots[(5 : RobotId)].repeatsUsed ∧
      s.holdFrames[(5 : RobotId)] = [])
      (openable fun b => { b with store := some 3, repeatsUsed := 2 }) ∧
    (fun s : State => opensForFive s ∧ s.robots[(5 : RobotId)].store = none ∧
      s.holdFrames[(5 : RobotId)] ≠ [] ∧ 24 ≤ s.mem.free.length)
      { openable id with holdFrames := s0.holdFrames.set 5 (dataFrame 13) } ∧
    (fun s : State => opensForFive s ∧ s.holdFrames[(5 : RobotId)] ≠ [] ∧ s.mem.free = [])
      { openable id with holdFrames := s0.holdFrames.set 5 (dataFrame 13)
                         mem := { s0.mem with free := [] } } ∧
    (fun s : State => opensForFive s ∧ s.ports[(6 : PortId)].link = false)
      ((openable id).modPort 6 fun x => { x with link := false }) := by
  unfold opensForFive
  refine ⟨?_, ?_, ?_, ?_, ?_, ?_⟩ <;> decide +kernel

/-- Q3 with a robot send that waits, not yet counted, and another frame behind it. -/
theorem witness_WindowEdgesAndTargets_queue :
    (fun sends others : List QEntry =>
      ((openable id).modEgress 6 fun e => { e with queues := e.queues.set 3 (sends ++ others)
        }).egress[(6 : PortId)].queues[(3 : QueueId)] = sends ++ others ∧
      (∀ x ∈ sends, x.kind = .robotSend 5) ∧ (∀ x ∈ others, ∀ r, x.kind ≠ .robotSend r) ∧
      1 = (sends.filter fun x => decide (x.kind = .robotSend 5) && !x.delayCounted).length)
      [newEntry 1 (.robotSend 5)] [newEntry 2 .normal] := by decide +kernel

theorem witness_ToleranceReachedLosesRobot :
    (fun b : Robot => b.hit = none ∧ b.state = .late ∧ 2 = b.missCount + 1 ∧ b.cfg.tolerance ≤ 2 ∧
      b.barred = false) (robot610 .late 1 s0).robots[(5 : RobotId)] ∧
    (fun b : Robot => b.hit = none ∧ b.state = .parked ∧ 15 = b.missCount + 1 ∧
      b.cfg.tolerance ≤ 15 ∧ b.barred = false) (robot610 .parked 14 s0).robots[(5 : RobotId)] ∧
    (fun b : Robot => b.hit = none ∧ b.state = .running ∧ b.cfg.tolerance ≤ 1 ∧ b.barred = false)
      ((robot610 .running 0 s0).modRobot 5 fun b =>
        { b with cfg := { b.cfg with tolerance := 1 } }).robots[(5 : RobotId)] := by decide +kernel

/-- A status frame before the period start, at it, at the deadline, and 1 ns beyond it in a period with
a hit. -/
theorem witness_ToleranceReachedLosesRobot_status :
    (fun s : State => s.robots[(5 : RobotId)].state.armed = true ∧
      s.robots[(5 : RobotId)].damaged = false ∧ s.robots[(5 : RobotId)].ecc = .clean ∧
      s.robots[(5 : RobotId)].cfg.deadline = 200000 ∧ s.robots[(5 : RobotId)].hit.isSome = true ∧
      HallTime.diff ⟨0, 999, 0⟩ s.robots[(5 : RobotId)].periodStart < 0 ∧
      0 ≤ HallTime.diff ⟨0, 1000, 0⟩ s.robots[(5 : RobotId)].periodStart ∧
      HallTime.diff ⟨0, 201000, 0⟩ s.robots[(5 : RobotId)].periodStart - 200000 * fracPerNs = 0 ∧
      0 < HallTime.diff ⟨0, 201001, 0⟩ s.robots[(5 : RobotId)].periodStart - 200000 * fracPerNs)
      ((robot610 .running 0 s0).modRobot 5 fun b =>
        { b with periodStart := ⟨0, 1000, 0⟩, hit := some false }) ∧
    s0.robots[(5 : RobotId)].state.armed = false := by decide +kernel

theorem witness_ControllerTimeoutLosesController :
    (fun s : State => s.watch.state = .watching ∧
      s.watch.restartTime + s.device.controllerTimeout * 1000 ≤ s.clock.run)
      (atRun 20000 s0 |>.modWatch fun w => { w with state := .watching }) ∧
    (fun s : State => s.clock.run < s.watch.restartTime + s.device.controllerTimeout * 1000)
      (atRun 19999 s0 |>.modWatch fun w => { w with state := .watching }) := by decide +kernel

/-- The robot of section 6.10 armed, with a frame of its command stream under reception on L0. -/
def commanded (f : Robot → Robot) : State :=
  receiving 0 [1] false false (armable610.modRobot 5 fun b => f { b with state := .running })
    |>.modWatch fun w => { w with state := .lost }

/-- The premises of the command clauses. -/
def isCommand (s : State) : Prop :=
  GoodArrival s 0 (dataFrame 13) arrival ∧ ordinary (dataFrame 13) ∧ s.matched 0 (dataFrame 13) 13 ∧
    (dataFrame 13).length ≤ s.streams[(13 : StreamId)].cfg.maxLength ∧
    s.streams[(13 : StreamId)].cfg.role = .command ∧
    s.streams[(13 : StreamId)].cfg.subject = .robot 5 ∧
    s.robots[(5 : RobotId)].cfg.commandStream = 13 ∧ s.robots[(5 : RobotId)].state.armed = true ∧
    s.robots[(5 : RobotId)].damaged = false ∧ s.robots[(5 : RobotId)].ecc = .clean ∧
    arrival.cells.head? = some 1 ∧ s.watch.state = .lost

/-- Before the opening over a full slot, after the opening, and with the robot port DOWN. -/
theorem witness_ControllerTimeoutLosesController_command :
    (fun s : State => isCommand s ∧
      s.egressPorts s.streams[(13 : StreamId)].cfg.egress 0 ≠ [] ∧
      s.robots[(5 : RobotId)].openingTaken = false ∧ s.robots[(5 : RobotId)].slot.isSome = true)
      (commanded fun b => { b with slot := some 3 }) ∧
    (fun s : State => isCommand s ∧
      s.egressPorts s.streams[(13 : StreamId)].cfg.egress 0 ≠ [] ∧
      s.robots[(5 : RobotId)].openingTaken = true) (commanded fun b => { b with openingTaken := true }) ∧
    (fun s : State => isCommand s ∧ s.egressPorts s.streams[(13 : StreamId)].cfg.egress 0 = [])
      ((commanded fun b => b).modPort 6 fun x => { x with link := false }) := by
  unfold isCommand State.matched ordinary
  exact ⟨⟨⟨good_of (by decide +kernel), by decide +kernel⟩, by decide +kernel⟩,
    ⟨⟨good_of (by decide +kernel), by decide +kernel⟩, by decide +kernel⟩,
    ⟨⟨good_of (by decide +kernel), by decide +kernel⟩, by decide +kernel⟩⟩

/-- The first and last records of both tables at the scrub position; and a record that is clean, one that
is damaged and holds the double error that damaged it, and one that a hit marks. -/
theorem witness_ScrubChecksRecords :
    s0.scrub.val = (0 : StreamId).val ∧
      ({ s0 with scrub := 255 } : State).scrub.val = (255 : StreamId).val ∧
      ({ s0 with scrub := 256 } : State).scrub.val = 256 + (0 : RobotId).val ∧
      ({ s0 with scrub := 279 } : State).scrub.val = 256 + (23 : RobotId).val ∧
      s0.streams[(255 : StreamId)].ecc = .clean ∧ s0.streams[(255 : StreamId)].damaged = false ∧
      (fun s : State => s.streams[(255 : StreamId)].ecc = .double 3 ∧
        s.streams[(255 : StreamId)].damaged = true)
        (s0.modStream 255 fun x => { x with damaged := true, ecc := .double 3 }) ∧
      (fun s : State => s.streams[(255 : StreamId)].ecc = .single ∧
        s.streams[(255 : StreamId)].damaged = false) (s0.modStream 255 fun x => { x with ecc := .single }) ∧
      (fun s : State => s.robots[(23 : RobotId)].ecc = .double 3 ∧
        s.robots[(23 : RobotId)].damaged = true)
        (s0.modRobot 23 fun x => { x with damaged := true, ecc := .double 3 }) ∧
      (fun s : State => s.robots[(5 : RobotId)].ecc = .double 3 ∧
        s.robots[(5 : RobotId)].damaged = false)
        ((robot610 .late 1 s0).modRobot 5 fun x => { x with ecc := .double 3 }) := by
  decide +kernel

theorem witness_IllegalTransitionIsFault :
    s0.tracker.phaseA ≠ true ∧ s0.tracker.phaseB ≠ true := by decide +kernel

theorem witness_EncoderCountsByTable :
    (s0.tracker.phaseA, s0.tracker.phaseB) = (false, false) ∧
      nextLevels (false, false) = (true, false) ∧
      countsForward s0.tracker.cfg.mode (false, false) = true ∧
      nextLevels (false, true) = (false, false) ∧
      countsForward s0.tracker.cfg.mode (false, true) = true ∧
      nextLevels (true, false) = (true, true) ∧ countsForward .x1 (true, false) = false := by
  decide +kernel

/-- A machine at a position and a high-water mark, with a bottle measured and one record in the list. -/
def counting (position high : Position) : State :=
  s0.modTracker fun t =>
    { t with position := position, highWater := high, sensor := .measuring, leading := some position,
             records := [pendingRecord 7 100], nextSeq := 8 }

/-- A forward count that passes the high-water mark and one that reaches it, with a record left; and a
reverse count that begins an excursion. -/
theorem witness_EncoderCountsByTable_position :
    (fun s t : State => exec (.encoderTransition true false) s = .next t ∧
      t.tracker.position = s.tracker.position + 1 ∧
      0 < (t.tracker.position - s.tracker.highWater).toInt ∧
      t.tracker.records.head? = some (pendingRecord 7 100))
      (counting 101 101) (after (.encoderTransition true false) (counting 101 101)) ∧
    (fun s t : State => exec (.encoderTransition true false) s = .next t ∧
      (t.tracker.position - s.tracker.highWater).toInt = 0)
      (counting 101 102) (after (.encoderTransition true false) (counting 101 102)) ∧
    (fun s t : State => exec (.encoderTransition false true) s = .next t ∧
      t.tracker.position = s.tracker.position + BitVec.ofInt 32 (-1) ∧
      (t.tracker.position - s.tracker.highWater).toInt < 0 ∧ s.tracker.excursion = false ∧
      s.tracker.sensor = .measuring ∧ s.tracker.records = [pendingRecord 7 100])
      (counting 101 101) (after (.encoderTransition false true) (counting 101 101)) := by
  refine ⟨⟨rfl, ?_⟩, ⟨rfl, ?_⟩, ⟨rfl, ?_⟩⟩ <;> decide +kernel

/-- A forward count from 101 to 102, with an occlusion that began at `lead` and limits of 3 and 20. -/
def countingFrom (sensor : SensorState) (lead : Position) (records : List TrackRec) (excursion : Bool) :
    State :=
  s0.modTracker fun t =>
    { t with position := 101, highWater := if excursion then 102 else 101, excursion := excursion
             sensor := sensor, leading := some lead, records := records
             cfg := { t.cfg with minOcclusion := 3, maxOcclusion := 20 } }

/-- The length after the count of an occlusion that began at `lead`. -/
def lengthAfter (s : State) (lead : Position) : Int :=
  ((after (.encoderTransition true false) s).tracker.position - lead).toInt

/-- A MEASURING occlusion one count short of its minimum, at the minimum with room in the list and
without, and one short of the maximum; a QUALIFIED one one count short of the maximum and at it; and a
count back to the high-water mark in an excursion. -/
theorem witness_EncoderCountsByTable_occlusion :
    (fun s t : State => exec (.encoderTransition true false) s = .next t ∧
      t.tracker.position ≠ s.tracker.position ∧
      0 ≤ (t.tracker.position - s.tracker.highWater).toInt ∧ s.tracker.sensor = .measuring ∧
      s.tracker.records.length < 256)
      (countingFrom .measuring 99 [] false)
      (after (.encoderTransition true false) (countingFrom .measuring 99 [] false)) ∧
    (lengthAfter (countingFrom .measuring 100 [] false) 100 < 3 ∧
      lengthAfter (countingFrom .measuring 99 [] false) 99 = 3 ∧
      lengthAfter (countingFrom .measuring 83 [] false) 83 = 19 ∧
      lengthAfter (countingFrom .qualified 83 [] false) 83 = 19 ∧
      lengthAfter (countingFrom .qualified 82 [] false) 82 = 20) ∧
    256 ≤ (countingFrom .measuring 99 (List.replicate 256 (pendingRecord 7 100)) false
      ).tracker.records.length ∧
    (fun s : State => s.tracker.excursion = true ∧ s.tracker.sensor = .qualified ∧
      s.tracker.leading = some 90) (countingFrom .qualified 90 [] true) := by
  refine ⟨⟨rfl, ?_⟩, ?_, ?_, ?_⟩ <;> decide +kernel

/-- Camera 1 with its pointer at a record 500 counts past, and the next one 499. -/
def triggering (enabled : Bool) (pulseEnd : Option Nat) (offset : Nat) : State :=
  s0.modTracker (fun t => { t with
      position := 700, records := [pendingRecord 7 100, pendingRecord 8 200, pendingRecord 9 201],
      nextSeq := 10 }) |>.modCamera 1 fun k =>
    { k with pointer := 8, pulseEnd := pulseEnd
             cfg := { k.cfg with enabled := enabled, offset := offset } }

/-- Camera 1's pointer at no record; at one that is one count short of its offset; and at one that has
reached it, with the next one short of it or reached as well, for an idle and a busy output and a disabled
camera; and a count that leaves the record reached. -/
theorem witness_EncoderCountsByTable_triggers :
    (∀ x ∈ s0.tracker.records, x.seq ≠ s0.cameras[(1 : CameraId)].pointer) ∧
    (fun s : State => s.tracker.records =
        [pendingRecord 7 100] ++ pendingRecord 8 200 :: [pendingRecord 9 201] ∧
      (∀ x ∈ [pendingRecord 7 100], x.seq ≠ s.cameras[(1 : CameraId)].pointer) ∧
      (pendingRecord 8 200).seq = s.cameras[(1 : CameraId)].pointer ∧
      (s.cameras[(1 : CameraId)].cfg.offset : Int) ≤
        (s.tracker.position - (pendingRecord 8 200).position).toInt ∧
      (∀ x ∈ [pendingRecord 9 201].head?,
        (s.tracker.position - x.position).toInt < s.cameras[(1 : CameraId)].cfg.offset) ∧
      s.cameras[(1 : CameraId)].cfg.enabled = true ∧ s.cameras[(1 : CameraId)].pulseEnd = none)
      (triggering true none 500) ∧
    ((triggering true none 501).tracker.position - (pendingRecord 8 200).position).toInt <
      (triggering true none 501).cameras[(1 : CameraId)].cfg.offset ∧
    (fun k : Camera => k.cfg.enabled = true ∧ k.pulseEnd.isSome = true)
      (triggering true (some 9) 500).cameras[(1 : CameraId)] ∧
    (triggering false none 500).cameras[(1 : CameraId)].cfg.enabled = false ∧
    (∀ x ∈ pendingRecord 8 200 :: [pendingRecord 9 201],
      ((triggering true none 499).cameras[(1 : CameraId)].cfg.offset : Int) ≤
        ((triggering true none 499).tracker.position - x.position).toInt) ∧
    (fun s t : State => exec (.encoderTransition true false) s = .next t ∧
      t.tracker.position ≠ s.tracker.position ∧
      (s.cameras[(1 : CameraId)].cfg.offset : Int) ≤
        (t.tracker.position - (pendingRecord 8 200).position).toInt)
      (triggering true none 500) (after (.encoderTransition true false) (triggering true none 500)) := by
  refine ⟨by decide +kernel, by decide +kernel, by decide +kernel, by decide +kernel,
    by decide +kernel, by decide +kernel, rfl, ?_⟩
  decide +kernel

theorem witness_SensorEdgesMoveTheSensor :
    s0.tracker.sense ≠ s0.tracker.cfg.activeHigh ∧ s0.tracker.sensor = .clear ∧
      s0.tracker.excursion = false ∧
      (fun t : Tracker => t.sense = t.cfg.activeHigh ∧ t.sensor = .jammed)
        (s0.modTracker fun t => { t with sense := true, sensor := .jammed }).tracker := by
  decide +kernel

theorem witness_SpeedWindowMeasures :
    (fun s : State => s.tracker.windowSpan = 10 ∧
      (1250 : Int) = (s.tracker.position - s.tracker.windowPosition).toInt ∧
      s.tracker.windowStart + 10 * 1000 ≤ s.clock.run)
      (atRun 10000 s0 |>.modTracker fun t => { t with position := 1250 }) := by decide +kernel

theorem witness_QualifyAppendsOrGoesUntracked :
    (fun t : Tracker => t.leading = some 10000 ∧ t.records.length = 255 ∧ t.records.length < 256)
      (s0.modTracker fun t => { t with leading := some 10000,
                                       records := List.replicate 255 (pendingRecord 0 0) }).tracker ∧
    (fun t : Tracker => t.leading = some 10000 ∧ 256 ≤ t.records.length)
      (s0.modTracker fun t => { t with leading := some 10000,
                                       records := List.replicate 256 (pendingRecord 0 0) }).tracker := by
  decide +kernel

theorem witness_TimedOutputsEnd :
    (s0.modCamera 3 fun k => { k with pulseEnd := some 0 }).cameras[(3 : CameraId)].pulseEnd = some 0 ∧
      0 ≤ s0.clock.run ∧ s0.clock.run < 1 ∧ s0.reject.phaseEnd ≤ s0.clock.run ∧
      (fun s : State => s.reject.state = .extending ∧ s.reject.dwellStart = some 205862 ∧
        (s.tracker.position - 205862).toInt < s.reject.cfg.dwell)
        (s0.modTracker (fun t => { t with position := 206562 }) |>.modReject fun x =>
          { x with cfg := ejector87, state := .extending, dwellStart := some 205862 }) ∧
      (fun s : State => s.reject.state = .retracting ∧ s.reject.extendPending = false)
        (s0.modReject fun x => { x with state := .retracting }) := by decide +kernel

/-- A driven gate at an instant, with a dwell that is travelled and one count short of it. -/
def gate87 (st : EjectState) (travel : Nat) (extendPending : Bool) (run : Nat) : State :=
  atRun run s0 |>.modTracker (fun t => { t with position := 205862 + BitVec.ofNat 32 travel })
    |>.modReject fun x => { x with cfg := ejector87, state := st, dwellStart := some 205862
                                   extendPending := extendPending, releaseA := some 8000 }

/-- EXTENDING at its end with the dwell just travelled and RETRACTING with an extend pending, each with a
non-overlap time and without one; and a state before its end. -/
theorem witness_TimedOutputsEnd_dwell :
    (fun s : State => s.reject.phaseEnd ≤ s.clock.run ∧ s.reject.state = .extending ∧
      s.reject.dwellStart = some 205862 ∧
      (s.reject.cfg.dwell : Int) = (s.tracker.position - 205862).toInt ∧
      s.reject.inhibitEnd ≤ s.clock.run ∧ 0 < s.reject.cfg.nonOverlap)
      (gate87 .extending 1500 false 10000) ∧
    (fun s : State => s.reject.state = .retracting ∧ s.reject.extendPending = true ∧
      s.clock.run < s.reject.inhibitEnd) (gate87 .retracting 0 true 1999) ∧
    ((gate87 .extending 1500 false 10000).modReject fun x =>
      { x with cfg := { x.cfg with nonOverlap := 0 } }).reject.cfg.nonOverlap = 0 ∧
    (fun s : State => s.clock.run < s.reject.phaseEnd)
      ((gate87 .blasting 0 false 9999).modReject fun x => { x with phaseEnd := 10000 }) := by
  decide +kernel

/-- A count in DIVERTED that brings the travel to the dwell, once the non-overlap time is over and a
microsecond before it; one that leaves it a count short; and a reverse count. -/
theorem witness_TimedOutputsEnd_count :
    (fun s t : State => exec (.encoderTransition true false) s = .next t ∧
      t.tracker.position ≠ s.tracker.position ∧ s.reject.cfg.mode = .diverter ∧
      s.reject.state = .diverted ∧ s.tracker.sensor ≠ .measuring ∧ s.tracker.records.head? = none ∧
      t.reject.dwellStart = some 205862 ∧
      (s.reject.cfg.dwell : Int) = (t.tracker.position - 205862).toInt ∧
      s.reject.inhibitEnd ≤ s.clock.run ∧ s.reject.releaseA = some 8000 ∧
      8000 + s.reject.cfg.nonOverlap = s.clock.run)
      (gate87 .diverted 1499 false 10000)
      (after (.encoderTransition true false) (gate87 .diverted 1499 false 10000)) ∧
    (fun s : State => s.clock.run < 8000 + s.reject.cfg.nonOverlap)
      (gate87 .diverted 1499 false 9999) ∧
    (fun s t : State => exec (.encoderTransition true false) s = .next t ∧
      (t.tracker.position - 205862).toInt = 1499)
      (gate87 .diverted 1498 false 10000)
      (after (.encoderTransition true false) (gate87 .diverted 1498 false 10000)) ∧
    (fun s t : State => exec (.encoderTransition false true) s = .next t ∧
      t.tracker.position = s.tracker.position + BitVec.ofInt 32 (-1) ∧
      t.reject.dwellStart = some 205862)
      (gate87 .diverted 1500 false 10000)
      (after (.encoderTransition false true) (gate87 .diverted 1500 false 10000)) := by
  refine ⟨⟨rfl, ?_⟩, ?_, ⟨rfl, ?_⟩, ⟨rfl, ?_⟩⟩ <;> decide +kernel

theorem witness_EjectorWaitsEnd :
    (fun s : State => s.reject.heldFire = false ∧ s.reject.inhibitEnd ≤ s.clock.run ∧
      s.reject.state = .extendWait ∧ s.reject.releaseB = some 8000 ∧
      8000 + s.reject.cfg.nonOverlap ≤ s.clock.run)
      (atRun 10000 s0 |>.modReject fun x => { x with state := .extendWait, releaseB := some 8000 }) ∧
    (fun s : State => s.reject.heldFire = false ∧ s.reject.inhibitEnd ≤ s.clock.run ∧
      s.reject.state = .retractWait ∧ s.reject.releaseA = some 8000 ∧
      s.clock.run < 8000 + s.reject.cfg.nonOverlap)
      (atRun 9999 s0 |>.modReject fun x => { x with state := .retractWait, releaseA := some 8000 }) ∧
    (fun s : State => s.reject.heldFire = true ∧ s.reject.inhibitEnd ≤ s.clock.run)
      (atRun 2000 s0 |>.modReject fun x => { x with heldFire := true }) ∧
    (fun s : State => s.reject.heldFire = true ∧ s.clock.run < s.reject.inhibitEnd)
      (atRun 1999 s0 |>.modReject fun x => { x with heldFire := true }) := by decide +kernel

/-- A wait with no release recorded, at the end of the reset inhibit and before it; and a gate that does not
wait. -/
theorem witness_EjectorWaitsEnd_none :
    (fun s : State => s.reject.heldFire = false ∧ s.reject.state = .extendWait ∧
      s.reject.inhibitEnd = s.clock.run ∧ s.reject.releaseB = none)
      (atRun 2000 s0 |>.modReject fun x => { x with state := .extendWait }) ∧
    (fun s : State => s.reject.state = .retractWait ∧ s.clock.run < s.reject.inhibitEnd ∧
      s.reject.releaseA = none)
      (atRun 1999 s0 |>.modReject fun x => { x with state := .retractWait }) ∧
    s0.reject.state ≠ .extendWait ∧ s0.reject.state ≠ .retractWait := by decide +kernel

/-- Steps that assert EJECT_A in EXTENDING, and EJECT_B. -/
theorem witness_OutputsKeepApart :
    (∃ s t : State, step s = .next t ∧ s.ejectA = false ∧ t.ejectA = true ∧
      t.reject.state = .extending ∧ t.reject.releaseB = some 8000) ∧
    ∃ s t : State, step s = .next t ∧ s.ejectB = false ∧ t.ejectB = true ∧
      t.reject.releaseA = some 8000 := by
  refine ⟨⟨atRun 10000 { s0 with pending := [.nonOverlapEnd] } |>.modReject fun x =>
      { x with state := .extendWait, releaseB := some 8000 }, _, rfl, ?_⟩,
    ⟨atRun 10000 { s0 with pending := [.nonOverlapEnd] } |>.modReject fun x =>
      { x with state := .retractWait, releaseA := some 8000 }, _, rfl, ?_⟩⟩ <;> decide +kernel

theorem witness_DecisionTakesFirstReason :
    ({ pendingRecord 1 0 with jam := true }).jam = true ∧
    (fun r : TrackRec => r.jam = false ∧ r.verdicts[(3 : CameraId)] = .reject 9 ∧
      ∀ d : CameraId, d < 3 → ∀ x : Fin 256, r.verdicts[d] ≠ .reject x.val)
      { pendingRecord 1 0 with verdicts := #v[.pass, .noImage, .pending, .reject 9] } ∧
    (pendingRecord 1 0).jam = false ∧ (pendingRecord 1 0).verdicts[(0 : CameraId)] = .pending := by
  decide +kernel

/-- A head record one count before it is due and one that is due, one that passes and one that is
rejected, with the blast ejector at rest. -/
theorem witness_DecisionTakesFirstReason_due :
    (fun s : State => s.tracker.records = pendingRecord 7 100 :: [pendingRecord 8 200] ∧
      (s.tracker.position - (pendingRecord 7 100).position).toInt =
        (s.reject.cfg.distance : Int) - s.reject.lead ∧
      ((99 : Position) - (pendingRecord 7 100).position).toInt <
        (s.reject.cfg.distance : Int) - s.reject.lead ∧
      decideRecord (pendingRecord 7 100) = some .noVerdict ∧
      decideRecord { pendingRecord 7 100 with verdicts := Vector.replicate 4 .pass } = none ∧
      s.reject.cfg.mode = .pulse ∧ s.reject.state = .rest ∧ s.reject.heldFire = false ∧
      s.reject.inhibitEnd ≤ s.clock.run)
      (atRun 2000 s0 |>.modTracker (fun t => { t with
          position := 100 + BitVec.ofNat 32 s0.reject.cfg.distance
          records := [pendingRecord 7 100, pendingRecord 8 200], nextSeq := 9 })) := by
  decide +kernel

/-- A row of each table of a fire: a held fire in PULSE mode, and in DIVERTER mode from REST at the last
instant of the non-overlap and after it, and in RETRACTING. -/
theorem witness_DecisionTakesFirstReason_fires :
    (fun x : Reject => FireTable x { x with heldFire := true } 1999 5 [.deferredFires]) s0.reject ∧
    (fun x : Reject => FireTable x { x with dwellStart := some 5, state := .extendWait } 9999 5
      [.deferredFires]) { s0.reject with cfg := ejector87, releaseB := some 8000 } ∧
    (fun x : Reject => FireTable x
      { x with dwellStart := some 5, state := .extending, extendPending := false, phaseEnd := 18000 }
      10000 5 [.extendsMade]) { s0.reject with cfg := ejector87, releaseB := some 8000 } ∧
    (fun x : Reject => FireTable x { x with dwellStart := some 5, extendPending := true } 10000 5 [])
      { s0.reject with cfg := ejector87, state := .retracting } := by
  unfold FireTable
  refine ⟨.inl ⟨rfl, .inr (.inl ⟨rfl, rfl, by decide +kernel, rfl, rfl⟩)⟩,
    .inr ⟨rfl, .inr (.inl ⟨rfl, .inr ⟨8000, rfl, by decide⟩, rfl, rfl⟩)⟩,
    .inr ⟨rfl, .inl ⟨rfl, by decide +kernel, fun b h => ?_, rfl, rfl⟩⟩,
    .inr ⟨rfl, .inr (.inr (.inr (.inr (.inr (.inl ⟨rfl, rfl, rfl, rfl⟩)))))⟩⟩
  cases h
  decide

theorem witness_VerdictFillsPending :
    (fun s : State => s.cameras[(0 : CameraId)].cfg.source = some 30 ∧
      s.cameras[(0 : CameraId)].cfg.enabled = true ∧ s.cameras[(0 : CameraId)].cfg.required = true ∧
      s.tracker.find 50 = some (pendingRecord 50 200000) ∧
      (pendingRecord 50 200000).verdicts[(0 : CameraId)] ≠ .notRequired ∧
      (pendingRecord 50 200000).verdicts[(0 : CameraId)] = .pending)
      (s0.modTracker (fun t => { t with records := [pendingRecord 50 200000], nextSeq := 51 })
        |>.modCamera 0 fun k =>
          { k with cfg := { k.cfg with enabled := true, required := true, source := some 30 } }) := by
  decide +kernel

/-- A verdict frame of one entry. -/
def verdictFrame (count camera result reason : Byte) (seq : Nat) : Octets :=
  formFrame 12 controller 0 0x0800 ([0, count, camera, result, reason, 0] ++ beBytes 4 seq)

/-- Frames with a count of 0 and of 17, one that ends before its second entry, and ones whose entry names a
camera, a result or a reason out of range; and one that is well-formed at the bounds. -/
theorem witness_VerdictFillsPending_malformed :
    field (framePayload (verdictFrame 0 0 0 0 50)) 1 1 = 0 ∧
    16 < field (framePayload (verdictFrame 17 0 0 0 50)) 1 1 ∧
    (framePayload (verdictFrame 6 0 0 0 50)).length <
      2 + 8 * field (framePayload (verdictFrame 6 0 0 0 50)) 1 1 ∧
    3 < (verdictEntry (framePayload (verdictFrame 1 4 0 0 50)) 0).camera ∧
    1 < (verdictEntry (framePayload (verdictFrame 1 0 2 0 50)) 0).result ∧
    (fun e : VerdictEntry => e.result = 1 ∧ e.reason = 0)
      (verdictEntry (framePayload (verdictFrame 1 0 1 0 50)) 0) ∧
    (fun e : VerdictEntry => e.result = 1 ∧ 15 < e.reason)
      (verdictEntry (framePayload (verdictFrame 1 0 1 16 50)) 0) ∧
    (fun e : VerdictEntry => e = { camera := 3, result := 1, reason := 15, seq := 50 })
      (verdictEntry (framePayload (verdictFrame 1 3 1 15 50)) 0) := by decide +kernel

/-- Entries against a list of 50 and 51: its first and its last, one newer, one older, and the farthest of
each; and against an empty list. -/
theorem witness_VerdictFillsPending_place :
    (fun t : Tracker => t.records.head? = some (pendingRecord 50 0) ∧
      ((50 : BitVec 32) - 50).toNat < t.records.length ∧
      ((51 : BitVec 32) - 50).toNat < t.records.length ∧
      t.records.length ≤ ((52 : BitVec 32) - 50).toNat ∧ 0 ≤ ((52 : BitVec 32) - 50).toInt ∧
      t.records.length ≤ ((49 : BitVec 32) - 50).toNat ∧ ((49 : BitVec 32) - 50).toInt < 0 ∧
      0 ≤ ((49 + 0x80000000 : BitVec 32) - 50).toInt ∧
      ((50 + 0x80000000 : BitVec 32) - 50).toInt < 0)
      { s0.tracker with records := [pendingRecord 50 0, pendingRecord 51 9], nextSeq := 52 } ∧
    (fun t : Tracker => t.records = [] ∧ ((0 : BitVec 32) - t.nextSeq).toInt < 0 ∧
      0 ≤ ((1 : BitVec 32) - t.nextSeq).toInt) { s0.tracker with nextSeq := 1 } := by decide +kernel

/-- Each ground to ignore a verdict for a record in the list. -/
theorem witness_VerdictFillsPending_ignored :
    ({ s0.tracker with records := [pendingRecord 50 0] }).find 50 = some (pendingRecord 50 0) ∧
    s0.cameras[(0 : CameraId)].cfg.source ≠ some 30 ∧
    s0.cameras[(0 : CameraId)].cfg.enabled = false ∧
    s0.cameras[(0 : CameraId)].cfg.required = false ∧
    ({ pendingRecord 50 0 with verdicts := Vector.replicate 4 .notRequired }).verdicts[(0 : CameraId)] =
      .notRequired := by decide +kernel

theorem witness_JoiningSourceSetsLatch :
    s0.hold.present.has .jam = false ∧ s0.hold.latch = true ∧
      (s0.modHold fun h => { h with latch := false }).hold.latch = false ∧
      (s0.modHold fun h => { h with present := { h.present with jam := true } }).hold.present.has .jam =
        true ∧ HoldInv s0 := by
  refine ⟨by decide +kernel, by decide +kernel, by decide +kernel, by decide +kernel, fun _ => rfl⟩

theorem witness_RaisedNoticeFoldsOrQueues :
    s0.notices.records = [] ++
        { event := .holdSet .reset, firstTime := ⟨0, 0⟩, lastTime := ⟨0, 0⟩, repeats := 1 } :: [] ∧
      (NoticeEvent.holdSet .reset).folds (.holdSet (.source .jam)) = true ∧
      (∀ x ∈ s0.notices.records, x.event.folds (.linkChange 0 true) = false) ∧
      s0.notices.records.length < 64 ∧
      (∀ x ∈ List.replicate 64 (⟨.linkChange 1 true, ⟨0, 0⟩, ⟨0, 0⟩, 1⟩ : NoticeRec),
        x.event.folds (.linkChange 0 true) = false) ∧
      64 ≤ (List.replicate 64 (⟨.linkChange 1 true, ⟨0, 0⟩, ⟨0, 0⟩, 1⟩ : NoticeRec)).length := by
  decide +kernel

/-- A state in which the fires counter stands at a value. -/
def firesAt (v : Nat) : State := { s0 with counters := s0.counters.put v (.reject .fires) }

theorem witness_CountersSaturateAndNotice :
    (CounterRef.reject .fires).ofNotices = false ∧
      (firesAt 2147483646).counter (.reject .fires) + 1 < 2147483648 ∧
      (firesAt 2147483647).counter (.reject .fires) < 2147483648 ∧
      2147483648 ≤ (firesAt 2147483647).counter (.reject .fires) + 1 ∧
      (firesAt 2147483647).counter (.reject .fires) + 1 < 4294967295 ∧
      2147483648 ≤ (firesAt 4294967294).counter (.reject .fires) ∧
      (firesAt 4294967294).counter (.reject .fires) < 4294967295 ∧
      4294967295 ≤ (firesAt 4294967294).counter (.reject .fires) + 1 ∧
      4294967295 ≤ (firesAt 2147483647).counter (.reject .fires) + 2147483648 ∧
      4294967295 ≤ (firesAt 4294967295).counter (.reject .fires) := by decide +kernel

/-- A DOWN port; the first octet of a frame; octets 256 and 257 of a frame with one cell; the last cell
that a frame takes; and, on a port whose open frame has 200 octets and expects 7, octets 56 and 57 of that
piece, an octet of another piece and one of an overrun reception. -/
theorem witness_ReceptionTakesCells :
    s0.ports[(0 : PortId)].link = false ∧
    (fun s : State => s.ports[(0 : PortId)].link = true ∧ s.rx[(0 : PortId)].cur = none ∧
      s.rx[(0 : PortId)].asm = none ∧ s.mem.free = 0 :: (List.finRange 2048).tail) (linkUp 0 s0) ∧
    (0 + 0 < (min (0 + 1) 9216 + 255) / 256 ∧ (min (0 + 256) 9216 + 255) / 256 ≤ 0 + 1 ∧
      0 + 1 < (min (0 + 257) 9216 + 255) / 256 ∧ 0 + 35 < (min (0 + 8961) 9216 + 255) / 256 ∧
      (min (0 + 9217) 9216 + 255) / 256 ≤ 0 + 36) ∧
    (fun s : State => s.rx[(0 : PortId)].cur.map (fun r => (r.marked, r.overrun, r.cells)) =
        some (true, false, []) ∧ s.ports[(0 : PortId)].cfg.rxPreempt = true ∧
      s.rx[(0 : PortId)].asm.map (fun a => (a.expect, a.octets.length, a.cells.length)) =
        some (7, 200, 1) ∧
      (octetOn 0 (some (.next 7)) 56).marker = some (.next 7) ∧
      (octetOn 0 (some (.next 6)) 1).marker ≠ some (.next 7) ∧
      (min (200 + 56) 9216 + 255) / 256 ≤ 1 + 0 ∧ 1 + 0 < (min (200 + 57) 9216 + 255) / 256)
      (receiving 0 [] false true assembling) ∧
    (receiving 0 [] true true assembling).rx[(0 : PortId)].cur.map (fun r => r.overrun) = some true ∧
    ({ linkUp 0 s0 with mem := { s0.mem with free := [] } } : State).mem.free = [] := by
  decide +kernel

theorem witness_ReceiveChecksDropBadFrames :
    (receiving 0 [1] false false s0).ports[(0 : PortId)].link = true ∧
      (1 = (min (List.replicate 63 (0 : Byte)).length 9216 + 255) / 256 ∧
        (List.replicate 63 (0 : Byte)).length < 64) ∧
      (1 = (min (List.replicate 64 (0 : Byte)).length 9216 + 255) / 256 ∧
        64 ≤ (List.replicate 64 (0 : Byte)).length ∧
        (List.replicate 64 (0 : Byte)).length ≤ 9216 ∧ fcsMatches (List.replicate 64 0) = false) := by
  decide +kernel

theorem witness_ReceiveChecksDropBadFrames_oversize :
    36 = (min (List.replicate 9217 (0 : Byte)).length 9216 + 255) / 256 ∧
      9216 < (List.replicate 9217 (0 : Byte)).length := by
  simp only [List.length_replicate]; decide

/-- A frame of stream 12 under reception on L0, whose record has a role, a subject and a longest
length. -/
def streaming (role : StreamRole) (subject : Subject) (maxLength : Nat) : State :=
  receiving 0 [1] false false (s0.modStream 12 fun x =>
    { x with cfg := { x.cfg with key := 12, ingress := 1, egress := 2, role := role, subject := subject,
                                 maxLength := maxLength, valid := true } })

/-- The premises that every matched clause shares. -/
def isMatched (s : State) : Prop :=
  GoodArrival s 0 (dataFrame 12) arrival ∧ ordinary (dataFrame 12) ∧ s.matched 0 (dataFrame 12) 12

/-- An unmatched frame under both policies, without a record and with one that does not name the port. -/
theorem witness_ReceiveChecksDropBadFrames_unmatched :
    (fun s : State => GoodArrival s 0 (dataFrame 12) arrival ∧ ordinary (dataFrame 12) ∧
      s.unmatched 0 (dataFrame 12) ∧ s.ports[(0 : PortId)].cfg.unmatched = .drop)
      ((receiving 0 [1] false false s0).modPort 0 fun x =>
        { x with cfg := { x.cfg with unmatched := .drop } }) ∧
    (fun s : State => GoodArrival s 0 (dataFrame 12) arrival ∧ s.unmatched 0 (dataFrame 12) ∧
      s.ports[(0 : PortId)].cfg.unmatched = .default)
      ((streaming .plain .none 64).modPort 0 (fun x =>
          { x with cfg := { x.cfg with unmatched := .default } }) |>.modStream 12 fun x =>
        { x with cfg := { x.cfg with ingress := 2 } }) := by
  unfold ordinary State.unmatched
  exact ⟨⟨good_of (by decide +kernel), by decide +kernel, .inl (by decide +kernel), by decide +kernel⟩,
    ⟨good_of (by decide +kernel), .inr ⟨12, by decide +kernel⟩, by decide +kernel⟩⟩

/-- A matched frame one octet longer than its stream allows and one as long as it, in the roles PLAIN,
STATUS and VERDICT and as a command of a robot that is not armed. -/
theorem witness_ReceiveChecksDropBadFrames_matched :
    (fun s : State => isMatched s ∧ s.streams[(12 : StreamId)].cfg.maxLength < (dataFrame 12).length)
      (streaming .plain .none 63) ∧
    (fun s : State => isMatched s ∧ (dataFrame 12).length ≤ s.streams[(12 : StreamId)].cfg.maxLength ∧
      s.streams[(12 : StreamId)].cfg.role = .plain) (streaming .plain .none 64) ∧
    (fun s : State => isMatched s ∧ s.robots[(5 : RobotId)].cfg.statusStream = 12 ∧
      s.robots[(5 : RobotId)].damaged = false ∧ s.robots[(5 : RobotId)].ecc = .clean)
      ((streaming .status (.robot 5) 64).modRobot 5 fun b =>
        { b with cfg := { b.cfg with statusStream := 12 } }) ∧
    (fun s : State => isMatched s ∧ s.streams[(12 : StreamId)].cfg.role = .verdict)
      (streaming .verdict (.camera 0) 64) ∧
    (fun s : State => isMatched s ∧ s.streams[(12 : StreamId)].cfg.subject = .robot 5 ∧
      s.robots[(5 : RobotId)].state.armed = false) (streaming .command (.robot 5) 64) := by
  unfold isMatched ordinary State.matched
  exact ⟨⟨⟨good_of (by decide +kernel), by decide +kernel⟩, by decide +kernel⟩,
    ⟨⟨good_of (by decide +kernel), by decide +kernel⟩, by decide +kernel⟩,
    ⟨⟨good_of (by decide +kernel), by decide +kernel⟩, by decide +kernel⟩,
    ⟨⟨good_of (by decide +kernel), by decide +kernel⟩, by decide +kernel⟩,
    ⟨⟨good_of (by decide +kernel), by decide +kernel⟩, by decide +kernel⟩⟩

/-- A stored frame of one cell, and both windows ACTIVE with stream 12 in the mirror list of S1 alone,
under a limit of Q0 of S1. -/
def mirroring (limit : Nat) : State :=
  { queued 4 1 (dataFrame 12) s0 with
    device := { s0.device with limits := s0.device.limits.set 11 (Vector.replicate 4 limit) } }
    |>.modWindow 0 (fun x => { x with state := .active, mirror := [13] })
    |>.modWindow 1 (fun x => { x with state := .active, mirror := [13, 12] })

/-- A copy that fits the limit of Q0 of the window's port just so, and one that does not. -/
theorem witness_ReceiveChecksDropBadFrames_mirrored :
    (fun s : State =>
      s.mem.frames[(0 : CellId)] =
        some { cells := [0], octets := dataFrame 12, refs := 1, kind := .received } ∧
      s.windows[(1 : WindowId)].state = .active ∧ (12 : StreamId) ∈ s.windows[(1 : WindowId)].mirror ∧
      (12 : StreamId) ∉ s.windows[(0 : WindowId)].mirror ∧ (11 : PortId) = windowPort 1 ∧
      s.fitsLimit 0 1 11 = true) (mirroring 1) ∧
    (mirroring 0).fitsLimit 0 1 11 = false := by decide +kernel

theorem witness_ManagementFrameJoinsQueue :
    GoodArrival (receiving 0 [1] false false s0) 0 managementFrame arrival ∧
    (fun s : State => (0 : PortId).val < 10 ∧ s.ports[(0 : PortId)].cfg.mgmtAllowed = true ∧
      frameEtherType managementFrame = 0x88B5 ∧ frameDst managementFrame = s.station ∧
      isGroup (frameSrc managementFrame) = false ∧ s.mgmt.queue.length < 4)
      ((receiving 0 [1] false false s0).modMgmt fun m =>
        { m with queue := List.replicate 3 (request 0 3 []) }) :=
  ⟨good_of (by decide +kernel), by decide +kernel⟩

/-- A fourth request held, with room for the BUSY answer, and a request with a group source. -/
theorem witness_ManagementFrameJoinsQueue_busy :
    (fun s : State => 4 ≤ s.mgmt.queue.length ∧
      AnswerRoom s
        { port := 0, source := frameSrc managementFrame, vlan := frameVlan managementFrame
          payload := framePayload managementFrame } { status := .busy, body := [] })
      ((receiving 0 [1] false false s0).modMgmt fun m =>
        { m with queue := List.replicate 4 (request 0 3 []) }) ∧
    GoodArrival (receiving 0 [1] false false s0) 0
      (formFrame s0.station 0x010000000001 0 0x88B5 [1]) arrival ∧
    isGroup (frameSrc (formFrame s0.station 0x010000000001 0 0x88B5 [1])) = true := by
  unfold AnswerRoom
  exact ⟨by decide +kernel, good_of (by decide +kernel), by decide +kernel⟩

/-- A window of S1 in a state, at a level, with a technician, while one frame is under reception there
and stream 12 is for a subject. -/
def serving (st : WindowState) (level : ServiceLevel) (tech : Option Mac) (subject : Subject)
    (maxLength : Nat) : State :=
  receiving 11 [1] false false ((streaming .plain subject maxLength).modStream 12 fun x =>
      { x with cfg := { x.cfg with ingress := 0x800 } })
    |>.modWindow 1 fun x =>
      { x with state := st, level := level, technician := tech, robots := 0x20, cameras := 1 }

/-- A trap of each reason, with the premises of its clause. -/
theorem witness_ManagementFrameJoinsQueue_traps :
    GoodArrival (serving .closed .observe none .none 64) 11 (dataFrame 12) arrival ∧
    ordinary (dataFrame 12) ∧
    (serving .closed .observe none .none 64).trapsFor 1 (dataFrame 12) .closed ∧
    (serving .granted .observe none .none 64).trapsFor 1
      (formFrame 12 0x010000000001 0 0x0800 [1]) .groupSource ∧
    (serving .granted .observe (some 9) .none 64).trapsFor 1 (dataFrame 12) .foreignSource ∧
    (serving .active .observe (some controller) .none 64).trapsFor 1
      (formFrame 12 controller 0 0x88B5 [1]) .misdirected ∧
    (serving .active .observe (some controller) .none 64).trapsFor 1 (dataFrame 13) .unmatched ∧
    (serving .active .observe (some controller) .none 64).trapsFor 1 (dataFrame 12) .level ∧
    (serving .active .adjust (some controller) (.camera 1) 64).trapsFor 1 (dataFrame 12) .subject ∧
    (fun s : State => s.trapsFor 1 (dataFrame 12) .robotState)
      (robot610 .running 0 (serving .active .adjust (some controller) (.robot 5) 64)) ∧
    (serving .active .adjust (some controller) (.camera 0) 63).trapsFor 1 (dataFrame 12) .tooLong := by
  refine ⟨good_of (by decide +kernel), by unfold ordinary; decide +kernel, ?_, ?_, ?_, ?_, ?_, ?_, ?_,
    ?_, ?_⟩
  all_goals
    simp only [State.trapsFor, State.passesOn, ordinary, State.unmatched, State.matched]
  · decide +kernel
  · decide +kernel
  · decide +kernel
  · decide +kernel
  · exact ⟨by decide +kernel, by decide +kernel, .inl (by decide +kernel)⟩
  · exact ⟨by decide +kernel, by decide +kernel, by decide +kernel, 12, by decide +kernel⟩
  · exact ⟨by decide +kernel, by decide +kernel, by decide +kernel, 12, by decide +kernel,
      by unfold ServiceWindow.covers; decide +kernel⟩
  · exact ⟨by decide +kernel, by decide +kernel, by decide +kernel, 12, by decide +kernel,
      by unfold ServiceWindow.covers; decide +kernel, by unfold State.robotAllows; decide +kernel⟩
  · exact ⟨by decide +kernel, by decide +kernel, by decide +kernel, 12, by decide +kernel,
      by unfold ServiceWindow.covers; decide +kernel, by unfold State.robotAllows; decide +kernel,
      by decide +kernel⟩

/-- The trap action, the activation at and below MAINTAIN, a technician's request and an injection, each
with the rest of its premises. -/
theorem witness_ManagementFrameJoinsQueue_service :
    (serving .active .adjust (some 9) .none 64).windows[(1 : WindowId)].trapCloses = false ∧
    ((serving .active .adjust (some 9) .none 64).modWindow 1 fun x =>
      { x with trapCloses := true }).windows[(1 : WindowId)].trapCloses = true ∧
    (fun s : State => s.windows[(1 : WindowId)].state = .granted ∧
      s.windows[(1 : WindowId)].technician = none ∧ isGroup (frameSrc (dataFrame 12)) = false ∧
      s.windows[(1 : WindowId)].level = .maintain ∧ s.windows[(1 : WindowId)].trapCloses = false ∧
      s.windows[(1 : WindowId)].robots.getLsbD (5 : RobotId).val = true ∧
      s.robots[(5 : RobotId)].state = .parked ∧
      s.windows[(1 : WindowId)].heldSet.getLsbD (5 : RobotId).val = false)
      (robot610 .parked 0 (serving .granted .maintain none .none 64)) ∧
    (serving .granted .adjust (some controller) .none 64).windows[(1 : WindowId)].technician =
      some (frameSrc (dataFrame 12)) ∧
    (11 : PortId) = windowPort 1 ∧
    (serving .active .adjust (some controller) .none 64).passesOn 1 managementFrame ∧
    (fun s : State => s.passesOn 1 (dataFrame 12) ∧ s.matched 11 (dataFrame 12) 12 ∧
      s.windows[(1 : WindowId)].level ≠ .observe ∧
      s.windows[(1 : WindowId)].covers s.streams[(12 : StreamId)].cfg ∧
      s.robotAllows 1 s.streams[(12 : StreamId)].cfg ∧
      (dataFrame 12).length ≤ s.streams[(12 : StreamId)].cfg.maxLength)
      (serving .active .adjust (some controller) (.camera 0) 64) := by
  unfold State.passesOn State.matched ServiceWindow.covers State.robotAllows
  decide +kernel

/-- The first frame of a MAINTAIN window under trap action CLOSE, which no stream matches: it is a trap. -/
theorem witness_ManagementFrameJoinsQueue_closing :
    (fun s : State => s.windows[(1 : WindowId)].level = .maintain ∧
      s.windows[(1 : WindowId)].trapCloses = true ∧ s.robots[(5 : RobotId)].state = .parked ∧
      (s.modWindow 1 fun x =>
        { x with state := .active, technician := some (frameSrc (dataFrame 13)) }).trapsFor 1
        (dataFrame 13) .unmatched)
      ((robot610 .parked 0 (serving .granted .maintain none .none 64)).modWindow 1 fun x =>
        { x with trapCloses := true }) := by
  refine ⟨by decide +kernel, by decide +kernel, by decide +kernel, ?_⟩
  simp only [State.trapsFor, State.passesOn, ordinary, State.unmatched]
  exact ⟨by decide +kernel, by decide +kernel, .inl (by decide +kernel)⟩

/-- The same window with a management frame to the station, which is no trap. -/
theorem witness_ManagementFrameJoinsQueue_activating :
    ∀ reason, ¬(((robot610 .parked 0 (serving .granted .maintain none .none 64)).modWindow 1 fun x =>
        { x with trapCloses := true }).modWindow 1 fun x =>
      { x with state := .active, technician := some (frameSrc managementFrame) }).trapsFor 1
      managementFrame reason := by
  have h : ¬ordinary managementFrame := by unfold ordinary; decide +kernel
  intro reason
  cases reason <;>
    simp only [State.trapsFor, State.passesOn, h, false_and, and_false, not_false_eq_true] <;>
    decide +kernel

/-- A range reply with sequence number 5 and times t2 and t3, and a range probe. -/
def replyOctets (t2 t3 : HallTime) : Octets :=
  formFrame s0.station controller 0 0x88B8
    ([1, 0, 0, 5] ++ timestampBytes t2 ++ timestampBytes t3)
def probeOctets : Octets := formFrame s0.station controller 0 0x88B7 [1, 0, 0, 5]

/-- A port with a timing and one frame under reception, and an outstanding probe. -/
def ranging (timing : Timing) (probe : Option Probe) : State :=
  receiving 4 [1] false false s0 |>.modPort 4 (fun x => { x with cfg := { x.cfg with timing := timing } })
    |>.modClock fun c => { c with probe := probe }

/-- A reply with nanoseconds out of range; one to no probe; one whose sample is 0 at the receive time 0,
and one whose sample is below 0; and a probe to answer. -/
theorem witness_ManagementFrameJoinsQueue_ranging :
    GoodArrival (ranging .timeUp none) 4 (replyOctets ⟨0, 1000000000, 0⟩ ⟨0, 0, 0⟩) arrival ∧
    GoodArrival (ranging .timeUp none) 4 (replyOctets ⟨0, 9, 0⟩ ⟨0, 9, 0⟩) arrival ∧
    GoodArrival (ranging .timeDown none) 4 probeOctets arrival ∧
    (999999999 < (timestampOf (slice (framePayload (replyOctets ⟨0, 1000000000, 0⟩ ⟨0, 0, 0⟩)) 4 12)).ns ∧
      frameEtherType (replyOctets ⟨0, 9, 0⟩ ⟨0, 9, 0⟩) = 0x88B8 ∧
      5 = field (framePayload (replyOctets ⟨0, 9, 0⟩ ⟨0, 9, 0⟩)) 2 2 ∧
      ⟨0, 9, 0⟩ = timestampOf (slice (framePayload (replyOctets ⟨0, 9, 0⟩ ⟨0, 9, 0⟩)) 4 12) ∧
      ⟨0, 9, 0⟩ = timestampOf (slice (framePayload (replyOctets ⟨0, 9, 0⟩ ⟨0, 9, 0⟩)) 16 12) ∧
      (ranging .timeUp (some ⟨5, some ⟨0, 0, 0⟩⟩)).clock.probe = some ⟨5, some ⟨0, 0, 0⟩⟩ ∧
      (0 : Int) = Int.tdiv (HallTime.diff arrival.recvTime ⟨0, 0, 0⟩ -
        HallTime.diff ⟨0, 9, 0⟩ ⟨0, 9, 0⟩) 131072 ∧
      Int.tdiv (HallTime.diff arrival.recvTime ⟨0, 8, 0⟩ -
        HallTime.diff ⟨0, 9, 0⟩ ⟨0, 9, 0⟩) 131072 < 0 ∧
      (ranging .timeUp none).ports[(4 : PortId)].cfg.timing = .timeUp ∧
      frameEtherType probeOctets = 0x88B7 ∧
      (ranging .timeDown none).fitsLimit 2 1 4 = true) := by
  exact ⟨good_of (by decide +kernel), good_of (by decide +kernel), good_of (by decide +kernel),
    by decide +kernel⟩

/-- A time mark on a TIME_UP port and off it, a range probe and a range reply off theirs, and management
frames that are not allowed and that are to another destination. -/
theorem witness_ManagementFrameJoinsQueue_special :
    GoodArrival (ranging .timeUp none) 4 (markOctets 5000 0 0) arrival ∧
    GoodArrival (receiving 0 [1] false false s0) 0 (formFrame 9 controller 0 0x88B5 [1]) arrival ∧
    (frameEtherType (markOctets 5000 0 0) = 0x88B6 ∧
      (ranging .timeUp none).ports[(4 : PortId)].cfg.timing = .timeUp ∧
      (ranging .timeDown none).ports[(4 : PortId)].cfg.timing ≠ .timeUp ∧
      (ranging .none none).ports[(4 : PortId)].cfg.timing ≠ .timeDown ∧
      frameEtherType probeOctets = 0x88B7 ∧
      frameEtherType (replyOctets ⟨0, 9, 0⟩ ⟨0, 9, 0⟩) = 0x88B8 ∧
      frameDst (formFrame 9 controller 0 0x88B5 [1]) ≠ s0.station ∧
      s0.ports[(10 : PortId)].cfg.mgmtAllowed = false ∧
      (s0.modPort 0 fun x => { x with cfg := { x.cfg with mgmtAllowed := false }
        }).ports[(0 : PortId)].cfg.mgmtAllowed = false) := by
  exact ⟨good_of (by decide +kernel), good_of (by decide +kernel), by decide +kernel⟩

theorem witness_AssemblerFollowsMarkers :
    s0.ports[(0 : PortId)].cfg.rxPreempt = false ∧
      assembling.ports[(0 : PortId)].cfg.rxPreempt = true ∧
      assembling.ports[(0 : PortId)].link = true ∧
      assembling.rx[(0 : PortId)].cur.map (fun r => (r.marked, r.overrun)) = some (true, false) ∧
      64 ≤ (List.replicate 64 (3 : Byte)).length ∧ (List.replicate 64 (3 : Byte)).length ≤ 9216 ∧
      [(5 : CellId)].length = ((List.replicate 64 (3 : Byte)).length + 255) / 256 ∧
      [(9 : CellId)].length + [(5 : CellId)].length =
        ((List.replicate 200 (1 : Byte)).length + (List.replicate 64 (3 : Byte)).length + 255) / 256 ∧
      assembling.rx[(0 : PortId)].asm.map (fun a => a.expect) = some 7 ∧ (6 : Fin 8) ≠ 7 := by
  decide +kernel

/-- A NEXT piece that found the free list empty, one cell short of what its frame needs. -/
theorem witness_AssemblerFollowsMarkers_overrun :
    (fun s : State => s.rx[(0 : PortId)].cur.map (fun r => (r.marked, r.overrun, r.cells)) =
        some (true, true, []) ∧
      [(9 : CellId)].length + 0 <
        (min ((List.replicate 200 (1 : Byte)).length + (List.replicate 64 (3 : Byte)).length) 9216 +
          255) / 256)
      (receiving 0 [] true true assembling) := by decide +kernel

/-- A FIRST piece that found the free list empty; last pieces, FIRST in IDLE and the expected NEXT; and
pieces of 63 octets of data, with a piece check and without. -/
theorem witness_AssemblerFollowsMarkers_more :
    (fun s : State => s.rx[(0 : PortId)].asm = none ∧
      s.rx[(0 : PortId)].cur.map (fun r => (r.marked, r.overrun, r.cells)) = some (true, true, []) ∧
      ([] : List CellId).length < (min (List.replicate 64 (3 : Byte)).length 9216 + 255) / 256)
      ((receiving 0 [] true true assembling).modRx 0 fun x => { x with asm := none }) ∧
    (64 ≤ (List.replicate 64 (3 : Byte)).length ∧
      endsWithPieceCheck (List.replicate 64 3) = false ∧
      [(5 : CellId)].length = (min (List.replicate 64 (3 : Byte)).length 9216 + 255) / 256 ∧
      ([(9 : CellId)] ++ [5]).length =
        (min (List.replicate 200 (1 : Byte) ++ List.replicate 64 3).length 9216 + 255) / 256) ∧
    (List.replicate 63 (3 : Byte)).length < 64 ∧
      endsWithPieceCheck (List.replicate 63 3) = false := by decide +kernel

/-- In ASSEMBLING, a FIRST piece that found the free list empty, and a last FIRST piece. -/
theorem witness_AssemblerFollowsMarkers_first :
    (fun s : State => s.rx[(0 : PortId)].asm.isSome = true ∧
      s.rx[(0 : PortId)].cur.map (fun r => (r.marked, r.overrun, r.cells)) = some (true, true, []) ∧
      ([] : List CellId).length < (min (List.replicate 64 (3 : Byte)).length 9216 + 255) / 256)
      (receiving 0 [] true true assembling) ∧
    (fun s : State => s.rx[(0 : PortId)].asm.isSome = true ∧
      s.rx[(0 : PortId)].cur.map (fun r => (r.marked, r.cells.length)) = some (true, 1) ∧
      64 ≤ (List.replicate 64 (3 : Byte)).length ∧ endsWithPieceCheck (List.replicate 64 3) = false ∧
      1 = (min (List.replicate 64 (3 : Byte)).length 9216 + 255) / 256) assembling := by decide +kernel

/-- An empty queue has no head that may start. -/
theorem not_ready_of_empty {s : State} {p : PortId} {q : QueueId} (h : s.egress[p].queues[q] = []) :
    ¬s.queueReady p q := by
  rintro ⟨x, hx, -⟩
  rw [h] at hx
  cases hx

/-- A queue whose head may not start is not ready. -/
theorem not_ready_of_head {s : State} {p : PortId} {q : QueueId} {x : QEntry} {rest : List QEntry}
    (h : s.egress[p].queues[q] = x :: rest) (n : ¬s.mayStart p q x) : ¬s.queueReady p q := by
  rintro ⟨y, hy, m⟩
  rw [h] at hy
  cases hy
  exact n m

/-- The head of Q1 of L4 in OPEN. -/
theorem witness_TransmitterTakesHighest :
    (fun s : State => s.ports[(4 : PortId)].link = true ∧ s.egress[(4 : PortId)].tx = none ∧
      s.egress[(4 : PortId)].idleUntil ≤ s.clock.ticks ∧
      s.egress[(4 : PortId)].queues[(1 : QueueId)] = newEntry 0 .normal :: [] ∧
      s.mayStart 4 1 (newEntry 0 .normal) ∧ (∀ q : QueueId, 1 < q → ¬s.queueReady 4 q) ∧
      ∀ recv carried void, s.kindOf 0 ≠ .relayed recv carried void)
      (queued 4 1 [1, 2] (linkUp 4 s0)) ∧
    (∀ q : QueueId, s0.egress[(4 : PortId)].queues[q] = []) := by
  refine ⟨⟨by decide +kernel, by decide +kernel, by decide +kernel, by decide +kernel,
    by unfold State.mayStart; decide +kernel, fun q h => ?_, fun _ _ _ h => ?_⟩, by decide +kernel⟩
  · refine not_ready_of_empty ?_
    revert h
    revert q
    decide +kernel
  · rw [show (queued 4 1 [1, 2] (linkUp 4 s0)).kindOf 0 = .received by decide +kernel] at h
    cases h

/-- A frame of these lengths at the heads of Q1 and Q0 of L4, in window 0 of section 6.10's list, whose
gates close at 250,000 ns. -/
def choosing (ns q1 q0 : Nat) : State :=
  running 4 list610 0 0 0 (atTime 0 ⟨0, ns, 0⟩ (linkUp 4 s0))
    |>.modMem (fun m =>
      { m with frames := (m.frames.set 0 (some ⟨[0], List.replicate q1 1, 1, .received⟩)).set 1
                 (some ⟨[1], List.replicate q0 1, 1, .received⟩) })
    |>.modEgress 4 fun e =>
      { e with queues := #v[[newEntry 1 .normal], [newEntry 0 .normal], [], []] }

/-- In RUNNING: frames of 64 octets, which take 576 ns, at the last instant that they fit and 1 ns after
it, where both heads are held back and nothing is ready; Q0's fitting while Q1's is held back; and a
remainder whose gate is open. -/
theorem witness_TransmitterTakesHighest_windows :
    (choosing 249424 64 64).mayStart 4 1 (newEntry 0 .normal) ∧
    ((∀ q : QueueId, ¬(choosing 249425 64 64).queueReady 4 q) ∧
      [(1 : QueueId), 0] = [(1 : QueueId), 0].filter ((choosing 249425 64 64).heldBack 4)) ∧
    ((choosing 249424 65 64).mayStart 4 0 (newEntry 1 .normal) ∧
      (∀ q : QueueId, 0 < q → ¬(choosing 249424 65 64).queueReady 4 q) ∧
      (choosing 249424 65 64).heldBack 4 1 = true) ∧
    (fun s : State => s.egress[(4 : PortId)].remainder = some ⟨0, 1, .normal, [1], 64, 0⟩ ∧
      s.gates[(4 : PortId)].isOpen 1 = true ∧ ¬s.queueReady 4 3 ∧ ¬s.queueReady 4 2)
      ((choosing 0 64 64).modEgress 4 fun e => { e with remainder := some ⟨0, 1, .normal, [1], 64, 0⟩ }) := by
  have express : ∀ (ns a b : Nat) (q : QueueId), 1 < q → ¬(choosing ns a b).queueReady 4 q := by
    intro ns a b q h
    have h : q = 2 ∨ q = 3 := by revert h; revert q; decide
    obtain rfl | rfl := h <;> exact not_ready_of_empty rfl
  have late : ∀ q : QueueId, ¬(choosing 249425 64 64).queueReady 4 q := by
    intro q
    by_cases h : 1 < q
    · exact express _ _ _ q h
    · have h : q = 0 ∨ q = 1 := by revert h; revert q; decide
      obtain rfl | rfl := h
      all_goals exact not_ready_of_head rfl (by unfold State.mayStart; decide +kernel)
  refine ⟨by unfold State.mayStart; decide +kernel, ⟨late, by decide +kernel⟩,
    ⟨by unfold State.mayStart; decide +kernel, fun q h => ?_, by decide +kernel⟩,
    by decide +kernel, by decide +kernel, not_ready_of_empty (by decide +kernel),
    not_ready_of_empty (by decide +kernel)⟩
  by_cases h1 : 1 < q
  · exact express _ _ _ q h1
  · obtain rfl : q = 1 := by revert h h1; revert q; decide
    exact not_ready_of_head rfl (by unfold State.mayStart; decide +kernel)

/-- A gate that closes in the cycle in progress, in the next one, across a fixed switch-over and from a
target boundary on, and one that does not close; and a frame that fits just so and does not 1 ns later. -/
theorem witness_TransmitterTakesHighest_closing :
    (fun g : Gate => g.closing 1 = some 250000 ∧ g.closing 2 = some 250000 ∧ g.active = some list610 ∧
      0 < list610.cycle ∧ g.fits 4 1 64 ⟨0, 249424, 0⟩ = true ∧ g.fits 4 1 64 ⟨0, 249425, 0⟩ = false ∧
      (⟨0, 249424, 0⟩ : HallTime).wf = true ∧
      (((⟨0, 249424, 0⟩ : HallTime).units : Int) - g.nextBoundary * 4294967296).natAbs <
        2 ^ 46 * 1000000000 * 4294967296) (running 4 list610 0 0 0 s0).gates[(4 : PortId)] ∧
    (running 4 list610 0 2 0 s0).gates[(4 : PortId)].closing 0 = some 750000 ∧
    (commit59 .opened).gates[(4 : PortId)].closing 0 = some 100000000000 ∧
    (commit59 .opened).gates[(4 : PortId)].closing 3 = some 100000040000 ∧
    ({ (commit59 .opened).gates[(4 : PortId)] with mode := .resync, commit := false, target := 3
      } : Gate).closing 3 = some 1500000 ∧
    s0.gates[(4 : PortId)].closing 3 = none := by decide +kernel

/-- A relayed copy at the head of Q2 of L4: void, with a new carried delay of 1 s and one unit more. -/
theorem witness_TransmitterTakesHighest_relayed :
    (fun s : State => ¬s.queueReady 4 3 ∧
      s.egress[(4 : PortId)].queues[(2 : QueueId)] = newEntry 0 .normal :: [] ∧
      s.mayStart 4 2 (newEntry 0 .normal) ∧ s.kindOf 0 = .relayed ⟨0, 64, 0⟩ 65536000000000 true ∧
      (65536000000000 : Int) = 65536000000000 + s.clock.delay.getD 0 +
        Int.tdiv (HallTime.diff (s.transmitTime 4) ⟨0, 64, 0⟩) 65536 ∧
      (65536000000000 : Int) < 65536000000001 + s.clock.delay.getD 0 +
        Int.tdiv (HallTime.diff (s.transmitTime 4) ⟨0, 64, 0⟩) 65536)
      ((queued 4 2 [] (linkUp 4 s0)).modMem fun m =>
        { m with frames := m.frames.set 0 (some
          { cells := [0], octets := markOctets 0 0 0, refs := 1,
            kind := .relayed ⟨0, 64, 0⟩ 65536000000000 true }) }) := by
  exact ⟨not_ready_of_empty (by decide +kernel), by decide +kernel,
    by unfold State.mayStart; decide +kernel, by decide +kernel⟩

theorem witness_PiecesEnd :
    (fun s : State => s.egress[(4 : PortId)].tx = some (sending 200 (some 64)) ∧
      0 + (8 + 64 + 4) * 1 ≤ s.clock.ticks)
      (s0.modEgress 4 (fun e => { e with tx := some (sending 200 (some 64)) }) |>.modClock fun c =>
        { c with ticks := 76 }) ∧
    (fun s : State => s.egress[(10 : PortId)].tx = some (sending 64 none) ∧
      s.kindOf (sending 64 none).frame = .received ∧ s.mgmt.restart = none ∧
      (sending 64 none).octets ≠ [] ∧ 0 + (8 + (64 - 0)) * 10 ≤ s.clock.ticks)
      (s0.modEgress 10 (fun e => { e with tx := some (sending 64 none) }) |>.modClock fun c =>
        { c with ticks := 720 }) := by decide +kernel

/-- A piece whose last octet is sent, of a frame of a kind, while a RESTART waits for its answer. -/
def sent (kind : FrameKind) (answer : CellId) : State :=
  s0.modEgress 4 (fun e => { e with tx := some (sending 64 none) })
    |>.modClock (fun c => { c with ticks := 72 })
    |>.modMem (·.store { cells := [0], octets := List.replicate 64 5, refs := 1, kind := kind })
    |>.modMgmt fun _ =>
      { queue := [request 0 5 []],
        restart := some { answer := some answer, builtAt := 0, due := false } }

/-- A range probe, a range reply and a relayed mark; and the answer of the RESTART and another frame. -/
theorem witness_PiecesEnd_kinds :
    (sent (.rangeProbe 7) 0).kindOf 0 = .rangeProbe 7 ∧ (sent .rangeReply 0).kindOf 0 = .rangeReply ∧
    (sent (.relayed ⟨0, 0, 0⟩ 5 false) 0).kindOf 0 = .relayed ⟨0, 0, 0⟩ 5 false ∧
    (sent .answer 0).kindOf 0 ∈ [FrameKind.received, .notice, .answer, .triggerNote, .holdFrame] ∧
    (sent .answer 0).mgmt.restart.bind RestartWait.answer = some (sending 64 none).frame ∧
    (sent .answer 9).mgmt.restart.bind RestartWait.answer ≠ some (sending 64 none).frame ∧
    0 + (8 + (64 - 0)) * 1 ≤ (sent .answer 0).clock.ticks := by decide +kernel

/-- A piece that may be cut, at a position, as a frame joins Q3 of its port. -/
def cutting (ticks : Nat) (t : Tx) : State :=
  s0.modEgress 4 (fun e => { e with tx := some t }) |>.modClock fun c => { c with ticks := ticks }

/-- The first cut point is 64, up to the instant of its octet; then the one at the position; and none once
64 octets do not remain, in a frame of 127 octets, or without a trigger. -/
theorem witness_PiecesEnd_cut :
    (fun cut : Nat → Nat → Option Nat =>
      cut 0 200 = some 64 ∧ cut 72 200 = some 64 ∧ cut 73 200 = some 65 ∧ cut 144 200 = some 136 ∧
        cut 145 200 = none ∧ cut 0 127 = none ∧ cut 0 128 = some 64)
      (fun ticks n => ((enqueue 4 3 (newEntry 9 .normal) (cutting ticks (sending n none))
        ).egress[(4 : PortId)].tx.bind Tx.cutAt)) ∧
    (enqueue 4 1 (newEntry 9 .normal) (cutting 0 (sending 200 none))).egress[(4 : PortId)].tx =
      some (sending 200 none) ∧
    (fun s : State => (after (.openGridBoundary 4) s).gates[(4 : PortId)] ≠ s.gates[(4 : PortId)])
      (atTime 0 ⟨0, 1000000, 0⟩ (cutting 0 (sending 200 none))) := by decide +kernel

theorem witness_WindowTimesPass :
    (fun s : State => s.windows[(1 : WindowId)].state ≠ .closed ∧
      s.windows[(1 : WindowId)].warned = false ∧
      (s.windows[(1 : WindowId)].endTime - s.clock.run) / 1000 ≤ 60000 ∧
      s.clock.run < s.windows[(1 : WindowId)].endTime)
      (s0.modWindow 1 fun x => { x with state := .granted, endTime := 60000999 }) ∧
    (fun s : State => s.windows[(1 : WindowId)].state ≠ .closed ∧
      s.windows[(1 : WindowId)].endTime ≤ s.clock.run ∧
      (s.windows[(1 : WindowId)].endTime - s.clock.run) / 1000 ≤ 60000)
      (s0.modWindow 1 fun x => { x with state := .active }) := by decide +kernel

/-- After a reset no counter is near a point of R181. -/
theorem counter_reset_le (c : CounterRef) : s0.counter c ≤ 1 := by
  cases c with
  | device c => cases c <;> first | decide +kernel | (rename_i k; cases k <;> decide +kernel)
  | port p c =>
    simp [s0, State.reset, State.afterReset, Counters.reset, Counters.zero, State.counter,
      Counters.get]
  | stream i c =>
    simp [s0, State.reset, State.afterReset, Counters.reset, Counters.zero, State.counter,
      Counters.get]
  | robot r c =>
    simp [s0, State.reset, State.afterReset, Counters.reset, Counters.zero, State.counter,
      Counters.get]
  | controllerLosses =>
    simp [s0, State.reset, State.afterReset, Counters.reset, Counters.zero, State.counter,
      Counters.get]
  | camera k c =>
    simp [s0, State.reset, State.afterReset, Counters.reset, Counters.zero, State.counter,
      Counters.get]
  | service w c =>
    simp [s0, State.reset, State.afterReset, Counters.reset, Counters.zero, State.counter,
      Counters.get]
  | clock c =>
    simp [s0, State.reset, State.afterReset, Counters.reset, Counters.zero, State.counter,
      Counters.get]
  | tracker c =>
    simp [s0, State.reset, State.afterReset, Counters.reset, Counters.zero, State.counter,
      Counters.get]
  | reject c =>
    simp [s0, State.reset, State.afterReset, Counters.reset, Counters.zero, State.counter,
      Counters.get]

theorem witness_CountersSaturateAndNotice_quiet (v : Nat) (d : CounterRef) (h : d.ofNotices = true) :
    Uncrossed ((firesAt v).counter d) 2 := by
  have e : (firesAt v).counter d = s0.counter d := by cases d <;> first | rfl | cases h
  have := counter_reset_le d
  unfold Uncrossed Config.counterHalf Config.counterMax
  omega

/-- So a command that counts and raises little is quiet. -/
theorem quiet_at_reset (l : List CounterRef) (n : Nat) (h : l.length + n < 2147483647) :
    Quiet s0 l n := by
  intro c _
  have h1 := counter_reset_le c
  have h2 : l.count c ≤ l.length := List.count_le_length
  unfold Uncrossed Config.counterHalf Config.counterMax
  omega

/-- A device whose notices go to L5. -/
def noticesTo5 (s : State) : State :=
  { s with device := { s.device with noticeDest := some ⟨controller, 0, 5⟩ } }

/-- The frame of its first attempt. -/
def firstNotice : Octets :=
  formFrame controller s0.station 0 0x88B9 (noticePayload s0.notices (s0.notices.records.take 16))

theorem witness_NoticeAttemptSends :
    (fun s : State => s.device.noticeDest = some ⟨controller, 0, 5⟩ ∧ s.notices.records ≠ [] ∧
      s.notices.lastAttempt = none ∧ s.ports[(5 : PortId)].link = true ∧
      s.fitsLimit 2 (cellsFor firstNotice.length) 5 = true ∧
      cellsFor firstNotice.length ≤ s.mem.free.length) (linkUp 5 (noticesTo5 s0)) ∧
    (noticesTo5 s0).ports[(5 : PortId)].link = false ∧ s0.device.noticeDest = none := by decide +kernel

theorem witness_NoticeAttemptSends_quiet :
    Quiet (linkUp 5 (noticesTo5 s0)) [.device .noticeFramesBuilt] 0 ∧
      Quiet (noticesTo5 s0) [.device (.generationDrops .notice)] 0 :=
  ⟨quiet_at_reset _ 0 (by decide), quiet_at_reset _ 0 (by decide)⟩

theorem witness_RestartCarriedOutFreesTheFramePath :
    (fun s : State => s.mgmt.restart = some ⟨none, 0, true⟩)
      (s0.modMgmt fun m => { m with restart := some ⟨none, 0, true⟩ }) ∧
    (fun s : State => s.mgmt.restart = some ⟨some 3, 50, false⟩ ∧ 50 + 10000 ≤ s.clock.run)
      (atRun 10050 s0 |>.modMgmt fun m => { m with restart := some ⟨some 3, 50, false⟩ }) := by
  decide +kernel

/-! ### Requests -/

/-- The hypotheses that every request statement shares, met by a request from L0. -/
theorem witness_LineRequest (kind : Fin 19) :
    LineRequest (withRequest (request 0 kind.val []) s0) (request 0 kind.val []) kind.val :=
  line_of (by revert kind; decide +kernel)

theorem witness_ReadsAnswerAndChangeNothing :
    LineRequest (withRequest (request 0 1 [4, 1, 0, 3]) s0) (request 0 1 [4, 1, 0, 3]) 1 ∧
      tableOf 4 = some .camera ∧ 3 < TableId.camera.size ∧
      (request 0 1 [4, 1, 0, 3]).body = beBytes 1 4 ++ [1] ++ beBytes 2 3 ∧
      (request 0 3 [0, 0, 0, 11]).row = .readCounters ∧ 4 ≤ (request 0 3 [0, 0, 0, 11]).body.length ∧
      counterSubject (request 0 3 [0, 0, 0, 11]).body = .ok (.port 11) ∧
      field (request 0 3 [0, 0, 0, 11]).body 1 1 = 0 ∧
      stateSubject (request 0 4 [2, 0, 0]).body = .ok .clock ∧
      stateSubject (request 0 4 [4, 0, 0]).body = .ok .controller ∧
      3 ≤ (request 0 4 [4, 0, 0]).body.length := by
  refine ⟨line_of (by decide +kernel), ?_⟩
  decide +kernel

/-- The last record of the STREAM, ROBOT and HOLD FRAME tables, and a state record of every kind that
needs no operand, of the last of its subjects. -/
theorem witness_ReadsAnswerAndChangeNothing_tables :
    tableOf 1 = some .stream ∧ 255 + 1 ≤ TableId.stream.size ∧ tableOf 2 = some .robot ∧
      23 + 1 ≤ TableId.robot.size ∧ tableOf 3 = some .holdFrame ∧ 23 + 1 ≤ TableId.holdFrame.size ∧
      (request 0 1 [2, 24, 0, 0]).body = beBytes 1 2 ++ beBytes 1 24 ++ beBytes 2 0 ∧
      (s0.streams[(255 : StreamId)].damaged = false ∧ s0.streams[(255 : StreamId)].ecc = .clean) ∧
      (∀ r : RobotId, s0.robots[r].damaged = false ∧ s0.robots[r].ecc = .clean ∧
        s0.holdFrames[r].length ≤ 256) ∧
      stateSubject (request 0 4 [3, 0, 23]).body = .ok (.robot 23) ∧
      field (request 0 4 [3, 0, 23]).body 0 1 ≠ 6 ∧
      (answerFrame s0.station (request 0 4 [3, 0, 23])
        { status := .ok, body := (stateRecord (.robot 23) s0).2 }).length ≤ 9216 := by decide +kernel

theorem witness_ReadAndClearZeroesSubject :
    LineRequest (withRequest (request 0 3 [2, 1, 0, 24]) s0) (request 0 3 [2, 1, 0, 24]) 3 ∧
      (request 0 3 [2, 1, 0, 24]).row = .readAndClearCounters ∧
      4 ≤ (request 0 3 [2, 1, 0, 24]).body.length ∧
      counterSubject (request 0 3 [2, 1, 0, 24]).body = .ok .controller ∧
      CounterSubject.controller ≠ .device := by
  refine ⟨line_of (by decide +kernel), ?_⟩
  decide +kernel

/-- Room for an answer on an UP port right after a reset. -/
theorem witness_AnswerRoom :
    AnswerRoom (withRequest (request 0 8 [1]) (linkUp 0 s0)) (request 0 8 [1])
      { status := .ok, body := [] } := by
  refine ⟨?_, ?_, ?_⟩ <;> decide +kernel

/-- Records as WRITE TABLE carries them. -/
def portBytes : Octets := [1, 1, 2, 0, 0, 1, 0, 0xE0, 0]
def streamBytes : Octets :=
  [0x01, 0x3C, 0x00, 0x00, 0x02, 0x05, 0, 20, 0, 0x08, 0, 0x89, 2, 0, 2, 2, 0x24, 0x00, 1, 0]
def robotBytes : Octets :=
  [12, 13, 1, 1, 0, 2, 0x01, 0x01, 0, 0x03, 0x0D, 0x40, 2, 2, 0, 0xFF, 0, 0, 0, 0]

theorem witness_WritesStoreRecords_port :
    LineRequest (withRequest (request 0 2 ([0, 1] ++ beBytes 2 9 ++ portBytes)) s0)
        (request 0 2 ([0, 1] ++ beBytes 2 9 ++ portBytes)) 2 ∧
      (request 0 2 ([0, 1] ++ beBytes 2 9 ++ portBytes)).body = [0, 1] ++ beBytes 2 9 ++ portBytes ∧
      portBytes.length = 9 ∧
      (decodePort portBytes).map (fun c =>
        decide (c.role ≠ .service ∧ c.timing ≠ .timeUp) && c.rxPreempt) = some true ∧
      s0.ports[(9 : PortId)].cfg.role ≠ .robot := by
  refine ⟨line_of (by decide +kernel), ?_⟩
  decide +kernel

/-- PORT records that are refused: a code outside its values, role SERVICE on a
line port and another role on S0, a second TIME_UP port, and a port that a robot uses and one that none
does. -/
theorem witness_WritesStoreRecords_port_refused :
    decodePort [9, 0, 0, 0, 1, 0, 0, 0, 0] = none ∧
    (decodePort [0, 0, 0, 0, 1, 0, 0, 0, 0]).map (fun c =>
        decide (c.timing = .timeUp ∧ c.role ≠ .robot ∧ c.role ≠ .camera ∧ c.role ≠ .service) &&
          !c.rxPreempt) = some true ∧
    (decodePort (s0.ports[(10 : PortId)].bytes)).map (fun c => decide (c.role = .service)) = some true ∧
    (s0.modPort 3 fun x => { x with cfg := { x.cfg with timing := .timeUp }
      }).ports[(3 : PortId)].cfg.timing = .timeUp ∧
    (∀ x : PortId, s0.ports[x].cfg.timing ≠ .timeUp) ∧
    (fun s : State => s.ports[(6 : PortId)].cfg.role = .robot ∧ s.robots[(5 : RobotId)].port = some 6 ∧
      s.robots[(5 : RobotId)].state ≠ .idle)
      ((robot610 .running 0 s0).modPort 6 fun x => { x with cfg := { x.cfg with role := .robot } }) ∧
    (fun s : State => s.ports[(9 : PortId)].cfg.role = .robot ∧
      ∀ r : RobotId, s.robots[r].port ≠ some 9)
      (s0.modPort 9 fun x => { x with cfg := { x.cfg with role := .robot } }) := by decide +kernel

theorem witness_WritesStoreRecords_stream :
    LineRequest (withRequest (request 0 2 ([1, 1] ++ beBytes 2 255 ++ streamBytes)) s0)
        (request 0 2 ([1, 1] ++ beBytes 2 255 ++ streamBytes)) 2 ∧
      (request 0 2 ([1, 1] ++ beBytes 2 255 ++ streamBytes)).body =
        [1, 1] ++ beBytes 2 255 ++ streamBytes ∧ streamBytes.length = 20 ∧
      (decodeStream streamBytes).map (fun c =>
        decide (c.role ≠ .status ∧ c.role ≠ .command ∧ c.role ≠ .verdict) && c.valid) = some true ∧
      (∀ j : StreamId, s0.streams[j].cfg.valid = false) ∧
      (∀ r : RobotId, s0.robots[r].state = .idle) := by
  refine ⟨line_of (by decide +kernel), ?_⟩
  decide +kernel

/-- STREAM records that are refused: a VLAN id of 4,096, a length of 63, robot 24
and camera 4, role STATUS for no robot and VERDICT below PROMPT, a key that another record carries, and a
stream of a robot that is not IDLE. -/
theorem witness_WritesStoreRecords_stream_refused :
    4095 < field ((streamBytes.set 6 0x10).set 7 0) 6 2 ∧
    field ((streamBytes.set 16 0).set 17 63) 16 2 < 64 ∧
    (fun l => field l 14 1 = 1 ∧ 23 < field l 15 1) ((streamBytes.set 14 1).set 15 24) ∧
    (fun l => field l 14 1 = 2 ∧ 3 < field l 15 1) ((streamBytes.set 14 2).set 15 4) ∧
    (decodeStream (streamBytes.set 13 1)).map (fun c =>
      decide (c.role = .status ∧ c.subject = .camera 2)) = some true ∧
    (decodeStream (streamBytes.set 13 3)).map (fun c =>
      decide (c.role = .verdict ∧ c.cls ≠ .prompt)) = some true ∧
    (decodeStream streamBytes).map (fun c => decide (c.valid = true ∧ (255 : StreamId) ≠ 254 ∧
      (fun y : Stream => y.cfg.valid = true ∧ y.damaged = false ∧ y.cfg.key = c.key ∧
        y.cfg.vlan = c.vlan) ((s0.modStream 254 fun x => { x with cfg := c }).streams[(254 : StreamId)])))
      = some true ∧
    (fun b : Robot => b.state ≠ .idle ∧ b.cfg.commandStream = 13)
      (robot610 .running 0 s0).robots[(5 : RobotId)] := by decide +kernel

theorem witness_WritesStoreRecords_robot :
    LineRequest (withRequest (request 0 2 ([2, 1] ++ beBytes 2 23 ++ robotBytes)) s0)
        (request 0 2 ([2, 1] ++ beBytes 2 23 ++ robotBytes)) 2 ∧
      (request 0 2 ([2, 1] ++ beBytes 2 23 ++ robotBytes)).body =
        [2, 1] ++ beBytes 2 23 ++ robotBytes ∧ robotBytes.length = 20 ∧
      (decodeRobot robotBytes).isSome = true ∧ s0.robots[(23 : RobotId)].state = .idle := by
  refine ⟨line_of (by decide +kernel), ?_⟩
  decide +kernel

/-- ROBOT records that are refused: a phase that is not below the period, and a robot that is not IDLE;
and HOLD FRAME entries one octet too short and too long. -/
theorem witness_WritesStoreRecords_robot_refused :
    field (robotBytes.set 4 1) 3 1 ≤ field (robotBytes.set 4 1) 4 1 ∧
    decodeRobot (robotBytes.set 4 1) = none ∧
    (robot610 .service 0 s0).robots[(5 : RobotId)].state ≠ .idle ∧
    (List.replicate 63 (7 : Byte)).length < 64 ∧ 256 < (List.replicate 257 (7 : Byte)).length := by
  decide +kernel

theorem witness_WritesStoreRecords_hold :
    LineRequest (withRequest (request 0 2 ([3, 1] ++ beBytes 2 23 ++ beBytes 2 64 ++ List.replicate 64 7)) s0)
        (request 0 2 ([3, 1] ++ beBytes 2 23 ++ beBytes 2 64 ++ List.replicate 64 7)) 2 ∧
      (request 0 2 ([3, 1] ++ beBytes 2 23 ++ beBytes 2 64 ++ List.replicate 64 7)).body =
        [3, 1] ++ beBytes 2 23 ++ beBytes 2 (List.replicate 64 (7 : Byte)).length ++
          List.replicate 64 7 ∧
      64 ≤ (List.replicate 64 (7 : Byte)).length ∧ (List.replicate 64 (7 : Byte)).length ≤ 256 := by
  refine ⟨line_of (by decide +kernel), ?_⟩
  decide +kernel

theorem witness_WritesStoreRecords_camera :
    LineRequest (withRequest (request 0 2 ([4, 1] ++ beBytes 2 3 ++ (Camera.reset.cfg).bytes)) s0)
        (request 0 2 ([4, 1] ++ beBytes 2 3 ++ (Camera.reset.cfg).bytes)) 2 ∧
      (request 0 2 ([4, 1] ++ beBytes 2 3 ++ (Camera.reset.cfg).bytes)).body =
        [4, 1] ++ beBytes 2 3 ++ (Camera.reset.cfg).bytes ∧ (Camera.reset.cfg).bytes.length = 18 ∧
      decodeCamera (Camera.reset.cfg).bytes = some Camera.reset.cfg := by
  refine ⟨line_of (by decide +kernel), ?_⟩
  decide +kernel

/-- A CAMERA record with a note for a port that is not there; two HOLD FRAME records past the last robot,
of which one is written; and counts that are bad and a body that ends too soon. -/
theorem witness_WritesStoreRecords_several :
    decodeCamera ((Camera.reset.cfg).bytes.set 15 12) = none ∧
    tableOf 3 = some .holdFrame ∧
    (request 0 2 ([3, 2] ++ beBytes 2 23 ++ [0, 0, 0, 0])).body =
      beBytes 1 3 ++ beBytes 1 2 ++ beBytes 2 23 ++ [[0, 0], [0, 0]].flatten ∧
    (∀ x ∈ [([0, 0] : Octets), [0, 0]], 2 ≤ x.length ∧ x.length = 2 + field x 0 2) ∧
    (match writeRecord .holdFrame (23 + 0) [0, 0] s0 with
      | .ok t => decide (t.holdFrames[(23 : RobotId)] = [])
      | .error _ => false) = true ∧
    (match writeRecord .holdFrame (23 + 1) [0, 0] s0 with
      | .ok _ => false
      | .error x => decide (x = .badIndex)) = true ∧
    refusedWrite 1 .badIndex 24 = { status := .partialWrite, body := [1, 5, 0, 24] } ∧
    (request 0 2 [3, 2, 0, 23, 0, 0, 0, 0]).command = .writeHoldFrame ∧
    (32 < 33 ∧ (List.replicate 17 (0 : Byte)).length < 2 * TableId.octets .port) := by decide +kernel

theorem witness_SingleRecordsActAtOnce :
    LineRequest (withRequest (request 0 2 ([5, 1, 0, 0] ++ s0.tracker.cfg.bytes)) s0)
      (request 0 2 ([5, 1, 0, 0] ++ s0.tracker.cfg.bytes)) 2 ∧
      (request 0 2 ([5, 1, 0, 0] ++ s0.tracker.cfg.bytes)).body = [5, 1, 0, 0] ++ s0.tracker.cfg.bytes ∧
      s0.tracker.cfg.bytes.length = 9 ∧ decodeTracking s0.tracker.cfg.bytes = some s0.tracker.cfg ∧
      s0.tracker.sensor = .clear ∧ s0.tracker.sense ≠ s0.tracker.cfg.activeHigh ∧
      (request 0 2 ([6, 1, 0, 0] ++ ejector87.bytes)).body = [6, 1, 0, 0] ++ ejector87.bytes ∧
      ejector87.bytes.length = 18 ∧ decodeEjector ejector87.bytes = some ejector87 ∧
      s0.reject.state = .rest ∧ s0.reject.heldFire = false ∧
      (request 0 2 ([7, 1, 0, 0] ++ s0.clock.cfg.bytes)).body = [7, 1, 0, 0] ++ s0.clock.cfg.bytes ∧
      s0.clock.cfg.bytes.length = 14 ∧ decodeClock s0.clock.cfg.bytes = some s0.clock.cfg ∧
      s0.clock.servo = .unset ∧
      s0.clock.run < s0.clock.lastProbeDue + s0.clock.cfg.probeInterval * 1000 ∧
      (request 0 2 ([8, 1, 0, 0] ++ s0.device.bytes)).body = [8, 1, 0, 0] ++ s0.device.bytes ∧
      s0.device.bytes.length = 109 ∧ decodeDevice s0.device.bytes = some s0.device ∧
      s0.watch.state = .idle ∧ s0.device.noticeDest = none := by
  refine ⟨line_of (by decide +kernel), ?_⟩
  decide +kernel

/-- A bottle of a length under the sensor. -/
def occluded (sensor : SensorState) (length : Position) : Tracker :=
  { s0.tracker with sense := true, sensor := sensor, leading := some 100, position := 100 + length }

/-- What a TRACKING record meets: a measured occlusion one count short of the least length and at it,
one of the greatest length, a sensor that the new polarity makes active and inactive, and both
policies. -/
theorem witness_SingleRecordsActAtOnce_tracking :
    (fun c : TrackerCfg => decodeTracking c.bytes = some c ∧ c.minOcclusion = 16 ∧
      c.maxOcclusion = 800 ∧ c.jamPolicy = .report ∧ c.activeHigh = true)
      { s0.tracker.cfg with minOcclusion := 16, maxOcclusion := 800, jamPolicy := .report } ∧
    (fun c : TrackerCfg => decodeTracking c.bytes = some c ∧ c.activeHigh = false ∧
      c.jamPolicy = .holdLine)
      { s0.tracker.cfg with activeHigh := false, jamPolicy := .holdLine } ∧
    s0.tracker.cfg.activeHigh = true ∧
    ((occluded .measuring 15).position - 100).toInt < 16 ∧
    16 ≤ ((occluded .measuring 16).position - 100).toInt ∧
    ((occluded .measuring 16).position - 100).toInt < 800 ∧
    800 ≤ ((occluded .qualified 800).position - 100).toInt ∧
    (occluded .jammed 800).sensor = .jammed ∧
    (s0.tracker.sense ≠ s0.tracker.cfg.activeHigh ∧ s0.tracker.sense = false ∧
      s0.tracker.sensor = .clear) ∧
    ((occluded .jammed 800).sense = (occluded .jammed 800).cfg.activeHigh ∧
      (occluded .jammed 800).sense ≠ false ∧ (occluded .jammed 800).sensor ≠ .clear) := by
  decide +kernel

/-- What an EJECTOR record meets: a change of mode away from REST, a gate that waits inside the reset
inhibit, and one that waits until the very end of the new non-overlap time. -/
theorem witness_SingleRecordsActAtOnce_ejector :
    (fun x : Reject => ejector87.mode ≠ x.cfg.mode ∧ x.state ≠ .rest)
      (s0.modReject fun x => { x with state := .blasting }).reject ∧
    s0.clock.run < s0.reject.inhibitEnd ∧
    (fun s : State => ejector87.mode = s.reject.cfg.mode ∧ s.reject.inhibitEnd ≤ s.clock.run ∧
      s.reject.state = .extendWait ∧ s.reject.releaseB = some 8000 ∧
      8000 + ejector87.nonOverlap ≤ s.clock.run)
      (atRun 10000 s0 |>.modReject fun x =>
        { x with cfg := ejector87, state := .extendWait, releaseB := some 8000 }) ∧
    (fun s : State => s.reject.state = .retractWait ∧ s.reject.releaseA = some 8000 ∧
      s.reject.inhibitEnd ≤ s.clock.run ∧ s.clock.run < 8000 + ejector87.nonOverlap)
      (atRun 9999 s0 |>.modReject fun x =>
        { x with cfg := ejector87, state := .retractWait, releaseA := some 8000 }) := by decide +kernel

/-- What a CLOCK and a DEVICE record meet: a mark timeout and a probe that are due with L3 TIME_UP and UP,
a controller timeout that is due under HOLD_LINE, and an attempt that is due. -/
theorem witness_SingleRecordsActAtOnce_due :
    (fun s : State => s.clock.servo = .locked ∧ s.clock.lastMark = some 0 ∧
      s.clock.lastRequest = none ∧ 0 + s.clock.cfg.markTimeout * 1000 ≤ s.clock.run ∧
      s.clock.lastProbeDue + s.clock.cfg.probeInterval * 1000 ≤ s.clock.run ∧
      s.timeUpPort = some 3 ∧ s.ports[(3 : PortId)].link = true)
      (probing.modClock fun c => { c with servo := .locked, lastMark := some 0 }) ∧
    (fun s : State => s.watch.state = .watching ∧ s.watch.action = .holdLine ∧
      s.hold.present.controller = false ∧ s.hold.latch = false ∧
      s.watch.restartTime + s.device.controllerTimeout * 1000 ≤ s.clock.run ∧
      s.fitsLimit 2 1 0 = true)
      (atRun 20000 s0 |>.modWatch (fun w => { w with state := .watching, action := .holdLine })
        |>.modHold fun h => { h with latch := false }) ∧
    decodeDevice (noticesTo5 s0).device.bytes = some (noticesTo5 s0).device ∧
    (fun s : State => s.notices.records ≠ [] ∧ s.notices.lastAttempt = none ∧
      s.ports[(5 : PortId)].link = true ∧ s.fitsLimit 2 (cellsFor firstNotice.length) 5 = true ∧
      cellsFor firstNotice.length ≤ s.mem.free.length ∧ s.mem.free = List.finRange 2048)
      (linkUp 5 s0) := by decide +kernel

/-- Every record after a reset meets the premises of its clause. -/
theorem witness_TableRecordsRoundTrip :
    (fun x : Stream => x.damaged = false ∧ x.cfg.vlan ≤ 4095 ∧ 64 ≤ x.cfg.maxLength ∧
      x.cfg.maxLength ≤ 9216) Stream.reset ∧
    (fun x : Robot => x.damaged = false ∧ x.cfg.window ≤ 15 ∧ 1 ≤ x.cfg.period ∧ x.cfg.period ≤ 16 ∧
      x.cfg.phase < x.cfg.period ∧ x.cfg.deadline ≤ 160000000 ∧ x.cfg.modeOffset ≤ 255 ∧
      1 ≤ x.cfg.tolerance ∧ x.cfg.tolerance ≤ 15 ∧ x.cfg.repeatLimit ≤ 15) Robot.reset ∧
    (List.replicate 256 (0 : Byte)).length ≤ 256 ∧
    (fun c : CameraCfg => c.offset ≤ 1048575 ∧ 1 ≤ c.pulseWidth ∧ c.pulseWidth ≤ 1000 ∧
      c.note = none) Camera.reset.cfg ∧
    (fun c : TrackerCfg => 1 ≤ c.speedWindow ∧ c.speedWindow ≤ 100 ∧ 1 ≤ c.minOcclusion ∧
      c.minOcclusion ≤ 4095 ∧ 16 ≤ c.maxOcclusion ∧ c.minOcclusion < c.maxOcclusion ∧
      c.maxOcclusion ≤ 65535) s0.tracker.cfg ∧
    (fun c : EjectorCfg => 100 ≤ c.blastTime ∧ c.blastTime ≤ 50000 ∧ 1 ≤ c.extendTime ∧
      c.extendTime ≤ 100 ∧ 1 ≤ c.dwell ∧ c.dwell ≤ 1048575 ∧ 1 ≤ c.retractTime ∧
      c.retractTime ≤ 100 ∧ 100 ≤ c.nonOverlap ∧ c.nonOverlap ≤ 20000 ∧ c.distance ≤ 1048575 ∧
      c.latency ≤ 20000 ∧ c.leadMax < c.distance) ejector87 ∧
    (fun c : ClockCfg => 10000 ≤ c.stepLimit ∧ c.stepLimit ≤ 100000000 ∧ 100 ≤ c.lockThreshold ∧
      c.lockThreshold ≤ 100000 ∧ c.gp ≤ 255 ∧ c.gi ≤ 255 ∧ 50 ≤ c.markTimeout ∧
      c.markTimeout ≤ 5000 ∧ 125 ≤ c.probeInterval ∧ c.probeInterval ≤ 8000) s0.clock.cfg ∧
    (fun c : DeviceCfg => limitsOk c.limits = true ∧ 1 ≤ c.controllerTimeout ∧
      c.controllerTimeout ≤ 1000 ∧ 1 ≤ c.pacing ∧ c.pacing ≤ 1000 ∧ c.noticeDest = none)
      s0.device := by decide +kernel

theorem witness_ArmAndDisarmMoveTheRobot :
    (request 0 6 [5]).body = beBytes 1 (5 : RobotId).val ∧
      LineRequest (withRequest (request 0 6 [5]) armable610) (request 0 6 [5]) 6 ∧
      (fun b : Robot => b.state = .idle ∧ b.ecc = .clean) armable610.robots[(5 : RobotId)] ∧
      (armable610.streams[armable610.robots[(5 : RobotId)].cfg.statusStream].ecc = .clean) ∧
      (armable610.streams[armable610.robots[(5 : RobotId)].cfg.commandStream].ecc = .clean) ∧
      (robot610 .lost 2 s0).robots[(5 : RobotId)].state.armed = true ∧
      (robot610 .service 0 s0).robots[(5 : RobotId)].state = .service := by
  refine ⟨by decide +kernel, line_of (by decide +kernel), ?_⟩
  decide +kernel

/-- Robot 5 may be armed on L6. -/
theorem witness_ArmAndDisarmMoveTheRobot_fit : armable610.fitToArm 5 6 :=
  ⟨armable610.robots[(5 : RobotId)].cfg, armable610.streams[(12 : StreamId)],
    armable610.streams[(13 : StreamId)], list610, by decide +kernel⟩

/-- Robot 5 may be armed on no port when its record is damaged; a request for robot 24; and a robot that is
not IDLE. -/
theorem witness_ArmAndDisarmMoveTheRobot_refused :
    (∀ p, ¬(armable610.modRobot 5 fun b => { b with damaged := true }).fitToArm 5 p) ∧
    (request 0 6 [24]).body = beBytes 1 24 ∧
    (robot610 .service 0 s0).robots[(5 : RobotId)].state ≠ .idle := by
  refine ⟨fun p ⟨_, _, _, _, _, _, _, h, _⟩ => ?_, by decide +kernel⟩
  revert h
  decide +kernel

theorem witness_LossActionHolds :
    (request 0 8 [1]).body = [1] ∧ (request 0 8 [0]).body = [0] ∧ s0.watch.action = .report ∧
      (s0.modWatch fun w => { w with action := .holdLine }).watch.action = .holdLine := by
  decide +kernel

/-- A step that returns the loss action to REPORT: a power-on reset. -/
theorem witness_LossActionHolds_step :
    ∃ s t : State, step s = .next t ∧ s.watch.action = .holdLine ∧ t.watch.action = .report := by
  refine ⟨{ s0 with pending := [.powerOnReset pinsLow] } |>.modWatch fun w =>
    { w with action := .holdLine }, _, rfl, ?_, ?_⟩ <;> decide +kernel

theorem witness_ClockRequestsStep :
    s0.timeUpPort = none ∧
      (s0.modPort 0 fun x => { x with cfg := { x.cfg with timing := .timeUp } }).timeUpPort.isSome =
        true ∧
      (request 0 9 (beBytes 6 (2 ^ 48 - 1) ++ beBytes 4 999999999)).body =
        beBytes 6 (2 ^ 48 - 1) ++ beBytes 4 999999999 ∧
      (request 0 10 (beInt 6 (-1099511627776))).body = beInt 6 (-1099511627776) ∧
      (-1099511627776 : Int).natAbs ≤ 1099511627776 := by decide +kernel

/-- A request of each kind whose answer finds room. -/
theorem witness_ClockRequestsStep_room :
    (fun q : Request => LineRequest (withRequest q (linkUp 0 s0)) q 9 ∧
      AnswerRoom (withRequest q (linkUp 0 s0)) q { status := .ok, body := [] })
      (request 0 9 (beBytes 6 (2 ^ 48 - 1) ++ beBytes 4 999999999)) ∧
    (fun q : Request => LineRequest (withRequest q (linkUp 0 s0)) q 10 ∧
      AnswerRoom (withRequest q (linkUp 0 s0)) q { status := .ok, body := [] })
      (request 0 10 (beInt 6 (-1099511627776))) := by
  unfold AnswerRoom
  exact ⟨⟨line_of (by decide +kernel), by decide +kernel⟩,
    ⟨line_of (by decide +kernel), by decide +kernel⟩⟩

/-- The octets of section 5.9's list after the port. -/
def octets59 : Octets :=
  beBytes 3 500000 ++ beBytes 6 100 ++ beBytes 4 0 ++ [2] ++ beBytes 3 40000 ++ [8] ++
    beBytes 3 460000 ++ [7]

theorem witness_SchedulesLoadAndCommit :
    gateListOf octets59 = some list59 ∧
      (request 0 11 (beBytes 1 11 ++ octets59)).body = beBytes 1 (11 : PortId).val ++ octets59 ∧
      s0.gates[(11 : PortId)].commit = false ∧
      (commit59 .opened).gates[(4 : PortId)].commit = true ∧
      (0x010 : PortSet) ≠ 0 ∧
      (request 0 12 (beBytes 2 (0x010 : PortSet).toNat ++ noneBytes 10)).body =
        beBytes 2 (0x010 : PortSet).toNat ++ noneBytes 10 ∧
      (∀ p : PortId, (0x010 : PortSet).getLsbD p.val = true →
        (fun g : Gate => g.commit = false ∧ g.loaded.isSome = true)
          (s0.modGate 4 fun g => { g with loaded := some list59 }).gates[p]) ∧
      (0x010 : PortSet).getLsbD (4 : PortId).val = true ∧ s0.gates[(4 : PortId)].loaded = none := by
  decide +kernel

/-- The octets of a gate list. -/
def listOctets (cycle sec ns : Nat) (windows : List (Nat × Nat)) : Octets :=
  beBytes 3 cycle ++ beBytes 6 sec ++ beBytes 4 ns ++ beBytes 1 windows.length ++
    windows.flatMap (fun w => beBytes 3 w.1 ++ beBytes 1 w.2)

/-- A commit in OPEN as it is run, for an activation time at a boundary; and the same in RESYNC after a
step and after the wrap of hall time, with the boundary to come within 2^46 s of hall time. -/
theorem witness_SchedulesLoadAndCommit_fixed :
    (fun u : Gate => u.mode = .opened ∧
      ((HallTime.units ⟨99, 999999999, 0⟩ : Int) + 0 * 4294967296 - u.nextBoundary * 4294967296).natAbs <
        2 ^ 46 * 1000000000 * 4294967296 ∧ u.switchIndex = 100000)
      (commit59 .opened).gates[(4 : PortId)] ∧
    (fun u : Gate => u.mode = .resync ∧ u.commit = true ∧ u.active = some list610 ∧ 0 < list610.cycle ∧
      (⟨7, 0, 0⟩ : HallTime).wf = true ∧
      ((HallTime.units ⟨7, 0, 0⟩ : Int) + 0 * 4294967296 - u.nextBoundary * 4294967296).natAbs <
        2 ^ 46 * 1000000000 * 4294967296 ∧ u.target = 14001 ∧ u.switchIndex = 200000)
      ((commit59 .running).gates[(4 : PortId)].afterStep ⟨7, 0, 0⟩) ∧
    (fun g : Gate => (2 ^ 48 * 1000000000 : Int) % (2 ^ 48 * 1000000000) = 0 ∧
      ((HallTime.units ⟨1, 0, 0⟩ : Int) + (2 ^ 48 * 1000000000) * 4294967296 -
        g.nextBoundary * 4294967296).natAbs < 2 ^ 46 * 1000000000 * 4294967296)
      (running 4 list610 (2 * 2 ^ 48 * 1000 + 2000) 0 0 s0).gates[(4 : PortId)] := by decide +kernel


/-- Lists at the limits of R65 and one step beyond each of them. -/
theorem witness_SchedulesLoadAndCommit_limits :
    octets59 = listOctets 500000 100 0 [(40000, 8), (460000, 7)] ∧
    (gateListOf (listOctets 10000000 (2 ^ 48 - 1) 999999999 (List.replicate 16 (64, 15)))).isSome = true ∧
    (gateListOf (listOctets 125000 0 0 [(125000, 15)])).isSome = true ∧
    (∀ x ∈ [listOctets 124992 0 0 [(64, 1)], listOctets 10000008 0 0 [(64, 1)],
        listOctets 125004 0 0 [(64, 1)], listOctets 125000 0 1000000000 [(64, 1)],
        listOctets 125000 0 0 [], listOctets 125000 0 0 (List.replicate 17 (64, 1)),
        listOctets 125000 0 0 [(56, 1)], listOctets 125000 0 0 [(68, 1)],
        listOctets 125000 0 0 [(64, 16)], listOctets 125000 0 0 [(125000, 1), (64, 1)]],
      gateListOf x = none) ∧
    (request 0 11 (beBytes 1 11 ++ listOctets 125000 0 0 [])).body =
      beBytes 1 (11 : PortId).val ++ listOctets 125000 0 0 [] := by decide +kernel

theorem witness_SchedulesLoadAndCommit_time :
    (request 0 12 (beBytes 2 (0x010 : PortSet).toNat ++ (beBytes 6 100 ++ beBytes 4 999999999))).body =
        beBytes 2 (0x010 : PortSet).toNat ++ (beBytes 6 100 ++ beBytes 4 999999999) ∧
      (100 : Nat) < 2 ^ 48 ∧ (999999999 : Nat) ≤ 999999999 ∧
      (fun g : Gate => g.commit = false ∧ g.loaded = none) s0.gates[(4 : PortId)] ∧
      (∀ x : PortId, x < 4 → (0x010 : PortSet).getLsbD x.val = true →
        s0.gates[x].loaded.isSome = true) := by decide +kernel

/-- Section 5.9: the activation time is kept with the commit. -/
theorem test_commitSchedule_time :
    ((afterRequest .commitSchedule 12 (beBytes 2 0x010 ++ (beBytes 6 100 ++ beBytes 4 0))
      (s0.modGate 4 fun g => { g with loaded := some list59 })).gates[(4 : PortId)]
        |> fun g => (g.commit, g.activation)) = (true, some ⟨100, 0⟩) := by decide +kernel

theorem witness_ClearTrackingEmptiesAtRest :
    (fun t : Tracker => t.still = true ∧ t.position = t.windowPosition)
        (s0.modTracker fun t => { t with still := true }).tracker ∧
      (fun t : Tracker => t.still = true ∧ t.position ≠ t.windowPosition)
        (s0.modTracker fun t => { t with still := true, position := 1 }).tracker ∧
      s0.tracker.still = false := by decide +kernel

/-- R126: a clear counts. -/
theorem test_clearTracking_counts :
    (afterRequest .clearTracking 13 [] (s0.modTracker fun t =>
      { t with still := true })).counter (.tracker .clears) = 1 := by decide +kernel

theorem witness_WindowsOpenAndExtend :
    (grantOf ([2] ++ beBytes 4 0x20 ++ [0, 0] ++ beBytes 2 3600 ++ [1] ++ noneBytes 6)).map
        (fun g => (g.level, g.seconds)) = some (.maintain, 3600) ∧
      s0.windows[(1 : WindowId)].state = .closed ∧
      (linkUp 11 s0).ports[windowPort 1].link = true ∧ s0.ports[windowPort 1].link = false ∧
      (request 0 15 (beBytes 1 (10 + (1 : WindowId).val) ++ beBytes 2 65535)).body =
        beBytes 1 (10 + (1 : WindowId).val) ++ beBytes 2 65535 ∧
      (s0.modWindow 1 fun x => { x with state := .granted }).windows[(1 : WindowId)].state ≠ .closed := by
  decide +kernel

/-- The octets of OPEN SERVICE WINDOW after the port. -/
def grantOctets (level robots cameras : Nat) (mirror : List Nat) (duration trap : Nat)
    (technician : Option Mac) : Octets :=
  beBytes 1 level ++ beBytes 4 robots ++ beBytes 1 cameras ++ beBytes 1 mirror.length ++
    mirror.flatMap (beBytes 1) ++ beBytes 2 duration ++ beBytes 1 trap ++
    beBytes 6 (match technician with
      | none => 2 ^ 48 - 1
      | some a => a.toNat)

/-- Grants at the limits of section 9.2 and one step beyond each of them; one with 60 s or less to run, as
it is given and as it is extended. -/
theorem witness_WindowsOpenAndExtend_limits :
    (grantOf (grantOctets 2 (2 ^ 24 - 1) 15 [0, 1, 2, 3, 4, 5, 6, 255] 0 1 (some controller))).map
      (fun g => (g.seconds, g.technician)) = some (1, some controller) ∧
    (grantOf (grantOctets 0 0 0 [] 3601 0 none)).map (fun g => (g.seconds, g.technician)) =
      some (3600, none) ∧
    (∀ x ∈ [grantOctets 3 0 0 [] 1 0 none, grantOctets 0 (2 ^ 24) 0 [] 1 0 none,
        grantOctets 0 0 16 [] 1 0 none, grantOctets 0 0 0 [0, 1, 2, 3, 4, 5, 6, 7, 8] 1 0 none,
        grantOctets 0 0 0 [7, 7] 1 0 none, grantOctets 0 0 0 [] 1 2 none,
        grantOctets 0 0 0 [] 1 0 (some 0x010000000001)], grantOf x = none) ∧
    (request 0 14 (beBytes 1 (10 + (1 : WindowId).val) ++ grantOctets 3 0 0 [] 1 0 none)).body =
      beBytes 1 (10 + (1 : WindowId).val) ++ grantOctets 3 0 0 [] 1 0 none ∧
    (grantOf (grantOctets 0 0 0 [] 60 0 none)).map (fun g => decide (g.seconds ≤ 60)) = some true ∧
    (fun x : ServiceWindow => x.state ≠ .closed ∧ x.warned = false ∧
      min ((x.endTime - s0.clock.run) / 1000 + 60 * 1000) 3600000 ≤ 60000)
      (s0.modWindow 1 fun x => { x with state := .granted, endTime := 999 }).windows[(1 : WindowId)] := by
  decide +kernel

theorem witness_ControllerClosesWindow :
    (request 0 16 (beBytes 1 12)).body = beBytes 1 12 ∧ (12 : Nat) ≠ 10 ∧ (12 : Nat) ≠ 11 ∧
      (request 0 16 (beBytes 1 11)).body = beBytes 1 11 ∧ 11 = 10 + (1 : WindowId).val ∧
      s0.windows[(1 : WindowId)].state = .closed ∧
      (s0.modWindow 1 fun x => { x with state := .granted }).windows[(1 : WindowId)].state ≠ .closed := by
  decide +kernel

/-- A request of the technician of S1 on an ACTIVE window of a level, with robot 5 and camera 0 in its
sets. -/
def technicianAsks (level : ServiceLevel) (q : Request) : State :=
  withRequest q s0 |>.modWindow 1 fun x =>
    { x with state := .active, level := level, technician := some controller, robots := 0x20
             cameras := 1 }

/-- The request is the technician's, and its header is good. -/
def technicianRequest (s : State) (q : Request) : Prop :=
  s.mgmt.queue.head? = some q ∧ s.mgmt.restart = none ∧ q.version = 1 ∧ q.bodyFits = true ∧
    q.port = windowPort 1 ∧ s.windows[(1 : WindowId)].state = .active ∧
    s.windows[(1 : WindowId)].technician = some q.source

/-- LOWER LEVEL below the window's level and not below it, and from the line controller; an ARM ROBOT; and a
window that is not ACTIVE. -/
theorem witness_TechnicianLowersLevel :
    (fun s q => technicianRequest s q ∧ q.kind = 17 ∧ q.body = beBytes 1 0 ∧
      levelOf 0 = some .observe ∧ 0 < s.windows[(1 : WindowId)].level.code)
      (technicianAsks .maintain (request 11 17 (beBytes 1 0))) (request 11 17 (beBytes 1 0)) ∧
    (technicianAsks .observe (request 11 17 (beBytes 1 0))).windows[(1 : WindowId)].level.code ≤ 0 ∧
    (fun s q => technicianRequest s q ∧ q.kind ∉ [3, 4, 16, 17])
      (technicianAsks .maintain (request 11 6 [5])) (request 11 6 [5]) ∧
    s0.windows[(1 : WindowId)].state ≠ .active ∧
    (request 9 17 (beBytes 1 0)).port.val < 10 ∧ (request 9 17 (beBytes 1 0)).body ≠ [] := by
  unfold technicianRequest
  decide +kernel

/-- READ STATE and READ COUNTERS of robot 5 and of S1, of robot 4, with clear and too short; and CLOSE
SERVICE WINDOW of S1 and of S0. -/
theorem witness_TechnicianLowersLevel_scope :
    (fun s q => technicianRequest s q ∧ q.kind = 4 ∧ 3 ≤ q.body.length ∧ field q.body 0 1 ≠ 6 ∧
      s.windows[(1 : WindowId)].robots.getLsbD (5 : RobotId).val = true ∧
      s.robots[(5 : RobotId)].damaged = false ∧ s.robots[(5 : RobotId)].ecc = .clean ∧
      s.windows[(1 : WindowId)].robots.getLsbD (4 : RobotId).val = false)
      (technicianAsks .adjust (request 11 4 [3, 0, 5])) (request 11 4 [3, 0, 5]) ∧
    (match stateSubject [3, 0, 5], stateSubject [3, 0, 4] with
      | .ok x, .ok y => decide (x = .robot 5 ∧ y = .robot 4)
      | _, _ => false) = true ∧
    (fun s q => technicianRequest s q ∧ q.kind = 3 ∧ 4 ≤ q.body.length ∧ field q.body 1 1 = 0)
      (technicianAsks .adjust (request 11 3 [4, 0, 0, 11])) (request 11 3 [4, 0, 0, 11]) ∧
    (match counterSubject [4, 0, 0, 11] with
      | .ok x => decide (x = .service 1)
      | _ => false) = true ∧
    field [2, 1, 0, 5] 1 1 = 1 ∧ (request 11 3 [2, 0, 0]).body.length < 4 ∧
    (fun s q => technicianRequest s q ∧ q.kind = 16 ∧ q.body = beBytes 1 11 ∧
      11 = 10 + (1 : WindowId).val ∧ 10 ≠ 10 + (1 : WindowId).val)
      (technicianAsks .adjust (request 11 16 [11])) (request 11 16 [11]) := by
  unfold technicianRequest
  decide +kernel

theorem witness_ReleaseHoldJudgesPresentSet :
    s0.hold.present.toList = [] ∧ s0.hold.latch = true ∧ s0.hold.setTime = some 0 ∧
      s0.notices.records.length ≤ 32 ∧
      (s0.modHold fun h => { h with latch := false }).hold.latch = false ∧
      (s0.modHold fun h => { h with present := { h.present with jam := true } }).hold.present.toList ≠
        [] := by decide +kernel

theorem witness_UnknownAndRestartAreAnswered :
    (fun s : State => s.mgmt.queue.head? = some (request 9 19 []) ∧ s.mgmt.restart = none ∧
      (request 9 19 []).port.val < 10 ∧ (request 9 19 []).bodyFits = true ∧
      requestKindOf (request 9 19 []).kind = none) (withRequest (request 9 19 []) s0) ∧
    (request 9 5 []).version = 1 ∧ (request 9 5 []).kind = 5 ∧ (request 9 5 []).bodyFits = true ∧
    s0.ports[(request 9 5 []).port].link = false := by decide +kernel

/-! ### Invariants -/

/-- The machine after a reset with a command waiting. -/
def waiting (c : Instr) : State := { s0 with pending := [c] }

theorem witness_StepsKeepNoticeInvariant :
    NoticeInv (waiting (.linkGained 3)) ∧ ∃ t, step (waiting (.linkGained 3)) = .next t := by
  refine ⟨?_, _, rfl⟩
  unfold NoticeInv
  decide +kernel

theorem witness_StepsKeepClockListAndHoldInvariants :
    ClockInv (waiting .hallTimeAdvance) ∧ RequestInv (waiting .hallTimeAdvance) ∧
      TrackInv (waiting .hallTimeAdvance) ∧ HoldInv (waiting .hallTimeAdvance) ∧
      ∃ t, step (waiting .hallTimeAdvance) = .next t := by
  refine ⟨?_, ?_, ⟨by decide +kernel, fun i h => ?_⟩, fun _ => rfl, _, rfl⟩
  · unfold ClockInv; decide +kernel
  · unfold RequestInv; decide +kernel
  · exact absurd h (by exact Nat.not_lt_zero i)

theorem witness_StepsKeepRobotAndServiceInvariants :
    ServiceInv (waiting .controllerTimeout) ∧ SupervisorInv (waiting .controllerTimeout) ∧
      ∃ t, step (waiting .controllerTimeout) = .next t := by
  refine ⟨?_, ?_, _, rfl⟩
  · unfold ServiceInv; decide +kernel
  · unfold SupervisorInv; decide +kernel

theorem witness_StepsConserveCells :
    CellInv (waiting (.receptionCellTake (octetOn 3 none 1))) ∧ CutInv (waiting (.receptionCellTake (octetOn 3 none 1))) ∧
      ∃ t, step (waiting (.receptionCellTake (octetOn 3 none 1))) = .next t := by
  refine ⟨⟨?_, fun h => ?_, by decide +kernel⟩, fun p t _ _ => ?_, _, rfl⟩
  · have e : (waiting (.receptionCellTake (octetOn 3 none 1))).allCellsOf = List.finRange 2048 := by decide +kernel
    rw [e]
  · have e : (waiting (.receptionCellTake (octetOn 3 none 1))).references = [] := by decide +kernel
    have f : (waiting (.receptionCellTake (octetOn 3 none 1))).mem.frames[h] = none := by
      simp [waiting, s0, State.reset, State.afterReset, CellMem.reset]
    rw [e, f]; rfl
  · have e : ∀ p : PortId, s0.egress[p].remainder = none := by decide +kernel
    exact e p

/-- RELEASE HOLD with no source present releases the line. -/
theorem witness_OnlyReleaseHoldReleasesTheLine :
    ∃ s t : State, step s = .next t ∧ s.lineHold = true ∧ t.lineHold = false := by
  refine ⟨withRequest (request 0 18 []) (waiting .releaseHold), _, rfl, ?_, ?_⟩ <;> decide +kernel

end Sys2Proof.Tests
end

section
/-! SUPPORT. What a command's effects come to: work over a list, and what an
operation that counts nothing leaves of them. -/

namespace Sys2Proof.Machine

/-! ## Effects -/

/-- Work over a list counts what each piece of it counts. -/
theorem Effects.forEach {α : Type} {s t : State} {now : BaseTime} {l : List CounterRef}
    {es : List NoticeEvent} {f : α → State → State} (m : α → List CounterRef)
    (hf : ∀ a t l, Effects s t now l es → Effects s (f a t) now (l ++ m a) es) (xs : List α)
    (h : Effects s t now l es) : Effects s (Machine.forEach xs f t) now (l ++ xs.flatMap m) es := by
  induction xs generalizing t l with
  | nil => simpa using h
  | cons x xs ih =>
    rw [forEach_cons, List.flatMap_cons, ← List.append_assoc]
    exact ih (hf x t l h)

/-- A state in which nothing was counted yet. -/
theorem Effects.start (s u : State) (now : BaseTime) (hc : u.counters = s.counters)
    (hn : u.notices = s.notices) : Effects s u now [] [] := (Effects.refl s now).congr hc hn

/-- A counter grows by one in what a count of it leaves. -/
theorem bump_counter (c d : CounterRef) (s : State) (hd : d.ofNotices = false) :
    (bump c s).counter d =
      if d = c then min (s.counter c + 1) Config.counterMax else s.counter d :=
  bumpBy_counter c 1 s d hd

theorem bump_counter_other (c d : CounterRef) (s : State) (hd : d.ofNotices = false) (h : d ≠ c) :
    (bump c s).counter d = s.counter d := by rw [bump_counter c d s hd, if_neg h]

/-- Two states that agree but in counters and notices are one state with those two replaced. -/
theorem eq_recounted {s t : State} (h : s.uncounted = t.uncounted) :
    t = { s with counters := t.counters, notices := t.notices } := by
  cases s; cases t
  simp only [State.uncounted, State.mk.injEq] at h ⊢
  tauto

end Sys2Proof.Machine
end

section
/-! SUPPORT. What giving robots back and closing a service window can do (R101, R157, R164). -/

namespace Sys2Proof.Machine

/-! ## What the supervisor leaves alone -/

theorem streams_of_beside {s t : State} (h : t.beside = s.beside) : t.streams = s.streams := by
  have e := congrArg (fun x => x.1.streams) h
  simpa only [State.beside, State.unsupervised, State.unanswered, State.uncounted] using e

theorem mgmt_of_beside {s t : State} (h : t.beside = s.beside) : t.mgmt = s.mgmt :=
  (congrArg (fun x : State × Mgmt => x.2) h :)

theorem unsupervised_of_beside {s t : State} (h : t.beside = s.beside) :
    t.unsupervised = s.unsupervised := (Prod.mk.inj h).1

/-! ## Robots given back (R101) -/

/-- A robot as it enters ARMING at a hall time (R90, R101). -/
def Robot.armedAt (b : Robot) (now : HallTime) : Robot :=
  { b with state := .arming, missCount := 0, repeatsUsed := 0, probation := 0, armingCount := 0,
           barred := false, holder := none, partialPeriod := true, disturbed := false,
           openingTaken := false, hit := none, periodStart := now }

@[simp] theorem giveBack_robots (r : RobotId) (s : State) :
    (giveBack r s).robots = upd s.robots r fun b => b.armedAt s.clock.hall := by
  unfold giveBack enterArming
  dsimp only
  split <;> rfl

/-- Apart from the robots, the watch and the windows a robot given back changes nothing. -/
theorem giveBack_frame (r : RobotId) (s : State) :
    giveBack r s = { s with robots := (giveBack r s).robots, watch := (giveBack r s).watch
                            windows := (giveBack r s).windows } := by
  unfold giveBack enterArming
  dsimp only
  split <;> rfl

/-- And of the windows it changes the held sets alone. -/
theorem giveBack_window (r : RobotId) (s : State) (w : WindowId) :
    ∃ held, (giveBack r s).windows[w] = { s.windows[w] with heldSet := held } := by
  have e : (giveBack r s).windows = (leaveHeld r s).windows := by
    unfold giveBack enterArming
    dsimp only
    split <;> rfl
  rw [e]
  simp only [leaveHeld, forEach_cons, forEach_nil, State.modWindow_windows, Fin.getElem_fin, upd_get]
  fin_cases w <;> exact ⟨_, rfl⟩

theorem giveBackAll_frame (l : List RobotId) (s : State) :
    forEach l giveBack s =
      { s with robots := (forEach l giveBack s).robots, watch := (forEach l giveBack s).watch
               windows := (forEach l giveBack s).windows } := by
  refine forEach_inv (P := fun t => t = { s with robots := t.robots, watch := t.watch
                                                 windows := t.windows }) l (fun r _ t ht => ?_) s rfl
  have e := giveBack_frame r t
  generalize giveBack r t = u at e ⊢
  rw [e, ht]

theorem giveBackAll_window (l : List RobotId) (s : State) (w : WindowId) :
    ∃ held, (forEach l giveBack s).windows[w] = { s.windows[w] with heldSet := held } := by
  refine forEach_inv (P := fun t => ∃ held, t.windows[w] = { s.windows[w] with heldSet := held }) l
    (fun r _ t ht => ?_) s ⟨_, rfl⟩
  obtain ⟨held, e⟩ := ht
  obtain ⟨held', e'⟩ := giveBack_window r t w
  exact ⟨held', by rw [e', e]⟩

/-- Each robot of the list is ARMING, and no other has changed. -/
theorem giveBackAll_robot (l : List RobotId) (s : State) (x : RobotId) :
    (forEach l giveBack s).robots[x] =
      if x ∈ l then s.robots[x].armedAt s.clock.hall else s.robots[x] := by
  induction l generalizing s with
  | nil => rfl
  | cons r l ih =>
    have hc : (giveBack r s).clock = s.clock := by rw [giveBack_frame]
    rw [forEach_cons, ih, hc, giveBack_robots]
    simp only [Fin.getElem_fin, upd_get, List.mem_cons]
    by_cases hr : x = r
    · subst hr; simp [Robot.armedAt]
    · simp [hr]

/-! ## The robots of a window released (R157, steps 1 and 2) -/

theorem releaseRobots_frame (w : WindowId) (s : State) :
    releaseRobots w s =
      { s with robots := (releaseRobots w s).robots, watch := (releaseRobots w s).watch
               windows := (releaseRobots w s).windows } := by
  unfold releaseRobots
  generalize members s.windows[w].heldSet = l
  have e := giveBackAll_frame l s
  dsimp only
  generalize forEach l giveBack s = u at e ⊢
  rw [e]
  rfl

theorem releaseRobots_window (w : WindowId) (s : State) :
    (releaseRobots w s).windows[w] = { s.windows[w] with heldSet := 0, pendingSet := 0 } := by
  obtain ⟨held, e⟩ := giveBackAll_window (members s.windows[w].heldSet) s w
  simp only [Fin.getElem_fin] at e
  simp [releaseRobots, e]

theorem releaseRobots_robot (w : WindowId) (s : State) (r : RobotId) :
    (releaseRobots w s).robots[r] =
      if s.windows[w].heldSet.getLsbD r.val = true then s.robots[r].armedAt s.clock.hall
      else s.robots[r] := by
  simp only [← mem_members]
  exact giveBackAll_robot _ s r

/-! ## A window closed (R157) -/

/-- A port's egress side without the mirror copies of its Q0 (R157, step 3). -/
def Egress.withoutMirrors (e : Egress) : Egress :=
  { e with queues := upd e.queues 0 (List.filter fun x => decide (x.kind ≠ .mirror)) }

theorem releaseEntries_frame (l : List QEntry) (s : State) :
    releaseEntries l s = { s with mem := (releaseEntries l s).mem } :=
  forEach_inv (P := fun t => t = { s with mem := t.mem }) l (fun x _ t ht => by rw [ht]; rfl) s rfl

theorem dropMirrors_frame (p : PortId) (s : State) :
    dropMirrors p s = { s with mem := (dropMirrors p s).mem, egress := (dropMirrors p s).egress } := by
  unfold dropMirrors
  dsimp only
  rw [releaseEntries_frame]
  rfl

theorem dropMirrors_egress (p x : PortId) (s : State) : (dropMirrors p s).egress[x] =
    if x = p then s.egress[p].withoutMirrors else s.egress[x] := by
  have e : (dropMirrors p s).egress = upd s.egress p Egress.withoutMirrors := by
    unfold dropMirrors
    dsimp only
    rw [releaseEntries_frame]
    rfl
  rw [e]
  exact upd_get ..

/-- What closing an open window comes to: its robots are given back, its mirror copies are gone, and its
record is closed with the notice that carries the cause. -/
theorem closeWindow_open (w : WindowId) (cause : CloseCause) (s : State)
    (h : s.windows[w].state ≠ .closed) :
    ∃ u, closeWindow w cause s =
        (raise (.serviceClosed w cause s.windows[w].sessionTraps) u).modWindow w
          (fun x => { x with state := .closed }) ∧
      u = (dropMirrors (windowPort w) (releaseRobots w s)).modWindow w fun x =>
        { x with technician := none, learned := false, warned := false, lastClose := some cause } := by
  have e := releaseRobots_window w s
  have d := dropMirrors_frame (windowPort w) (releaseRobots w s)
  refine ⟨_, ?_, rfl⟩
  unfold closeWindow
  rw [if_neg h]
  dsimp only
  congr 3
  rw [d]
  simp only [Fin.getElem_fin] at e
  simp [e]

section
variable (w : WindowId) (cause : CloseCause) (s : State) (h : s.windows[w].state ≠ .closed)
include h

theorem closeWindow_window : (closeWindow w cause s).windows[w] =
    { s.windows[w] with
      state := .closed, technician := none, learned := false, warned := false
      lastClose := some cause, pendingSet := 0, heldSet := 0 } := by
  obtain ⟨u, e, rfl⟩ := closeWindow_open w cause s h
  have d := dropMirrors_frame (windowPort w) (releaseRobots w s)
  have hw := releaseRobots_window w s
  rw [e, d]
  simp only [Fin.getElem_fin] at hw
  simp [hw]

theorem closeWindow_robot (r : RobotId) : (closeWindow w cause s).robots[r] =
    if s.windows[w].heldSet.getLsbD r.val = true then s.robots[r].armedAt s.clock.hall
    else s.robots[r] := by
  obtain ⟨u, e, rfl⟩ := closeWindow_open w cause s h
  rw [e, State.modWindow_robots, raise_robots, State.modWindow_robots, dropMirrors_frame]
  exact releaseRobots_robot w s r

theorem closeWindow_hold : (closeWindow w cause s).hold = s.hold := by
  obtain ⟨u, e, rfl⟩ := closeWindow_open w cause s h
  rw [e, dropMirrors_frame, releaseRobots_frame]
  exact raise_hold ..

theorem closeWindow_egress (x : PortId) : (closeWindow w cause s).egress[x] =
    (dropMirrors (windowPort w) s).egress[x] := by
  obtain ⟨u, e, rfl⟩ := closeWindow_open w cause s h
  rw [e, State.modWindow_egress, raise_egress, State.modWindow_egress, dropMirrors_egress,
    dropMirrors_egress, releaseRobots_frame]

theorem closeWindow_effects {s₀ : State} {now : BaseTime} {l : List CounterRef}
    {es : List NoticeEvent} (he : Effects s₀ s now l es) (hnow : s.clock.hall.base = now) :
    Effects s₀ (closeWindow w cause s) now l
      (es ++ [.serviceClosed w cause s.windows[w].sessionTraps]) := by
  obtain ⟨u, e, hu⟩ := closeWindow_open w cause s h
  have hc : u.counters = s.counters ∧ u.notices = s.notices ∧ u.clock = s.clock := by
    rw [hu, dropMirrors_frame, releaseRobots_frame]
    exact ⟨rfl, rfl, rfl⟩
  obtain ⟨hk, hn, hh⟩ := hc
  rw [e]
  have hr := (he.congr hk hn).raise (.serviceClosed w cause s.windows[w].sessionTraps)
    (by rw [hh, hnow])
  exact hr.congr (State.modWindow_counters ..) (State.modWindow_notices ..)

end

@[simp] theorem closeWindow_beside (w : WindowId) (cause : CloseCause) (s : State) :
    (closeWindow w cause s).beside = s.beside := by
  by_cases h : s.windows[w].state = .closed
  · rw [closeWindow, if_pos h]
  · obtain ⟨u, e, rfl⟩ := closeWindow_open w cause s h
    rw [e, dropMirrors_frame, releaseRobots_frame, modWindow_beside, raise_beside]
    rfl

theorem closeWindow_counter (w : WindowId) (cause : CloseCause) (s : State) (d : CounterRef)
    (hd : d.ofNotices = false) : (closeWindow w cause s).counter d = s.counter d := by
  by_cases h : s.windows[w].state = .closed
  · rw [closeWindow, if_pos h]
  · simpa using (closeWindow_effects w cause s h (Effects.refl s _) rfl).counters d hd

end Sys2Proof.Machine
end


section
/-! What a reset, a gained link and a RESTART carried out do (R5, R14, R193). -/

namespace Sys2Proof.Machine

/-! ## Links gained (R5) -/

/-- Settles O6: a port that is UP stays as it is, and a DOWN one takes the change and its notice. -/
theorem linkGainedRaisesChange : Obligations.LinkGainedRaisesChange := by
  intro p s
  constructor
  · intro h
    simp only [exec, execLinkGained, if_pos h]
  · intro h
    refine ⟨raise (.linkChange p true) (s.modPort p fun x => { x with link := true }), ?_,
      raise_uncounted .., ?_⟩
    · simp only [exec, execLinkGained, h, Bool.false_eq_true, if_false]
    · exact (Effects.start s (s.modPort p _) _ rfl rfl).raise _ rfl

/-! ## The stream table over a reset and a RESTART (R14) -/

@[simp] theorem abortReception_streams (p : PortId) (s : State) :
    (abortReception p s).streams = s.streams := by
  unfold abortReception
  split
  · rfl
  · rw [bump_streams]; rfl

theorem abortReception_counter (p : PortId) (s : State) (d : CounterRef) (hd : d.ofNotices = false)
    (h : d ≠ .port p .abortedReceptions) : (abortReception p s).counter d = s.counter d := by
  unfold abortReception
  split
  · rfl
  · rw [bump_counter_other _ _ _ hd h]; rfl

theorem counter_congr {s t : State} (h : t.counters = s.counters) (c : CounterRef) :
    t.counter c = s.counter c := by unfold State.counter; rw [h]

/-- A RESTART that is carried out leaves the stream table as it was. -/
theorem carryOutRestart_streams (s : State) : (carryOutRestart s).streams = s.streams := by
  have hfree (u : State) : (freeFramePath u).streams = u.streams := by
    unfold freeFramePath
    dsimp only
    exact forEach_keeps State.streams (List.finRange 12) abortReception_streams u
  have hclose (u : State) :
      (forEach [(0 : WindowId), 1] (closeWindow · .link) u).streams = u.streams :=
    forEach_keeps State.streams _ (fun w s => streams_of_beside (closeWindow_beside w .link s)) u
  have hrest (u : State) : (restartEjector (disturbCycles u)).streams = u.streams := rfl
  unfold carryOutRestart
  dsimp only
  rw [hrest, hclose]
  dsimp only
  rw [hfree, bump_streams]

/-- And so its counters. -/
theorem carryOutRestart_counter (s : State) (i : StreamId) (k : StreamCounter) :
    (carryOutRestart s).counter (.stream i k) = s.counter (.stream i k) := by
  have hfree (u : State) : (freeFramePath u).counters.get (.stream i k) =
      u.counters.get (.stream i k) := by
    unfold freeFramePath
    dsimp only
    exact forEach_keeps (State.counter · _) (List.finRange 12)
      (fun p s => abortReception_counter p s _ rfl (by simp)) u
  have hclose (u : State) : (forEach [(0 : WindowId), 1] (closeWindow · .link) u).counters.get
      (.stream i k) = u.counters.get (.stream i k) :=
    forEach_keeps (State.counter · _) _ (fun w s => closeWindow_counter w .link s _ rfl) u
  have hrest (u : State) : (restartEjector (disturbCycles u)).counters = u.counters := rfl
  have hbump := bump_counter_other (.device .restarts) (.stream i k) s rfl (by simp)
  unfold State.counter at hbump ⊢
  unfold carryOutRestart
  dsimp only
  rw [hrest, hclose]
  dsimp only
  rw [hfree, hbump]

/-- The stream table of a reset: every record is blank and its counters are 0. -/
theorem afterReset_stream (cause : ResetCause) (action : HoldPolicy) (pins : ResetPins)
    (pending : List Instr) (i : StreamId) :
    (State.afterReset cause action pins pending).streams[i] = Stream.reset := by
  simp [State.afterReset]

theorem afterReset_streamCounter (cause : ResetCause) (action : HoldPolicy) (pins : ResetPins)
    (pending : List Instr) (i : StreamId) (k : StreamCounter) :
    (State.afterReset cause action pins pending).counter (.stream i k) = 0 := by
  simp [State.counter, Counters.get, State.afterReset, Counters.reset, Counters.zero]

/-- No record of a blank table carries a key. -/
theorem afterReset_keyHolder (cause : ResetCause) (action : HoldPolicy) (pins : ResetPins)
    (pending : List Instr) (dst : Mac) (vlan : Nat) :
    (State.afterReset cause action pins pending).keyHolder dst vlan = none := by
  refine List.find?_eq_none.mpr fun i _ => ?_
  rw [afterReset_stream]
  simp [Stream.carries, Stream.reset]

/-- Settles O4: both resets leave the blank table, and a RESTART touches no record and no counter of
it. -/
theorem streamTableAfterResets : Obligations.StreamTableAfterResets := by
  refine ⟨fun pins s c hc => ?_, fun s => ⟨_, rfl, ?_⟩⟩
  · obtain ⟨cause, action, he⟩ : ∃ cause action,
        exec c s = .next (State.afterReset cause action pins s.pending) := by
      rcases hc with rfl | rfl
      exacts [⟨_, _, rfl⟩, ⟨_, _, rfl⟩]
    refine ⟨_, he, fun i => ?_, afterReset_keyHolder _ _ _ _⟩
    rw [afterReset_stream]
    exact ⟨rfl, rfl, rfl, rfl, rfl, rfl, rfl, rfl, rfl, rfl, afterReset_streamCounter _ _ _ _ i⟩
  · split
    · exact ⟨(State.modMgmt_streams ..).trans (carryOutRestart_streams s), fun i k =>
        (counter_congr (State.modMgmt_counters ..) _).trans (carryOutRestart_counter s i k)⟩
    · exact ⟨rfl, fun _ _ => rfl⟩

end Sys2Proof.Machine
end

section
/-! The checked reads of the two protected tables, and the scrub (R18 to R21). -/

namespace Sys2Proof.Machine

/-! ## A checked read of a stream record (R18 to R20) -/

section
variable (i : StreamId) (k : ReadKind) (s : State)

theorem checkStream_damaged (h : s.streams[i].damaged = true) :
    checkStream i k s = bump (.device .damagedStream) s := if_pos h

theorem checkStream_clean (hd : s.streams[i].damaged = false) (he : s.streams[i].ecc = .clean) :
    checkStream i k s = s := by simp only [checkStream, hd, he, Bool.false_eq_true, if_false]

theorem checkStream_single (hd : s.streams[i].damaged = false) (he : s.streams[i].ecc = .single) :
    checkStream i k s = bump (.device .correctedStream) (s.modStream i fun x =>
      { x with ecc := .clean }) := by
  simp only [checkStream, hd, he, Bool.false_eq_true, if_false]

theorem checkStream_double (flips : BitVec 160) (hd : s.streams[i].damaged = false)
    (he : s.streams[i].ecc = .double flips) :
    checkStream i k s = raise (.tableDamage (.stream i) k) (bump (.device .damagedStream)
      (s.modStream i fun x => { x with damaged := true, cfg := { x.cfg with valid := false } })) := by
  simp only [checkStream, hd, he, Bool.false_eq_true, if_false]

end

/-! ## A checked read of a robot record (R18, R19, R21) -/

section
variable (r : RobotId) (k : ReadKind) (s : State)

theorem checkRobot_damaged (h : s.robots[r].damaged = true) :
    checkRobot r k s = bump (.device .damagedRobot) s := if_pos h

theorem checkRobot_clean (hd : s.robots[r].damaged = false) (he : s.robots[r].ecc = .clean) :
    checkRobot r k s = s := by simp only [checkRobot, hd, he, Bool.false_eq_true, if_false]

theorem checkRobot_single (hd : s.robots[r].damaged = false) (he : s.robots[r].ecc = .single) :
    checkRobot r k s = bump (.device .correctedRobot) (s.modRobot r fun x =>
      { x with ecc := .clean }) := by
  simp only [checkRobot, hd, he, Bool.false_eq_true, if_false]

theorem checkRobot_double (flips : BitVec 160) (hd : s.robots[r].damaged = false)
    (he : s.robots[r].ecc = .double flips) :
    checkRobot r k s = damageRobot r (raise (.tableDamage (.robot r) k)
      (bump (.device .damagedRobot) (s.modRobot r fun x => { x with damaged := true }))) := by
  simp only [checkRobot, hd, he, Bool.false_eq_true, if_false]

end

/-! ## A robot whose record is damaged (R21) -/

/-- A robot that goes to IDLE keeps its record, its period state and its barred flag (R91). -/
def Robot.idled (b : Robot) : Robot :=
  { b with state := .idle, missCount := 0, repeatsUsed := 0, probation := 0, armingCount := 0,
           holder := none, slot := none, store := none }

theorem releaseOpt_frame (h : Option CellId) (s : State) :
    s.releaseOpt h = { s with mem := (s.releaseOpt h).mem } := by cases h <;> rfl

theorem watchIdleIfNone_frame (s : State) :
    watchIdleIfNone s = { s with watch := (watchIdleIfNone s).watch
                                 hold := (watchIdleIfNone s).hold } := by
  unfold watchIdleIfNone
  split <;> rfl

/-- The watch that goes idle takes at most the controller out of the hold sources (R107). -/
theorem watchIdleIfNone_hold (s : State) : (watchIdleIfNone s).hold = s.hold ∨
    (watchIdleIfNone s).hold = { s.hold with present := s.hold.present.leave .controller } := by
  unfold watchIdleIfNone
  split
  exacts [.inr rfl, .inl rfl]

/-- Apart from these parts a robot that goes to IDLE changes nothing. -/
theorem toIdle_frame (r : RobotId) (s : State) :
    toIdle r s = { s with mem := (toIdle r s).mem, robots := upd s.robots r Robot.idled
                          windows := (leavePending r s).windows, watch := (toIdle r s).watch
                          hold := (toIdle r s).hold } := by
  unfold toIdle emptySlots
  dsimp only
  rw [watchIdleIfNone_frame, releaseOpt_frame, releaseOpt_frame]
  simp only [leavePending, leaveHold, forEach_cons, forEach_nil, State.modRobot, State.modHold,
    State.modWindow, State.mk.injEq, true_and, and_true]
  simp [upd, Robot.idled]

theorem toIdle_hold (r : RobotId) (s : State) :
    (toIdle r s).hold.present.has (.robot r) = false ∧ (toIdle r s).hold.latch = s.hold.latch := by
  have key (u : State) (hp : u.hold = (leaveHold (.robot r) s).hold) :
      (watchIdleIfNone u).hold.present.has (.robot r) = false ∧
        (watchIdleIfNone u).hold.latch = s.hold.latch := by
    obtain e | e := watchIdleIfNone_hold u <;>
      rw [e, hp, leaveHold_hold] <;> simp [PresentSet.has_leave]
  refine key _ ?_
  unfold emptySlots
  dsimp only
  rw [releaseOpt_frame, releaseOpt_frame]
  rfl

/-- No window waits for a robot that left the pending sets. -/
theorem leavePending_window (r : RobotId) (s : State) (w : WindowId) : (leavePending r s).windows[w] =
    { s.windows[w] with pendingSet := without s.windows[w].pendingSet r } := by
  simp only [leavePending, forEach_cons, forEach_nil, State.modWindow_windows, Fin.getElem_fin, upd_get]
  fin_cases w <;> rfl

theorem leaveHeld_window (r : RobotId) (s : State) (w : WindowId) : (leaveHeld r s).windows[w] =
    { s.windows[w] with heldSet := without s.windows[w].heldSet r } := by
  simp only [leaveHeld, forEach_cons, forEach_nil, State.modWindow_windows, Fin.getElem_fin, upd_get]
  fin_cases w <;> rfl

theorem damageRobot_window (r : RobotId) (s : State) (w : WindowId) :
    (damageRobot r s).windows[w].heldSet.getLsbD r.val = false ∧
      (damageRobot r s).windows[w].pendingSet.getLsbD r.val = false := by
  unfold damageRobot
  rw [leaveHeld_window, toIdle_frame]
  simp only [leavePending_window, getLsbD_without, decide_true, Bool.not_true, Bool.and_false, and_self]

/-- A damaged record leaves counters and notices to its caller, and puts its robot into IDLE. -/
theorem damageRobot_robots (r : RobotId) (s : State) :
    (damageRobot r s).robots = upd s.robots r Robot.idled ∧
      (damageRobot r s).counters = s.counters ∧ (damageRobot r s).notices = s.notices ∧
      (damageRobot r s).hold = (toIdle r s).hold := by
  have e : damageRobot r s = { toIdle r s with windows := (damageRobot r s).windows } := rfl
  rw [e]
  refine ⟨?_, ?_, ?_, rfl⟩ <;> rw [toIdle_frame]

/-! ## The scrub (R18; log 8) -/

theorem upd_congr {α : Type} {n : Nat} (v : Vector α n) (i : Fin n) (f g : α → α)
    (h : f v[i] = g v[i]) : upd v i f = upd v i g := by unfold upd; rw [h]

theorem upd_fixed {α : Type} {n : Nat} (v : Vector α n) (i : Fin n) (f : α → α) (h : f v[i] = v[i]) :
    upd v i f = v := by unfold upd; rw [h]; exact Vector.set_getElem_self ..

theorem scrubNext_stream (i : StreamId) (s : State) (h : s.scrub.val = i.val) :
    scrubNext s = checkStream i .scrub { s with scrub := s.scrub + 1 } := by
  have e : scrubTarget s.scrub = .stream i := by
    unfold scrubTarget
    rw [dif_pos (by have := i.isLt; omega)]
    exact congrArg _ (Fin.ext h)
  simp only [scrubNext, e]

theorem scrubNext_robot (r : RobotId) (s : State) (h : s.scrub.val = 256 + r.val) :
    scrubNext s = checkRobot r .scrub { s with scrub := s.scrub + 1 } := by
  have e : scrubTarget s.scrub = .robot r := by
    unfold scrubTarget
    rw [dif_neg (by omega)]
    exact congrArg _ (Fin.ext (by simp [h]))
  simp only [scrubNext, e]

@[simp] theorem checkStream_scrub (i : StreamId) (k : ReadKind) (s : State) :
    (checkStream i k s).scrub = s.scrub := by
  unfold checkStream
  split
  · simp
  · split <;> simp

@[simp] theorem checkRobot_scrub (r : RobotId) (k : ReadKind) (s : State) :
    (checkRobot r k s).scrub = s.scrub := by
  have e := congrArg (fun x => x.1.scrub) (checkRobot_beside r k s)
  simpa only [State.beside, State.unsupervised, State.unanswered, State.uncounted] using e

theorem scrubNext_scrub (s : State) : (scrubNext s).scrub = s.scrub + 1 := by
  cases h : scrubTarget s.scrub <;> simp [scrubNext, h]

theorem takeHit_scrub (x : EccRecord) (e : EccError) (s : State) : (takeHit x e s).scrub = s.scrub := by
  cases x <;> rfl

/-- An error that comes in stands in its record, but for a record marked damaged, which is as it was. -/
theorem takeHit_stream (i : StreamId) (e : EccError) (s : State) (he : e ≠ .clean) :
    takeHit (.stream i) e s =
      if s.streams[i].damaged = true then s else s.modStream i fun x => { x with ecc := e } := by
  split
  · next h =>
    exact congrArg (fun v => ({ s with streams := v } : State)) (upd_fixed _ _ _ (by simp only [errorsFound_eq, if_pos (Or.inl h)]))
  · next h =>
    exact congrArg (fun v => ({ s with streams := v } : State))
      (upd_congr _ _ _ _ (by simp only [errorsFound_eq, h, he, Bool.false_eq_true, or_self, if_false]))

theorem takeHit_robot (r : RobotId) (e : EccError) (s : State) (he : e ≠ .clean) :
    takeHit (.robot r) e s =
      if s.robots[r].damaged = true then s else s.modRobot r fun x => { x with ecc := e } := by
  split
  · next h =>
    exact congrArg (fun v => ({ s with robots := v } : State)) (upd_fixed _ _ _ (by simp only [errorsFound_eq, if_pos (Or.inl h)]))
  · next h =>
    exact congrArg (fun v => ({ s with robots := v } : State))
      (upd_congr _ _ _ _ (by simp only [errorsFound_eq, h, he, Bool.false_eq_true, or_self, if_false]))

theorem exec_scrubRead_clean (x : EccRecord) (s : State) :
    exec (.scrubRead x .clean) s = .next (scrubNext s) := by
  change Host.Outcome.next (scrubNext (takeHit x .clean s)) = _
  rw [takeHit_clean]

/-- A double error found in a robot record (R18, R19, R21): the robot is out of supervision and out of
every window, and nothing but the notice and the count tells of it. -/
theorem checkRobot_double_result (r : RobotId) (k : ReadKind) (s : State) (flips : BitVec 160)
    (hd : s.robots[r].damaged = false) (he : s.robots[r].ecc = .double flips) :
    (checkRobot r k s).robots = upd s.robots r (fun x => { x with damaged := true }.idled) ∧
      (checkRobot r k s).hold.present.has (.robot r) = false ∧
      (checkRobot r k s).hold.latch = s.hold.latch ∧
      Effects s (checkRobot r k s) s.clock.hall.base [.device .damagedRobot]
        [.tableDamage (.robot r) k] := by
  have hf := ((Effects.start s (s.modRobot r fun x => { x with damaged := true }) _ rfl rfl).bump
    (.device .damagedRobot)).raise (.tableDamage (.robot r) k)
    (by rw [bump_clock, State.modRobot_clock])
  rw [checkRobot_double r k s flips hd he]
  generalize hu : raise _ (bump _ (s.modRobot r _)) = u at hf ⊢
  obtain ⟨hr, hc, hn, hh⟩ := damageRobot_robots r u
  obtain ⟨h1, h2⟩ := toIdle_hold r u
  refine ⟨?_, by rw [hh, h1], ?_, hf.congr hc hn⟩
  · rw [hr, ← hu, raise_robots, bump_robots, State.modRobot_robots]
    simp [upd]
  · rw [hh, h2, ← hu, raise_hold, bump_hold, State.modRobot_hold]

/-- Settles O17: the scrub by its position, and each checked read by what stands in its record. -/
theorem scrubChecksRecords : Obligations.ScrubChecksRecords := by
  refine ⟨fun x e s => ⟨_, rfl, ?_⟩, fun x s => ⟨fun i h => ?_, fun r h => ?_⟩,
    fun e s he => ⟨fun i => ?_, fun r => ?_⟩, fun i k s => ⟨fun h => ?_, checkStream_clean i k s,
      fun hd he => ?_, fun flips hd he => ?_⟩, fun r k s => ⟨fun h => ?_, checkRobot_clean r k s,
      fun hd he => ?_, fun flips t hd he ht => ?_⟩⟩
  · rw [scrubNext_scrub, takeHit_scrub]
    simp [Fin.val_add]
  · rw [exec_scrubRead_clean, scrubNext_stream i s h]
  · rw [exec_scrubRead_clean, scrubNext_robot r s h]
  · rw [exec_scrubRead_clean, ← takeHit_stream i e s he]; rfl
  · rw [exec_scrubRead_clean, ← takeHit_robot r e s he]; rfl
  · rw [checkStream_damaged i k s h]
    exact ⟨bump_uncounted .., (Effects.refl s _).bump _⟩
  · rw [checkStream_single i k s hd he]
    exact ⟨bump_uncounted .., (Effects.start s (s.modStream i _) _ rfl rfl).bump _⟩
  · rw [checkStream_double i k s flips hd he]
    exact ⟨(raise_uncounted ..).trans (bump_uncounted ..),
      ((Effects.start s (s.modStream i _) _ rfl rfl).bump _).raise _
        (by rw [bump_clock, State.modStream_clock])⟩
  · rw [checkRobot_damaged r k s h]
    exact ⟨bump_uncounted .., (Effects.refl s _).bump _⟩
  · rw [checkRobot_single r k s hd he]
    exact ⟨bump_uncounted .., (Effects.start s (s.modRobot r _) _ rfl rfl).bump _⟩
  · obtain ⟨hr, hp, hl, hf⟩ := checkRobot_double_result r k s flips hd he
    have hw (w : WindowId) := checkRobot_double r k s flips hd he ▸ damageRobot_window r _ w
    rw [← ht] at hr hp hl hf hw
    have hs : t.robots[r] = { s.robots[r] with damaged := true }.idled := by
      rw [hr]; exact upd_same ..
    refine ⟨by rw [hs]; rfl, by rw [hs]; rfl, by rw [hs]; rfl, by rw [hs]; rfl, by rw [hs]; rfl,
      hp, hl, hw, fun x hx => ?_, hf⟩
    rw [hr]
    exact upd_other _ _ _ _ hx

end Sys2Proof.Machine
end


section
/-! What a lost link does to its port and to a service window on it (R5, R6, R39, R84, R157). -/

namespace Sys2Proof.Machine

/-! ## What is on the port -/

/-- A flushed frame changes cell memory and a RESTART's wait alone. -/
theorem flushFrame_frame (h : CellId) (s : State) :
    flushFrame h s = { s with mem := (flushFrame h s).mem
                              mgmt := { s.mgmt with restart := (flushFrame h s).mgmt.restart } } := by
  unfold flushFrame answerGone State.modMgmt State.release State.modMem
  dsimp only
  split
  · split <;> rfl
  · rfl

theorem flushFrames_frame (l : List QEntry) (s : State) :
    forEach l (fun x => flushFrame x.frame) s =
      { s with mem := (forEach l (fun x => flushFrame x.frame) s).mem
               mgmt := { s.mgmt with
                 restart := (forEach l (fun x => flushFrame x.frame) s).mgmt.restart } } := by
  refine forEach_inv (P := fun t => t = { s with mem := t.mem
                                                 mgmt := { s.mgmt with restart := t.mgmt.restart } })
    l (fun x _ t ht => ?_) s rfl
  have e := flushFrame_frame x.frame t
  generalize flushFrame x.frame t = u at e ⊢
  rw [e, ht]

/-- The egress side of a port whose link is lost: nothing waits, and the piece on the wire is the last
that it sent (R6, R39). -/
def Egress.flushed (p : PortId) (now : Nat) (e : Egress) : Egress :=
  { e with
    queues := Vector.replicate 4 [], tx := none, remainder := none
    lastSent :=
      match e.tx with
      | some t => some (t.abandoned p now .linkLost)
      | none => e.lastSent }

/-- A flushed port changes its own egress side, cell memory and a RESTART's wait alone. -/
theorem flushPort_frame (p : PortId) (s : State) :
    flushPort p s = { s with egress := upd s.egress p (Egress.flushed p s.clock.ticks)
                             mem := (flushPort p s).mem
                             mgmt := { s.mgmt with restart := (flushPort p s).mgmt.restart } } := by
  unfold flushPort
  generalize hl : s.egress[p].queues[(3 : QueueId)] ++ s.egress[p].queues[(2 : QueueId)] ++
    s.egress[p].queues[(1 : QueueId)] ++ s.egress[p].queues[(0 : QueueId)] = l
  dsimp only
  rw [hl, flushFrames_frame]
  cases s.egress[p].tx <;> cases s.egress[p].remainder <;> dsimp only <;>
    first
    | rfl
    | (rw [flushFrame_frame]; rfl)

/-- The reception under way is gone, and counted if there was one. -/
theorem abortReception_effects {s t : State} {now : BaseTime} {l : List CounterRef}
    {es : List NoticeEvent} (p : PortId) (h : Effects s t now l es) :
    Effects s (abortReception p t) now
      (l ++ if t.rx[p].cur.isSome then [.port p .abortedReceptions] else []) es := by
  unfold abortReception
  cases t.rx[p].cur with
  | none => simpa using h
  | some r => exact (h.congr rfl rfl : Effects s ((endReception p t).give r.cells) now l es).bump _

theorem abortReception_frame (p : PortId) (s : State) :
    (abortReception p s).uncounted = { s with
      rx := upd s.rx p fun x => { x with cur := none }
      mem := (abortReception p s).mem }.uncounted := by
  unfold abortReception
  split
  · next h =>
    rw [upd_fixed]
    generalize s.rx[p] = x at h
    cases x
    simp_all
  · simp; rfl

theorem discardOpen_frame (p : PortId) (s : State) :
    discardOpen p s = { s with rx := upd s.rx p fun x => { x with asm := none }
                               mem := (discardOpen p s).mem } := by
  unfold discardOpen
  split
  · next h =>
    rw [upd_fixed]
    generalize s.rx[p] = x at h
    cases x
    simp_all
  · rfl

/-! ## The port as its link is lost -/

theorem upd_upd {α : Type} {n : Nat} (v : Vector α n) (i : Fin n) (f g : α → α) :
    upd (upd v i f) i g = upd v i fun x => g (f x) := by
  simp [upd]

/-- LINK_LOST but for the service window on the port: the port is DOWN and nothing is left on it. -/
def cutLink (p : PortId) (s : State) : State :=
  discardOpen p (flushPort p (abortReception p
    (raise (.linkChange p false) (s.modPort p fun x => { x with link := false }))))

/-- Apart from cell memory, counters, notices and a RESTART's wait the whole state is known. -/
theorem cutLink_frame (p : PortId) (s : State) : ∃ mem restart counters notices,
    cutLink p s = { s with
      ports := upd s.ports p fun x => { x with link := false }
      rx := upd s.rx p fun _ => Rx.reset
      egress := upd s.egress p (Egress.flushed p s.clock.ticks)
      mem := mem, mgmt := { s.mgmt with restart := restart }
      counters := counters, notices := notices } := by
  obtain ⟨mem, counters, notices, hu⟩ : ∃ mem counters notices,
      abortReception p (raise (.linkChange p false) (s.modPort p fun x => { x with link := false })) =
        { s with ports := upd s.ports p fun x => { x with link := false }
                 rx := upd s.rx p fun x => { x with cur := none }
                 mem := mem, counters := counters, notices := notices } := by
    have hr := eq_recounted (raise_uncounted (.linkChange p false)
      (s.modPort p fun x => { x with link := false })).symm
    generalize raise _ _ = v at hr ⊢
    have ha := eq_recounted (abortReception_frame p v).symm
    generalize abortReception p v = u at ha ⊢
    rw [hr] at ha
    exact ⟨_, _, _, ha⟩
  unfold cutLink
  rw [hu, discardOpen_frame, flushPort_frame]
  dsimp only
  rw [upd_upd]
  exact ⟨_, _, _, _, rfl⟩

theorem cutLink_effects (p : PortId) (s : State) :
    Effects s (cutLink p s) s.clock.hall.base
      (if s.rx[p].cur.isSome then [.port p .abortedReceptions] else []) [.linkChange p false] := by
  have h0 := (Effects.start s (s.modPort p fun x => { x with link := false }) _ rfl rfl).raise
    (.linkChange p false) rfl
  have h1 := abortReception_effects p h0
  rw [raise_rx, State.modPort_rx] at h1
  unfold cutLink
  rw [discardOpen_frame, flushPort_frame]
  exact h1.congr rfl rfl

theorem exec_linkLost_up (p : PortId) (s : State) (h : s.ports[p].link = true) :
    exec (.linkLost p) s = .next (match portWindow p with
      | some w => closeWindow w .link (cutLink p s)
      | none => cutLink p s) := by
  change Host.Outcome.next (if s.ports[p].link = true then _ else s) = _
  rw [if_pos h]
  rfl

/-- A port is the port of at most one window. -/
theorem windowPort_inj {w v : WindowId} (h : windowPort w = windowPort v) : w = v := by
  revert w v; decide

theorem portWindow_eq_some {p : PortId} {w : WindowId} (h : portWindow p = some w) :
    p = windowPort w := by
  revert p w; decide

/-- Settles O7: the port is cut, and then an open window on it is closed. -/
theorem linkLostEmptiesThePort : Obligations.LinkLostEmptiesThePort := by
  intro p s
  constructor
  · intro h
    simp only [exec, execLinkLost, h, Bool.false_eq_true, if_false]
  intro h
  obtain ⟨mem, restart, counters, notices, e⟩ := cutLink_frame p s
  have hf := cutLink_effects p s
  have hp : (cutLink p s).egress[p] = s.egress[p].flushed p s.clock.ticks := by
    rw [e]; exact upd_same ..
  have ho (x : PortId) (hx : x ≠ p) : (cutLink p s).egress[x] = s.egress[x] := by
    rw [e]; exact upd_other _ _ _ _ hx
  have hq (q : QueueId) : (s.egress[p].flushed p s.clock.ticks).queues[q] = [] := by
    simp [Egress.flushed]
  rw [exec_linkLost_up p s h]
  by_cases hw : ∃ w : WindowId, p = windowPort w ∧ s.windows[w].state ≠ .closed
  · obtain ⟨w, rfl, hs⟩ := hw
    have hopen : (cutLink (windowPort w) s).windows[w].state ≠ .closed := by rw [e]; exact hs
    have hx (x : PortId) := closeWindow_egress w .link (cutLink (windowPort w) s) hopen x
    have hb := closeWindow_beside w .link (cutLink (windowPort w) s)
    have hr := closeWindow_robot w .link (cutLink (windowPort w) s) hopen
    have hc := closeWindow_window w .link (cutLink (windowPort w) s) hopen
    have hl := closeWindow_hold w .link (cutLink (windowPort w) s) hopen
    have he := closeWindow_effects w .link (cutLink (windowPort w) s) hopen hf (by rw [e])
    have hm := mgmt_of_beside hb
    rw [portWindow_windowPort]
    dsimp only
    refine ⟨_, rfl, ?_, fun q => ?_, ?_, ?_, fun x hne => ?_,
      fun hclosed => absurd (hclosed w rfl) hs, fun v hv _ => ?_⟩
    · rw [hm, e]
    · rw [hx, dropMirrors_egress, if_pos rfl, hp]
      exact (upd_get ..).trans (by split <;> simp [Egress.flushed])
    · rw [hx, dropMirrors_egress, if_pos rfl, hp]; rfl
    · rw [hx, dropMirrors_egress, if_pos rfl, hp]; rfl
    · rw [hx, dropMirrors_egress, if_neg hne, ho x hne]
    · obtain rfl : w = v := windowPort_inj (Fin.ext hv)
      refine ⟨?_, ?_, fun r hheld => ?_, fun r hheld => ?_, ?_, ?_⟩
      · rw [unsupervised_of_beside hb, e]; rfl
      · rw [hc, e]
      · rw [hr, if_pos (by rw [e]; exact hheld)]
        exact ⟨rfl, rfl, rfl⟩
      · rw [hr, if_neg (by rw [e, hheld]; decide), e]
      · rw [hl, e]
      · rw [e] at he ⊢
        exact he
  · have hclosed (w : WindowId) (hv : p.val = 10 + w.val) : s.windows[w].state = .closed :=
      not_not.mp fun hs => hw ⟨w, Fin.ext hv, hs⟩
    have ht : (match portWindow p with
        | some w => closeWindow w .link (cutLink p s)
        | none => cutLink p s) = cutLink p s := by
      split
      · next w hpw =>
        have hs := hclosed w (by rw [portWindow_eq_some hpw]; rfl)
        rw [closeWindow, if_pos (by rw [e]; exact hs)]
      · rfl
    rw [ht]
    refine ⟨_, rfl, by rw [e], fun q => by rw [hp, hq], by rw [hp]; rfl, by rw [hp]; rfl, ho,
      fun _ => ⟨by rw [e]; rfl, hf⟩, fun w hv hs => absurd (hclosed w hv) hs⟩

end Sys2Proof.Machine
end


section
/-! SUPPORT. Queues and admission: the entry that joins a queue, the cut point it may cause, and the
queues that take a received frame (R26, R29 to R31, R80). -/

namespace Sys2Proof.Machine

/-! ## The parts of a state that admission reads -/

/-- Two states agree in what admission reads: cell memory, the egress side, the gates, the limits, the
links and the clock. -/
structure SameQueues (s t : State) : Prop where
  mem : t.mem = s.mem
  egress : t.egress = s.egress
  gates : t.gates = s.gates
  device : t.device = s.device
  ports : t.ports = s.ports
  clock : t.clock = s.clock

theorem SameQueues.refl (s : State) : SameQueues s s := ⟨rfl, rfl, rfl, rfl, rfl, rfl⟩

theorem SameQueues.trans {s t u : State} (a : SameQueues s t) (b : SameQueues t u) : SameQueues s u :=
  ⟨b.mem.trans a.mem, b.egress.trans a.egress, b.gates.trans a.gates, b.device.trans a.device,
    b.ports.trans a.ports, b.clock.trans a.clock⟩

theorem SameQueues.of_uncounted {s t : State} (h : t.uncounted = s.uncounted) : SameQueues s t := by
  rw [eq_recounted h.symm]
  exact ⟨rfl, rfl, rfl, rfl, rfl, rfl⟩

theorem SameQueues.bumpBy (c : CounterRef) (n : Nat) (s : State) : SameQueues s (bumpBy c n s) :=
  .of_uncounted (bumpBy_uncounted c n s)

theorem SameQueues.bump (c : CounterRef) (s : State) : SameQueues s (bump c s) := .bumpBy c 1 s

theorem SameQueues.raise (e : NoticeEvent) (s : State) : SameQueues s (raise e s) :=
  .of_uncounted (raise_uncounted e s)

theorem SameQueues.forEach {α : Type} {f : α → State → State} (hf : ∀ a s, SameQueues s (f a s))
    (l : List α) (s : State) : SameQueues s (Machine.forEach l f s) :=
  forEach_inv (P := SameQueues s) l (fun a _ t ht => ht.trans (hf a t)) s (.refl s)

theorem SameQueues.fitsLimit {s t : State} (h : SameQueues s t) (q : QueueId) (n : Nat) (p : PortId) :
    t.fitsLimit q n p = s.fitsLimit q n p := by
  unfold State.fitsLimit State.occupancy
  rw [h.mem, h.egress, h.device]

theorem SameQueues.egressPorts {s t : State} (h : SameQueues s t) (set : PortSet) (p : PortId) :
    t.egressPorts set p = s.egressPorts set p := by
  unfold State.egressPorts
  rw [h.ports]

/-! ## The cut point that a trigger chooses (R80) -/

theorem cutTrigger_iff (s : State) (p : PortId) (t : Tx) :
    s.cutTrigger p t = true ↔ s.cutTriggered p t := by
  simp only [State.cutTrigger, State.cutTriggered, Bool.or_eq_true, Bool.and_eq_true,
    Bool.not_eq_true', List.isEmpty_eq_false_iff, or_assoc]

theorem octetTicks_pos (p : PortId) : 0 < octetTicks p := by unfold octetTicks; split <;> decide

/-- The cut points of a piece are the boundaries from the position, and from the 64th octet, on. -/
theorem cutPoint_iff (s : State) (p : PortId) (w : Tx) (k : Nat) : s.cutPoint p w k ↔
    max Config.cutMinimum (w.position p s.clock.ticks) ≤ k ∧
      k + Config.cutMinimum ≤ w.octets.length - w.offset := by
  have hp := octetTicks_pos p
  have hd : (s.clock.ticks - w.startTick + (octetTicks p - 1)) / octetTicks p ≤ 8 + k ↔
      s.clock.ticks ≤ w.startTick + (8 + k) * octetTicks p := by
    rw [Nat.div_le_iff_le_mul hp]
    omega
  unfold State.cutPoint Tx.position
  simp only [Config.cutMinimum, Config.preambleOctets] at hd ⊢
  omega

/-- Looking for a trigger leaves each queue, and so the trigger, as it was. -/
theorem noteCut_cutTriggered (p : PortId) (s : State) (w : Tx) :
    (noteCut p s).cutTriggered p w ↔ s.cutTriggered p w := by
  have hg : (noteCut p s).gates = s.gates := by rw [noteCut_frame]
  unfold State.cutTriggered
  rw [noteCut_queues, hg]

theorem noteCut_cutPoint (p : PortId) (s : State) (w : Tx) (k : Nat) :
    (noteCut p s).cutPoint p w k ↔ s.cutPoint p w k := by
  have hc : (noteCut p s).clock = s.clock := by rw [noteCut_frame]
  unfold State.cutPoint
  rw [hc]

/-- The cut point that a trigger which is looked for gives to the piece on the wire. -/
def State.cutChosen (s : State) (p : PortId) (w : Tx) : Option Nat :=
  let c := max Config.cutMinimum (w.position p s.clock.ticks)
  if w.cuttable && w.cutAt.isNone && s.cutTrigger p w &&
      decide (c + Config.cutMinimum ≤ w.octets.length - w.offset) then some c
  else w.cutAt

theorem cutChosen_noted (s t : State) (p : PortId) (w : Tx)
    (ht : ∀ x, t.cutTriggered p x ↔ s.cutTriggered p x)
    (hp : ∀ x k, t.cutPoint p x k ↔ s.cutPoint p x k) : CutNoted t p w (s.cutChosen p w) := by
  constructor
  · intro h
    rw [ht, ← cutTrigger_iff] at h
    have hn : ¬((w.cuttable && w.cutAt.isNone && s.cutTrigger p w) = true) := by
      simp only [Bool.and_eq_true, Option.isNone_iff_eq_none, not_and]
      rintro ⟨hc, hn⟩ hs
      rcases h with h | h | h
      · simp [h] at hc
      · simp [hn] at h
      · exact h hs
    unfold State.cutChosen
    dsimp only
    rw [if_neg (by rw [Bool.and_eq_true]; exact fun h => hn h.1)]
  · intro hc hn hs k
    rw [ht, ← cutTrigger_iff] at hs
    simp only [hp, cutPoint_iff, State.cutChosen, hc, hn, hs, Option.isNone_none, Bool.and_self,
      Bool.true_and, decide_eq_true_eq]
    split
    · next h =>
      rw [Option.some.injEq]
      constructor
      · rintro rfl
        exact ⟨⟨le_rfl, h⟩, fun j hj => hj.1⟩
      · rintro ⟨hk, hl⟩
        exact le_antisymm hk.1 (hl _ ⟨le_rfl, h⟩)
    · next h =>
      constructor
      · intro e; cases e
      · rintro ⟨hk, -⟩
        exact absurd (by omega) h

/-- Looking for a trigger leaves of the port all but the cut point of its wire's piece. -/
theorem noteCut_egress (p : PortId) (s : State) : (noteCut p s).egress =
    upd s.egress p fun e => { e with tx := e.tx.map fun w => { w with cutAt := s.cutChosen p w } } := by
  unfold noteCut
  split
  · next h =>
    rw [upd_fixed]
    rw [h]
    generalize s.egress[p] = e at h
    cases e
    simp_all
  · next w h =>
    have hfix (hk : s.cutChosen p w = w.cutAt) : upd s.egress p (fun e =>
        { e with tx := e.tx.map fun w => { w with cutAt := s.cutChosen p w } }) = s.egress := by
      apply upd_fixed
      rw [h]
      generalize s.egress[p] = e at h
      cases e
      simp_all
    dsimp only
    split
    · next h1 =>
      split
      · next h2 =>
        rw [State.modEgress_egress]
        apply upd_congr
        simp only [h, Option.map_some, State.cutChosen, h1, h2, decide_true, Bool.and_self, if_true]
      · next h2 => exact (hfix (by simp only [State.cutChosen, h2, decide_false, Bool.and_false,
          Bool.false_eq_true, if_false])).symm
    · next h1 =>
      have h1 := Bool.eq_false_iff.mpr h1
      exact (hfix (by simp only [State.cutChosen, h1, Bool.false_and, Bool.false_eq_true,
        if_false])).symm

/-- An entry joins the tail of its queue, and its port's piece may be cut for it (R80). -/
theorem enqueue_joins (p : PortId) (q : QueueId) (x : QEntry) (s : State) :
    JoinsTail s (enqueue p q x s) p q x := by
  have hu : (s.modEgress p fun e => { e with queues := upd e.queues q (· ++ [x]) }).egress[p] =
      { s.egress[p] with queues := s.egress[p].queues.set q (s.egress[p].queues[q] ++ [x]) } :=
    upd_same ..
  generalize hv : s.modEgress p (fun e => { e with queues := upd e.queues q (· ++ [x]) }) = v at hu
  have he : (enqueue p q x s).egress[p] = { s.egress[p] with
      queues := s.egress[p].queues.set q (s.egress[p].queues[q] ++ [x])
      tx := s.egress[p].tx.map fun w => { w with cutAt := v.cutChosen p w } } := by
    unfold enqueue
    rw [hv, noteCut_egress]
    exact (upd_same ..).trans (by rw [← Fin.getElem_fin, hu])
  refine ⟨_, he, fun h => by rw [h]; rfl, fun w hw => ⟨v.cutChosen p w, by rw [hw]; rfl, ?_⟩⟩
  unfold enqueue
  rw [hv]
  exact cutChosen_noted v _ p w (noteCut_cutTriggered p v) (noteCut_cutPoint p v)

theorem enqueue_other (p y : PortId) (q : QueueId) (x : QEntry) (s : State) (h : y ≠ p) :
    (enqueue p q x s).egress[y] = s.egress[y] := by
  unfold enqueue
  rw [noteCut_egress]
  exact (upd_other _ _ _ _ h).trans (upd_other _ _ _ _ h)

/-- What an entry's joining says of a port needs of both states only that port, the gates and the
clock. -/
theorem JoinsTail.transport {s s' t t' : State} {p : PortId} {q : QueueId} {x : QEntry}
    (h : JoinsTail s t p q x) (hs : s'.egress[p] = s.egress[p]) (he : t'.egress[p] = t.egress[p])
    (hg : t'.gates = t.gates) (hc : t'.clock = t.clock) : JoinsTail s' t' p q x := by
  obtain ⟨tx, h1, h2, h3⟩ := h
  refine ⟨tx, by rw [he, hs, h1], by rw [hs]; exact h2, fun w hw => ?_⟩
  obtain ⟨c, e, hn⟩ := h3 w (by rw [← hs]; exact hw)
  have ht (w : Tx) : t'.cutTriggered p w ↔ t.cutTriggered p w := by
    unfold State.cutTriggered; rw [he, hg]
  have hp (w : Tx) (k : Nat) : t'.cutPoint p w k ↔ t.cutPoint p w k := by
    unfold State.cutPoint; rw [hc]
  refine ⟨c, e, ⟨by rw [ht]; exact hn.kept, fun a b d k => ?_⟩⟩
  simp only [hp]
  exact hn.chosen a b ((ht w).mp d) k

/-! ## Entries in a queue of several ports -/

/-- An entry that joins a queue, and is counted. -/
def admitTo (q : QueueId) (h : CellId) (p : PortId) (s : State) : State :=
  bump (.port p (.admitted q)) (enqueue p q (newEntry h .normal) s)

theorem admitTo_uncounted (q : QueueId) (h : CellId) (p : PortId) (s : State) :
    (admitTo q h p s).uncounted = (enqueue p q (newEntry h .normal) s).uncounted := bump_uncounted ..

/-- It changes the egress side, and is counted, alone. -/
theorem admitTo_frame (q : QueueId) (h : CellId) (p : PortId) (s : State) :
    (admitTo q h p s).uncounted = { s with egress := (admitTo q h p s).egress }.uncounted := by
  rw [admitTo_uncounted, enqueue_frame]
  have e : (admitTo q h p s).egress = (enqueue p q (newEntry h .normal) s).egress := bump_egress ..
  rw [e]

theorem admitAll_frame (q : QueueId) (h : CellId) (l : List PortId) (s : State) :
    (forEach l (admitTo q h) s).uncounted =
      { s with egress := (forEach l (admitTo q h) s).egress }.uncounted := by
  refine forEach_inv (P := fun t => t.uncounted = { s with egress := t.egress }.uncounted) l
    (fun p _ t ht => ?_) s rfl
  rw [admitTo_frame]
  generalize (admitTo q h p t).egress = e
  have := eq_recounted ht.symm
  rw [this]
  rfl

theorem admitAll_other (q : QueueId) (h : CellId) (l : List PortId) (s : State) (x : PortId)
    (hx : x ∉ l) : (forEach l (admitTo q h) s).egress[x] = s.egress[x] := by
  induction l generalizing s with
  | nil => rfl
  | cons p l ih =>
    have hp : x ≠ p := fun e => hx (e ▸ List.mem_cons_self)
    have hl : x ∉ l := fun h => hx (List.mem_cons_of_mem p h)
    rw [forEach_cons, ih _ hl, admitTo, bump_egress, enqueue_other p x q _ s hp]

/-- Each port of the list has the entry at the tail of its queue. -/
theorem admitAll_joins (q : QueueId) (h : CellId) (l : List PortId) (hn : l.Nodup) (s : State)
    (x : PortId) (hx : x ∈ l) : JoinsTail s (forEach l (admitTo q h) s) x q (newEntry h .normal) := by
  induction l generalizing s with
  | nil => cases hx
  | cons p l ih =>
    obtain ⟨hp, hl⟩ := List.nodup_cons.mp hn
    have hf (t : State) : (forEach l (admitTo q h) t).gates = t.gates ∧
        (forEach l (admitTo q h) t).clock = t.clock := by
      rw [eq_recounted (admitAll_frame q h l t).symm]
      exact ⟨rfl, rfl⟩
    have he : (admitTo q h p s).egress = (enqueue p q (newEntry h .normal) s).egress := bump_egress ..
    have hg : (admitTo q h p s).gates = (enqueue p q (newEntry h .normal) s).gates := bump_gates ..
    have hc : (admitTo q h p s).clock = (enqueue p q (newEntry h .normal) s).clock := bump_clock ..
    rw [forEach_cons]
    by_cases e : x = p
    · subst e
      refine (enqueue_joins x q (newEntry h .normal) s).transport rfl ?_ ?_ ?_
      · rw [admitAll_other q h l _ x hp, he]
      · rw [(hf _).1, hg]
      · rw [(hf _).2, hc]
    · refine (ih hl (admitTo q h p s) (List.mem_of_ne_of_mem e hx)).transport ?_ rfl rfl rfl
      rw [he, enqueue_other p x q _ s e]

theorem admitAll_effects {s t : State} {now : BaseTime} {l : List CounterRef}
    {es : List NoticeEvent} (q : QueueId) (h : CellId) (ps : List PortId)
    (he : Effects s t now l es) : Effects s (forEach ps (admitTo q h) t) now
      (l ++ ps.map fun x => .port x (.admitted q)) es := by
  have hf := he.forEach (f := admitTo q h) (fun x => [.port x (.admitted q)])
    (fun p u l hu => (hu.congr (by rw [enqueue_frame]) (by rw [enqueue_frame])).bump _) ps
  rwa [← List.map_eq_flatMap] at hf

/-! ## A received frame put to admission (R30, R31) -/

/-- Refusals are counted, against the port and against the owner of the frame. -/
theorem refuseAll_effects {s t : State} {now : BaseTime} {l : List CounterRef}
    {es : List NoticeEvent} (q : QueueId) (owner : CounterRef) (ho : owner.ofNotices = false)
    (ps : List PortId) (he : Effects s t now l es) :
    Effects s (forEach ps (fun p s => bump owner (bump (.port p (.refused q)) s)) t) now
      (l ++ ps.flatMap fun x => [.port x (.refused q), owner]) es :=
  he.forEach (fun x => [.port x (.refused q), owner])
    (fun p u l hu => by simpa using (hu.bump (.port p (.refused q))).bump owner ho) ps

/-- What admission comes to: the frame is stored for the queues that take it, and each queue counts
what it did. -/
theorem admitReceived_result {s t : State} (hq : SameQueues s t) (ports : List PortId)
    (hn : ports.Nodup) (q : QueueId) (cells : List CellId) (hc : cells ≠ []) (octets : Octets)
    (owner : CounterRef) (ho : owner.ofNotices = false) (u : State)
    (hu : u = (admitReceived ports q cells octets owner t).1) :
    (admitReceived ports q cells octets owner t).2 =
        (if ports.any (s.admits q cells.length) then cells.head? else none) ∧
      u.unanswered = t.unanswered ∧ u.mgmt = t.mgmt ∧
      AdmittedTo s u q (ports.filter (s.admits q cells.length)) cells octets ∧
      ∀ (s₀ : State) (now : BaseTime) (l : List CounterRef) (es : List NoticeEvent),
        Effects s₀ t now l es → Effects s₀ u now
          (l ++ ((ports.filter fun x => !s.admits q cells.length x).flatMap fun x =>
              [.port x (.refused q), owner]) ++
            (ports.filter (s.admits q cells.length)).map fun x => .port x (.admitted q)) es := by
  have ha (p : PortId) : (decide (q = 3 ∨ Config.reserveCells ≤ t.mem.free.length) &&
      t.fitsLimit q cells.length p) = s.admits q cells.length p := by
    rw [hq.fitsLimit, hq.mem, Bool.decide_or]
    rfl
  obtain ⟨h, rest, rfl⟩ := List.exists_cons_of_ne_nil hc
  unfold admitReceived at hu ⊢
  simp only [ha] at hu ⊢
  have hr := fun s₀ now l es => refuseAll_effects (s := s₀) (now := now) (l := l) (es := es) q owner ho
    (ports.filter fun x => !s.admits q (h :: rest).length x) (t := t)
  have hru : (forEach (ports.filter fun x => !s.admits q (h :: rest).length x)
      (fun p s => bump owner (bump (.port p (.refused q)) s)) t).uncounted = t.uncounted :=
    forEach_keeps State.uncounted _ (fun p s => by simp) t
  generalize forEach _ (fun p s => bump owner (bump (.port p (.refused q)) s)) t = v at hu hr hru ⊢
  have hsv : SameQueues s v := hq.trans (.of_uncounted hru)
  have hmv : v.mgmt = t.mgmt := (congrArg State.mgmt hru :)
  have hany : ports.any (s.admits q (h :: rest).length) =
      !(ports.filter (s.admits q (h :: rest).length)).isEmpty := by
    rw [Bool.eq_iff_iff]; simp [List.isEmpty_eq_false_iff]
  rw [hany]
  generalize hy : ports.filter (s.admits q (h :: rest).length) = yes at hu ⊢
  have hny : yes.Nodup := hy ▸ hn.filter _
  cases yes with
  | nil =>
    simp only at hu
    subst hu
    refine ⟨rfl, ?_, hmv, ⟨fun _ => ⟨?_, hsv.egress⟩, fun h => absurd rfl h⟩, fun s₀ now l es he => ?_⟩
    · exact (modMem_unanswered ..).trans (unanswered_of_uncounted hru)
    · rw [State.give_mem, hsv.mem]; rfl
    · simpa using (hr s₀ now l es he).congr (State.give_counters ..) (State.give_notices ..)
  | cons y ys =>
    simp only at hu
    generalize hw : v.modMem (·.store
      { cells := h :: rest, octets := octets, refs := (y :: ys).length, kind := .received }) = w at hu
    change u = forEach (y :: ys) (admitTo q h) w at hu
    have hwv : w.unanswered = v.unanswered ∧ w.mgmt = v.mgmt ∧ w.egress = v.egress ∧
        w.counters = v.counters ∧ w.notices = v.notices := by
      rw [← hw]; exact ⟨rfl, rfl, rfl, rfl, rfl⟩
    obtain ⟨hwu, hwm, hwe, hwc, hwn⟩ := hwv
    have hwmem : w.mem = s.mem.store
        { cells := h :: rest, octets := octets, refs := (y :: ys).length, kind := .received } := by
      rw [← hw, State.modMem_mem, hsv.mem]
    have hf := admitAll_frame q h (y :: ys) w
    rw [← hu] at hf
    have hfm : u.mgmt = w.mgmt := (congrArg State.mgmt hf :)
    have hfe : u.mem = w.mem := (congrArg State.mem hf :)
    refine ⟨rfl, ?_, by rw [hfm, hwm, hmv], ⟨fun e => (List.cons_ne_nil y ys e).elim, fun _ =>
      ⟨h, rest, rfl, by rw [hfe, hwmem], fun x => ⟨fun hx => ?_, fun hx => ?_⟩⟩⟩,
      fun s₀ now l es he => ?_⟩
    · exact (unanswered_of_uncounted hf).trans (hwu.trans (unanswered_of_uncounted hru))
    · rw [hu]
      exact (admitAll_joins q h (y :: ys) hny w x hx).transport (by rw [hwe, hsv.egress]) rfl rfl rfl
    · rw [hu, admitAll_other q h _ w x hx, hwe, hsv.egress]
    · rw [hu]
      exact admitAll_effects q h (y :: ys) ((hr s₀ now l es he).congr hwc hwn)

end Sys2Proof.Machine
end


section
/-! SUPPORT. How a reception ends, how a good frame is branched and classified, and how it is passed on to
the queues of its ports (R7, R9, R15 to R17, R24). -/

namespace Sys2Proof.Machine

/-! ## What an operation does does not depend on what was counted -/

theorem give_uncounted {s t : State} (h : s.uncounted = t.uncounted) (l : List CellId) :
    (s.give l).uncounted = (t.give l).uncounted := by rw [eq_recounted h]; rfl

theorem modClock_uncounted {s t : State} (h : s.uncounted = t.uncounted) (f : Clock → Clock) :
    (s.modClock f).uncounted = (t.modClock f).uncounted := by rw [eq_recounted h]; rfl

theorem modMgmt_uncounted {s t : State} (h : s.uncounted = t.uncounted) (f : Mgmt → Mgmt) :
    (s.modMgmt f).uncounted = (t.modMgmt f).uncounted := by rw [eq_recounted h]; rfl

theorem modRobot_uncounted {s t : State} (h : s.uncounted = t.uncounted) (r : RobotId)
    (f : Robot → Robot) : (s.modRobot r f).uncounted = (t.modRobot r f).uncounted := by
  rw [eq_recounted h]; rfl

theorem modWindow_uncounted {s t : State} (h : s.uncounted = t.uncounted) (w : WindowId)
    (f : ServiceWindow → ServiceWindow) : (s.modWindow w f).uncounted = (t.modWindow w f).uncounted := by
  rw [eq_recounted h]; rfl

theorem streams_of_uncounted {s t : State} (h : t.uncounted = s.uncounted) : t.streams = s.streams :=
  (congrArg State.streams h :)

theorem robots_of_uncounted {s t : State} (h : t.uncounted = s.uncounted) : t.robots = s.robots :=
  (congrArg State.robots h :)

theorem windows_of_uncounted {s t : State} (h : t.uncounted = s.uncounted) : t.windows = s.windows :=
  (congrArg State.windows h :)

theorem mgmt_of_uncounted {s t : State} (h : t.uncounted = s.uncounted) : t.mgmt = s.mgmt :=
  (congrArg State.mgmt h :)

theorem station_of_uncounted {s t : State} (h : t.uncounted = s.uncounted) : t.station = s.station := by
  have e : t.straps = s.straps := (congrArg State.straps h :)
  unfold State.station
  rw [e]

/-! ## The end of a reception (R7, R24) -/

@[simp] theorem State.give_nil (s : State) : s.give [] = s := by
  simp [State.give, State.modMem, CellMem.give]

/-- A good frame as it goes on from the receive checks of the reception `r`. -/
def arrivalOf (p : PortId) (octets : Octets) (r : Reception) : Arrival :=
  { port := p, octets := octets, cells := r.cells, recvTime := r.recvTime, recvRun := r.recvRun,
    epoch := r.epoch }

theorem reception_of_cur {s : State} {p : PortId} {r : Reception} (h : s.rx[p].cur = some r) :
    s.reception p = r := by simp only [State.reception, h, Option.getD_some]

theorem exec_frameReceptionEnd {s : State} {p : PortId} (octets : Octets)
    (h : s.ports[p].link = true) : exec (.frameReceptionEnd p octets) s = .next (wholeFrame p octets s) :=
  congrArg _ (if_pos h)

theorem wholeFrame_overrun {s : State} {p : PortId} {r : Reception} (octets : Octets)
    (hc : s.rx[p].cur = some r) (ho : r.overrun = true) :
    wholeFrame p octets s = bump (.port p .receiveOverruns) (s.dropped p r) := by
  simp only [wholeFrame, reception_of_cur hc, settleCells, ho, if_true]
  rfl

/-- A reception that holds the cells it needs is put to the receive checks. -/
theorem wholeFrame_settled {s : State} {p : PortId} {r : Reception} {octets : Octets}
    (hc : s.rx[p].cur = some r) (ho : r.overrun = false)
    (hl : r.cells.length = storedCells octets.length) :
    wholeFrame p octets s = receiveChecks (arrivalOf p octets r) (s.received p) := by
  simp only [wholeFrame, reception_of_cur hc, settleCells, ho, Bool.false_eq_true, if_false, hl.symm,
    le_refl, if_true, List.drop_length, State.give_nil, List.take_length]
  rfl

theorem receiveFault_eq_none {octets : Octets} (h1 : 64 ≤ octets.length) (h2 : octets.length ≤ 9216)
    (h3 : fcsMatches octets = true) : receiveFault octets = none := by
  unfold receiveFault Config.minFrame Config.maxFrame
  rw [if_neg (by omega), if_neg (by omega), if_pos h3]

theorem exec_goodArrival {s : State} {p : PortId} {octets : Octets} {r : Reception}
    (h : GoodArrival s p octets r) : exec (.frameReceptionEnd p octets) s =
      .next (goodFrame (arrivalOf p octets r) (s.received p)) := by
  have hl : r.cells.length = storedCells octets.length := by
    rw [h.cells]
    unfold storedCells cellsFor Config.maxFrame
    rw [Nat.min_eq_left h.short]
  rw [exec_frameReceptionEnd octets h.up, wholeFrame_settled h.current h.notOverrun hl, receiveChecks,
    show (arrivalOf p octets r).octets = octets from rfl, receiveFault_eq_none h.long h.short h.check]

theorem GoodArrival.cells_ne_nil {s : State} {p : PortId} {octets : Octets} {r : Reception}
    (h : GoodArrival s p octets r) : r.cells ≠ [] := by
  intro e
  have h1 := h.cells
  have h2 := h.long
  rw [e, List.length_nil] at h1
  omega

/-! ## What the receive checks count of a good frame (R7) -/

/-- A good frame is counted in frames and octets received. -/
def countGood (a : Arrival) (s : State) : State :=
  bumpBy (.port a.port .octetsReceived) a.octets.length (bump (.port a.port .framesReceived) s)

@[simp] theorem countGood_uncounted (a : Arrival) (s : State) :
    (countGood a s).uncounted = s.uncounted := by simp [countGood]

theorem countGood_effects {s : State} {p : PortId} {octets : Octets} {r : Reception}
    (h : GoodArrival s p octets r) (now : BaseTime) :
    Effects s (countGood (arrivalOf p octets r) (s.received p)) now (receivedCounts p octets) [] := by
  have hl := h.long
  exact ((Effects.start s (s.received p) now rfl rfl).bump (.port p .framesReceived)).bumpBy
    (.port p .octetsReceived) octets.length rfl (by omega)

theorem countStream_effects {s t : State} {now : BaseTime} {l : List CounterRef}
    {es : List NoticeEvent} (h : Effects s t now l es) (i : StreamId) {octets : Octets}
    (hl : 64 ≤ octets.length) :
    Effects s (countStream i octets t) now (l ++ streamCounts i octets) es := by
  have e := (h.bump (.stream i .frames)).bumpBy (.stream i .octets) octets.length rfl (by omega)
  rwa [List.append_assoc] at e

@[simp] theorem countStream_uncounted (i : StreamId) (octets : Octets) (s : State) :
    (countStream i octets s).uncounted = s.uncounted := by simp [countStream]

/-! ## The branch by EtherType (R9) -/

section
variable (a : Arrival) (s : State)

theorem goodFrame_mark (h : frameEtherType a.octets = 0x88B6) :
    goodFrame a s = markFrame a (countGood a s) := if_pos h

theorem goodFrame_probe (h : frameEtherType a.octets = 0x88B7) :
    goodFrame a s = probeFrame a (countGood a s) := by
  simp only [goodFrame, h, etherMark, etherProbe, Nat.reduceEqDiff, if_false, if_true, countGood]

theorem goodFrame_reply (h : frameEtherType a.octets = 0x88B8) :
    goodFrame a s = replyFrame a (countGood a s) := by
  simp only [goodFrame, h, etherMark, etherProbe, etherReply, Nat.reduceEqDiff, if_false, if_true,
    countGood]

theorem goodFrame_lineRequest (hp : portWindow a.port = none) (h : frameEtherType a.octets = 0x88B5) :
    goodFrame a s = lineRequest a (countGood a s) := by
  simp only [goodFrame, h, hp, etherMark, etherProbe, etherReply, etherMgmt, Nat.reduceEqDiff, if_false,
    if_true, countGood]

theorem goodFrame_serviceRequest {w : WindowId} (hp : portWindow a.port = some w)
    (h : frameEtherType a.octets = 0x88B5) :
    goodFrame a s = serviceRequest a w (countGood a s) := by
  simp only [goodFrame, h, hp, etherMark, etherProbe, etherReply, etherMgmt, Nat.reduceEqDiff, if_false,
    if_true, countGood]

theorem ordinary_iff (octets : Octets) : ordinary octets ↔
    frameEtherType octets ≠ etherMgmt ∧ frameEtherType octets ≠ etherMark ∧
      frameEtherType octets ≠ etherProbe ∧ frameEtherType octets ≠ etherReply := by
  simp [ordinary, etherMgmt, etherMark, etherProbe, etherReply]

theorem goodFrame_line (hp : portWindow a.port = none) (h : ordinary a.octets) :
    goodFrame a s = match classify a.port a.octets (countGood a s) with
      | (t, some i) => matchedFrame a i t
      | (t, none) => unmatchedFrame a t := by
  obtain ⟨h1, h2, h3, h4⟩ := (ordinary_iff a.octets).mp h
  simp only [goodFrame, h1, h2, h3, h4, hp, if_false]
  rfl

theorem goodFrame_service {w : WindowId} (hp : portWindow a.port = some w) (h : ordinary a.octets) :
    goodFrame a s = serviceFrame a w (countGood a s) := by
  obtain ⟨h1, h2, h3, h4⟩ := (ordinary_iff a.octets).mp h
  simp only [goodFrame, h1, h2, h3, h4, hp, if_false, countGood]

end

/-! ## Classification (R15) -/

section
variable {s t : State} {p : PortId} {octets : Octets} (hs : t.streams = s.streams)
include hs

theorem keyHolder_of_streams (dst : Mac) (vlan : Nat) : t.keyHolder dst vlan = s.keyHolder dst vlan := by
  unfold State.keyHolder
  rw [hs]

/-- The record that carries a key is not damaged. -/
theorem carries_of_keyHolder {dst : Mac} {vlan : Nat} {i : StreamId}
    (h : s.keyHolder dst vlan = some i) : t.streams[i].carries dst vlan = true := by
  rw [hs]
  exact List.find?_some (p := fun i : StreamId => s.streams[i].carries dst vlan) h

theorem checkStream_of_keyHolder {dst : Mac} {vlan : Nat} {i : StreamId} (k : ReadKind)
    (h : s.keyHolder dst vlan = some i) (he : s.streams[i].ecc = .clean) : checkStream i k t = t := by
  have hc := carries_of_keyHolder hs h
  refine checkStream_clean i k t ?_ (by rw [hs]; exact he)
  simp only [Stream.carries, Bool.and_eq_true, Bool.not_eq_true'] at hc
  exact hc.1.1.2

theorem classify_matched {i : StreamId} (h : s.matched p octets i) :
    classify p octets t = (t, some i) := by
  obtain ⟨hk, he, hi⟩ := h
  have hc := carries_of_keyHolder hs hk
  have hi : t.streams[i].cfg.ingress.getLsbD p.val = true := by rw [hs]; exact hi
  unfold classify
  rw [keyHolder_of_streams hs, hk]
  dsimp only
  rw [checkStream_of_keyHolder hs _ hk he, hc, hi]
  rfl

theorem classify_unmatched (h : s.unmatched p octets) : classify p octets t = (t, none) := by
  rcases h with hk | ⟨i, hk, he, hi⟩
  · simp only [classify, keyHolder_of_streams hs, hk]
  · have hi : t.streams[i].cfg.ingress.getLsbD p.val = false := by rw [hs]; exact hi
    unfold classify
    rw [keyHolder_of_streams hs, hk]
    dsimp only
    rw [checkStream_of_keyHolder hs _ hk he, hi, Bool.and_false]
    rfl

end

/-! ## Passing a frame on to its queues (R16, R17, R30, R31, R168) -/

theorem egressPorts_nodup (s : State) (set : PortSet) (p : PortId) : (s.egressPorts set p).Nodup :=
  ((List.nodup_finRange 12).filter _).filter _

/-- A frame goes to a queue of each of its ports, and is copied to windows when it is a stream's and a
queue admits it; with no port it is unforwarded. -/
def passOn (a : Arrival) (i : Option StreamId) (ports : List PortId) (q : QueueId) (owner : CounterRef)
    (s : State) : State :=
  match ports with
  | [] => (bump (.port a.port .unforwarded) s).give a.cells
  | _ :: _ => (admitReceived ports q a.cells a.octets owner s).1.copied i
      (admitReceived ports q a.cells a.octets owner s).2

theorem forward_eq_passOn (a : Arrival) (i : StreamId) (ports : List PortId) (q : QueueId) (s : State) :
    forward a i ports q s = passOn a (some i) ports q (.stream i .cellDrops) s := by
  unfold forward passOn
  split
  · rfl
  · split
    · next h => simp only [h, State.copied]
    · next h => simp only [h, State.copied]

theorem unmatchedFrame_default (a : Arrival) (s : State)
    (h : s.ports[a.port].cfg.unmatched = .default) : unmatchedFrame a s =
      passOn a none (s.egressPorts s.ports[a.port].cfg.defaultEgress a.port) 0
        (.port a.port .unmatchedCellDrops) s := by
  simp only [unmatchedFrame, h, passOn]
  generalize s.egressPorts _ _ = ports
  cases ports <;> rfl

theorem unmatchedFrame_drop (a : Arrival) (s : State) (h : s.ports[a.port].cfg.unmatched = .drop) :
    unmatchedFrame a s = (bump (.port a.port .unmatchedDrops) s).give a.cells := by
  simp only [unmatchedFrame, h]

/-- What passing on comes to, before the copies. -/
theorem passOn_result {s t : State} (hq : SameQueues s t) (a : Arrival) (i : Option StreamId)
    (ports : List PortId) (hn : ports.Nodup) (q : QueueId) (hc : a.cells ≠ []) (owner : CounterRef)
    (ho : owner.ofNotices = false) : ∃ u,
      passOn a i ports q owner t = u.copied i
        (if ports.any (s.admits q a.cells.length) then a.cells.head? else none) ∧
      u.unanswered = t.unanswered ∧ u.mgmt = t.mgmt ∧
      AdmittedTo s u q (ports.filter (s.admits q a.cells.length)) a.cells a.octets ∧
      (ports = [] → u = (bump (.port a.port .unforwarded) t).give a.cells) ∧
      (ports ≠ [] → ∀ (s₀ : State) (now : BaseTime) (l : List CounterRef) (es : List NoticeEvent),
        Effects s₀ t now l es → Effects s₀ u now
          (l ++ ((ports.filter fun x => !s.admits q a.cells.length x).flatMap fun x =>
              [.port x (.refused q), owner]) ++
            (ports.filter (s.admits q a.cells.length)).map fun x => .port x (.admitted q)) es) := by
  cases ports with
  | nil =>
    refine ⟨(bump (.port a.port .unforwarded) t).give a.cells, ?_, ?_, ?_, ⟨fun _ => ⟨?_, ?_⟩,
      fun h => absurd rfl h⟩, fun _ => rfl, fun h => absurd rfl h⟩
    · cases i <;> rfl
    · exact (modMem_unanswered ..).trans (bump_unanswered ..)
    · rw [State.give_mgmt, bump_mgmt]
    · rw [State.give_mem, bump_mem, hq.mem]; rfl
    · rw [State.give_egress, bump_egress, hq.egress]
  | cons x xs =>
    obtain ⟨h2, hu, hm, ha, he⟩ :=
      admitReceived_result hq (x :: xs) hn q a.cells hc a.octets owner ho _ rfl
    refine ⟨_, ?_, hu, hm, ha, fun h => absurd h (List.cons_ne_nil x xs), fun _ => he⟩
    rw [← h2]
    rfl

theorem SameQueues.of_received {s t : State} {p : PortId}
    (h : t.uncounted = (s.received p).uncounted) : SameQueues s t := by
  rw [eq_recounted h.symm]
  exact ⟨rfl, rfl, rfl, rfl, rfl, rfl⟩

/-- A frame that is passed on from a state that differs from the received one in counters and notices is
admitted as the statements say. -/
theorem admission_of_passOn {s t : State} {p : PortId} {octets : Octets} {r : Reception} {c : Instr}
    {i : Option StreamId} {q : QueueId} {ports : List PortId} {owner : CounterRef}
    {l : List CounterRef} (h : GoodArrival s p octets r) (hn : ports.Nodup)
    (ho : owner.ofNotices = false) (hu : t.uncounted = (s.received p).uncounted)
    (he : Effects s t s.clock.hall.base l [])
    (hx : exec c s = .next (passOn (arrivalOf p octets r) i ports q owner t)) :
    Admission c s p octets r i q ports owner l := by
  have hq := SameQueues.of_received hu
  obtain ⟨u, hp, hun, hm, ha, h0, h1⟩ :=
    passOn_result hq (arrivalOf p octets r) i ports hn q h.cells_ne_nil owner ho
  rw [hp] at hx
  constructor
  · intro e
    subst e
    have hc : u.copied i none = u := by cases i <;> rfl
    rw [List.any_nil, if_neg Bool.false_ne_true, hc, h0 rfl] at hx
    exact ⟨_, hx, give_uncounted ((bump_uncounted ..).trans hu) _,
      (he.bump (.port p .unforwarded)).congr rfl rfl⟩
  · intro e
    exact ⟨u, hx, hun.trans (unanswered_of_uncounted hu), hm.trans (mgmt_of_uncounted (s := s.received p) hu), ha,
      h1 e s _ l [] he⟩

end Sys2Proof.Machine
end


section
/-! What becomes of a frame received on a line port, and the copies that windows take (R7, R15 to R17,
R35, R95, R137, R168). -/

namespace Sys2Proof.Machine

/-! ## A status frame read (R95) -/

/-- The hit that a status frame leaves in its robot. -/
def Robot.withStatus (b : Robot) (octets : Octets) (recv : HallTime) : Robot :=
  if b.state.armed = true ∧ b.hit = none ∧ 0 ≤ HallTime.diff recv b.periodStart then
    { b with hit := some (readsParked b.cfg octets) }
  else b

theorem noteLate_uncounted (r : RobotId) (i : StreamId) (past : Option Nat) (s : State) :
    (noteLate r i past s).uncounted = s.uncounted := by simp [noteLate]

/-- A status frame of a robot whose record is sound leaves at most its hit, beside what it counts. -/
theorem statusFrame_uncounted {s : State} {r : RobotId} (hd : s.robots[r].damaged = false)
    (he : s.robots[r].ecc = .clean) (i : StreamId) (octets : Octets) (recv : HallTime) :
    (statusFrame r i octets recv s).uncounted =
      (s.modRobot r fun b => b.withStatus octets recv).uncounted := by
  have hfix (h : s.robots[r].withStatus octets recv = s.robots[r]) :
      s.modRobot r (fun b => b.withStatus octets recv) = s :=
    congrArg (fun v => ({ s with robots := v } : State)) (upd_fixed _ _ _ h)
  have hrec (hd : 0 ≤ HallTime.diff recv s.robots[r].periodStart) (ha : s.robots[r].state.armed = true) :
      (recordHit r octets s).uncounted =
        (s.modRobot r fun b => b.withStatus octets recv).uncounted := by
    unfold recordHit
    dsimp only
    cases hh : s.robots[r].hit with
    | some x =>
      rw [hfix (by rw [Robot.withStatus, hh, if_neg (by simp)])]
      simp
    | none =>
      rw [bump_uncounted]
      refine congrArg (fun v => ({ s with robots := v } : State).uncounted) (upd_congr _ _ _ _ ?_)
      rw [Robot.withStatus, if_pos ⟨ha, hh, hd⟩]
  unfold statusFrame
  dsimp only
  rw [checkRobot_clean r .supervision s hd he]
  cases ha : s.robots[r].state.armed with
  | false => rw [hfix (by rw [Robot.withStatus, ha, if_neg (by simp)])]; rfl
  | true =>
    simp only [Bool.not_true, Bool.false_eq_true, if_false]
    split
    · next hlt =>
      rw [noteLate_uncounted, hfix (by rw [Robot.withStatus, if_neg (by omega)])]
    · next hlt =>
      split
      · exact hrec (by omega) ha
      · rw [noteLate_uncounted]; exact hrec (by omega) ha

/-- It counts nothing in the stream's frames. -/
theorem statusFrame_frames {s : State} {r : RobotId} (hd : s.robots[r].damaged = false)
    (he : s.robots[r].ecc = .clean) (i j : StreamId) (octets : Octets) (recv : HallTime) :
    (statusFrame r i octets recv s).counter (.stream j .frames) = s.counter (.stream j .frames) := by
  have hl (past : Option Nat) (u : State) :
      (noteLate r i past u).counter (.stream j .frames) = u.counter (.stream j .frames) := by
    unfold noteLate
    rw [raise_counter _ _ _ rfl, bump_counter_other _ _ _ rfl (by simp),
      bump_counter_other _ _ _ rfl (by simp)]
  have hr : (recordHit r octets s).counter (.stream j .frames) = s.counter (.stream j .frames) := by
    unfold recordHit
    dsimp only
    split
    · rw [bump_counter_other _ _ _ rfl (by simp)]
    · rw [bump_counter_other _ _ _ rfl (by simp)]; rfl
  unfold statusFrame
  dsimp only
  rw [checkRobot_clean r .supervision s hd he]
  cases ha : s.robots[r].state.armed with
  | false => rfl
  | true =>
    simp only [Bool.not_true, Bool.false_eq_true, if_false]
    split
    · exact hl _ _
    · split
      · exact hr
      · exact (hl _ _).trans hr

/-! ## A verdict frame read (R137 to R139) -/

/-- What was counted does not bear on what an entry does to the tracker. -/
theorem applyVerdict_congr {s t : State} (h : t.uncounted = s.uncounted) (i : StreamId)
    (e : VerdictEntry) : (applyVerdict i e t).uncounted = (applyVerdict i e s).uncounted := by
  rw [eq_recounted h.symm]
  unfold applyVerdict applyInList
  dsimp only
  split
  · simp; rfl
  · simp; rfl
  · split
    · simp; rfl
    · split
      · simp; rfl
      · split
        · simp; rfl
        · simp; rfl
      · simp; rfl

/-- An entry changes the tracker, and is counted, alone. -/
theorem applyVerdict_frame (i : StreamId) (e : VerdictEntry) (s : State) :
    (applyVerdict i e s).uncounted = { s with tracker := (applyVerdict i e s).tracker }.uncounted := by
  unfold applyVerdict applyInList
  dsimp only
  split
  · simp
  · simp
  · split
    · simp
    · split
      · simp; rfl
      · split
        · simp; rfl
        · simp
      · simp

theorem applyVerdict_frames (i j : StreamId) (e : VerdictEntry) (s : State) :
    (applyVerdict i e s).counter (.stream j .frames) = s.counter (.stream j .frames) := by
  unfold applyVerdict applyInList
  dsimp only
  split
  · rw [raise_counter _ _ _ rfl, bump_counter_other _ _ _ rfl (by simp)]
  · rw [bump_counter_other _ _ _ rfl (by simp)]
  · split
    · rw [bump_counter_other _ _ _ rfl (by simp)]
    · split
      · rw [bump_counter_other _ _ _ rfl (by simp)]; rfl
      · split
        · rw [bump_counter_other _ _ _ rfl (by simp)]; rfl
        · rw [bump_counter_other _ _ _ rfl (by simp)]
      · rw [bump_counter_other _ _ _ rfl (by simp)]

theorem readVerdicts_congr {s t : State} (h : t.uncounted = s.uncounted) (i : StreamId)
    (octets : Octets) : (readVerdicts i octets t).uncounted = (readVerdicts i octets s).uncounted := by
  unfold readVerdicts
  split
  · rw [bump_uncounted, bump_uncounted, h]
  · next es _ =>
    clear * - h
    induction es generalizing s t with
    | nil => exact h
    | cons e es ih => exact ih (applyVerdict_congr h i e)

theorem readVerdicts_frame (i : StreamId) (octets : Octets) (s : State) :
    (readVerdicts i octets s).uncounted =
      { s with tracker := (readVerdicts i octets s).tracker }.uncounted := by
  unfold readVerdicts
  split
  · rw [bump_uncounted, bump_tracker]
  · refine forEach_inv (P := fun t => t.uncounted = { s with tracker := t.tracker }.uncounted) _
      (fun e _ t ht => ?_) s rfl
    rw [applyVerdict_frame]
    generalize (applyVerdict i e t).tracker = k
    rw [eq_recounted ht.symm]
    rfl

theorem readVerdicts_frames (i j : StreamId) (octets : Octets) (s : State) :
    (readVerdicts i octets s).counter (.stream j .frames) = s.counter (.stream j .frames) := by
  unfold readVerdicts
  split
  · rw [bump_counter_other _ _ _ rfl (by simp)]
  · exact forEach_keeps (State.counter · _) _ (fun e s => applyVerdict_frames i j e s) s

/-! ## A matched frame by its role (R16) -/

/-- A frame whose stream commands no armed robot is read at most, and passed on. -/
theorem matchedFrame_forward (a : Arrival) (i : StreamId) (s : State)
    (hl : a.octets.length ≤ s.streams[i].cfg.maxLength)
    (hc : s.streams[i].cfg.role = .command → ∀ b : RobotId, s.streams[i].cfg.subject = .robot b →
      s.robots[b].state.armed = false ∨ s.robots[b].cfg.commandStream ≠ i) :
    matchedFrame a i s = passOn a (some i) (s.egressPorts s.streams[i].cfg.egress a.port)
      s.streams[i].cfg.cls.queue (.stream i .cellDrops)
      (readByRole a i (countStream i a.octets s)) := by
  have hu := countStream_uncounted i a.octets s
  have hs := streams_of_uncounted hu
  have hr := robots_of_uncounted hu
  have hn : commandRobot i (countStream i a.octets s) = (countStream i a.octets s, none) := by
    unfold commandRobot
    rw [hs, hr]
    split
    · next b hrole hsub =>
      rw [if_neg]
      rintro ⟨ha, hi⟩
      rcases hc hrole b hsub with h | h
      · rw [h] at ha; exact Bool.false_ne_true ha
      · exact h hi
    · rfl
  unfold matchedFrame
  dsimp only
  rw [if_neg (Nat.not_lt.mpr hl), hn]
  exact forward_eq_passOn ..

/-- A frame that no one reads. -/
theorem readByRole_unread (a : Arrival) (i : StreamId) (s : State)
    (h : s.streams[i].cfg.role = .plain ∨
      (s.streams[i].cfg.role = .status ∧
        ∀ b : RobotId, s.streams[i].cfg.subject = .robot b → s.robots[b].cfg.statusStream ≠ i) ∨
      s.streams[i].cfg.role = .command) : readByRole a i s = s := by
  unfold readByRole
  split
  · next b hr hs =>
    rw [if_neg]
    rcases h with h | ⟨-, h⟩ | h
    · rw [hr] at h; cases h
    · exact h b hs
    · rw [hr] at h; cases h
  · next hr =>
    rcases h with h | ⟨h, -⟩ | h <;> rw [hr] at h <;> cases h
  · rfl

/-- A reading of a matched frame as the statements name it. -/
theorem readByRole_read (a : Arrival) (i : StreamId) (s : State) (read : State → State)
    (h : (∃ b : RobotId, s.streams[i].cfg.role = .status ∧ s.streams[i].cfg.subject = .robot b ∧
        s.robots[b].cfg.statusStream = i ∧ read = statusFrame b i a.octets a.recvTime) ∨
      s.streams[i].cfg.role = .verdict ∧ read = readVerdicts i a.octets) :
    readByRole a i s = read s := by
  unfold readByRole
  rcases h with ⟨b, hr, hs, hi, rfl⟩ | ⟨hr, rfl⟩
  · rw [hr, hs]
    exact if_pos hi
  · rw [hr]

/-- What a reading may do to a state like `s`: not what was counted decides it, it leaves the queues
alone, and it counts nothing in the stream's frames. -/
structure ReadsQuietly (s : State) (i : StreamId) (read : State → State) : Prop where
  congr : ∀ t, t.uncounted = s.uncounted → (read t).uncounted = (read s).uncounted
  queues : ∀ t, t.uncounted = s.uncounted → SameQueues t (read t)
  mgmt : ∀ t, t.uncounted = s.uncounted → (read t).mgmt = t.mgmt
  frames : ∀ t, t.uncounted = s.uncounted →
    (read t).counter (.stream i .frames) = t.counter (.stream i .frames)

theorem statusFrame_readsQuietly {s : State} {b : RobotId} (hd : s.robots[b].damaged = false)
    (he : s.robots[b].ecc = .clean) (i : StreamId) (octets : Octets) (recv : HallTime) :
    ReadsQuietly s i (statusFrame b i octets recv) := by
  have hd' {t : State} (h : t.uncounted = s.uncounted) : t.robots[b].damaged = false := by
    rw [robots_of_uncounted h, hd]
  have he' {t : State} (h : t.uncounted = s.uncounted) : t.robots[b].ecc = .clean := by
    rw [robots_of_uncounted h, he]
  refine ⟨fun t h => ?_, fun t h => ?_, fun t h => ?_, fun t h => ?_⟩
  · rw [statusFrame_uncounted (hd' h) (he' h), statusFrame_uncounted hd he]
    exact modRobot_uncounted h b _
  · have hu := statusFrame_uncounted (hd' h) (he' h) i octets recv
    exact SameQueues.trans (t := t.modRobot b _) ⟨rfl, rfl, rfl, rfl, rfl, rfl⟩
      (SameQueues.of_uncounted hu)
  · exact (congrArg State.mgmt (statusFrame_uncounted (hd' h) (he' h) i octets recv) :)
  · exact statusFrame_frames (hd' h) (he' h) i i octets recv

theorem readVerdicts_readsQuietly (s : State) (i : StreamId) (octets : Octets) :
    ReadsQuietly s i (readVerdicts i octets) := by
  refine ⟨fun t h => readVerdicts_congr h i octets, fun t _ => ?_, fun t _ => ?_,
    fun t _ => readVerdicts_frames i i octets t⟩
  · exact SameQueues.trans (t := { t with tracker := (readVerdicts i octets t).tracker })
      ⟨rfl, rfl, rfl, rfl, rfl, rfl⟩
      (SameQueues.of_uncounted (readVerdicts_frame i octets t))
  · exact (congrArg State.mgmt (readVerdicts_frame i octets t) :)

/-! ## Copies to windows (R35, R168) -/

theorem mirrorTo_admitted {s : State} {h : CellId} {f : Frame} (hf : s.mem.frames[h] = some f)
    {w : WindowId} (hl : s.fitsLimit 0 f.cells.length (windowPort w) = true) :
    mirrorTo w h s = bump (.port (windowPort w) (.admitted 0))
      (enqueue (windowPort w) 0 (newEntry h .mirror) (s.addRef h)) := by
  unfold mirrorTo CellMem.size
  simp only [hf, hl, if_true]

theorem mirrorTo_refused {s : State} {h : CellId} {f : Frame} (hf : s.mem.frames[h] = some f)
    {w : WindowId} (hl : s.fitsLimit 0 f.cells.length (windowPort w) = false) :
    mirrorTo w h s = bump (.service w .mirrorDrops) (bump (.port (windowPort w) (.refused 0)) s) := by
  unfold mirrorTo CellMem.size
  simp only [hf, hl, Bool.false_eq_true, if_false]

theorem addRef_of_frame {m : CellMem} {h : CellId} {f : Frame} (hf : m.frames[h] = some f) :
    m.addRef h = { m with frames := m.frames.set h (some { f with refs := f.refs + 1 }) } := by
  simp only [CellMem.addRef, hf]

/-! ## The statement -/

/-- A frame that fails a receive check is dropped (R7, R24). -/
theorem badFrame_completes {p : PortId} {octets : Octets} {s : State} {r : Reception}
    {c : PortCounter} (hl : s.ports[p].link = true) (hr : s.rx[p].cur = some r)
    (h : r.overrun = true ∧ c = .receiveOverruns ∨
      r.overrun = false ∧ r.cells.length = (min octets.length 9216 + 255) / 256 ∧
        (octets.length < 64 ∧ c = .undersize ∨ 9216 < octets.length ∧ c = .oversize ∨
          64 ≤ octets.length ∧ octets.length ≤ 9216 ∧ fcsMatches octets = false ∧ c = .fcsErrors)) :
    Completes (.frameReceptionEnd p octets) s (s.dropped p r) [.port p c] [] := by
  have hx := exec_frameReceptionEnd octets hl
  rcases h with ⟨ho, rfl⟩ | ⟨ho, hn, h⟩
  · rw [wholeFrame_overrun octets hr ho] at hx
    exact ⟨_, hx, bump_uncounted .., (Effects.start s (s.dropped p r) _ rfl rfl).bump _⟩
  · have hc : receiveFault octets = some c := by
      unfold receiveFault Config.minFrame Config.maxFrame
      rcases h with ⟨h, rfl⟩ | ⟨h, rfl⟩ | ⟨h1, h2, h3, rfl⟩
      · rw [if_pos h]
      · rw [if_neg (by omega), if_pos h]
      · rw [if_neg (by omega), if_neg (by omega), h3, if_neg Bool.false_ne_true]
    rw [wholeFrame_settled hr ho hn, receiveChecks,
      show (arrivalOf p octets r).octets = octets from rfl, hc] at hx
    exact ⟨_, hx, give_uncounted (bump_uncounted ..) _,
      ((Effects.start s (s.received p) _ rfl rfl).bump (.port p c)).congr rfl rfl⟩

/-- A frame that is dropped after it was counted as good. -/
theorem dropped_completes {p : PortId} {octets : Octets} {s t : State} {r : Reception} {c : CounterRef}
    (hc : c.ofNotices = false) (hu : t.uncounted = (s.received p).uncounted)
    (he : Effects s t s.clock.hall.base (receivedCounts p octets) [])
    (hx : exec (.frameReceptionEnd p octets) s = .next ((bump c t).give r.cells)) :
    Completes (.frameReceptionEnd p octets) s (s.dropped p r) (receivedCounts p octets ++ [c]) [] :=
  ⟨_, hx, give_uncounted ((bump_uncounted ..).trans hu) _, (he.bump c hc).congr rfl rfl⟩

/-- An unmatched frame on a line port, by the port's policy (R17). -/
theorem unmatched_completes {p : PortId} {octets : Octets} {s : State} {r : Reception}
    (hp : p.val < 10) (h : GoodArrival s p octets r) (ho : ordinary octets)
    (hm : s.unmatched p octets) :
    (s.ports[p].cfg.unmatched = .drop →
      Completes (.frameReceptionEnd p octets) s (s.dropped p r)
        (receivedCounts p octets ++ [.port p .unmatchedDrops]) []) ∧
    (s.ports[p].cfg.unmatched = .default →
      Admission (.frameReceptionEnd p octets) s p octets r none 0
        (s.egressPorts s.ports[p].cfg.defaultEgress p) (.port p .unmatchedCellDrops)
        (receivedCounts p octets)) := by
  have hu := countGood_uncounted (arrivalOf p octets r) (s.received p)
  have he := countGood_effects h s.clock.hall.base
  have hx := exec_goodArrival h
  rw [goodFrame_line _ _ (portWindow_line hp) ho] at hx
  generalize countGood _ (s.received p) = t at hu he hx
  have hports : t.ports = s.ports := (congrArg State.ports hu :)
  rw [show classify (arrivalOf p octets r).port (arrivalOf p octets r).octets t = (t, none) from
    classify_unmatched (streams_of_uncounted hu) hm] at hx
  dsimp only at hx
  constructor
  · intro hd
    rw [unmatchedFrame_drop _ _ (by rw [hports]; exact hd)] at hx
    exact dropped_completes rfl hu he hx
  · intro hd
    rw [unmatchedFrame_default _ _ (by rw [hports]; exact hd), hports,
      (SameQueues.of_uncounted hu).egressPorts] at hx
    exact admission_of_passOn h (egressPorts_nodup _ _ _) rfl hu he hx

section
variable {p : PortId} {octets : Octets} {s : State} {r : Reception} {i : StreamId}
  (hp : p.val < 10) (h : GoodArrival s p octets r) (ho : ordinary octets)
  (hm : s.matched p octets i)
include hp h ho hm

theorem exec_matched : exec (.frameReceptionEnd p octets) s =
    .next (matchedFrame (arrivalOf p octets r) i (countGood (arrivalOf p octets r) (s.received p))) := by
  rw [exec_goodArrival h, goodFrame_line _ _ (portWindow_line hp) ho,
    show classify (arrivalOf p octets r).port (arrivalOf p octets r).octets _ = _ from
      classify_matched (s := s)
        (streams_of_uncounted (s := s.received p) (countGood_uncounted _ (s.received p))) hm]

/-- A matched frame beyond its stream's longest length is dropped (R16). -/
theorem tooLong_completes (hl : s.streams[i].cfg.maxLength < octets.length) :
    Completes (.frameReceptionEnd p octets) s (s.dropped p r)
      (receivedCounts p octets ++ [.stream i .lengthDrops]) [] := by
  have hu := countGood_uncounted (arrivalOf p octets r) (s.received p)
  have hx := exec_matched hp h ho hm
  have he := countGood_effects h s.clock.hall.base
  generalize countGood _ (s.received p) = t at hu he hx
  have hs : t.streams = s.streams := streams_of_uncounted (s := s.received p) hu
  have hd : matchedFrame (arrivalOf p octets r) i t = (bump (.stream i .lengthDrops) t).give r.cells :=
    if_pos (by rw [hs]; exact hl)
  rw [hd] at hx
  exact dropped_completes rfl hu he hx

/-- A matched frame that no one takes as a command is passed on, once it was read. -/
theorem exec_matched_forward (hl : octets.length ≤ s.streams[i].cfg.maxLength)
    (hc : s.streams[i].cfg.role = .command → ∀ b : RobotId, s.streams[i].cfg.subject = .robot b →
      s.robots[b].state.armed = false ∨ s.robots[b].cfg.commandStream ≠ i) :
    ∃ t, t.uncounted = (s.received p).uncounted ∧
      Effects s t s.clock.hall.base (receivedCounts p octets ++ streamCounts i octets) [] ∧
      exec (.frameReceptionEnd p octets) s = .next (passOn (arrivalOf p octets r) (some i)
        (s.egressPorts s.streams[i].cfg.egress p) s.streams[i].cfg.cls.queue (.stream i .cellDrops)
        (readByRole (arrivalOf p octets r) i t)) := by
  have hu := countGood_uncounted (arrivalOf p octets r) (s.received p)
  have hx := exec_matched hp h ho hm
  have he := countGood_effects h s.clock.hall.base
  generalize countGood _ (s.received p) = t at hu he hx
  have hs : t.streams = s.streams := streams_of_uncounted (s := s.received p) hu
  have hr : t.robots = s.robots := robots_of_uncounted (s := s.received p) hu
  refine ⟨countStream i octets t, (countStream_uncounted ..).trans hu,
    countStream_effects he i h.long, ?_⟩
  rw [hx, matchedFrame_forward _ _ _ (by rw [hs]; exact hl) (by rw [hs, hr]; exact hc), hs,
    (SameQueues.of_uncounted hu).egressPorts]
  rfl

end

/-- Settles O32: the receive checks, the classification of a good frame of a line port with what becomes
of it, and the copies of an admitted one. -/
theorem receiveChecksDropBadFrames : Obligations.ReceiveChecksDropBadFrames := by
  refine ⟨fun p octets s r c hl hr h => badFrame_completes hl hr h,
    fun p octets s r hp h ho => ⟨unmatched_completes hp h ho, fun i hm =>
      ⟨tooLong_completes hp h ho hm, fun hl => ⟨fun hrole => ?_, fun read hread => ?_⟩⟩⟩,
    fun i h f s copy hf hcopy => ⟨?_, fun w p t hp ht => ?_⟩⟩
  · have hc : s.streams[i].cfg.role = .command → ∀ b : RobotId, s.streams[i].cfg.subject = .robot b →
        s.robots[b].state.armed = false ∨ s.robots[b].cfg.commandStream ≠ i := by
      intro hc
      rcases hrole with h | ⟨h, -⟩ | ⟨-, h⟩
      · rw [hc] at h; cases h
      · rw [hc] at h; cases h
      · exact h
    obtain ⟨t, hu, he, hx⟩ := exec_matched_forward hp h ho hm hl hc
    have hs : t.streams = s.streams := streams_of_uncounted (s := s.received p) hu
    have hr : t.robots = s.robots := robots_of_uncounted (s := s.received p) hu
    rw [readByRole_unread _ _ _ (by rw [hs, hr]; exact hrole.imp_right (Or.imp_right And.left))] at hx
    exact admission_of_passOn h (egressPorts_nodup _ _ _) rfl hu he hx
  · have hrole : s.streams[i].cfg.role ≠ .command := by
      rcases hread with ⟨b, hr, -⟩ | ⟨hr, -⟩ <;> rw [hr] <;> decide
    obtain ⟨t, hu, he, hx⟩ := exec_matched_forward hp h ho hm hl fun e => absurd e hrole
    have hs : t.streams = s.streams := streams_of_uncounted (s := s.received p) hu
    have hr : t.robots = s.robots := robots_of_uncounted (s := s.received p) hu
    have hq : ReadsQuietly (s.received p) i read := by
      rcases hread with ⟨b, -, -, -, hd, hc, rfl⟩ | ⟨-, rfl⟩
      · exact statusFrame_readsQuietly (s := s.received p) hd hc i octets r.recvTime
      · exact readVerdicts_readsQuietly _ i octets
    rw [readByRole_read _ _ _ read (by
      rw [hs, hr]
      exact hread.imp_left fun ⟨b, h1, h2, h3, _, _, h6⟩ => ⟨b, h1, h2, h3, h6⟩)] at hx
    have hsq : SameQueues s (read t) := (SameQueues.of_received hu).trans (hq.queues t hu)
    obtain ⟨u, hp', hun, hmg, ha, h0, h1⟩ := passOn_result hsq (arrivalOf p octets r) (some i)
      (s.egressPorts s.streams[i].cfg.egress p) (egressPorts_nodup _ _ _) s.streams[i].cfg.cls.queue
      h.cells_ne_nil (.stream i .cellDrops) rfl
    rw [hp'] at hx
    have hframes : (read t).counter (.stream i .frames) =
        min (s.counter (.stream i .frames) + 1) Config.counterMax := by
      have hc := he.counters (.stream i .frames) rfl
      rw [hq.frames t hu, hc]
      simp [receivedCounts, streamCounts, List.count_replicate]
    refine ⟨u, hx, hun.trans (unanswered_of_uncounted (hq.congr t hu)),
      (hmg.trans (hq.mgmt t hu)).trans (mgmt_of_uncounted (s := s.received p) hu), ha, ?_⟩
    rw [← hframes]
    by_cases hports : s.egressPorts s.streams[i].cfg.egress p = []
    · rw [h0 hports, counter_congr (State.give_counters ..), bump_counter_other _ _ _ rfl (by simp)]
    · have hc := (h1 hports (read t) (read t).clock.hall.base [] [] (Effects.refl _ _)).counters
        (.stream i .frames) rfl
      rw [hc, if_neg (by simp)]
  · simp only [mirrorFrame, forEach_cons, forEach_nil, hcopy]
  · subst hp ht
    constructor
    · intro hl
      rw [mirrorTo_admitted hf hl]
      refine ⟨by simp; rfl, by simp, ?_, ?_, ?_, fun x hx => ?_⟩
      · exact (Effects.start s (enqueue _ _ _ (s.addRef h)) _ (by rw [enqueue_frame]; rfl)
          (by rw [enqueue_frame]; rfl)).bump _
      · rw [bump_mem, enqueue_mem, State.addRef_mem, addRef_of_frame hf]
      · exact (enqueue_joins (windowPort w) 0 (newEntry h .mirror) (s.addRef h)).transport rfl
          (by rw [bump_egress]) (by rw [bump_gates]) (by rw [bump_clock])
      · rw [bump_egress, enqueue_other _ _ _ _ _ hx]; rfl
    · intro hl
      rw [mirrorTo_refused hf hl]
      exact ⟨(bump_uncounted ..).trans (bump_uncounted ..),
        ((Effects.refl s _).bump (.port (windowPort w) (.refused 0))).bump (.service w .mirrorDrops)⟩

end Sys2Proof.Machine
end


section
/-! What becomes of the frames that are set apart by their EtherType: requests, time marks, range probes
and range replies (R10, R11, R59, R60, R183, R184). -/

namespace Sys2Proof.Machine

/-! ## A frame built with room for it (R34) -/

/-- A frame for one port with room for it counts nothing: it takes its cells from the head of the free
list and joins the tail of that port's Q2. -/
theorem buildFrame_room (k : GenKind) (kind : FrameKind) (p : PortId) (octets : Octets) (s : State)
    (hl : s.ports[p].link = true) (hf : s.fitsLimit 2 (cellsFor octets.length) p = true)
    (hn : cellsFor octets.length ≤ s.mem.free.length) (hc : 0 < cellsFor octets.length) :
    ∃ (h : CellId) (t : List CellId) (mem : CellMem), mem.free = s.mem.free.drop (cellsFor octets.length) ∧
      mem.frames = s.mem.frames.set h
        (some { cells := h :: t, octets := octets, refs := 1, kind := kind }) ∧
      buildFrame k kind [p] octets s =
        (enqueue p 2 (newEntry h .normal) { s with mem := mem }, some h) := by
  have hne : s.mem.free.take (cellsFor octets.length) ≠ [] := by
    intro e
    have := congrArg List.length e
    rw [List.length_take, List.length_nil] at this
    omega
  obtain ⟨h, t, e⟩ := List.exists_cons_of_ne_nil hne
  have ht : s.mem.take (cellsFor octets.length) = some (h :: t, _) :=
    (CellMem.take_eq_some _ _ _ _).mpr ⟨hn, e.symm, rfl⟩
  simp only [Fin.getElem_fin] at hl
  have hu : [p].filter (fun p => s.ports[p].link) = [p] := by simp [hl]
  have hy : [p].filter (s.fitsLimit 2 (cellsFor octets.length)) = [p] := by simp [hf]
  have hno : [p].filter (fun p => !s.fitsLimit 2 (cellsFor octets.length) p) = [] := by simp [hf]
  refine ⟨h, t, { s.mem with
    free := s.mem.free.drop (cellsFor octets.length)
    low := min s.mem.low (s.mem.free.length - cellsFor octets.length)
    frames := s.mem.frames.set h
      (some { cells := h :: t, octets := octets, refs := 1, kind := kind }) }, rfl, rfl, ?_⟩
  unfold buildFrame
  simp only [hu, hy, hno, forEach_nil, forEach_cons, List.length_nil, List.length_cons, ht, Nat.zero_add]
  rfl

/-- A build counts at most its drops and its refusals. -/
theorem buildFrame_counter (k : GenKind) (kind : FrameKind) (ports : List PortId) (octets : Octets)
    (s : State) (d : CounterRef) (hd : d.ofNotices = false) (h1 : d ≠ .device (.generationDrops k))
    (h2 : ∀ p, d ≠ .port p (.refused 2)) :
    (buildFrame k kind ports octets s).1.counter d = s.counter d := by
  have hdrop (u : State) : (bump (.device (.generationDrops k)) u).counter d = u.counter d :=
    bump_counter_other _ _ _ hd h1
  have hno (l : List PortId) (u : State) : (forEach l (fun p s =>
      bump (.device (.generationDrops k)) (bump (.port p (.refused 2)) s)) u).counter d = u.counter d :=
    forEach_keeps (State.counter · d) l
      (fun p s => (hdrop _).trans (bump_counter_other _ _ _ hd (h2 p))) u
  have henq (p : PortId) (x : QEntry) (u : State) : (enqueue p 2 x u).counter d = u.counter d :=
    counter_congr (by rw [enqueue_frame]) d
  unfold buildFrame
  dsimp only
  split
  · exact hdrop s
  · split
    · exact hno _ s
    · split
      · exact (hdrop _).trans (hno _ s)
      · split
        · exact hno _ s
        · refine (forEach_keeps (State.counter · d) _ (fun p u => henq p _ u) _).trans ?_
          exact hno _ s

/-! ## A request offered to the queue (R183, R184) -/

theorem offerRequest_group (q : Request) (s : State) (h : isGroup q.source = true) :
    offerRequest q s = bump (.device .malformedRequests) s := if_pos h

theorem offerRequest_joins (q : Request) (s : State) (h : isGroup q.source = false)
    (hl : s.mgmt.queue.length < 4) : offerRequest q s =
      bump (.device .requestsQueued) (s.modMgmt fun m => { m with queue := m.queue ++ [q] }) := by
  unfold offerRequest
  rw [h, if_neg Bool.false_ne_true]
  exact if_pos hl

theorem offerRequest_busy (q : Request) (s : State) (h : isGroup q.source = false)
    (hl : 4 ≤ s.mgmt.queue.length) : offerRequest q s =
      bump (.device .busyAnswers) (sendAnswer q (.bare .busy) s).1 := by
  unfold offerRequest
  rw [h, if_neg Bool.false_ne_true]
  exact if_neg (Nat.not_lt.mpr hl)

/-- A frame of the technician of an ACTIVE window is passed on (R158). -/
theorem judgeArrival_passes {s t : State} {w : WindowId} {octets : Octets} (h : s.passesOn w octets)
    (ht : t.windows = s.windows) : judgeArrival w (frameSrc octets) t = (t, true) := by
  obtain ⟨hs, ha⟩ := h
  rw [← ht] at hs ha
  unfold judgeArrival
  simp only [hs, ha, if_true]

/-- A management frame that the port takes is offered as a request, and its cells are returned. -/
theorem exec_request {s : State} {p : PortId} {octets : Octets} {r : Reception}
    (h : GoodArrival s p octets r)
    (hp : p.val < 10 ∧ s.ports[p].cfg.mgmtAllowed = true ∨
      ∃ w : WindowId, p = windowPort w ∧ s.passesOn w octets)
    (he : frameEtherType octets = 0x88B5) (hd : frameDst octets = s.station) :
    exec (.frameReceptionEnd p octets) s = .next ((offerRequest (requestOf p octets)
      (countGood (arrivalOf p octets r) (s.received p))).give r.cells) := by
  have hu := countGood_uncounted (arrivalOf p octets r) (s.received p)
  rw [exec_goodArrival h]
  rcases hp with ⟨hp, hm⟩ | ⟨w, rfl, hw⟩
  · rw [goodFrame_lineRequest _ _ (portWindow_line hp) he]
    generalize countGood _ (s.received p) = t at hu ⊢
    have hports : t.ports = s.ports := (congrArg State.ports hu :)
    have hst : t.station = s.station := station_of_uncounted (s := s.received p) hu
    unfold lineRequest
    rw [if_pos ⟨by rw [hports]; exact hm, by rw [hst]; exact hd⟩]
    rfl
  · rw [goodFrame_serviceRequest _ _ (portWindow_windowPort w) he]
    generalize countGood _ (s.received _) = t at hu ⊢
    have hst : t.station = s.station := station_of_uncounted (s := s.received _) hu
    have hj := judgeArrival_passes hw (windows_of_uncounted (s := s.received _) hu)
    unfold serviceRequest
    dsimp only [arrivalOf]
    rw [hj]
    dsimp only
    exact congrArg Host.Outcome.next (if_pos (by rw [hst]; exact hd))

theorem SameQueues.answerRoom {s t : State} (h : SameQueues s t) (hs : t.station = s.station)
    (q : Request) (r : Reply) : AnswerRoom t q r ↔ AnswerRoom s q r := by
  unfold AnswerRoom
  rw [h.ports, hs, h.fitsLimit, h.mem]

/-- An answer stays where it is while cells are returned and counts are made. -/
theorem Answered.transport {t u : State} {q : Request} {r : Reply} (h : Answered t q r)
    (he : u.egress = t.egress) (hf : u.mem.frames = t.mem.frames) (hs : u.straps = t.straps) :
    Answered u q r := by
  have hst : u.station = t.station := by unfold State.station; rw [hs]
  unfold Answered
  rw [he, hf, hst]
  exact h

theorem cellsFor_answer_pos (station : Mac) (q : Request) (r : Reply) :
    0 < cellsFor (answerFrame station q r).length := by
  have := formFrame_length_pos q.source station q.vlan etherMgmt
    (beBytes 1 1 ++ beBytes 1 q.kind ++ beBytes 2 q.tag ++ beBytes 1 r.status.code ++ [0] ++
      beBytes 2 r.body.length ++ r.body)
  unfold cellsFor answerFrame
  omega

/-- A request that finds four waiting is answered BUSY, when there is room for the answer (R184). -/
theorem busy_answered {s t : State} {p : PortId} {octets : Octets} {r : Reception} {q : Request}
    {busy : Reply} (hu : t.uncounted = (s.received p).uncounted)
    (he : Effects s t s.clock.hall.base (receivedCounts p octets) []) (hroom : AnswerRoom s q busy)
    (u : State) (hv : u = (bump (.device .busyAnswers) (sendAnswer q busy t).1).give r.cells) :
    Answered u q busy ∧
      u.mem.free = s.mem.free.drop (cellsFor (answerFrame s.station q busy).length) ++ r.cells ∧
      Effects s u s.clock.hall.base (receivedCounts p octets ++ [.device .busyAnswers]) [] := by
  have hq := SameQueues.of_received hu
  have hst : t.station = s.station := station_of_uncounted (s := s.received p) hu
  have ha := sendAnswer_answered q busy t ((hq.answerRoom hst q busy).mpr hroom)
  obtain ⟨hl, hf, hn⟩ := (hq.answerRoom hst q busy).mpr hroom
  obtain ⟨h, rest, mem, hfree, -, hbuild⟩ := buildFrame_room .answer .answer q.port
    (answerFrame t.station q busy) t hl hf hn (cellsFor_answer_pos _ _ _)
  have hs : (sendAnswer q busy t).1 = enqueue q.port 2 (newEntry h .normal) { t with mem := mem } :=
    congrArg Prod.fst hbuild
  subst hv
  refine ⟨ha.transport (by rw [State.give_egress, bump_egress])
    (by rw [State.give_mem, CellMem.give_frames, bump_mem]) (by rw [State.give_straps, bump_straps]),
    ?_, ?_⟩
  · rw [State.give_mem, CellMem.give_free, bump_mem, hs, enqueue_mem, hfree, hst, hq.mem]
  · rw [hs]
    have := he.congr (u := enqueue q.port 2 (newEntry h .normal) { t with mem := mem })
      (by rw [enqueue_frame]) (by rw [enqueue_frame])
    exact (this.bump (.device .busyAnswers)).congr (State.give_counters ..) (State.give_notices ..)

/-- A request of a management frame, by its source and by how many wait (R183, R184). -/
theorem request_outcome {s : State} {p : PortId} {octets : Octets} {r : Reception} {q : Request}
    {busy : Reply} (h : GoodArrival s p octets r)
    (hp : p.val < 10 ∧ s.ports[p].cfg.mgmtAllowed = true ∨
      ∃ w : WindowId, p = windowPort w ∧ s.passesOn w octets)
    (het : frameEtherType octets = 0x88B5) (hd : frameDst octets = s.station)
    (hq : q = requestOf p octets) (hb : busy = .bare .busy) :
    (isGroup (frameSrc octets) = false → s.mgmt.queue.length < 4 →
      Completes (.frameReceptionEnd p octets) s
        { s.dropped p r with mgmt := { s.mgmt with queue := s.mgmt.queue ++ [q] } }
        (receivedCounts p octets ++ [.device .requestsQueued]) []) ∧
    (isGroup (frameSrc octets) = false → 4 ≤ s.mgmt.queue.length →
      ∃ t, exec (.frameReceptionEnd p octets) s = .next t ∧
        t.unanswered = (s.received p).unanswered ∧ t.mgmt = s.mgmt ∧
        t.counter (.device .busyAnswers) =
          min (s.counter (.device .busyAnswers) + 1) Config.counterMax ∧
        (AnswerRoom s q busy → Answered t q busy ∧
          t.mem.free = s.mem.free.drop (cellsFor (answerFrame s.station q busy).length) ++ r.cells ∧
          Effects s t s.clock.hall.base
            (receivedCounts p octets ++ [.device .busyAnswers]) [])) ∧
    (isGroup (frameSrc octets) = true →
      Completes (.frameReceptionEnd p octets) s (s.dropped p r)
        (receivedCounts p octets ++ [.device .malformedRequests]) []) := by
  have hx := exec_request h hp het hd
  have hu := countGood_uncounted (arrivalOf p octets r) (s.received p)
  have he := countGood_effects h s.clock.hall.base
  generalize countGood _ (s.received p) = t at hx hu he
  have hm : t.mgmt = s.mgmt := mgmt_of_uncounted (s := s.received p) hu
  rw [← hq] at hx
  have hsrc : q.source = frameSrc octets := by rw [hq]; rfl
  refine ⟨fun hg hl => ?_, fun hg hl => ?_, fun hg => ?_⟩
  · rw [offerRequest_joins q t (by rw [hsrc, hg]) (by rw [hm]; exact hl)] at hx
    exact ⟨_, hx, give_uncounted ((bump_uncounted ..).trans (modMgmt_uncounted hu _)) _,
      ((he.congr (u := t.modMgmt _) rfl rfl).bump (.device .requestsQueued)).congr
        (State.give_counters ..) (State.give_notices ..)⟩
  · rw [offerRequest_busy q t (by rw [hsrc, hg]) (by rw [hm]; exact hl), ← hb] at hx
    refine ⟨_, hx, ?_, ?_, ?_, fun hroom => busy_answered hu he hroom _ rfl⟩
    · exact (modMem_unanswered ..).trans ((bump_unanswered ..).trans
        ((sendAnswer_unanswered ..).trans (unanswered_of_uncounted hu)))
    · rw [State.give_mgmt, bump_mgmt, sendAnswer_mgmt, hm]
    · have hc := buildFrame_counter .answer .answer [q.port] (answerFrame t.station q busy) t
        (.device .busyAnswers) rfl (by simp) (by simp)
      have hs := he.counters (.device .busyAnswers) rfl
      rw [if_neg (by simp [receivedCounts])] at hs
      rw [counter_congr (State.give_counters ..), bump_counter _ _ _ rfl, if_pos rfl, ← hs, ← hc]
      rfl
  · rw [offerRequest_group q t (by rw [hsrc, hg])] at hx
    exact dropped_completes rfl hu he hx

/-! ## Frames that are out of place, and time marks (R10, R11) -/

/-- A time mark of the TIME_UP port joins the marks of the hall clock. -/
theorem mark_completes {s : State} {p : PortId} {octets : Octets} {r : Reception}
    (h : GoodArrival s p octets r) (he : frameEtherType octets = 0x88B6)
    (ht : s.ports[p].cfg.timing = .timeUp) : Completes (.frameReceptionEnd p octets) s
      ((s.dropped p r).modClock fun c => { c with marks := c.marks ++
        [{ recvTime := r.recvTime, recvRun := r.recvRun, epoch := r.epoch, octets := octets }] })
      (receivedCounts p octets) [] := by
  have hx := exec_goodArrival h
  rw [goodFrame_mark _ _ he] at hx
  have hu := countGood_uncounted (arrivalOf p octets r) (s.received p)
  have hf := countGood_effects h s.clock.hall.base
  generalize countGood _ (s.received p) = t at hx hu hf
  have hports : t.ports = s.ports := (congrArg State.ports hu :)
  refine ⟨_, hx.trans (congrArg Host.Outcome.next (if_pos ?_)), ?_, hf.congr rfl rfl⟩
  · change t.ports[p].cfg.timing = .timeUp
    rw [hports, ht]
  · exact modClock_uncounted (give_uncounted hu r.cells) _

/-- A frame that is set apart and is not for its port is dropped and counted. -/
theorem misplaced_completes {s : State} {p : PortId} {octets : Octets} {r : Reception}
    {k : PortCounter} (h : GoodArrival s p octets r)
    (hk : frameEtherType octets = 0x88B6 ∧ s.ports[p].cfg.timing ≠ .timeUp ∧ k = .misplacedMarks ∨
      frameEtherType octets = 0x88B7 ∧ s.ports[p].cfg.timing ≠ .timeDown ∧ k = .misplacedRange ∨
      frameEtherType octets = 0x88B8 ∧ s.ports[p].cfg.timing ≠ .timeUp ∧ k = .misplacedRange ∨
      frameEtherType octets = 0x88B5 ∧ p.val < 10 ∧ k = .managementRefusals ∧
        (s.ports[p].cfg.mgmtAllowed = false ∨ frameDst octets ≠ s.station)) :
    Completes (.frameReceptionEnd p octets) s (s.dropped p r)
      (receivedCounts p octets ++ [.port p k]) [] := by
  have hu := countGood_uncounted (arrivalOf p octets r) (s.received p)
  have hf := countGood_effects h s.clock.hall.base
  have hx := exec_goodArrival h
  have key (hg : goodFrame (arrivalOf p octets r) (s.received p) =
      bump (.port p k) ((countGood (arrivalOf p octets r) (s.received p)).give r.cells)) :
      Completes (.frameReceptionEnd p octets) s (s.dropped p r)
        (receivedCounts p octets ++ [.port p k]) [] :=
    ⟨_, hx.trans (congrArg _ hg), (bump_uncounted ..).trans (give_uncounted hu r.cells),
      (hf.congr (State.give_counters ..) (State.give_notices ..)).bump _⟩
  apply key
  rcases hk with ⟨he, ht, rfl⟩ | ⟨he, ht, rfl⟩ | ⟨he, ht, rfl⟩ | ⟨he, hp, rfl, ht⟩
  · rw [goodFrame_mark _ _ he]
    generalize countGood _ (s.received p) = t at hu ⊢
    have hports : t.ports = s.ports := (congrArg State.ports hu :)
    exact if_neg (by change ¬t.ports[p].cfg.timing = .timeUp; rw [hports]; exact ht)
  · rw [goodFrame_probe _ _ he]
    generalize countGood _ (s.received p) = t at hu ⊢
    have hports : t.ports = s.ports := (congrArg State.ports hu :)
    exact if_neg (by change ¬t.ports[p].cfg.timing = .timeDown; rw [hports]; exact ht)
  · rw [goodFrame_reply _ _ he]
    generalize countGood _ (s.received p) = t at hu ⊢
    have hports : t.ports = s.ports := (congrArg State.ports hu :)
    exact if_neg (by change ¬t.ports[p].cfg.timing = .timeUp; rw [hports]; exact ht)
  · rw [goodFrame_lineRequest _ _ (portWindow_line hp) he]
    generalize countGood _ (s.received p) = t at hu ⊢
    have hports : t.ports = s.ports := (congrArg State.ports hu :)
    have hst : t.station = s.station := station_of_uncounted (s := s.received p) hu
    refine if_neg ?_
    change ¬(t.ports[p].cfg.mgmtAllowed = true ∧ frameDst octets = t.station)
    rw [hports, hst]
    rintro ⟨h1, h2⟩
    rcases ht with h | h
    · rw [h] at h1; exact Bool.false_ne_true h1
    · exact h h2

/-! ## Ranging (R59, R60) -/

/-- A range reply on the TIME_UP port is read by the hall clock, once its cells are returned. -/
theorem exec_reply {s : State} {p : PortId} {octets : Octets} {r : Reception}
    (h : GoodArrival s p octets r) (he : frameEtherType octets = 0x88B8)
    (ht : s.ports[p].cfg.timing = .timeUp) :
    ∃ t, t.uncounted = (s.dropped p r).uncounted ∧
      Effects s t s.clock.hall.base (receivedCounts p octets) [] ∧
      exec (.frameReceptionEnd p octets) s = .next (readReply octets r.recvTime t) := by
  have hx := exec_goodArrival h
  rw [goodFrame_reply _ _ he] at hx
  have hu := countGood_uncounted (arrivalOf p octets r) (s.received p)
  have hf := countGood_effects h s.clock.hall.base
  generalize countGood _ (s.received p) = t at hx hu hf
  have hports : t.ports = s.ports := (congrArg State.ports hu :)
  refine ⟨t.give r.cells, give_uncounted hu _, hf.congr rfl rfl,
    hx.trans (congrArg Host.Outcome.next (if_pos ?_))⟩
  change t.ports[p].cfg.timing = .timeUp
  rw [hports, ht]

section
variable {octets : Octets} {t4 : HallTime} {s : State} {t2 t3 : HallTime} {seq : Nat}
  (h2 : t2 = timestampOf (slice (framePayload octets) 4 12))
  (h3 : t3 = timestampOf (slice (framePayload octets) 16 12))
include h2 h3

theorem readReply_malformed (h : 999999999 < t2.ns ∨ 999999999 < t3.ns) :
    readReply octets t4 s = bump (.clock .rangeMalformed) s := by
  subst h2 h3
  exact if_pos h

theorem readReply_unmatched (n2 : t2.ns ≤ 999999999) (n3 : t3.ns ≤ 999999999)
    (h : ∀ b, s.clock.probe = some b → b.seq ≠ field (framePayload octets) 2 2 ∨ b.t1 = none) :
    readReply octets t4 s = bump (.clock .repliesUnmatched) s := by
  subst h2 h3
  unfold readReply
  dsimp only
  rw [if_neg (by omega)]
  split
  · next q t1 hb =>
    rw [if_neg]
    rcases h _ hb with h | h
    · exact h
    · cases h
  · rfl

theorem readReply_matched (n2 : t2.ns ≤ 999999999) (n3 : t3.ns ≤ 999999999) {t1 : HallTime}
    (h : s.clock.probe = some { seq := field (framePayload octets) 2 2, t1 := some t1 }) :
    readReply octets t4 s =
      takeSample (rangeSample t1 t2 t3 t4) (s.modClock fun c => { c with probe := none }) := by
  subst h2 h3
  unfold readReply
  dsimp only
  rw [if_neg (by omega), h]
  exact if_pos rfl

end

/-- A good sample sets or filters D, and the probe that it answers is gone (R59). -/
theorem takeSample_good (sample : Int) (s : State) (h : ¬(sample < 0 ∨ Config.maxSample < sample)) :
    takeSample sample (s.modClock fun c => { c with probe := none }) =
      bump (.clock .samplesGood) (s.modClock fun c =>
        { c with probe := none, stale := false, lostProbes := 0
                 delay := some (filterDelay c.delay sample) }) := if_neg h

/-- A range reply that the hall clock takes, by its times and by the outstanding probe. -/
theorem reply_completes {s : State} {p : PortId} {octets : Octets} {r : Reception} {seq : Nat}
    {t2 t3 : HallTime} (h : GoodArrival s p octets r) (hseq : seq = field (framePayload octets) 2 2)
    (h2 : t2 = timestampOf (slice (framePayload octets) 4 12))
    (h3 : t3 = timestampOf (slice (framePayload octets) 16 12))
    (he : frameEtherType octets = 0x88B8) (ht : s.ports[p].cfg.timing = .timeUp) :
    (999999999 < t2.ns ∨ 999999999 < t3.ns →
      Completes (.frameReceptionEnd p octets) s (s.dropped p r)
        (receivedCounts p octets ++ [.clock .rangeMalformed]) []) ∧
    (t2.ns ≤ 999999999 → t3.ns ≤ 999999999 →
      ((∀ b, s.clock.probe = some b → b.seq ≠ seq ∨ b.t1 = none) →
        Completes (.frameReceptionEnd p octets) s (s.dropped p r)
          (receivedCounts p octets ++ [.clock .repliesUnmatched]) []) ∧
      ∀ (t1 : HallTime) (sample : Int), s.clock.probe = some { seq := seq, t1 := some t1 } →
        sample = Int.tdiv (HallTime.diff r.recvTime t1 - HallTime.diff t3 t2) 131072 →
        (sample < 0 ∨ 6553600000 < sample →
          Completes (.frameReceptionEnd p octets) s
            ((s.dropped p r).modClock fun c => { c with probe := none })
            (receivedCounts p octets ++ [.clock .samplesDiscarded]) []) ∧
        (0 ≤ sample → sample ≤ 6553600000 →
          Completes (.frameReceptionEnd p octets) s
            ((s.dropped p r).modClock fun c =>
              { c with
                probe := none, stale := false, lostProbes := 0
                delay := some (match c.delay with
                  | none => sample
                  | some d => d + Int.tdiv (sample - d) 8) })
            (receivedCounts p octets ++ [.clock .samplesGood]) [])) := by
  obtain ⟨t, hu, hf, hx⟩ := exec_reply h he ht
  have hc : t.clock = s.clock := (congrArg State.clock hu :)
  subst hseq
  refine ⟨fun hm => ?_, fun n2 n3 => ⟨fun hb => ?_, fun t1 sample hb hs => ?_⟩⟩
  · rw [readReply_malformed h2 h3 hm] at hx
    exact ⟨_, hx, (bump_uncounted ..).trans hu, hf.bump _⟩
  · rw [readReply_unmatched h2 h3 n2 n3 (by rw [hc]; exact hb)] at hx
    exact ⟨_, hx, (bump_uncounted ..).trans hu, hf.bump _⟩
  · rw [readReply_matched h2 h3 n2 n3 (by rw [hc]; exact hb),
      show rangeSample t1 t2 t3 r.recvTime = sample from hs.symm] at hx
    constructor
    · intro hd
      rw [show takeSample sample _ = bump (.clock .samplesDiscarded) _ from if_pos hd] at hx
      exact ⟨_, hx, (bump_uncounted ..).trans (modClock_uncounted hu _),
        (hf.congr (u := t.modClock _) rfl rfl).bump _⟩
    · intro hlo hhi
      have hd : ¬(sample < 0 ∨ Config.maxSample < sample) := by unfold Config.maxSample; omega
      rw [takeSample_good sample t hd] at hx
      refine ⟨_, hx, (bump_uncounted ..).trans ((modClock_uncounted hu _).trans ?_),
        (hf.congr (u := t.modClock _) (State.modClock_counters ..) (State.modClock_notices ..)).bump _⟩
      rfl

theorem beBytes_length (n v : Nat) : (beBytes n v).length = n := by
  induction n with
  | zero => rfl
  | succ n ih => simp [beBytes, ih]

/-- A range reply occupies one cell. -/
theorem cellsFor_rangeReply (dst src : Mac) (seq : Nat) (t : HallTime) :
    cellsFor (formFrame dst src 0 etherReply
      ([1, 0] ++ beBytes 2 seq ++ timestampBytes t ++ List.replicate 12 0)).length = 1 := by
  simp [cellsFor, formFrame, macBytes, timestampBytes, beBytes_length, fcsOf, checkBytes]

/-- A range probe on a TIME_DOWN port is answered on it, when its Q2 has room (R60). -/
theorem probe_answered {s : State} {p : PortId} {octets : Octets} {r : Reception}
    (h : GoodArrival s p octets r) (he : frameEtherType octets = 0x88B7)
    (ht : s.ports[p].cfg.timing = .timeDown) (hfit : s.fitsLimit 2 1 p = true) :
    ∃ t x f, exec (.frameReceptionEnd p octets) s = .next t ∧
      t.unanswered = (s.received p).unanswered ∧ t.mgmt = s.mgmt ∧
      Effects s t s.clock.hall.base (receivedCounts p octets) [] ∧
      t.egress[p].queues[(2 : QueueId)] = s.egress[p].queues[(2 : QueueId)] ++ [x] ∧
      t.mem.frames[x.frame] = some f ∧ f.kind = .rangeReply ∧
      f.octets = formFrame (frameSrc octets) s.station 0 0x88B8
        ([1, 0] ++ beBytes 2 (field (framePayload octets) 2 2) ++ timestampBytes r.recvTime ++
          List.replicate 12 0) := by
  have hx := exec_goodArrival h
  rw [goodFrame_probe _ _ he] at hx
  have hu := countGood_uncounted (arrivalOf p octets r) (s.received p)
  have hf := countGood_effects h s.clock.hall.base
  generalize countGood _ (s.received p) = t at hx hu hf
  have hq := SameQueues.of_received hu
  have hst : t.station = s.station := station_of_uncounted (s := s.received p) hu
  have hcells : 0 < r.cells.length := List.length_pos_iff.mpr h.cells_ne_nil
  have hfits : (t.give r.cells).fitsLimit 2 1 p = true := by
    rw [← hfit, ← hq.fitsLimit]; rfl
  have hx : exec (.frameReceptionEnd p octets) s =
      .next (answerProbe p octets r.recvTime (t.give r.cells)) := by
    refine hx.trans (congrArg Host.Outcome.next (if_pos ?_))
    change t.ports[p].cfg.timing = .timeDown
    rw [hq.ports, ht]
  have hsize := cellsFor_rangeReply (frameSrc octets) s.station (field (framePayload octets) 2 2) r.recvTime
  unfold answerProbe at hx
  rw [show (t.give r.cells).station = s.station from hst] at hx
  dsimp only at hx
  generalize hframe : formFrame (frameSrc octets) s.station 0 etherReply _ = frame at hx hsize
  obtain ⟨c, rest, mem, -, hframes, hb⟩ := buildFrame_room .rangeReply .rangeReply p frame
    (t.give r.cells) (by rw [State.give_ports, hq.ports, h.up]) (by rw [hsize, hfits])
    (by rw [hsize, State.give_mem, CellMem.give_free, List.length_append]; omega) (by rw [hsize]; decide)
  rw [hb] at hx
  refine ⟨_, newEntry c .normal,
    { cells := c :: rest, octets := frame, refs := 1, kind := .rangeReply }, hx, ?_, ?_, ?_, ?_, ?_,
    rfl, hframe.symm⟩
  · have hun : t.unanswered = (s.received p).unanswered := unanswered_of_uncounted hu
    exact (enqueue_unanswered ..).trans hun
  · have hmg : t.mgmt = s.mgmt := mgmt_of_uncounted (s := s.received p) hu
    exact (enqueue_mgmt ..).trans hmg
  · exact hf.congr (by rw [enqueue_frame]; rfl) (by rw [enqueue_frame]; rfl)
  · rw [enqueue_queues, if_pos ⟨rfl, rfl⟩]
    change t.egress[p].queues[(2 : QueueId)] ++ _ = _
    rw [hq.egress]
  · rw [enqueue_mem]
    change mem.frames[c] = _
    rw [hframes]
    exact Vector.getElem_set_self ..

end Sys2Proof.Machine
end


section
/-! What becomes of a frame on a service port: the judgement of its arrival, the traps, the injection
check, and the frame that activates a window (R158, R159, R162, R165 to R167). -/

namespace Sys2Proof.Machine

/-! ## Counting does not see the service windows -/

theorem bumpWith_modWindow (w : WindowId) (f : ServiceWindow → ServiceWindow)
    {raise : NoticeEvent → State → State}
    (hr : ∀ e s, raise e (s.modWindow w f) = (raise e s).modWindow w f) (c : CounterRef) (n : Nat)
    (s : State) : bumpWith raise c n (s.modWindow w f) = (bumpWith raise c n s).modWindow w f := by
  have hput (v : Nat) (u : State) : ({ u.modWindow w f with counters := u.counters.put v c } : State) =
    State.modWindow w f { u with counters := u.counters.put v c } := rfl
  have hc : (s.modWindow w f).counter c = s.counter c := rfl
  unfold bumpWith
  simp only [hc, State.modWindow_counters, hput]
  split <;> split <;> simp only [hr]

theorem raiseDepth_modWindow (w : WindowId) (f : ServiceWindow → ServiceWindow) (n : Nat)
    (e : NoticeEvent) (s : State) :
    raiseDepth n e (s.modWindow w f) = (raiseDepth n e s).modWindow w f := by
  induction n generalizing e s with
  | zero => rfl
  | succ n ih =>
    have hput (b : NoticeBlock) : ({ s.modWindow w f with notices := b } : State) =
      State.modWindow w f { s with notices := b } := rfl
    dsimp only at hput
    unfold raiseDepth
    dsimp only
    simp only [hput, bumpWith_modWindow w f ih]
    simp only [State.modWindow_notices, State.modWindow_clock]
    split <;> rfl

theorem countGood_modWindow (w : WindowId) (f : ServiceWindow → ServiceWindow) (a : Arrival) (s : State) :
    countGood a (s.modWindow w f) = (countGood a s).modWindow w f := by
  have hb (c : CounterRef) (n : Nat) (u : State) :
      bumpBy c n (u.modWindow w f) = (bumpBy c n u).modWindow w f :=
    bumpWith_modWindow w f (raiseDepth_modWindow w f 7) c n u
  unfold countGood bump
  rw [hb, hb]

/-! ## Traps (R167) -/

/-- A trap as it is counted and noticed, before it closes the window. -/
def countTrap (w : WindowId) (reason : TrapReason) (src : Mac) (s : State) : State :=
  raise (.serviceTrap w reason src) ((bump (.service w .traps) s).modWindow w fun x =>
    { x with sessionTraps := min (x.sessionTraps + 1) 65535 })

theorem countTrap_uncounted (w : WindowId) (reason : TrapReason) (src : Mac) (s : State) :
    (countTrap w reason src s).uncounted =
      (s.modWindow w fun x => { x with sessionTraps := min (x.sessionTraps + 1) 65535 }).uncounted :=
  (raise_uncounted ..).trans (modWindow_uncounted (bump_uncounted ..) w _)

theorem countTrap_windows (w : WindowId) (reason : TrapReason) (src : Mac) (s : State) :
    (countTrap w reason src s).windows[w] =
      { s.windows[w] with sessionTraps := min (s.windows[w].sessionTraps + 1) 65535 } := by
  rw [windows_of_uncounted (countTrap_uncounted w reason src s)]
  exact upd_same ..

theorem countTrap_robots (w : WindowId) (reason : TrapReason) (src : Mac) (s : State) :
    (countTrap w reason src s).robots = s.robots :=
  (congrArg State.robots (countTrap_uncounted w reason src s) :)

theorem countTrap_effects {s t : State} {now : BaseTime} {l : List CounterRef}
    {es : List NoticeEvent} (h : Effects s t now l es) (hnow : t.clock.hall.base = now) (w : WindowId)
    (reason : TrapReason) (src : Mac) : Effects s (countTrap w reason src t) now
      (l ++ [.service w .traps]) (es ++ [.serviceTrap w reason src]) := by
  have hb := (h.bump (.service w .traps)).congr (u := (bump (.service w .traps) t).modWindow w fun x =>
    { x with sessionTraps := min (x.sessionTraps + 1) 65535 })
    (State.modWindow_counters ..) (State.modWindow_notices ..)
  exact hb.raise (.serviceTrap w reason src) (by rw [State.modWindow_clock, bump_clock, hnow])

theorem trap_eq (w : WindowId) (reason : TrapReason) (src : Mac) (s : State) :
    trap w reason src s =
      if s.windows[w].state ≠ .closed ∧ s.windows[w].trapCloses = true then
        closeWindow w .trap (countTrap w reason src s)
      else countTrap w reason src s := by
  have hw := countTrap_windows w reason src s
  change (if (countTrap w reason src s).windows[w].isOpen = true ∧
    (countTrap w reason src s).windows[w].trapCloses = true then _ else _) = _
  rw [hw]
  simp only [ServiceWindow.isOpen, decide_eq_true_eq]
  rfl

theorem trap_kept {w : WindowId} {s : State} (reason : TrapReason) (src : Mac)
    (h : s.windows[w].state = .closed ∨ s.windows[w].trapCloses = false) :
    trap w reason src s = countTrap w reason src s := by
  rw [trap_eq, if_neg]
  rintro ⟨h1, h2⟩
  rcases h with h | h
  · exact h1 h
  · rw [h] at h2; exact Bool.false_ne_true h2

/-! ## The judgement of an arrival (R158) -/

/-- A frame that is refused at its arrival traps, for the reason given, in every state with these
windows. -/
theorem judgeArrival_trap {s t : State} {w : WindowId} {octets : Octets} {reason : TrapReason}
    (hr : reason = .closed ∨ reason = .groupSource ∨ reason = .foreignSource)
    (h : s.trapsFor w octets reason) (ht : t.windows = s.windows) :
    judgeArrival w (frameSrc octets) t = (trap w reason (frameSrc octets) t, false) := by
  unfold judgeArrival
  rw [ht]
  rcases hr with rfl | rfl | rfl
  · simp only [show s.windows[w].state = .closed from h]
  · obtain ⟨h1, h2, h3⟩ := h
    simp only [h1, h2, h3, if_true]
  · obtain ⟨h1 | ⟨h1, h2⟩, h3⟩ := h
    · simp only [h1, h3, if_false]
    · obtain ⟨a, ha⟩ := Option.ne_none_iff_exists'.mp h2
      have h4 : frameSrc octets ≠ a := fun e => h3 (by rw [ha, e])
      simp only [h1, ha, h4, if_false]

/-- A window that becomes ACTIVE by its first frame (R158). -/
def ServiceWindow.activated (x : ServiceWindow) (src : Mac) : ServiceWindow :=
  { x with state := .active, technician := some src, learned := x.learned || x.technician.isNone }

/-- The first frame of a GRANTED window from its technician, or from an individual source where it has
none. -/
def State.activates (s : State) (w : WindowId) (src : Mac) : Prop :=
  s.windows[w].state = .granted ∧
    (s.windows[w].technician = some src ∨ s.windows[w].technician = none ∧ isGroup src = false)

/-- It makes the window ACTIVE, and at MAINTAIN the window takes its robots (R158, R162). -/
theorem judgeArrival_activates {s : State} {w : WindowId} {src : Mac} (h : s.activates w src) :
    judgeArrival w src s =
      (if s.windows[w].level = .maintain then
        forEach (members s.windows[w].robots) (claimRobot w)
          (s.modWindow w fun x => x.activated src)
      else s.modWindow w fun x => x.activated src, true) := by
  have hact (u : State) (hu : u.modWindow w (fun x => { x with state := .active }) =
      s.modWindow w fun x => x.activated src) : activateWindow w u =
        if s.windows[w].level = .maintain then
          forEach (members s.windows[w].robots) (claimRobot w)
            (s.modWindow w fun x => x.activated src)
        else s.modWindow w fun x => x.activated src := by
    have hw : (s.modWindow w fun x => x.activated src).windows[w] = s.windows[w].activated src :=
      upd_same ..
    unfold activateWindow
    dsimp only
    rw [hu, hw]
    rfl
  obtain ⟨hs, ha | ⟨ha, hg⟩⟩ := h
  · unfold judgeArrival
    simp only [hs, ha, if_true]
    rw [hact s]
    refine congrArg (fun v => ({ s with windows := v } : State)) (upd_congr _ _ _ _ ?_)
    generalize s.windows[w] = x at ha
    cases x
    subst ha
    exact congrArg (ServiceWindow.mk _ _ _ _ _ _ · _ _ _ _ _ _ _) (Bool.or_false _).symm
  · unfold judgeArrival
    simp only [hs, ha, hg, Bool.false_eq_true, if_false]
    rw [hact]
    have hw : (s.modWindow w fun x => { x with technician := some src, learned := true }).windows =
        upd s.windows w fun x => { x with technician := some src, learned := true } := rfl
    refine congrArg (fun v => ({ s with windows := v } : State)) ?_
    rw [hw, upd_upd]
    refine upd_congr s.windows w _ (fun x => x.activated src) ?_
    simp only [ServiceWindow.activated, ha, Option.isNone_none, Bool.or_true]

/-! ## The robots that a window takes (R162) -/

/-- A robot as a window takes it into SERVICE (R101, R162). -/
def Robot.serviced (b : Robot) (w : WindowId) : Robot :=
  { b.withoutPeriod with state := .service, holder := some w, missCount := 0, repeatsUsed := 0
                         armingCount := 0, slot := none, store := none }

/-- A window takes a PARKED robot, and leaves every other robot as it is. -/
def Robot.claimed (b : Robot) (w : WindowId) : Robot :=
  if b.state = .parked then b.serviced w else b

/-- What a claimed robot does to the sets of the window. -/
def ServiceWindow.claiming (x : ServiceWindow) (r : RobotId) (was : RobotState) : ServiceWindow :=
  match was with
  | .parked => { x with pendingSet := without x.pendingSet r, heldSet := withMember x.heldSet r }
  | .idle => x
  | .arming | .running | .late | .lost | .service =>
    { x with pendingSet := withMember x.pendingSet r }

theorem intoService_frame (r : RobotId) (w : WindowId) (s : State) :
    intoService r w s = { s with
      mem := (intoService r w s).mem, robots := upd s.robots r fun b => b.serviced w
      windows := upd s.windows w fun x =>
        { x with pendingSet := without x.pendingSet r, heldSet := withMember x.heldSet r }
      watch := (intoService r w s).watch, hold := (intoService r w s).hold } := by
  unfold intoService emptySlots
  dsimp only
  rw [watchIdleIfNone_frame, releaseOpt_frame, releaseOpt_frame]
  simp only [State.modRobot, State.modWindow, State.mk.injEq, true_and, and_true, upd_upd]
  rfl

/-- Apart from these parts a claim changes nothing. -/
theorem claimRobot_frame (w : WindowId) (r : RobotId) (s : State) :
    claimRobot w r s = { s with
      mem := (claimRobot w r s).mem, robots := upd s.robots r fun b => b.claimed w
      windows := upd s.windows w fun x => x.claiming r s.robots[r].state
      watch := (claimRobot w r s).watch, hold := (claimRobot w r s).hold } := by
  have hfix (h : s.robots[r].state ≠ .parked) : upd s.robots r (fun b => b.claimed w) = s.robots :=
    upd_fixed _ _ _ (if_neg h)
  unfold claimRobot
  cases h : s.robots[r].state with
  | parked =>
    dsimp only
    have e : upd s.robots r (fun b => b.claimed w) = upd s.robots r (fun b => b.serviced w) :=
      upd_congr _ _ _ _ (if_pos h)
    rw [e]
    exact intoService_frame r w s
  | idle =>
    rw [hfix (by rw [h]; decide), upd_fixed _ _ _ rfl]
  | arming | running | late | lost | service =>
    rw [hfix (by rw [h]; decide)]
    rfl

theorem claimAll_frame (w : WindowId) (l : List RobotId) (s : State) :
    forEach l (claimRobot w) s = { s with
      mem := (forEach l (claimRobot w) s).mem, robots := (forEach l (claimRobot w) s).robots
      windows := (forEach l (claimRobot w) s).windows, watch := (forEach l (claimRobot w) s).watch
      hold := (forEach l (claimRobot w) s).hold } := by
  refine forEach_inv (P := fun t => t = { s with
    mem := t.mem, robots := t.robots, windows := t.windows, watch := t.watch, hold := t.hold }) l
    (fun r _ t ht => ?_) s rfl
  have e := claimRobot_frame w r t
  generalize claimRobot w r t = u at e ⊢
  rw [e, ht]

theorem claimRobot_robot (w : WindowId) (r x : RobotId) (s : State) :
    (claimRobot w r s).robots[x] = if x = r then s.robots[r].claimed w else s.robots[x] := by
  rw [claimRobot_frame]
  exact upd_get ..

theorem claimRobot_window (w : WindowId) (r : RobotId) (s : State) :
    (claimRobot w r s).windows[w] = s.windows[w].claiming r s.robots[r].state := by
  rw [claimRobot_frame]
  exact upd_same ..

/-- Every PARKED robot of the list is taken, and no other robot has changed. -/
theorem claimAll_robot (w : WindowId) (l : List RobotId) (s : State) (x : RobotId) :
    (forEach l (claimRobot w) s).robots[x] =
      if x ∈ l then s.robots[x].claimed w else s.robots[x] := by
  have hidem (b : Robot) : (b.claimed w).claimed w = b.claimed w := by
    by_cases h : b.state = .parked
    · simp [Robot.claimed, Robot.serviced, h]
    · simp [Robot.claimed, h]
  induction l generalizing s with
  | nil => rfl
  | cons r l ih =>
    rw [forEach_cons, ih, claimRobot_robot]
    by_cases hr : x = r
    · subst hr
      simp only [if_true, List.mem_cons_self, hidem, ite_self]
    · simp only [hr, if_false, List.mem_cons, false_or]

/-- A claim changes the pending and the held set of its window alone. -/
theorem claiming_eq (x : ServiceWindow) (r : RobotId) (was : RobotState) : x.claiming r was =
    { x with pendingSet := (x.claiming r was).pendingSet, heldSet := (x.claiming r was).heldSet } := by
  cases was <;> rfl

theorem claimAll_window (w : WindowId) (l : List RobotId) (s : State) :
    (forEach l (claimRobot w) s).windows[w] = { s.windows[w] with
      pendingSet := (forEach l (claimRobot w) s).windows[w].pendingSet
      heldSet := (forEach l (claimRobot w) s).windows[w].heldSet } := by
  refine forEach_inv (P := fun t => t.windows[w] = { s.windows[w] with
    pendingSet := t.windows[w].pendingSet, heldSet := t.windows[w].heldSet }) l
    (fun r _ t ht => ?_) s rfl
  have e := claimRobot_window w r t
  rw [claiming_eq] at e
  generalize (claimRobot w r t).windows[w] = y at e ⊢
  rw [e, ht]

/-- The robots held afterwards are those held before and the PARKED ones of the list. -/
theorem claimAll_held (w : WindowId) (l : List RobotId) (hl : l.Nodup) (s : State) (x : RobotId) :
    (forEach l (claimRobot w) s).windows[w].heldSet.getLsbD x.val =
      (s.windows[w].heldSet.getLsbD x.val || decide (x ∈ l ∧ s.robots[x].state = .parked)) := by
  induction l generalizing s with
  | nil => simp
  | cons r l ih =>
    obtain ⟨hr, hl⟩ := List.nodup_cons.mp hl
    rw [forEach_cons, ih hl, claimRobot_robot, claimRobot_window]
    have hset : (s.windows[w].claiming r s.robots[r].state).heldSet.getLsbD x.val =
        (s.windows[w].heldSet.getLsbD x.val || decide (x = r ∧ s.robots[r].state = .parked)) := by
      cases s.robots[r].state <;>
        simp only [ServiceWindow.claiming, getLsbD_withMember, reduceCtorEq, and_false, and_true, decide_false, Bool.or_false]
    rw [hset]
    by_cases e : x = r
    · subst e; simp [hr]
    · simp [e]

/-- A robot of the list that is neither PARKED nor IDLE is waited for. -/
theorem claimAll_pending (w : WindowId) (l : List RobotId) (hl : l.Nodup) (s : State) (x : RobotId)
    (hx : x ∈ l ∧ s.robots[x].state ≠ .parked ∧ s.robots[x].state ≠ .idle ∨
      x ∉ l ∧ s.windows[w].pendingSet.getLsbD x.val = true) :
    (forEach l (claimRobot w) s).windows[w].pendingSet.getLsbD x.val = true := by
  induction l generalizing s with
  | nil => exact hx.elim (fun h => absurd h.1 List.not_mem_nil) And.right
  | cons r l ih =>
    obtain ⟨hr, hl⟩ := List.nodup_cons.mp hl
    rw [forEach_cons]
    apply ih hl
    rw [claimRobot_robot, claimRobot_window]
    by_cases e : x = r
    · subst e
      obtain ⟨-, hp, hi⟩ | ⟨hn, -⟩ := hx
      · refine .inr ⟨hr, ?_⟩
        cases h : s.robots[x].state <;> simp_all [ServiceWindow.claiming, getLsbD_withMember]
      · exact absurd List.mem_cons_self hn
    · rw [if_neg e]
      obtain ⟨hm, h⟩ | ⟨hm, h⟩ := hx
      · exact .inl ⟨(List.mem_cons.mp hm).resolve_left e, h⟩
      · refine .inr ⟨fun hc => hm (List.mem_cons_of_mem r hc), ?_⟩
        cases s.robots[r].state <;>
          simp only [ServiceWindow.claiming, getLsbD_withMember, getLsbD_without, h, e, decide_false,
            Bool.or_false, Bool.not_false, Bool.and_true]

end Sys2Proof.Machine
end


section
/-! A frame on a service port from its judgement to its end: trapped, taken as a request, or injected
(R158, R159, R165 to R167). -/

namespace Sys2Proof.Machine

/-! ## The traps that a state calls for -/

/-- The frames that a service port judges for its window: management frames, and frames whose EtherType
is not set apart where the check of the record that carries their key finds no error. -/
def State.judges (s : State) (octets : Octets) : Prop :=
  ordinary octets ∧
      (∀ i, s.keyHolder (frameDst octets) (frameVlan octets) = some i → s.streams[i].ecc = .clean) ∨
    frameEtherType octets = 0x88B5

/-- A frame whose key's record has no error is matched or unmatched. -/
theorem matched_or_unmatched {s : State} {p : PortId} {octets : Octets}
    (h : ∀ i, s.keyHolder (frameDst octets) (frameVlan octets) = some i → s.streams[i].ecc = .clean) :
    (∃ i, s.matched p octets i) ∨ s.unmatched p octets := by
  cases hk : s.keyHolder (frameDst octets) (frameVlan octets) with
  | none => exact .inr (.inl hk)
  | some i =>
    cases hi : s.streams[i].cfg.ingress.getLsbD p.val with
    | true => exact .inl ⟨i, hk, h i hk, hi⟩
    | false => exact .inr (.inr ⟨i, hk, h i hk, hi⟩)

/-- What such a frame matches is a matter of the stream records alone. -/
theorem classify_of_streams {s t : State} {p : PortId} {octets : Octets} (hs : t.streams = s.streams)
    (h : ∀ i, s.keyHolder (frameDst octets) (frameVlan octets) = some i → s.streams[i].ecc = .clean) :
    classify p octets t = (t, (classify p octets s).2) := by
  obtain ⟨i, hi⟩ | hu := matched_or_unmatched (p := p) h
  · rw [classify_matched hs hi, classify_matched rfl hi]
  · rw [classify_unmatched hs hu, classify_unmatched rfl hu]

theorem matched_unique {s : State} {p : PortId} {octets : Octets} {i j : StreamId}
    (hi : s.matched p octets i) (hj : s.matched p octets j) : i = j :=
  Option.some.inj (hi.1.symm.trans hj.1)

theorem not_matched_of_unmatched {s : State} {p : PortId} {octets : Octets} {i : StreamId}
    (h : s.unmatched p octets) : ¬s.matched p octets i := by
  rintro ⟨hk, -, hi⟩
  obtain hn | ⟨j, hj, -, hf⟩ := h
  · rw [hk] at hn
    cases hn
  · cases Option.some.inj (hk.symm.trans hj)
    rw [hi] at hf
    cases hf

/-- The traps read a state's straps and streams, the window's record but for its sets and its counts, and
what its robots allow. -/
theorem trapsFor_congr {s t : State} {w : WindowId} (hst : t.straps = s.straps)
    (hs : t.streams = s.streams) (hx : t.windows[w].state = s.windows[w].state)
    (ht : t.windows[w].technician = s.windows[w].technician)
    (hl : t.windows[w].level = s.windows[w].level)
    (hc : t.windows[w].cameras = s.windows[w].cameras)
    (hb : t.windows[w].robots = s.windows[w].robots)
    (hr : ∀ c, t.robotAllows w c ↔ s.robotAllows w c) (octets : Octets) (reason : TrapReason) :
    t.trapsFor w octets reason ↔ s.trapsFor w octets reason := by
  have hstation : t.station = s.station := by unfold State.station; rw [hst]
  have hk := keyHolder_of_streams hs (frameDst octets) (frameVlan octets)
  cases reason <;>
    simp only [State.trapsFor, State.passesOn, State.unmatched, State.matched, ServiceWindow.covers,
      hstation, hs, hx, ht, hl, hc, hb, hr, hk]

/-- A trap for one of the first three reasons is one of a frame that is not passed on. -/
theorem passesOn_of_trapsFor {s : State} {w : WindowId} {octets : Octets} {reason : TrapReason}
    (h : s.trapsFor w octets reason) :
    (reason = .closed ∨ reason = .groupSource ∨ reason = .foreignSource) ∨ s.passesOn w octets := by
  cases reason with
  | closed => exact .inl (.inl rfl)
  | groupSource => exact .inl (.inr (.inl rfl))
  | foreignSource => exact .inl (.inr (.inr rfl))
  | misdirected | unmatched | level | subject | robotState | tooLong => exact .inr h.1

/-! ## The injection check (R165) -/

/-- The stream's subject is of the window's cameras or robots. -/
def ServiceWindow.holdsSubject (x : ServiceWindow) (c : StreamCfg) : Bool :=
  match c.subject with
  | .camera k => x.cameras.getLsbD k
  | .robot r => x.robots.getLsbD r
  | .none | .controller => false

/-- The state of the stream's robot lets the window inject. -/
def State.robotReady (s : State) (w : WindowId) (c : StreamCfg) : Bool :=
  match c.subject with
  | .robot r => decide (s.robots[r].state = .idle) || decide (s.robots[r].state = .parked) ||
      (decide (s.robots[r].state = .service) && decide (s.robots[r].holder = some w) &&
        decide (s.windows[w].level = .maintain))
  | _ => true

theorem holdsSubject_iff (x : ServiceWindow) (c : StreamCfg) :
    x.holdsSubject c = true ↔ x.covers c := by
  unfold ServiceWindow.holdsSubject ServiceWindow.covers
  cases c.subject <;> simp

theorem robotReady_iff (s : State) (w : WindowId) (c : StreamCfg) :
    s.robotReady w c = true ↔ s.robotAllows w c := by
  unfold State.robotReady State.robotAllows
  cases c.subject <;> simp [-Fin.getElem_fin, and_assoc, or_assoc]

theorem injectionFault_matched (w : WindowId) (i : StreamId) (octets : Octets) (s : State) :
    injectionFault w (some i) octets s =
      if s.windows[w].level = .observe then some .level
      else if !s.windows[w].holdsSubject s.streams[i].cfg then some .subject
      else if !s.robotReady w s.streams[i].cfg then some .robotState
      else if s.streams[i].cfg.maxLength < octets.length then some .tooLong else none := rfl

/-- The traps of a passed frame that matches a stream, by the conditions of R165 in their order. -/
theorem trapsFor_matched {s : State} {w : WindowId} {octets : Octets} {i : StreamId}
    (hp : s.passesOn w octets) (ho : ordinary octets) (hi : s.matched (windowPort w) octets i)
    (reason : TrapReason) : s.trapsFor w octets reason ↔
      match reason with
      | .level => s.windows[w].level = .observe
      | .subject => s.windows[w].level ≠ .observe ∧ s.windows[w].holdsSubject s.streams[i].cfg = false
      | .robotState => s.windows[w].level ≠ .observe ∧
          s.windows[w].holdsSubject s.streams[i].cfg = true ∧ s.robotReady w s.streams[i].cfg = false
      | .tooLong => s.windows[w].level ≠ .observe ∧
          s.windows[w].holdsSubject s.streams[i].cfg = true ∧
          s.robotReady w s.streams[i].cfg = true ∧ s.streams[i].cfg.maxLength < octets.length
      | _ => False := by
  have hm : frameEtherType octets ≠ 0x88B5 := ((ordinary_iff octets).mp ho).1
  have hx := hp.1
  have ht := hp.2
  have hall (j : StreamId) : s.matched (windowPort w) octets j ↔ j = i :=
    ⟨fun hj => matched_unique hj hi, fun e => e ▸ hi⟩
  have hnu : ¬s.unmatched (windowPort w) octets := fun h => not_matched_of_unmatched h hi
  cases reason <;>
    simp [-Fin.getElem_fin, State.trapsFor, hp, ho, hx, ht, hall, hnu, hm, ← holdsSubject_iff,
      ← robotReady_iff]

theorem trapsFor_unmatched {s : State} {w : WindowId} {octets : Octets} (hp : s.passesOn w octets)
    (ho : ordinary octets) (hu : s.unmatched (windowPort w) octets) (reason : TrapReason) :
    s.trapsFor w octets reason ↔ reason = .unmatched := by
  have hm : frameEtherType octets ≠ 0x88B5 := ((ordinary_iff octets).mp ho).1
  have hx := hp.1
  have ht := hp.2
  have hall (j : StreamId) : ¬s.matched (windowPort w) octets j := not_matched_of_unmatched hu
  cases reason <;> simp [-Fin.getElem_fin, State.trapsFor, hp, ho, hu, hx, ht, hall, hm]

/-- The injection check finds the reason for which a passed frame traps, and none when it traps for
none. -/
theorem trapsFor_iff_injectionFault {s : State} {w : WindowId} {octets : Octets}
    (hp : s.passesOn w octets) (ho : ordinary octets)
    (hc : ∀ i, s.keyHolder (frameDst octets) (frameVlan octets) = some i → s.streams[i].ecc = .clean)
    (reason : TrapReason) : s.trapsFor w octets reason ↔
      injectionFault w (classify (windowPort w) octets s).2 octets s = some reason := by
  obtain ⟨i, hi⟩ | hu := matched_or_unmatched (p := windowPort w) hc
  · rw [trapsFor_matched hp ho hi, classify_matched rfl hi, injectionFault_matched]
    by_cases hl : s.windows[w].level = .observe
    · rw [if_pos hl]
      cases reason <;> simp [-Fin.getElem_fin, hl]
    cases hsub : s.windows[w].holdsSubject s.streams[i].cfg with
    | false => cases reason <;> simp [-Fin.getElem_fin, hl]
    | true =>
      cases hrob : s.robotReady w s.streams[i].cfg with
      | false => cases reason <;> simp [-Fin.getElem_fin, hl]
      | true =>
        by_cases hlen : s.streams[i].cfg.maxLength < octets.length <;>
          cases reason <;> simp [-Fin.getElem_fin, hl, hlen]
  · rw [trapsFor_unmatched hp ho hu, classify_unmatched rfl hu]
    exact ⟨fun e => by rw [e]; rfl, fun e => (Option.some.inj e).symm⟩

/-- A management frame that is passed on traps when it is not to the station address. -/
theorem trapsFor_management {s : State} {w : WindowId} {octets : Octets} (hp : s.passesOn w octets)
    (hm : frameEtherType octets = 0x88B5) (reason : TrapReason) :
    s.trapsFor w octets reason ↔ reason = .misdirected ∧ frameDst octets ≠ s.station := by
  have ho : ¬ordinary octets := fun h => ((ordinary_iff octets).mp h).1 hm
  have hx := hp.1
  have ht := hp.2
  cases reason <;> simp [-Fin.getElem_fin, State.trapsFor, hp, ho, hx, ht, hm]

/-! ## A frame that its window passes on -/

/-- A passed frame is a request or is put to the injection check, with the stream that it matches. -/
def passedFrame (a : Arrival) (w : WindowId) (i : Option StreamId) (s : State) : State :=
  if frameEtherType a.octets = 0x88B5 then
    if frameDst a.octets = s.station then (offerRequest (requestOf a.port a.octets) s).give a.cells
    else trap w .misdirected (frameSrc a.octets) (s.give a.cells)
  else
    match injectionFault w i a.octets s, i with
    | some reason, _ => trap w reason (frameSrc a.octets) (s.give a.cells)
    | none, some i => injectFrame a w i s
    | none, none => s

section
variable {s t : State} {w : WindowId} {octets : Octets} {r : Reception}

/-- A frame on a service port after it was counted: judged, and passed on or trapped. -/
theorem exec_serviceFrame (h : GoodArrival s (windowPort w) octets r) (hj : s.judges octets)
    (ht : t = countGood (arrivalOf (windowPort w) octets r) (s.received (windowPort w))) :
    exec (.frameReceptionEnd (windowPort w) octets) s = .next
      (if (judgeArrival w (frameSrc octets) t).2 = true then
        passedFrame (arrivalOf (windowPort w) octets r) w (classify (windowPort w) octets s).2
          (judgeArrival w (frameSrc octets) t).1
      else (judgeArrival w (frameSrc octets) (t.give r.cells)).1) := by
  have hs : t.streams = s.streams := by
    rw [ht]
    exact streams_of_uncounted (s := s.received _) (countGood_uncounted ..)
  rw [exec_goodArrival h]
  refine congrArg Host.Outcome.next ?_
  obtain ⟨ho, hc⟩ | hm := hj
  · have hcls := classify_of_streams (p := windowPort w) hs hc
    have hne : frameEtherType (arrivalOf (windowPort w) octets r).octets ≠ 0x88B5 :=
      ((ordinary_iff octets).mp ho).1
    rw [goodFrame_service _ _ (portWindow_windowPort w) ho, ← ht]
    unfold serviceFrame passedFrame
    rw [if_neg hne]
    dsimp only [arrivalOf]
    rw [hcls]
    dsimp only
    rcases judgeArrival w (frameSrc octets) t with ⟨u, _ | _⟩ <;> rfl
  · have hm' : frameEtherType (arrivalOf (windowPort w) octets r).octets = 0x88B5 := hm
    rw [goodFrame_serviceRequest _ _ (portWindow_windowPort w) hm, ← ht]
    unfold serviceRequest passedFrame
    rw [if_pos hm']
    dsimp only [arrivalOf]
    rcases judgeArrival w (frameSrc octets) t with ⟨u, _ | _⟩ <;> rfl

/-- A frame that the judgement passes on, classified in any state with these stream records. -/
theorem exec_passed {u v : State} (hs : v.streams = s.streams) (h : GoodArrival s (windowPort w) octets r) (hj : s.judges octets)
    (ht : t = countGood (arrivalOf (windowPort w) octets r) (s.received (windowPort w)))
    (hu : judgeArrival w (frameSrc octets) t = (u, true)) :
    exec (.frameReceptionEnd (windowPort w) octets) s = .next
      (passedFrame (arrivalOf (windowPort w) octets r) w (classify (windowPort w) octets v).2 u) := by
  rw [exec_serviceFrame h hj ht, hu]
  refine congrArg Host.Outcome.next ?_
  unfold passedFrame
  obtain ⟨ho, hc⟩ | hm := hj
  · rw [classify_of_streams hs hc]
    rfl
  · have hm' : frameEtherType (arrivalOf (windowPort w) octets r).octets = 0x88B5 := hm
    rw [if_pos hm', if_pos rfl, if_pos hm']

/-- A passed frame that traps. -/
theorem passedFrame_trap {a : Arrival} (hs : t.streams = s.streams) (hp : t.passesOn w a.octets)
    (hj : t.judges a.octets) {reason : TrapReason} (h : t.trapsFor w a.octets reason) :
    passedFrame a w (classify (windowPort w) a.octets s).2 t =
      trap w reason (frameSrc a.octets) (t.give a.cells) := by
  unfold passedFrame
  obtain ⟨ho, hc⟩ | hm := hj
  · have hne : frameEtherType a.octets ≠ 0x88B5 := ((ordinary_iff a.octets).mp ho).1
    rw [if_neg hne, classify_of_streams hs.symm hc, (trapsFor_iff_injectionFault hp ho hc reason).mp h]
  · obtain ⟨rfl, hd⟩ := (trapsFor_management hp hm reason).mp h
    rw [if_pos hm, if_neg hd]

/-! ## A frame that is not trapped -/

theorem mirrorTo_unanswered (w : WindowId) (h : CellId) (s : State) :
    (mirrorTo w h s).unanswered = s.unanswered := by
  unfold mirrorTo
  dsimp only
  split
  · exact (bump_unanswered ..).trans ((enqueue_unanswered ..).trans (modMem_unanswered ..))
  · exact (bump_unanswered ..).trans (bump_unanswered ..)

theorem copied_unanswered (i : Option StreamId) (h : Option CellId) (s : State) :
    (s.copied i h).unanswered = s.unanswered := by
  cases i with
  | none => rfl
  | some i =>
    cases h with
    | none => rfl
    | some h =>
      refine forEach_keeps State.unanswered _ (fun w u => ?_) s
      split
      · exact mirrorTo_unanswered w h u
      · rfl

theorem injectFrame_eq_passOn (a : Arrival) (w : WindowId) (i : StreamId) (s : State) :
    injectFrame a w i s = passOn a (some i)
      ((s.egressPorts s.streams[i].cfg.egress a.port).filter fun p => decide (p.val < 10)) 0
      (.stream i .cellDrops) (bump (.service w .injected) (countStream i a.octets s)) :=
  forward_eq_passOn ..

theorem injectFrame_unanswered (a : Arrival) (w : WindowId) (i : StreamId) (s : State)
    (hc : a.cells ≠ []) : (injectFrame a w i s).unanswered = s.unanswered := by
  rw [injectFrame_eq_passOn]
  obtain ⟨u, hp, hu, -⟩ := passOn_result (SameQueues.refl _) a (some i)
    ((s.egressPorts s.streams[i].cfg.egress a.port).filter fun p => decide (p.val < 10))
    ((egressPorts_nodup ..).filter _) 0 hc (.stream i .cellDrops) rfl
  rw [hp, copied_unanswered, hu, bump_unanswered]
  exact unanswered_of_uncounted (countStream_uncounted ..)

theorem offerRequest_unanswered (q : Request) (s : State) :
    (offerRequest q s).unanswered = s.unanswered := by
  cases hg : isGroup q.source with
  | true => rw [offerRequest_group q s hg, bump_unanswered]
  | false =>
    by_cases hl : s.mgmt.queue.length < 4
    · rw [offerRequest_joins q s hg hl, bump_unanswered]
      rfl
    · rw [offerRequest_busy q s hg (Nat.le_of_not_lt hl), bump_unanswered, sendAnswer_unanswered]

/-- A passed frame that does not trap changes no robot and no window. -/
theorem passedFrame_kept {a : Arrival} (hs : t.streams = s.streams) (hp : t.passesOn w a.octets)
    (hj : t.judges a.octets) (hc : a.cells ≠ []) (h : ∀ reason, ¬t.trapsFor w a.octets reason) :
    (passedFrame a w (classify (windowPort w) a.octets s).2 t).unanswered = t.unanswered := by
  unfold passedFrame
  obtain ⟨ho, hcl⟩ | hm := hj
  · have hne : frameEtherType a.octets ≠ 0x88B5 := ((ordinary_iff a.octets).mp ho).1
    rw [if_neg hne, classify_of_streams hs.symm hcl]
    dsimp only
    cases hf : injectionFault w (classify (windowPort w) a.octets t).2 a.octets t with
    | some reason => exact absurd ((trapsFor_iff_injectionFault hp ho hcl reason).mpr hf) (h reason)
    | none =>
      cases (classify (windowPort w) a.octets t).2 with
      | none => rfl
      | some i => exact injectFrame_unanswered a w i t hc
  · rw [if_pos hm, if_pos]
    · exact (modMem_unanswered ..).trans (offerRequest_unanswered ..)
    · by_contra hd
      exact h _ ((trapsFor_management hp hm .misdirected).mpr ⟨rfl, hd⟩)

/-! ## What a trap comes to (R167) -/

theorem trap_closing {v : State} (hs : v.windows[w].state ≠ .closed)
    (hc : v.windows[w].trapCloses = true) (reason : TrapReason) (src : Mac) :
    trap w reason src v = closeWindow w .trap (countTrap w reason src v) := by
  rw [trap_eq, if_pos ⟨hs, hc⟩]

section
variable {v : State} (hs : v.windows[w].state ≠ .closed) (hc : v.windows[w].trapCloses = true)
  (reason : TrapReason) (src : Mac)
include hs

theorem countTrap_open : (countTrap w reason src v).windows[w].state ≠ .closed := by
  rw [countTrap_windows]
  exact hs

include hc

theorem trap_closing_window : (trap w reason src v).windows[w] = { v.windows[w] with
    state := .closed, technician := none, learned := false, warned := false, lastClose := some .trap
    sessionTraps := min (v.windows[w].sessionTraps + 1) 65535, pendingSet := 0, heldSet := 0 } := by
  rw [trap_closing hs hc, closeWindow_window w .trap _ (countTrap_open hs reason src), countTrap_windows]

theorem trap_closing_robot (b : RobotId) : (trap w reason src v).robots[b] =
    if v.windows[w].heldSet.getLsbD b.val = true then v.robots[b].armedAt v.clock.hall
    else v.robots[b] := by
  have hclock : (countTrap w reason src v).clock = v.clock :=
    (congrArg State.clock (countTrap_uncounted w reason src v) :)
  rw [trap_closing hs hc, closeWindow_robot w .trap _ (countTrap_open hs reason src), countTrap_windows,
    countTrap_robots, hclock]

theorem trap_closing_kept : (trap w reason src v).beside = v.beside ∧
    (trap w reason src v).hold = v.hold ∧
    ∀ x : PortId, x.val < 10 → (trap w reason src v).egress[x] = v.egress[x] := by
  have hcu := countTrap_uncounted w reason src v
  have hopen := countTrap_open hs reason src
  have hm : (countTrap w reason src v).mgmt = v.mgmt := (congrArg State.mgmt hcu :)
  have hun : (countTrap w reason src v).unsupervised = v.unsupervised :=
    (unsupervised_of_unanswered (unanswered_of_uncounted hcu)).trans
      (unsupervised_of_beside (modWindow_beside ..))
  rw [trap_closing hs hc]
  refine ⟨?_, (closeWindow_hold w .trap _ hopen).trans (congrArg State.hold hcu :), fun x hx => ?_⟩
  · rw [closeWindow_beside, State.beside, hun, hm, State.beside]
  · have hp : x ≠ windowPort w := by
      rintro rfl
      have : 10 + w.val < 10 := hx
      omega
    have he : (countTrap w reason src v).egress = v.egress := (congrArg State.egress hcu :)
    rw [closeWindow_egress w .trap _ hopen, dropMirrors_egress, if_neg hp, he]

end

section
variable {v : State} {reason : TrapReason} {traps : Nat}
  (hu : v.uncounted = (s.dropped (windowPort w) r).uncounted)
  (he : Effects s v s.clock.hall.base (receivedCounts (windowPort w) octets) [])
  (hx : exec (.frameReceptionEnd (windowPort w) octets) s = .next (trap w reason (frameSrc octets) v))
  (htr : traps = min (s.windows[w].sessionTraps + 1) 65535)
include hu he hx htr

/-- A trapped frame whose trap leaves its window as it is. -/
theorem trap_completes (hk : s.windows[w].state = .closed ∨ s.windows[w].trapCloses = false) :
    Completes (.frameReceptionEnd (windowPort w) octets) s
      ((s.dropped (windowPort w) r).modWindow w fun x => { x with sessionTraps := traps })
      (receivedCounts (windowPort w) octets ++ [.service w .traps])
      [.serviceTrap w reason (frameSrc octets)] := by
  have hw : v.windows = s.windows := windows_of_uncounted (s := s.dropped _ r) hu
  have hclock : v.clock = s.clock := (congrArg State.clock hu :)
  rw [trap_kept reason (frameSrc octets) (by rw [hw]; exact hk)] at hx
  refine ⟨_, hx, ?_, countTrap_effects he (by rw [hclock]) w reason (frameSrc octets)⟩
  refine (countTrap_uncounted w reason (frameSrc octets) v).trans ((modWindow_uncounted hu w _).trans ?_)
  refine congrArg (fun z => State.uncounted { s.dropped (windowPort w) r with windows := z })
    (upd_congr s.windows w _ _ ?_)
  rw [htr]

/-- A trapped frame whose trap closes its window. -/
theorem trap_closes (hs : s.windows[w].state ≠ .closed) (hc : s.windows[w].trapCloses = true) :
    ∃ t, exec (.frameReceptionEnd (windowPort w) octets) s = .next t ∧
      t.unsupervised = (s.received (windowPort w)).unsupervised ∧ t.mgmt = s.mgmt ∧ t.hold = s.hold ∧
      (∀ x : PortId, x.val < 10 → t.egress[x] = s.egress[x]) ∧
      t.windows[w] = { s.windows[w] with
        state := .closed, technician := none, learned := false, warned := false
        lastClose := some .trap, sessionTraps := traps, pendingSet := 0, heldSet := 0 } ∧
      (∀ b : RobotId, s.windows[w].heldSet.getLsbD b.val = true →
        t.robots[b].state = .arming ∧ t.robots[b].holder = none) ∧
      (∀ b : RobotId, s.windows[w].heldSet.getLsbD b.val = false → t.robots[b] = s.robots[b]) ∧
      Effects s t s.clock.hall.base (receivedCounts (windowPort w) octets ++ [.service w .traps])
        [.serviceTrap w reason (frameSrc octets), .serviceClosed w .trap traps] := by
  have hw : v.windows = s.windows := windows_of_uncounted (s := s.dropped _ r) hu
  have hb : v.robots = s.robots := robots_of_uncounted (s := s.dropped _ r) hu
  have hclock : v.clock = s.clock := (congrArg State.clock hu :)
  have hegress : v.egress = s.egress := (congrArg State.egress hu :)
  rw [← hw] at hs hc
  have hrob (b : RobotId) := trap_closing_robot hs hc reason (frameSrc octets) b
  rw [hb, hw] at hrob
  obtain ⟨hbes, hhold, heg⟩ := trap_closing_kept hs hc reason (frameSrc octets)
  refine ⟨_, hx, (unsupervised_of_beside hbes).trans ?_, (mgmt_of_beside hbes).trans ?_,
    hhold.trans (congrArg State.hold hu :), fun x hlt => (heg x hlt).trans (by rw [hegress]), ?_,
    fun b hb => ?_, fun b hb => ?_, ?_⟩
  · exact unsupervised_of_unanswered (s := v) (t := s.dropped _ r) (unanswered_of_uncounted hu)
  · exact mgmt_of_uncounted (s := s.dropped _ r) hu
  · rw [trap_closing_window hs hc, hw, htr]
  · rw [hrob, if_pos hb]
    exact ⟨rfl, rfl⟩
  · rw [hrob, hb]
    exact if_neg Bool.false_ne_true
  · have hce := countTrap_effects he (by rw [hclock]) w reason (frameSrc octets)
    have hcl : (countTrap w reason (frameSrc octets) v).clock = s.clock :=
      (congrArg State.clock (countTrap_uncounted w reason (frameSrc octets) v) :).trans hclock
    have := closeWindow_effects w .trap _ (countTrap_open hs reason (frameSrc octets)) hce (by rw [hcl])
    rw [countTrap_windows, hw, ← htr] at this
    rw [trap_closing hs hc]
    exact this

end

end

end Sys2Proof.Machine
end


section
/-! The frame that activates a window (R158, R162), and the management and service frames of R7, R9 to
R11, R59, R60, R158, R159, R162 and R165 to R167. -/

namespace Sys2Proof.Machine

theorem robots_of_unanswered {s t : State} (h : t.unanswered = s.unanswered) : t.robots = s.robots := by
  have e := congrArg State.robots h
  simpa only [State.unanswered, State.uncounted] using e

theorem windows_of_unanswered {s t : State} (h : t.unanswered = s.unanswered) :
    t.windows = s.windows := by
  have e := congrArg State.windows h
  simpa only [State.unanswered, State.uncounted] using e

/-! ## A window that enters ACTIVE at MAINTAIN (R162) -/

/-- The state as the window has become ACTIVE and has claimed its robots. -/
def State.entered (s : State) (w : WindowId) (src : Mac) : State :=
  forEach (members s.windows[w].robots) (claimRobot w) (s.modWindow w fun x => x.activated src)

section
variable (s : State) (w : WindowId) (src : Mac)

theorem entered_frame : s.entered w src = { s with
    mem := (s.entered w src).mem, robots := (s.entered w src).robots
    windows := (s.entered w src).windows, watch := (s.entered w src).watch
    hold := (s.entered w src).hold } := by
  have e := claimAll_frame w (members s.windows[w].robots) (s.modWindow w fun x => x.activated src)
  unfold State.entered
  generalize forEach _ _ _ = u at e ⊢
  rw [e]
  rfl

theorem entered_robot (b : RobotId) : (s.entered w src).robots[b] =
    if s.windows[w].robots.getLsbD b.val = true then s.robots[b].claimed w else s.robots[b] := by
  simp only [← mem_members]
  exact claimAll_robot w _ _ b

theorem entered_window : (s.entered w src).windows[w] = { s.windows[w].activated src with
    pendingSet := (s.entered w src).windows[w].pendingSet
    heldSet := (s.entered w src).windows[w].heldSet } := by
  have e := claimAll_window w (members s.windows[w].robots) (s.modWindow w fun x => x.activated src)
  have hw : (s.modWindow w fun x => x.activated src).windows[w] = s.windows[w].activated src :=
    upd_same ..
  rw [hw] at e
  exact e

theorem entered_held (b : RobotId) : (s.entered w src).windows[w].heldSet.getLsbD b.val =
    (s.windows[w].heldSet.getLsbD b.val ||
      decide (s.windows[w].robots.getLsbD b.val = true ∧ s.robots[b].state = .parked)) := by
  have hw : (s.modWindow w fun x => x.activated src).windows[w] = s.windows[w].activated src :=
    upd_same ..
  have e := claimAll_held w (members s.windows[w].robots) ((List.nodup_finRange 24).filter _)
    (s.modWindow w fun x => x.activated src) b
  rw [hw] at e
  simp only [mem_members] at e
  exact e

theorem entered_pending (b : RobotId) (hb : s.windows[w].robots.getLsbD b.val = true)
    (hp : s.robots[b].state ≠ .parked) (hi : s.robots[b].state ≠ .idle) :
    (s.entered w src).windows[w].pendingSet.getLsbD b.val = true :=
  claimAll_pending w (members s.windows[w].robots) ((List.nodup_finRange 24).filter _) _ b
    (.inl ⟨(mem_members _ b).mpr hb, hp, hi⟩)

/-- What the window's robots allow is the same once it has taken its PARKED ones. -/
theorem entered_robotAllows (hl : s.windows[w].level = .maintain) (c : StreamCfg) :
    (s.entered w src).robotAllows w c ↔ s.robotAllows w c := by
  have hl' : (s.entered w src).windows[w].level = .maintain := by rw [entered_window]; exact hl
  unfold State.robotAllows
  rw [hl, hl']
  refine forall_congr' fun b => imp_congr_right fun _ => ?_
  rw [entered_robot]
  split
  · unfold Robot.claimed
    split
    · next h => simp [-Fin.getElem_fin, h, Robot.serviced]
    · rfl
  · rfl

/-- The state where the window is ACTIVE with its technician, and nothing else has changed. -/
def State.madeActive : State :=
  s.modWindow w fun x => { x with state := .active, technician := some src }

theorem madeActive_window : (s.madeActive w src).windows[w] =
    { s.windows[w] with state := .active, technician := some src } := upd_same ..

theorem madeActive_robotAllows (c : StreamCfg) :
    (s.madeActive w src).robotAllows w c ↔ s.robotAllows w c := by
  unfold State.robotAllows
  rw [madeActive_window]
  rfl

theorem madeActive_trapsFor {s t : State} (hst : t.straps = s.straps) (hs : t.streams = s.streams)
    (hw : t.windows = s.windows) (hb : t.robots = s.robots) (octets : Octets) (reason : TrapReason) :
    (t.madeActive w src).trapsFor w octets reason ↔ (s.madeActive w src).trapsFor w octets reason := by
  have hx : (t.madeActive w src).windows[w] = (s.madeActive w src).windows[w] := by
    rw [madeActive_window, madeActive_window, hw]
  refine trapsFor_congr (s := s.madeActive w src) (t := t.madeActive w src) hst hs ?_ ?_ ?_ ?_ ?_
    (fun c => ?_) octets reason
  iterate 5 rw [hx]
  rw [madeActive_robotAllows, madeActive_robotAllows]
  unfold State.robotAllows
  rw [hw, hb]

/-- The frame traps for the same reasons as in the window made ACTIVE. -/
theorem entered_trapsFor (hl : s.windows[w].level = .maintain) (octets : Octets) (reason : TrapReason) :
    (s.entered w src).trapsFor w octets reason ↔ (s.madeActive w src).trapsFor w octets reason := by
  refine trapsFor_congr ?_ ?_ ?_ ?_ ?_ ?_ ?_
    (fun c => (entered_robotAllows s w src hl c).trans (madeActive_robotAllows s w src c).symm)
    octets reason
  · rw [entered_frame]; rfl
  · rw [entered_frame]; rfl
  all_goals rw [entered_window, madeActive_window]; rfl

end

/-! ## The frame that activates a window (R158) -/

theorem judges_of_streams {s t : State} (hs : t.streams = s.streams) {octets : Octets}
    (h : s.judges octets) : t.judges octets := by
  unfold State.judges
  rw [hs]
  simp only [keyHolder_of_streams hs]
  exact h

section
variable {s t : State} {w : WindowId} {octets : Octets} {r : Reception}
  (h : GoodArrival s (windowPort w) octets r) (hj : s.judges octets)
  (ha : s.activates w (frameSrc octets))
include h hj ha

/-- A frame that activates a window below MAINTAIN is handled as in the window made ACTIVE. -/
theorem exec_activating (hl : s.windows[w].level ≠ .maintain) :
    exec (.frameReceptionEnd (windowPort w) octets) s =
      exec (.frameReceptionEnd (windowPort w) octets)
        (s.modWindow w fun x => x.activated (frameSrc octets)) := by
  have hcg := countGood_modWindow w (fun x => x.activated (frameSrc octets))
    (arrivalOf (windowPort w) octets r) (s.received (windowPort w))
  have hu := countGood_uncounted (arrivalOf (windowPort w) octets r) (s.received (windowPort w))
  have hw : (s.modWindow w fun x => x.activated (frameSrc octets)).windows[w] =
    s.windows[w].activated (frameSrc octets) := upd_same ..
  have hpass : (s.modWindow w fun x => x.activated (frameSrc octets)).passesOn w octets := by
    unfold State.passesOn
    rw [hw]
    exact ⟨rfl, rfl⟩
  have h' : GoodArrival (s.modWindow w fun x => x.activated (frameSrc octets)) (windowPort w) octets r :=
    ⟨h.up, h.current, h.notOverrun, h.cells, h.long, h.short, h.check⟩
  have htw : (countGood (arrivalOf (windowPort w) octets r) (s.received (windowPort w))).windows =
    s.windows := windows_of_uncounted (s := s.received _) hu
  have hta : (countGood (arrivalOf (windowPort w) octets r) (s.received (windowPort w))).activates w
      (frameSrc octets) := by
    unfold State.activates
    rw [htw]
    exact ha
  have hja := judgeArrival_activates hta
  rw [htw, if_neg hl] at hja
  rw [exec_passed rfl h hj rfl hja]
  have hs : s.streams = (s.modWindow w fun x => x.activated (frameSrc octets)).streams := rfl
  refine (exec_passed hs h' (judges_of_streams hs.symm hj) hcg.symm
    (judgeArrival_passes hpass ?_)).symm
  rw [State.modWindow_windows, State.modWindow_windows, htw]

/-- A frame that activates a window at MAINTAIN is passed on by the window that has claimed its
robots. -/
theorem exec_entering (hl : s.windows[w].level = .maintain) : ∃ t : State,
    t.uncounted = (s.received (windowPort w)).uncounted ∧
    exec (.frameReceptionEnd (windowPort w) octets) s = .next
      (passedFrame (arrivalOf (windowPort w) octets r) w (classify (windowPort w) octets s).2
        (t.entered w (frameSrc octets))) := by
  have hu := countGood_uncounted (arrivalOf (windowPort w) octets r) (s.received (windowPort w))
  have htw : (countGood (arrivalOf (windowPort w) octets r) (s.received (windowPort w))).windows =
    s.windows := windows_of_uncounted (s := s.received _) hu
  have hta : (countGood (arrivalOf (windowPort w) octets r) (s.received (windowPort w))).activates w
      (frameSrc octets) := by
    unfold State.activates
    rw [htw]
    exact ha
  have hja := judgeArrival_activates hta
  rw [htw, if_pos hl, ← htw] at hja
  exact ⟨_, hu, exec_passed rfl h hj rfl hja⟩

/-- At MAINTAIN the frame is passed on in a state `u` whose robots and window have entered ACTIVE, and
traps there for the reasons for which it traps in the window made ACTIVE. -/
theorem exec_maintaining (hl : s.windows[w].level = .maintain) : ∃ u : State,
    exec (.frameReceptionEnd (windowPort w) octets) s = .next
      (passedFrame (arrivalOf (windowPort w) octets r) w (classify (windowPort w) octets s).2 u) ∧
    u.streams = s.streams ∧ u.passesOn w octets ∧
    u.windows[w] = { s.windows[w].activated (frameSrc octets) with
      pendingSet := u.windows[w].pendingSet, heldSet := u.windows[w].heldSet } ∧
    (∀ b : RobotId, u.robots[b] =
      if s.windows[w].robots.getLsbD b.val = true then s.robots[b].claimed w else s.robots[b]) ∧
    (∀ b : RobotId, u.windows[w].heldSet.getLsbD b.val = (s.windows[w].heldSet.getLsbD b.val ||
      decide (s.windows[w].robots.getLsbD b.val = true ∧ s.robots[b].state = .parked))) ∧
    (∀ b : RobotId, s.windows[w].robots.getLsbD b.val = true → s.robots[b].state ≠ .parked →
      s.robots[b].state ≠ .idle → u.windows[w].pendingSet.getLsbD b.val = true) ∧
    ∀ reason, u.trapsFor w octets reason ↔
      (s.madeActive w (frameSrc octets)).trapsFor w octets reason := by
  obtain ⟨t, hu, hx⟩ := exec_entering h hj ha hl
  have htw : t.windows = s.windows := windows_of_uncounted (s := s.received _) hu
  have htb : t.robots = s.robots := robots_of_uncounted (s := s.received _) hu
  have hts : t.streams = s.streams := streams_of_uncounted (s := s.received _) hu
  have htp : t.straps = s.straps := (congrArg State.straps hu :)
  have hwin := entered_window t w (frameSrc octets)
  refine ⟨_, hx, ?_, ?_, ?_, ?_, ?_, ?_, ?_⟩
  · rw [entered_frame]; exact hts
  · unfold State.passesOn
    rw [hwin]
    exact ⟨rfl, rfl⟩
  · rw [hwin, htw]
  · intro b
    rw [entered_robot, htw, htb]
  · intro b
    rw [entered_held, htw, htb]
  · intro b
    rw [← htw, ← htb]
    exact entered_pending t w _ b
  · intro reason
    exact (entered_trapsFor t w _ (by rw [htw]; exact hl) octets reason).trans
      (madeActive_trapsFor w _ htp hts htw htb octets reason)

/-- R158, R162 and R167: the frame is a trap that closes the window, and the robots it took are ARMING. -/
theorem maintaining_closes (hl : s.windows[w].level = .maintain)
    (hc : s.windows[w].trapCloses = true) {reason : TrapReason}
    (htr : (s.madeActive w (frameSrc octets)).trapsFor w octets reason) :
    ∃ t, exec (.frameReceptionEnd (windowPort w) octets) s = .next t ∧ t.windows[w].state = .closed ∧
      t.windows[w].lastClose = some .trap ∧ t.windows[w].technician = none ∧
      t.windows[w].heldSet = 0 ∧ t.windows[w].pendingSet = 0 ∧
      t.windows[w].sessionTraps = min (s.windows[w].sessionTraps + 1) 65535 ∧
      ∀ b : RobotId,
        (s.windows[w].robots.getLsbD b.val = true → s.robots[b].state = .parked →
          t.robots[b].state = .arming ∧ t.robots[b].holder = none ∧
            t.robots[b].slot = none ∧ t.robots[b].store = none) ∧
        (s.windows[w].robots.getLsbD b.val = false ∨ s.robots[b].state ≠ .parked →
          s.windows[w].heldSet.getLsbD b.val = false → t.robots[b] = s.robots[b]) := by
  obtain ⟨u, hx, hs, hp, hw, hb, hheld, -, ht⟩ := exec_maintaining h hj ha hl
  have hx := hx.trans (congrArg Host.Outcome.next (passedFrame_trap
    (a := arrivalOf (windowPort w) octets r) hs hp (judges_of_streams hs hj) ((ht reason).mpr htr)))
  have hopen : (u.give r.cells).windows[w].state ≠ .closed := by
    change u.windows[w].state ≠ .closed
    rw [hp.1]
    decide
  have hcl : (u.give r.cells).windows[w].trapCloses = true := by
    change u.windows[w].trapCloses = true
    rw [hw]
    exact hc
  have hwin := trap_closing_window hopen hcl reason (frameSrc octets)
  have hrob (b : RobotId) : (trap w reason (frameSrc octets) (u.give r.cells)).robots[b] =
      if u.windows[w].heldSet.getLsbD b.val = true then u.robots[b].armedAt u.clock.hall
      else u.robots[b] := trap_closing_robot hopen hcl reason (frameSrc octets) b
  have htraps : (u.give r.cells).windows[w].sessionTraps = s.windows[w].sessionTraps := by
    change u.windows[w].sessionTraps = _
    rw [hw]
    rfl
  refine ⟨_, hx, ?_, ?_, ?_, ?_, ?_, ?_, fun b => ⟨fun hm hpk => ?_, fun hn hh => ?_⟩⟩
  iterate 5 exact hwin ▸ rfl
  · exact (congrArg ServiceWindow.sessionTraps hwin).trans (by dsimp only; rw [htraps])
  · have : (trap w reason (frameSrc octets) (u.give r.cells)).robots[b] =
        (s.robots[b].serviced w).armedAt u.clock.hall := by
      have hheldb : u.windows[w].heldSet.getLsbD b.val = true := by
        rw [hheld, decide_eq_true ⟨hm, hpk⟩, Bool.or_true]
      rw [hrob, if_pos hheldb, hb, if_pos hm, Robot.claimed, if_pos hpk]
    dsimp only [arrivalOf]
    rw [this]
    exact ⟨rfl, rfl, rfl, rfl⟩
  · have hnot : ¬(s.windows[w].robots.getLsbD b.val = true ∧ s.robots[b].state = .parked) := by
      rintro ⟨h1, h2⟩
      rcases hn with h | h
      · rw [h1] at h; cases h
      · exact h h2
    refine (hrob b).trans ?_
    rw [hheld, hh, decide_eq_false hnot, hb]
    by_cases hm : s.windows[w].robots.getLsbD b.val = true
    · rw [if_pos hm, Robot.claimed, if_neg fun e => hnot ⟨hm, e⟩]
      rfl
    · rw [if_neg hm]
      rfl

/-- R158 and R162: a frame that is no trap, or whose trap leaves the window open, leaves the window
ACTIVE with the robots that it took. -/
theorem maintaining_stays (hl : s.windows[w].level = .maintain)
    (hno : s.windows[w].trapCloses = false ∨
      ∀ reason, ¬(s.madeActive w (frameSrc octets)).trapsFor w octets reason) :
    ∃ t, exec (.frameReceptionEnd (windowPort w) octets) s = .next t ∧ t.windows[w].state = .active ∧
      t.windows[w].technician = some (frameSrc octets) ∧
      ∀ b : RobotId,
        (s.windows[w].robots.getLsbD b.val = true → s.robots[b].state = .parked →
          t.robots[b].state = .service ∧ t.robots[b].holder = some w ∧
            t.robots[b].slot = none ∧ t.robots[b].store = none ∧
            t.windows[w].heldSet.getLsbD b.val = true) ∧
        (s.windows[w].robots.getLsbD b.val = false ∨ s.robots[b].state ≠ .parked →
          t.robots[b] = s.robots[b]) ∧
        (s.windows[w].robots.getLsbD b.val = true → s.robots[b].state ≠ .parked →
          s.robots[b].state ≠ .idle → t.windows[w].pendingSet.getLsbD b.val = true) := by
  obtain ⟨u, hx, hs, hp, hw, hb, hheld, hpend, ht⟩ := exec_maintaining h hj ha hl
  have hju := judges_of_streams hs hj
  obtain ⟨t, htx, htb, n, htw⟩ : ∃ t, exec (.frameReceptionEnd (windowPort w) octets) s = .next t ∧
      t.robots = u.robots ∧ ∃ n, t.windows[w] = { u.windows[w] with sessionTraps := n } := by
    by_cases htr : ∃ reason, u.trapsFor w octets reason
    · obtain ⟨reason, htr⟩ := htr
      have hcl : (u.give r.cells).windows[w].trapCloses = false := by
        refine (congrArg ServiceWindow.trapCloses hw :).trans ?_
        exact hno.resolve_right fun hn => hn reason ((ht reason).mp htr)
      have hxt := hx.trans (congrArg Host.Outcome.next (passedFrame_trap
        (a := arrivalOf (windowPort w) octets r) hs hp hju htr))
      exact ⟨_, hxt.trans (congrArg Host.Outcome.next (trap_kept reason (frameSrc octets) (.inr hcl))),
        countTrap_robots .., _, countTrap_windows ..⟩
    · have hk := passedFrame_kept (a := arrivalOf (windowPort w) octets r) hs hp hju h.cells_ne_nil
        (not_exists.mp htr)
      exact ⟨_, hx, robots_of_unanswered hk, u.windows[w].sessionTraps,
        congrArg (fun v : Vector ServiceWindow 2 => v[w]) (windows_of_unanswered hk)⟩
  refine ⟨t, htx, ?_, ?_, fun b => ⟨fun hm hpk => ?_, fun hn => ?_, fun hm hnp hni => ?_⟩⟩
  · rw [htw]; exact hp.1
  · rw [htw]; exact hp.2
  · have : t.robots[b] = s.robots[b].serviced w := by
      rw [htb, hb, if_pos hm, Robot.claimed, if_pos hpk]
    rw [this, htw]
    refine ⟨rfl, rfl, rfl, rfl, ?_⟩
    dsimp only
    rw [hheld, decide_eq_true ⟨hm, hpk⟩, Bool.or_true]
  · rw [htb, hb]
    split
    · next hm =>
      refine if_neg (hn.resolve_left ?_)
      rw [hm]
      decide
    · rfl
  · rw [htw]
    exact hpend b hm hnp hni

end

/-! ## Injection (R165, R166) -/

theorem passedFrame_injected {a : Arrival} {w : WindowId} {i : StreamId} {s : State}
    (ho : ordinary a.octets) (h : injectionFault w (some i) a.octets s = none) :
    passedFrame a w (some i) s = injectFrame a w i s := by
  have hne : frameEtherType a.octets ≠ 0x88B5 := ((ordinary_iff a.octets).mp ho).1
  unfold passedFrame
  rw [if_neg hne, h]

/-- A frame that passes the injection check goes to Q0 of the UP line ports of its stream's egress
set. -/
theorem injected_admission {s : State} {w : WindowId} {octets : Octets} {r : Reception} {i : StreamId}
    (h : GoodArrival s (windowPort w) octets r) (hj : s.judges octets) (ho : ordinary octets)
    (hp : s.passesOn w octets) (hi : s.matched (windowPort w) octets i)
    (hl : s.windows[w].level ≠ .observe) (hc : s.windows[w].covers s.streams[i].cfg)
    (hr : s.robotAllows w s.streams[i].cfg) (hm : octets.length ≤ s.streams[i].cfg.maxLength) :
    Admission (.frameReceptionEnd (windowPort w) octets) s (windowPort w) octets r (some i) 0
      ((s.egressPorts s.streams[i].cfg.egress (windowPort w)).filter fun x => decide (x.val < 10))
      (.stream i .cellDrops)
      (receivedCounts (windowPort w) octets ++ streamCounts i octets ++ [.service w .injected]) := by
  have hu := countGood_uncounted (arrivalOf (windowPort w) octets r) (s.received (windowPort w))
  have he := countGood_effects h s.clock.hall.base
  have hw := windows_of_uncounted (s := s.received _) hu
  have hx := exec_passed rfl h hj rfl (judgeArrival_passes hp hw)
  rw [classify_matched rfl hi] at hx
  generalize countGood _ (s.received _) = t at hu he hw hx
  have hs : t.streams = s.streams := streams_of_uncounted (s := s.received _) hu
  have hb : t.robots = s.robots := robots_of_uncounted (s := s.received _) hu
  have hports : t.ports = s.ports := (congrArg State.ports hu :)
  have hfault : injectionFault w (some i) octets t = none := by
    have hsub : t.windows[w].holdsSubject t.streams[i].cfg = true := by
      rw [hw, hs]; exact (holdsSubject_iff ..).mpr hc
    have hrob : t.robotReady w t.streams[i].cfg = true := by
      refine (robotReady_iff ..).mpr ?_
      unfold State.robotAllows
      rw [hs, hw, hb]
      exact hr
    rw [injectionFault_matched, if_neg (by rw [hw]; exact hl), hsub, hrob,
      if_neg (by decide), if_neg (by decide), if_neg (by rw [hs]; exact Nat.not_lt.mpr hm)]
  have hegress : t.egressPorts t.streams[i].cfg.egress (windowPort w) =
      s.egressPorts s.streams[i].cfg.egress (windowPort w) := by
    unfold State.egressPorts
    rw [hports, hs]
  rw [passedFrame_injected ho hfault, injectFrame_eq_passOn] at hx
  dsimp only [arrivalOf] at hx
  rw [hegress] at hx
  refine admission_of_passOn h ((egressPorts_nodup ..).filter _) rfl ?_ ?_ hx
  · exact (bump_uncounted ..).trans ((countStream_uncounted ..).trans hu)
  · exact (countStream_effects he i h.long).bump (.service w .injected)

/-! ## The statement -/

/-- A frame that traps is returned and handed to the trap. -/
theorem exec_trapped {s : State} {w : WindowId} {octets : Octets} {r : Reception}
    (h : GoodArrival s (windowPort w) octets r) (hj : s.judges octets) {reason : TrapReason}
    (htr : s.trapsFor w octets reason) : ∃ v : State,
      exec (.frameReceptionEnd (windowPort w) octets) s = .next (trap w reason (frameSrc octets) v) ∧
      v.uncounted = (s.dropped (windowPort w) r).uncounted ∧
      Effects s v s.clock.hall.base (receivedCounts (windowPort w) octets) [] := by
  have hu := countGood_uncounted (arrivalOf (windowPort w) octets r) (s.received (windowPort w))
  have he := countGood_effects h s.clock.hall.base
  have hw := windows_of_uncounted (s := s.received _) hu
  have hxs := exec_serviceFrame h hj rfl
  have hxp := fun hp => exec_passed (s := s) rfl h hj rfl (judgeArrival_passes hp hw)
  generalize countGood _ (s.received _) = t at hu he hw hxs hxp
  refine ⟨t.give r.cells, ?_, give_uncounted hu _, he.congr rfl rfl⟩
  obtain hr | hp := passesOn_of_trapsFor htr
  · rw [hxs, judgeArrival_trap hr htr hw, judgeArrival_trap hr htr (t := t.give r.cells) hw]
    rfl
  · have hs : t.streams = s.streams := streams_of_uncounted (s := s.received _) hu
    have hb : t.robots = s.robots := robots_of_uncounted (s := s.received _) hu
    have hst : t.straps = s.straps := (congrArg State.straps hu :)
    have hpt : t.passesOn w octets := by unfold State.passesOn; rw [hw]; exact hp
    have ht : t.trapsFor w octets reason := by
      refine (trapsFor_congr hst hs ?_ ?_ ?_ ?_ ?_ (fun c => ?_) octets reason).mpr htr
      iterate 5 rw [hw]; rfl
      unfold State.robotAllows
      rw [hw, hb]
      rfl
    exact (hxp hp).trans (congrArg Host.Outcome.next (passedFrame_trap
      (a := arrivalOf (windowPort w) octets r) hs hpt (judges_of_streams hs hj) ht))

/-- Settles O33: the request, the service frame, the mark and the misplaced frame, and the range frames,
each by its own branch of the receive checks. -/
theorem managementFrameJoinsQueue : Obligations.ManagementFrameJoinsQueue := by
  unfold Obligations.ManagementFrameJoinsQueue
  refine ⟨?_, ?_, ?_, ?_⟩
  · intro p octets s r q busy h hp het hd hq hb
    exact request_outcome h hp het hd hq hb
  · rintro w p octets s r rfl h hj
    refine ⟨fun reason traps htr htraps => ?_, fun hg hsrc => ?_, ?_⟩
    · obtain ⟨v, hx, hu, he⟩ := exec_trapped h hj htr
      exact ⟨trap_completes hu he hx htraps, trap_closes hu he hx htraps⟩
    · have ha : s.activates w (frameSrc octets) := ⟨hg, hsrc⟩
      exact ⟨exec_activating h hj ha, fun hl hc reason => maintaining_closes h hj ha hl hc,
        maintaining_stays h hj ha⟩
    · intro i ho hp hi hl hc hr hm
      exact injected_admission h hj ho hp hi hl hc hr hm
  · intro p octets s r h
    exact ⟨mark_completes h, fun k => misplaced_completes h⟩
  · intro p octets s r seq t2 t3 h hseq h2 h3
    subst hseq
    exact ⟨reply_completes h rfl h2 h3, probe_answered h⟩

end Sys2Proof.Machine
end


section
/-! How a WRITE TABLE is read, split into its records, run and answered (R184, R187, R195, R197). -/

namespace Sys2Proof.Machine

/-! ## Numbers in octets (R195) -/

theorem foldl_beBytes (n v a : Nat) :
    (beBytes n v).foldl (fun a b => a * 256 + b.toNat) a = a * 256 ^ n + v % 256 ^ n := by
  induction n generalizing a with
  | zero => simp [beBytes, Nat.mod_one]
  | succ n ih =>
    simp only [beBytes, List.foldl_cons, ih, BitVec.toNat_ofNat]
    rw [Nat.mod_pow_succ (x := v) (b := 256) (k := n)]
    ring

theorem beNat_beBytes {n v : Nat} (h : v < 256 ^ n) : beNat (beBytes n v) = v := by
  unfold beNat
  rw [foldl_beBytes, Nat.zero_mul, Nat.zero_add, Nat.mod_eq_of_lt h]

/-- A number at the front of octets is the field there. -/
theorem field_head {n v : Nat} (h : v < 256 ^ n) (l : Octets) : field (beBytes n v ++ l) 0 n = v := by
  have e : slice (beBytes n v ++ l) 0 n = beBytes n v := by
    unfold slice
    rw [List.drop_zero]
    exact List.take_left' (beBytes_length n v)
  rw [field, e, beNat_beBytes h]

/-- A field behind octets that stand in front. -/
theorem field_skip (a l : Octets) (off n : Nat) : field (a ++ l) (a.length + off) n = field l off n := by
  unfold field slice
  rw [List.drop_append]
  have e : a.drop (a.length + off) = [] := List.drop_eq_nil_of_le (by omega)
  rw [e, List.nil_append, Nat.add_sub_cancel_left]

/-! ## A WRITE TABLE request -/

/-- The request at the head is a WRITE TABLE of `k` records of the table from the index `n`, with the
octets `l` for them. -/
structure WriteOf (s : State) (q : Request) (t : TableId) (k n : Nat) (l : Octets) : Prop where
  request : LineRequest s q 2
  count : k < 256
  index : n < 65536
  code : ∃ code, tableOf code = some t ∧ code < 9 ∧
    q.body = beBytes 1 code ++ beBytes 1 k ++ beBytes 2 n ++ l

section
variable {s : State} {q : Request} {t : TableId} {k n : Nat} {l : Octets} (h : WriteOf s q t k n l)
include h

theorem WriteOf.table : tableOf (field q.body 0 1) = some t := by
  obtain ⟨code, ht, hc, hb⟩ := h.code
  rw [hb, List.append_assoc, List.append_assoc, field_head (by omega), ht]

theorem WriteOf.fieldCount : field q.body 1 1 = k := by
  obtain ⟨code, -, -, hb⟩ := h.code
  have hk := h.count
  rw [hb, List.append_assoc, List.append_assoc]
  exact (field_skip (beBytes 1 code) _ 0 1).trans (field_head (by omega) _)

theorem WriteOf.fieldIndex : field q.body 2 2 = n := by
  obtain ⟨code, -, -, hb⟩ := h.code
  have hn := h.index
  rw [hb, List.append_assoc]
  exact (field_skip (beBytes 1 code ++ beBytes 1 k) _ 0 2).trans (field_head (by omega) _)

theorem WriteOf.records : q.body.drop 4 = l := by
  obtain ⟨code, -, -, hb⟩ := h.code
  rw [hb]
  exact List.drop_left' (by simp only [List.length_append, beBytes_length])

theorem WriteOf.long : 4 ≤ q.body.length := by
  obtain ⟨code, -, -, hb⟩ := h.code
  rw [hb]
  simp only [List.length_append, beBytes_length]
  omega

theorem WriteOf.row : q.row = .write t := by
  obtain ⟨code, ht, hc, hb⟩ := h.code
  have hv := h.request.version
  have hk := h.request.isKind
  have hcons : q.body = BitVec.ofNat 8 code :: (beBytes 1 k ++ beBytes 2 n ++ l) := by
    rw [hb]
    simp [beBytes]
  have hcode : (BitVec.ofNat 8 code).toNat = code := by
    rw [BitVec.toNat_ofNat]
    omega
  unfold Request.row
  simp only [hv, hk, ne_eq, not_true_eq_false, if_false, requestKindOf, hcons, hcode, ht,
    Option.getD_some]

theorem actWriteTable_bad (hb : k = 0 ∨ 32 < k ∨ splitRecords t k l = none) :
    actWriteTable q s = badWrite s := by
  unfold actWriteTable
  rw [h.table, h.fieldCount, h.fieldIndex, h.records]
  dsimp only
  by_cases hk : k = 0 ∨ 32 < k
  · rw [if_pos hk]
  · rw [if_neg hk, (or_assoc.mpr hb).resolve_left hk]

theorem actWriteTable_good (h1 : 1 ≤ k) (h2 : k ≤ 32) {records : List Octets}
    (hr : splitRecords t k l = some records) : actWriteTable q s =
      ((writeRecords t records n 0 s).state, (writeRecords t records n 0 s).reply) := by
  unfold actWriteTable
  rw [h.table, h.fieldCount, h.fieldIndex, h.records]
  dsimp only
  rw [if_neg (by omega), hr]

/-- A write is answered, and leaves the queue (R184). -/
theorem exec_write {u : State} {r : Reply} (ha : actWriteTable q s = (u, r))
    (hr : r.body.length = 4) :
    exec q.command s = .next (leaveQueue (sendAnswer q r u).1) := by
  have hx : exec q.command s = .next (runHead q.row actWriteTable s) := by
    unfold Request.command
    rw [h.row]
    cases t <;> rfl
  have hlen : (answerFrame s.station q (actWriteTable q s).2).length ≤ Config.maxFrame := by
    rw [ha]
    simp only [answerFrame, formFrame, List.length_append, List.length_replicate, beBytes_length,
      fcsOf, checkBytes, macBytes, List.length_cons, List.length_nil, hr, Config.maxFrame]
    split <;> simp only [List.length_append, beBytes_length, List.length_nil] <;> omega
  rw [hx, runHead_line h.request .writeTable rfl actWriteTable h.long hlen, ha]

end

/-! ## The replies (R187, R197) -/

theorem reply_of_whole (s : State) (n : Nat) :
    WriteEnd.reply { state := s, count := n, refused := none } = wholeWrite n := by
  have e : writeBody n .ok none = beBytes 1 n ++ [0, 0xFF, 0xFF] := by
    unfold writeBody
    rw [List.append_assoc]
    rfl
  unfold WriteEnd.reply wholeWrite
  rw [e]

theorem reply_of_refused (s : State) (n : Nat) (x : Status) (i : Nat) :
    WriteEnd.reply { state := s, count := n, refused := some (x, i) } = refusedWrite n x i := rfl

theorem wholeWrite_length (n : Nat) : (wholeWrite n).body.length = 4 := rfl

theorem refusedWrite_length (n : Nat) (x : Status) (i : Nat) :
    (refusedWrite n x i).body.length = 4 := rfl

/-! ## One record -/

theorem splitRecords_one {t : TableId} {l : Octets} (h1 : t.octets ≤ l.length)
    (h2 : recordLength t l = l.length) : splitRecords t 1 l = some [l] := by
  unfold splitRecords
  rw [h2, if_pos ⟨h1, le_refl _⟩, List.take_length]
  rfl

theorem recordLength_fixed {t : TableId} (ht : t ≠ .holdFrame) (l : Octets) :
    recordLength t l = t.octets := by
  cases t with
  | holdFrame => exact absurd rfl ht
  | _ => rfl

section
variable {s u : State} {q : Request} {t : TableId} {n : Nat} {l : Octets} (h : WriteOf s q t 1 n l)
  (h1 : t.octets ≤ l.length) (h2 : recordLength t l = l.length)
include h h1 h2

/-- A record that its table refuses is answered with the code and its index, and nothing is stored. -/
theorem write_refused {x : Status} (hw : writeRecord t n l s = .error x) :
    RunsAnswered q.command s s q (refusedWrite 0 x n) := by
  have ha := actWriteTable_good h (le_refl 1) (by decide) (splitRecords_one h1 h2)
  have he : writeRecords t [l] n 0 s = { state := s, count := 0, refused := some (x, n) } := by
    unfold writeRecords
    rw [hw]
  rw [he, reply_of_refused] at ha
  exact .of_answer (exec_write h ha (refusedWrite_length ..)) rfl

/-- A record that passes its table's checks is stored and answered. -/
theorem write_stored {v : State} (hw : writeRecord t n l s = .ok u) (hm : u.mgmt = s.mgmt)
    (hu : u.unanswered = v.unanswered)
    (hroom : ∀ r, AnswerRoom s q r → AnswerRoom u q r) :
    RunsAnswered q.command s v q (wholeWrite 1) := by
  have ha := actWriteTable_good h (le_refl 1) (by decide) (splitRecords_one h1 h2)
  have he : writeRecords t [l] n 0 s = { state := u, count := 1, refused := none } := by
    unfold writeRecords
    rw [hw]
    rfl
  rw [he, reply_of_whole] at ha
  refine ⟨_, exec_write h ha (wholeWrite_length 1), ?_, ?_, fun hr =>
    sendAnswer_answered q _ u (hroom _ hr)⟩
  · exact (leaveQueue_unanswered ..).trans ((sendAnswer_unanswered ..).trans hu)
  · rw [leaveQueue_mgmt, sendAnswer_mgmt, hm]

end

end Sys2Proof.Machine
end


section
/-! The PORT and STREAM tables: the checks of a written record, and what storing it changes (R3, R13,
R80, R84). -/

namespace Sys2Proof.Machine

/-! ## The checks in their order (R3, R13) -/

/-- A record's three checks after its values are read, in the order in which they are made. -/
def checkedWrite (bad dup busy : Bool) (u : State) : Written :=
  if bad then .error .badValue else if dup then .error .duplicateKey
  else if busy then .error .wrongState else .ok u

theorem checkedWrite_eq (good dup busy : Bool) (u : State) :
    (do need good .badValue
        need (!dup) .duplicateKey
        need (!busy) .wrongState
        pure u : Written) = checkedWrite (!good) dup busy u := by
  cases good with
  | false => rfl
  | true =>
    cases dup with
    | true => rfl
    | false => cases busy <;> rfl

section
variable {s u v : State} {q : Request} {t : TableId} {n : Nat} {l : Octets}
  {bad dup busy : Prop} {b₁ b₂ b₃ : Bool}

/-- The first check that fails gives the answer; a record that passes them is stored. -/
theorem checkedWrite_answered (h : WriteOf s q t 1 n l) (h1 : t.octets ≤ l.length)
    (h2 : recordLength t l = l.length) (hbad : bad ↔ b₁ = true) (hdup : dup ↔ b₂ = true)
    (hbusy : busy ↔ b₃ = true) (hw : writeRecord t n l s = checkedWrite b₁ b₂ b₃ u)
    (hm : u.mgmt = s.mgmt) (hu : u.unanswered = v.unanswered)
    (hroom : ∀ r, AnswerRoom s q r → AnswerRoom u q r) :
    (bad → RunsAnswered q.command s s q (refusedWrite 0 .badValue n)) ∧
    (¬bad → dup → RunsAnswered q.command s s q (refusedWrite 0 .duplicateKey n)) ∧
    (¬bad → ¬dup → busy → RunsAnswered q.command s s q (refusedWrite 0 .wrongState n)) ∧
    (¬bad → ¬dup → ¬busy → RunsAnswered q.command s v q (wholeWrite 1)) := by
  unfold checkedWrite at hw
  rw [hbad, hdup, hbusy]
  refine ⟨fun a => write_refused h h1 h2 ?_, fun a b => write_refused h h1 h2 ?_,
    fun a b c => write_refused h h1 h2 ?_, fun a b c => write_stored h h1 h2 ?_ hm hu hroom⟩
  · rw [hw, if_pos a]
  · rw [hw, if_neg a, if_pos b]
  · rw [hw, if_neg a, if_neg b, if_pos c]
  · rw [hw, if_neg a, if_neg b, if_neg c]

end

theorem indexIn_past {n i : Nat} (h : n ≤ i) : indexIn n i = .error .badIndex :=
  dif_neg (Nat.not_lt.mpr h)

theorem indexIn_val {n : Nat} (i : Fin n) : indexIn n i.val = .ok i := dif_pos i.isLt

theorem bind_of_error {α β : Type} {x : Except Status α} {f : α → Except Status β} {e : Status}
    (h : x = .error e) : (x >>= f) = .error e := by
  rw [h]
  rfl

/-- An index past its table's end is refused, whatever the record holds. -/
theorem writeRecord_past {t : TableId} {n : Nat} (h : t.size ≤ n) (l : Octets) (s : State) :
    writeRecord t n l s = .error .badIndex := by
  cases t <;> exact bind_of_error (indexIn_past h)

/-! ## Room for an answer -/

/-- An answer's room stays while links, straps, queues and limits stay and no free cell is taken. -/
theorem answerRoom_mono {s t : State} {q : Request} {r : Reply}
    (hl : t.ports[q.port].link = s.ports[q.port].link) (hst : t.straps = s.straps)
    (hf : ∀ n, t.fitsLimit 2 n q.port = s.fitsLimit 2 n q.port)
    (hn : s.mem.free.length ≤ t.mem.free.length) (h : AnswerRoom s q r) : AnswerRoom t q r := by
  have hstation : t.station = s.station := by unfold State.station; rw [hst]
  obtain ⟨h1, h2, h3⟩ := h
  unfold AnswerRoom
  rw [hl, hstation, hf]
  exact ⟨h1, h2, h3.trans hn⟩

/-! ## A PORT record is stored (R3, R80, R84) -/

/-- A port's receive side as receive preemption is disabled (R84). -/
def Rx.disabled (x : Rx) : Rx :=
  { cur := x.cur.map fun r => { r with marked := false }, asm := none }

theorem failOpen_frame (p : PortId) (s : State) :
    (failOpen p s).uncounted = ({ s with rx := upd s.rx p fun x => { x with asm := none }
                                         mem := (failOpen p s).mem } : State).uncounted ∧
      s.mem.free.length ≤ (failOpen p s).mem.free.length ∧
      (failOpen p s).mem.frames = s.mem.frames := by
  unfold failOpen
  cases h : s.rx[p].asm with
  | none =>
    refine ⟨?_, le_refl _, rfl⟩
    rw [upd_fixed]
    generalize s.rx[p] = x at h
    cases x
    subst h
    rfl
  | some a =>
    dsimp only
    rw [bump_uncounted, bump_mem]
    unfold discardOpen
    rw [h]
    refine ⟨rfl, ?_, rfl⟩
    simp [State.give, State.modMem, CellMem.give, State.modRx]

theorem disableReceive_frame (p : PortId) (s : State) :
    (disableReceive p s).uncounted = ({ s with rx := upd s.rx p Rx.disabled
                                               mem := (disableReceive p s).mem } : State).uncounted ∧
      s.mem.free.length ≤ (disableReceive p s).mem.free.length ∧
      (disableReceive p s).mem.frames = s.mem.frames := by
  obtain ⟨hu, hf, hm⟩ := failOpen_frame p s
  have hd : (disableReceive p s).mem = (failOpen p s).mem := rfl
  refine ⟨?_, hd ▸ hf, hd ▸ hm⟩
  rw [hd]
  have e := congrArg (fun x : State => x.modRx p fun y =>
    { y with cur := y.cur.map fun r => { r with marked := false } }) hu
  refine e.trans (congrArg (fun v => State.uncounted { s with rx := v, mem := (failOpen p s).mem }) ?_)
  exact upd_upd s.rx p (fun x => { x with asm := none })
    fun y => { y with cur := y.cur.map fun r => { r with marked := false } }

/-- The state with a port record replaced, and the port's receive side as the record leaves it (R3,
R84). -/
def State.withPort (s : State) (p : PortId) (c : PortCfg) : State :=
  { s with
    ports := upd s.ports p fun x => { x with cfg := c }
    rx := upd s.rx p fun x => if c.rxPreempt then x else x.disabled }

/-- A port record stored, before what it says of transmit preemption. -/
def storeReceive (p : PortId) (c : PortCfg) (s : State) : State :=
  if c.rxPreempt then s.modPort p fun x => { x with cfg := c }
  else disableReceive p (s.modPort p fun x => { x with cfg := c })

theorem storePort_eq (p : PortId) (c : PortCfg) (s : State) : storePort p c s =
    if c.txPreempt then storeReceive p c s
    else (storeReceive p c s).modEgress p fun e =>
      { e with tx := e.tx.map fun t => t.uncut p (storeReceive p c s).clock.ticks } := rfl

theorem storeReceive_frame (p : PortId) (c : PortCfg) (s : State) :
    (storeReceive p c s).uncounted =
        ({ s.withPort p c with mem := (storeReceive p c s).mem } : State).uncounted ∧
      s.mem.free.length ≤ (storeReceive p c s).mem.free.length ∧
      (storeReceive p c s).mem.frames = s.mem.frames := by
  unfold storeReceive State.withPort
  cases h : c.rxPreempt with
  | true =>
    simp only [if_true]
    refine ⟨?_, le_refl _, rfl⟩
    rw [upd_fixed s.rx p (fun x => x) rfl]
    rfl
  | false =>
    simp only [Bool.false_eq_true, if_false]
    exact disableReceive_frame p (s.modPort p fun x => { x with cfg := c })

/-- Storing a port record changes the record, and the receive side where receive preemption is disabled;
beside them only cell memory, the egress side and the counters (R80, R84). -/
theorem storePort_unanswered (p : PortId) (c : PortCfg) (s : State) :
    (storePort p c s).unanswered = (s.withPort p c).unanswered := by
  have hin : (storeReceive p c s).unanswered = (s.withPort p c).unanswered :=
    (unanswered_of_uncounted (storeReceive_frame p c s).1).trans rfl
  rw [storePort_eq]
  split
  · exact hin
  · exact (modEgress_unanswered ..).trans hin

/-- What a queue occupies does not change as a piece is not cut any more. -/
theorem occupancy_uncut (p : PortId) (now : Nat) (s : State) (x : PortId) (q : QueueId) :
    (s.modEgress p fun e => { e with tx := e.tx.map fun t => t.uncut p now }).occupancy x q =
      s.occupancy x q := by
  have he : (s.modEgress p fun e => { e with tx := e.tx.map fun t => t.uncut p now }).egress[x] =
      if x = p then { s.egress[p] with tx := s.egress[p].tx.map fun t => t.uncut p now }
      else s.egress[x] := upd_get ..
  unfold State.occupancy
  dsimp only
  rw [he]
  split
  · next h =>
    subst h
    cases s.egress[x].tx <;> rfl
  · rfl

/-- Storing it leaves the requests, the links, the straps, the limits and what every queue occupies, and
takes no free cell. -/
theorem storePort_kept (p : PortId) (c : PortCfg) (s : State) :
    (storePort p c s).mgmt = s.mgmt ∧ (storePort p c s).straps = s.straps ∧
      (∀ x : PortId, (storePort p c s).ports[x].link = s.ports[x].link) ∧
      (∀ n x, (storePort p c s).fitsLimit 2 n x = s.fitsLimit 2 n x) ∧
      s.mem.free.length ≤ (storePort p c s).mem.free.length := by
  obtain ⟨hu, hfree, hframes⟩ := storeReceive_frame p c s
  have hports : (storeReceive p c s).ports = upd s.ports p fun x => { x with cfg := c } :=
    (congrArg State.ports hu :)
  have hlink (x : PortId) : (storeReceive p c s).ports[x].link = s.ports[x].link := by
    have hx : (upd s.ports p fun x => { x with cfg := c })[x] =
        if x = p then { s.ports[p] with cfg := c } else s.ports[x] := upd_get ..
    rw [hports, hx]
    split
    · next h => rw [h]
    · rfl
  have hm : (storeReceive p c s).mgmt = s.mgmt := (congrArg State.mgmt hu :)
  have hst : (storeReceive p c s).straps = s.straps := (congrArg State.straps hu :)
  have hd : (storeReceive p c s).device = s.device := (congrArg State.device hu :)
  have he : (storeReceive p c s).egress = s.egress := (congrArg State.egress hu :)
  have hocc (x : PortId) (q : QueueId) : (storeReceive p c s).occupancy x q = s.occupancy x q := by
    unfold State.occupancy CellMem.size
    rw [he, hframes]
  have hfit (n : Nat) (x : PortId) : (storeReceive p c s).fitsLimit 2 n x = s.fitsLimit 2 n x := by
    unfold State.fitsLimit
    rw [hocc, hd]
  rw [storePort_eq]
  split
  · exact ⟨hm, hst, hlink, hfit, hfree⟩
  · refine ⟨hm, hst, hlink, fun n x => ?_, hfree⟩
    refine Eq.trans ?_ (hfit n x)
    unfold State.fitsLimit
    rw [occupancy_uncut]
    rfl

/-! ## The PORT table (R3) -/

theorem writePort_undecoded (p : PortId) {l : Octets} (h : decodePort l = none) (s : State) :
    writePort p.val l s = .error .badValue := by
  unfold writePort
  rw [indexIn_val, h]
  rfl

theorem writePort_decoded (p : PortId) {l : Octets} {c : PortCfg} (h : decodePort l = some c)
    (s : State) : writePort p.val l s = checkedWrite (!portValuesOk p c)
      (decide (c.timing = .timeUp) && s.timeUpElsewhere p)
      (decide (s.ports[p].cfg.role = .robot) && decide (c.role ≠ .robot) && s.portInUse p)
      (storePort p c s) := by
  unfold writePort
  rw [indexIn_val, h]
  exact checkedWrite_eq ..

theorem portValues_iff (p : PortId) (c : PortCfg) : (!portValuesOk p c) = true ↔
    p.val < 10 ∧ (c.role = .service ∨ c.timing = .timeUp ∧ (c.role = .robot ∨ c.role = .camera)) ∨
      10 ≤ p.val ∧ (c.role ≠ .service ∨ c.timing ≠ .none ∨ c.mgmtAllowed = true) := by
  unfold portValuesOk
  by_cases h : p.val < 10
  · have h' : ¬10 ≤ p.val := by omega
    rw [if_pos h]
    cases c.role <;> cases c.timing <;> simp [h, h']
  · have h' : 10 ≤ p.val := by omega
    rw [if_neg h]
    cases c.role <;> cases c.timing <;> simp [h, h']

theorem timeUpElsewhere_iff (p : PortId) (c : PortCfg) (s : State) :
    (decide (c.timing = .timeUp) && s.timeUpElsewhere p) = true ↔
      c.timing = .timeUp ∧ ∃ x : PortId, x ≠ p ∧ s.ports[x].cfg.timing = .timeUp := by
  simp only [State.timeUpElsewhere, Bool.and_eq_true, decide_eq_true_eq, List.any_eq_true,
    List.mem_finRange, true_and]

theorem portInUse_iff (p : PortId) (c : PortCfg) (s : State) :
    (decide (s.ports[p].cfg.role = .robot) && decide (c.role ≠ .robot) && s.portInUse p) = true ↔
      s.ports[p].cfg.role = .robot ∧ c.role ≠ .robot ∧
        ∃ r : RobotId, s.robots[r].port = some p ∧ s.robots[r].state ≠ .idle := by
  simp only [State.portInUse, Bool.and_eq_true, decide_eq_true_eq, List.any_eq_true,
    List.mem_finRange, true_and, and_assoc]

/-! ## The STREAM table (R13) -/

theorem writeStream_undecoded (i : StreamId) {l : Octets} (h : decodeStream l = none) (s : State) :
    writeStream i.val l s = .error .badValue := by
  unfold writeStream
  rw [indexIn_val, h]
  rfl

theorem writeStream_decoded (i : StreamId) {l : Octets} {c : StreamCfg} (h : decodeStream l = some c)
    (s : State) : writeStream i.val l s = checkedWrite (!streamValuesOk c)
      (c.valid && s.keyElsewhere i c) (s.streamInUse i)
      (s.modStream i fun _ => { cfg := c, damaged := false, ecc := .clean }) := by
  unfold writeStream
  rw [indexIn_val, h]
  exact checkedWrite_eq ..

theorem streamValues_iff (c : StreamCfg) : (!streamValuesOk c) = true ↔
    (c.role = .status ∨ c.role = .command) ∧ (∀ r : RobotId, c.subject ≠ .robot r) ∨
      c.role = .verdict ∧ c.cls ≠ .prompt := by
  unfold streamValuesOk
  cases c.role <;> cases c.subject <;> simp

theorem keyElsewhere_iff (i : StreamId) (c : StreamCfg) (s : State) :
    (c.valid && s.keyElsewhere i c) = true ↔ c.valid = true ∧
      ∃ (j : StreamId) (y : Stream), j ≠ i ∧ y = s.streams[j] ∧ y.cfg.valid = true ∧
        y.damaged = false ∧ y.cfg.key = c.key ∧ y.cfg.vlan = c.vlan := by
  simp only [State.keyElsewhere, Stream.carries, Bool.and_eq_true, decide_eq_true_eq, List.any_eq_true,
    List.mem_finRange, true_and, Bool.not_eq_true', and_assoc]
  refine and_congr_right fun _ => exists_congr fun j => ?_
  simp only [exists_and_left, exists_eq_left]

theorem streamInUse_iff (i : StreamId) (s : State) : s.streamInUse i = true ↔
    ∃ r : RobotId, s.robots[r].state ≠ .idle ∧
      (s.robots[r].cfg.statusStream = i ∨ s.robots[r].cfg.commandStream = i) := by
  simp only [State.streamInUse, Bool.and_eq_true, Bool.or_eq_true, decide_eq_true_eq, List.any_eq_true,
    List.mem_finRange, true_and]

end Sys2Proof.Machine
end


section
/-! The ROBOT, HOLD FRAME and CAMERA tables: the checks of a written record, and what storing it changes
(R87, R105, R130). -/

namespace Sys2Proof.Machine

/-! ## The values of decoders -/

theorem bind_eq_none_or {α β : Type} (x : Option α) (f : α → Option β) :
    x.bind f = none ↔ x = none ∨ ∃ a, x = some a ∧ f a = none := by
  cases x <;> simp

theorem bind_eq_none_of_iff {α β : Type} {P : Prop} {x : Option α} {f : α → Option β}
    (hf : ∀ a, f a = none ↔ P) : x.bind f = none ↔ x = none ∨ P := by
  cases x with
  | none => simp
  | some a => simp [hf]

theorem within_eq_none (lo hi v : Nat) : within lo hi v = none ↔ v < lo ∨ hi < v := by
  unfold within
  split <;> simp <;> omega

theorem within_eq_some (lo hi v a : Nat) : within lo hi v = some a ↔ a = v ∧ lo ≤ v ∧ v ≤ hi := by
  unfold within
  split <;> simp <;> omega

theorem policyOf_eq_none (v : Nat) : policyOf v = none ↔ 1 < v := by
  match v with
  | 0 | 1 => simp [policyOf]
  | n + 2 => simp [policyOf]

theorem yesNoOf_eq_none (v : Nat) : yesNoOf v = none ↔ 1 < v := by
  match v with
  | 0 | 1 => simp [yesNoOf]
  | n + 2 => simp [yesNoOf]

/-! ## The values of a STREAM record (R13) -/

/-- What the values of a STREAM record are within. -/
theorem decodeStream_values {l : Octets} {c : StreamCfg} (h : decodeStream l = some c) :
    field l 6 2 ≤ 4095 ∧ (64 ≤ field l 16 2 ∧ field l 16 2 ≤ 9216) ∧
      ∃ x, subjectOf (field l 14 1) (field l 15 1) = some x := by
  simp only [decodeStream, Option.bind_eq_bind, Option.bind_eq_some_iff, within_eq_some] at h
  obtain ⟨vlan, ⟨-, -, hv⟩, ingress, -, egress, -, cls, -, role, -, subject, hs, max, ⟨-, hm⟩, -⟩ := h
  exact ⟨hv, hm, subject, hs⟩

theorem decodeStream_eq_none {l : Octets}
    (h : 4095 < field l 6 2 ∨ field l 16 2 < 64 ∨ 9216 < field l 16 2 ∨
      field l 14 1 = 1 ∧ 23 < field l 15 1 ∨ field l 14 1 = 2 ∧ 3 < field l 15 1) :
    decodeStream l = none := by
  cases hd : decodeStream l with
  | none => rfl
  | some c =>
    obtain ⟨hv, hm, x, hx⟩ := decodeStream_values hd
    exfalso
    rcases h with h | h | h | ⟨hk, hi⟩ | ⟨hk, hi⟩
    · omega
    · omega
    · omega
    · rw [hk] at hx
      simp [subjectOf, indexOf, show ¬field l 15 1 < 24 by omega] at hx
    · rw [hk] at hx
      simp [subjectOf, indexOf, show ¬field l 15 1 < 4 by omega] at hx

/-! ## The ROBOT table (R87) -/

theorem decodeRobot_eq_none (l : Octets) : decodeRobot l = none ↔
    15 < field l 2 1 ∨ field l 3 1 < 1 ∨ 16 < field l 3 1 ∨ field l 3 1 ≤ field l 4 1 ∨
      160000000 < field l 8 4 ∨ field l 12 1 < 1 ∨ 15 < field l 12 1 ∨ 15 < field l 13 1 ∨
      1 < field l 14 1 := by
  simp only [decodeRobot, Option.bind_eq_bind, bind_eq_none_or, within_eq_none, within_eq_some,
    policyOf_eq_none, reduceCtorEq, and_false, exists_false, or_false, exists_eq_left, and_assoc]
  omega

theorem writeRobot_undecoded (r : RobotId) {l : Octets} (h : decodeRobot l = none) (s : State) :
    writeRobot r.val l s = .error .badValue := by
  unfold writeRobot
  rw [indexIn_val, h]
  rfl

theorem writeRobot_busy (r : RobotId) {l : Octets} {c : RobotCfg} (h : decodeRobot l = some c) {s : State}
    (hs : s.robots[r].state ≠ .idle) : writeRobot r.val l s = .error .wrongState := by
  unfold writeRobot
  rw [indexIn_val, h]
  change ((need (decide (s.robots[r].state = .idle)) .wrongState).bind _ : Written) = _
  rw [decide_eq_false hs]
  rfl

theorem writeRobot_idle (r : RobotId) {l : Octets} {c : RobotCfg} (h : decodeRobot l = some c) {s : State}
    (hs : s.robots[r].state = .idle) : writeRobot r.val l s =
      .ok (s.modRobot r fun x => { x with cfg := c, damaged := false, ecc := .clean }) := by
  unfold writeRobot
  rw [indexIn_val, h]
  change ((need (decide (s.robots[r].state = .idle)) .wrongState).bind _ : Written) = _
  rw [decide_eq_true hs]
  rfl

/-! ## The HOLD FRAME table (R105) -/

theorem decodeHold_eq_none {frame : Octets} (a : Octets) (ha : a.length = 2)
    (h : 0 < frame.length ∧ frame.length < 64 ∨ 256 < frame.length) : decodeHold (a ++ frame) = none := by
  unfold decodeHold
  rw [List.drop_left' ha]
  exact if_neg (by omega)

theorem decodeHold_eq_some {frame : Octets} (a : Octets) (ha : a.length = 2)
    (h : frame.length = 0 ∨ 64 ≤ frame.length ∧ frame.length ≤ 256) :
    decodeHold (a ++ frame) = some frame := by
  unfold decodeHold
  rw [List.drop_left' ha]
  exact if_pos h

theorem writeHold_undecoded (r : RobotId) {l : Octets} (h : decodeHold l = none) (s : State) :
    writeHold r.val l s = .error .badValue := by
  unfold writeHold
  rw [indexIn_val, h]
  rfl

theorem writeHold_decoded (r : RobotId) {l frame : Octets} (h : decodeHold l = some frame) (s : State) :
    writeHold r.val l s = .ok { s with holdFrames := s.holdFrames.set r frame } := by
  unfold writeHold
  rw [indexIn_val, h]
  rfl

/-! ## The CAMERA table (R130) -/

theorem slice_slice (l : Octets) (a b n m : Nat) (h : b + m ≤ n) :
    slice (slice l a n) b m = slice l (a + b) m := by
  unfold slice
  rw [List.drop_take, List.take_take, List.drop_drop, Nat.min_eq_left (by omega)]

theorem field_slice (l : Octets) (a b n m : Nat) (h : b + m ≤ n) :
    field (slice l a n) b m = field l (a + b) m := by
  rw [field, slice_slice l a b n m h, field]

theorem isNone_iff (l : Octets) : isNone l = true ↔ l = List.replicate l.length 0xFF := by
  unfold isNone
  rw [List.all_eq_true, List.eq_replicate_iff]
  simp only [beq_iff_eq, true_and]
  rfl

theorem indexOf_eq_none (n v : Nat) : indexOf n v = none ↔ n ≤ v := by
  unfold indexOf
  split <;> simp <;> omega

theorem destOf_eq_none (l : Octets) (hl : l.length = 9) : destOf 11 l = none ↔
    l ≠ List.replicate 9 0xFF ∧ (4095 < field l 6 2 ∨ 11 < field l 8 1) := by
  have hn := isNone_iff l
  rw [hl] at hn
  unfold destOf
  by_cases h : isNone l = true
  · rw [if_pos h]
    simp [hn.mp h]
  · have hport (d : Fin 12 → Dest) (x : Fin 12) :
        (if x.val ≤ 11 then some (some (d x)) else none) = none ↔ False :=
      iff_of_false (by rw [if_pos (by omega)]; exact Option.some_ne_none _) id
    rw [if_neg h]
    refine (bind_eq_none_of_iff fun vlan => bind_eq_none_of_iff fun port =>
      hport (fun port => { mac := BitVec.ofNat 48 (field l 0 6), vlan := vlan, port := port }) port).trans ?_
    have hne : l ≠ List.replicate 9 0xFF := fun e => h (hn.mpr e)
    rw [within_eq_none, indexOf_eq_none]
    simp only [hne, ne_eq, not_false_eq_true, true_and, or_false, Nat.not_lt_zero, false_or]
    rfl

theorem sourceOf_eq_none (l : Octets) (hl : l.length = 2) : sourceOf l = none ↔
    255 < beNat l ∧ beNat l ≠ 65535 := by
  obtain ⟨a, b, rfl⟩ := List.length_eq_two.mp hl
  have ha := a.isLt
  have hb := b.isLt
  have hv : beNat [a, b] = a.toNat * 256 + b.toNat := by simp [beNat]
  have hn : isNone [a, b] = true ↔ beNat [a, b] = 65535 := by
    simp only [isNone, List.all_cons, List.all_nil, Bool.and_true, Bool.and_eq_true, beq_iff_eq, hv,
      ← BitVec.toNat_inj]
    norm_num
    omega
  unfold sourceOf
  by_cases h : isNone [a, b] = true
  · rw [if_pos h]
    simp [hn.mp h]
  · rw [if_neg h, Option.map_eq_none_iff, indexOf_eq_none]
    have := mt hn.mpr h
    omega

theorem decodeCamera_eq_none (l : Octets) (hl : l.length = 18) : decodeCamera l = none ↔
    1 < field l 0 1 ∨ 1 < field l 1 1 ∨ 1048575 < field l 2 3 ∨ field l 5 2 < 1 ∨
      1000 < field l 5 2 ∨
      slice l 7 9 ≠ List.replicate 9 0xFF ∧ (4095 < field l 13 2 ∨ 11 < field l 15 1) ∨
      255 < field l 16 2 ∧ field l 16 2 ≠ 65535 := by
  have h1 : (slice l 7 9).length = 9 := by simp [slice, hl]
  have h2 : (slice l 16 2).length = 2 := by simp [slice, hl]
  have hd := destOf_eq_none _ h1
  rw [field_slice l 7 6 9 2 (by decide), field_slice l 7 8 9 1 (by decide)] at hd
  have hs := sourceOf_eq_none _ h2
  refine (bind_eq_none_of_iff fun _ => bind_eq_none_of_iff fun _ => bind_eq_none_of_iff fun _ =>
    bind_eq_none_of_iff fun _ => bind_eq_none_of_iff fun _ => bind_eq_none_of_iff fun _ =>
    iff_of_false (Option.some_ne_none _) id).trans ?_
  rw [yesNoOf_eq_none, yesNoOf_eq_none, within_eq_none, within_eq_none, hd, hs, or_false]
  simp only [Nat.not_lt_zero, false_or, or_assoc]
  rfl

theorem writeCamera_undecoded (k : CameraId) {l : Octets} (h : decodeCamera l = none) (s : State) :
    writeCamera k.val l s = .error .badValue := by
  unfold writeCamera
  rw [indexIn_val, h]
  rfl

theorem writeCamera_decoded (k : CameraId) {l : Octets} {c : CameraCfg} (h : decodeCamera l = some c)
    (s : State) : writeCamera k.val l s = .ok (s.modCamera k fun x => { x with cfg := c }) := by
  unfold writeCamera
  rw [indexIn_val, h]
  rfl

end Sys2Proof.Machine
end


section
/-! Every write keeps the request queue, several records are written one after another, and the WRITE
TABLE statement (R187). -/

namespace Sys2Proof.Machine

/-! ## Writing a record keeps the request queue (R187) -/

theorem ite_mgmt {P : Prop} [Decidable P] {s t : State} (h : t.mgmt = s.mgmt) :
    (if P then t else s).mgmt = s.mgmt := by
  split
  · exact h
  · rfl

theorem leaveHold_mgmt (h : HoldSource) (s : State) : (leaveHold h s).mgmt = s.mgmt := rfl

theorem joinHold_mgmt (h : HoldSource) (s : State) : (joinHold h s).mgmt = s.mgmt :=
  mgmt_of_beside (joinHold_beside h s)

theorem sensorEnds_mgmt (s : State) : (sensorEnds s).mgmt = s.mgmt := by
  unfold sensorEnds
  split
  · rfl
  · unfold trailingEdge
    dsimp only
    split
    · rw [bump_mgmt, State.modTracker_mgmt]
    · rw [leaveHold_mgmt, State.modTracker_mgmt]
    · rw [State.modTracker_mgmt]

theorem leadingEdge_mgmt (s : State) : (leadingEdge s).mgmt = s.mgmt := by
  unfold leadingEdge
  split
  · split
    · rw [bump_mgmt, State.modTracker_mgmt]
    · rw [State.modTracker_mgmt]
  · rfl

theorem rereadSensor_mgmt (before : Bool) (s : State) : (rereadSensor before s).mgmt = s.mgmt := by
  unfold rereadSensor
  split
  · rfl
  · split
    · exact sensorEnds_mgmt s
    · exact leadingEdge_mgmt s

theorem qualify_mgmt (s : State) : (qualify s).mgmt = s.mgmt := by
  unfold qualify
  dsimp only
  split
  · rw [bump_mgmt, State.modTracker_mgmt]
  · rw [joinHold_mgmt, raise_mgmt, bump_mgmt, State.modTracker_mgmt]

theorem jamFound_mgmt (s : State) : (jamFound s).mgmt = s.mgmt := by
  unfold jamFound
  dsimp only
  rw [ite_mgmt (joinHold_mgmt ..), raise_mgmt, bump_mgmt]
  split <;> rfl

theorem occlusionTests_mgmt (s : State) : (occlusionTests s).mgmt = s.mgmt :=
  (ite_mgmt (jamFound_mgmt _)).trans (ite_mgmt (qualify_mgmt s))

theorem applyJamPolicy_mgmt (s : State) : (applyJamPolicy s).mgmt = s.mgmt := by
  unfold applyJamPolicy
  split
  · rfl
  · exact ite_mgmt (joinHold_mgmt ..)

theorem storeTracking_mgmt (c : TrackerCfg) (s : State) : (storeTracking c s).mgmt = s.mgmt :=
  (applyJamPolicy_mgmt _).trans ((occlusionTests_mgmt _).trans (rereadSensor_mgmt ..))

theorem storeEjector_mgmt (c : EjectorCfg) (s : State) : (storeEjector c s).mgmt = s.mgmt := by
  have hl (u : State) : (leaveWaits u).mgmt = u.mgmt := by
    unfold leaveWaits
    split
    · exact ite_mgmt (bump_mgmt ..)
    · exact ite_mgmt (bump_mgmt ..)
    · rfl
  exact hl _

theorem loseProbe_mgmt (s : State) : (loseProbe s).mgmt = s.mgmt := by
  unfold loseProbe
  dsimp only
  split
  · rfl
  · split
    · rw [raise_mgmt, State.modClock_mgmt, State.modClock_mgmt, bump_mgmt]
    · rw [State.modClock_mgmt, bump_mgmt]

theorem newProbe_mgmt (s : State) : (newProbe s).mgmt = s.mgmt := by
  unfold newProbe
  split
  · rfl
  · exact ite_mgmt (buildFrame_mgmt ..)

theorem takeProbeDue_mgmt (due : Nat) (s : State) : (takeProbeDue due s).mgmt = s.mgmt :=
  (newProbe_mgmt _).trans (loseProbe_mgmt s)

theorem enterHoldover_mgmt (s : State) : (enterHoldover s).mgmt = s.mgmt := raise_mgmt ..

theorem storeClock_mgmt (c : ClockCfg) (s : State) : (storeClock c s).mgmt = s.mgmt :=
  (ite_mgmt (takeProbeDue_mgmt _ _)).trans
    (ite_mgmt (s := s.modClock fun k => { k with cfg := c }) (enterHoldover_mgmt _))

theorem loseController_mgmt (s : State) : (loseController s).mgmt = s.mgmt := by
  unfold loseController
  dsimp only
  rw [ite_mgmt (joinHold_mgmt ..), raise_mgmt, bump_mgmt]
  rfl

theorem sendNotices_mgmt (d : Dest) (s : State) : (sendNotices d s).mgmt = s.mgmt := by
  unfold sendNotices
  dsimp only
  have h := buildFrame_mgmt .notice .notice [d.port]
    (formFrame d.mac s.station d.vlan etherNotice
      (noticePayload s.notices (s.notices.records.take Config.noticesPerFrame)))
    { s with notices := { s.notices with lastAttempt := some s.clock.run } }
  generalize buildFrame _ _ _ _ _ = x at h ⊢
  obtain ⟨u, _ | c⟩ := x
  · exact h
  · exact (bump_mgmt ..).trans h

theorem attemptIfDue_mgmt (s : State) : (attemptIfDue s).mgmt = s.mgmt := by
  unfold attemptIfDue
  split
  · exact sendNotices_mgmt ..
  · rfl

theorem storeDevice_mgmt (c : DeviceCfg) (s : State) : (storeDevice c s).mgmt = s.mgmt :=
  (attemptIfDue_mgmt _).trans (ite_mgmt (s := { s with device := c }) (loseController_mgmt _))

/-! ## A record that was stored -/

theorem bind_eq_ok {α β : Type} {x : Except Status α} {f : α → Except Status β} {b : β}
    (h : (x >>= f) = .ok b) : ∃ a, x = .ok a ∧ f a = .ok b := by
  cases x with
  | error e => cases h
  | ok a => exact ⟨a, rfl, h⟩

/-- A record that its table takes is stored without a change to the request queue. -/
theorem writeRecord_mgmt {t : TableId} {i : Nat} {l : Octets} {s u : State}
    (h : writeRecord t i l s = .ok u) : u.mgmt = s.mgmt := by
  cases t with
  | port =>
    obtain ⟨p, -, h⟩ := bind_eq_ok h
    obtain ⟨c, -, h⟩ := bind_eq_ok h
    obtain ⟨-, -, h⟩ := bind_eq_ok h
    obtain ⟨-, -, h⟩ := bind_eq_ok h
    obtain ⟨-, -, h⟩ := bind_eq_ok h
    exact Except.ok.inj h ▸ (storePort_kept p c s).1
  | stream =>
    obtain ⟨p, -, h⟩ := bind_eq_ok h
    obtain ⟨c, -, h⟩ := bind_eq_ok h
    obtain ⟨-, -, h⟩ := bind_eq_ok h
    obtain ⟨-, -, h⟩ := bind_eq_ok h
    obtain ⟨-, -, h⟩ := bind_eq_ok h
    exact Except.ok.inj h ▸ rfl
  | robot =>
    obtain ⟨r, -, h⟩ := bind_eq_ok h
    obtain ⟨c, -, h⟩ := bind_eq_ok h
    obtain ⟨-, -, h⟩ := bind_eq_ok h
    exact Except.ok.inj h ▸ rfl
  | holdFrame =>
    obtain ⟨r, -, h⟩ := bind_eq_ok h
    obtain ⟨c, -, h⟩ := bind_eq_ok h
    exact Except.ok.inj h ▸ rfl
  | camera =>
    obtain ⟨r, -, h⟩ := bind_eq_ok h
    obtain ⟨c, -, h⟩ := bind_eq_ok h
    exact Except.ok.inj h ▸ rfl
  | tracking =>
    obtain ⟨r, -, h⟩ := bind_eq_ok h
    obtain ⟨c, -, h⟩ := bind_eq_ok h
    exact Except.ok.inj h ▸ storeTracking_mgmt c s
  | ejector =>
    obtain ⟨r, -, h⟩ := bind_eq_ok h
    obtain ⟨c, -, h⟩ := bind_eq_ok h
    obtain ⟨-, -, h⟩ := bind_eq_ok h
    exact Except.ok.inj h ▸ storeEjector_mgmt c s
  | clock =>
    obtain ⟨r, -, h⟩ := bind_eq_ok h
    obtain ⟨c, -, h⟩ := bind_eq_ok h
    exact Except.ok.inj h ▸ storeClock_mgmt c s
  | device =>
    obtain ⟨r, -, h⟩ := bind_eq_ok h
    obtain ⟨c, -, h⟩ := bind_eq_ok h
    exact Except.ok.inj h ▸ storeDevice_mgmt c s

/-! ## The records of a body (R197) -/

/-- The octets are one record of the table: of its fixed length, or of the length that a HOLD FRAME
record states. -/
def TableId.takes (t : TableId) (x : Octets) : Prop :=
  t ≠ .holdFrame ∧ x.length = t.octets ∨ t = .holdFrame ∧ 2 ≤ x.length ∧ x.length = 2 + field x 0 2

theorem recordLength_append {t : TableId} {x : Octets} (h : t.takes x) (l : Octets) :
    recordLength t (x ++ l) = x.length ∧ t.octets ≤ (x ++ l).length := by
  rw [List.length_append]
  obtain ⟨ht, hx⟩ | ⟨rfl, h2, hx⟩ := h
  · rw [recordLength_fixed ht, hx]
    exact ⟨rfl, Nat.le_add_right _ _⟩
  · have e : field (x ++ l) 0 2 = field x 0 2 := by
      unfold field slice
      rw [List.drop_zero, List.drop_zero, List.take_append_of_le_length h2]
    exact ⟨by rw [recordLength, e, ← hx], h2.trans (Nat.le_add_right _ _)⟩

theorem splitRecords_flatten {t : TableId} (records : List Octets) (h : ∀ x ∈ records, t.takes x) :
    splitRecords t records.length records.flatten = some records := by
  induction records with
  | nil => rfl
  | cons x xs ih =>
    obtain ⟨hl, ho⟩ := recordLength_append (h x List.mem_cons_self) xs.flatten
    rw [List.length_cons, List.flatten_cons, splitRecords, hl,
      if_pos ⟨ho, by rw [List.length_append]; exact Nat.le_add_right _ _⟩, List.drop_left, List.take_left,
      ih fun y hy => h y (List.mem_cons_of_mem x hy)]
    rfl

/-- A body that ends before the last record of fixed length is not split. -/
theorem splitRecords_short {t : TableId} (ht : t ≠ .holdFrame) {k : Nat} {l : Octets}
    (h : l.length < k * t.octets) : splitRecords t k l = none := by
  induction k generalizing l with
  | zero => omega
  | succ k ih =>
    rw [splitRecords, recordLength_fixed ht]
    split
    · rw [ih (by rw [List.length_drop]; rw [Nat.succ_mul] at h; omega)]
      rfl
    · rfl

/-! ## Several records (R187) -/

/-- Records are written while their tables take them, each on the state that the ones before it left. -/
theorem writeRecords_left {t : TableId} (records : List Octets) (i c m : Nat) (left : Nat → State)
    (h : ∀ (j : Nat) (x : Octets), j < m → records[j]? = some x →
      writeRecord t (i + j) x (left j) = .ok (left (j + 1))) :
    (m = records.length → writeRecords t records i c (left 0) =
      { state := left m, count := c + m, refused := none }) ∧
    ∀ x y, records[m]? = some x → writeRecord t (i + m) x (left m) = .error y →
      writeRecords t records i c (left 0) =
        { state := left m, count := c + m, refused := some (y, i + m) } := by
  induction records generalizing i c m left with
  | nil => exact ⟨fun e => by subst e; rfl, fun x y hx => by cases hx⟩
  | cons x xs ih =>
    cases m with
    | zero =>
      refine ⟨fun e => (Nat.succ_ne_zero _ e.symm).elim, fun z y hz hw => ?_⟩
      cases Option.some.inj hz
      have hw : writeRecord t i x (left 0) = .error y := hw
      unfold writeRecords
      rw [hw]
      rfl
    | succ m =>
      have h0 : writeRecord t i x (left 0) = .ok (left 1) := h 0 x (Nat.succ_pos m) rfl
      have hstep : writeRecords t (x :: xs) i c (left 0) = writeRecords t xs (i + 1) (c + 1) (left 1) := by
        rw [writeRecords, h0]
      obtain ⟨hall, hstop⟩ := ih (i + 1) (c + 1) m (fun j => left (j + 1)) fun j y hj hy => by
        have := h (j + 1) y (Nat.succ_lt_succ hj) hy
        rwa [Nat.add_right_comm]
      rw [hstep, Nat.add_comm m 1, ← Nat.add_assoc, ← Nat.add_assoc, Nat.add_comm 1 m]
      exact ⟨fun e => hall (Nat.succ.inj e), hstop⟩

/-- What was written before the record `m` left the request queue as it was. -/
theorem left_mgmt {t : TableId} {records : List Octets} {i m : Nat} {left : Nat → State}
    (hm : m ≤ records.length)
    (h : ∀ (j : Nat) (x : Octets), j < m → records[j]? = some x →
      writeRecord t (i + j) x (left j) = .ok (left (j + 1))) : (left m).mgmt = (left 0).mgmt := by
  have key (j : Nat) (hj : j ≤ m) : (left j).mgmt = (left 0).mgmt := by
    induction j with
    | zero => rfl
    | succ j ih =>
      have hlt : j < records.length := by omega
      have := h j records[j] (by omega) (List.getElem?_eq_getElem hlt)
      exact (writeRecord_mgmt this).trans (ih (by omega))
  exact key m (le_refl m)

section
variable {s : State} {q : Request} {t : TableId} {k n : Nat} {l : Octets} (h : WriteOf s q t k n l)
include h

/-- A count out of range, and a body too short for it, write nothing. -/
theorem writes_bad (hb : k = 0 ∨ 32 < k ∨ t ≠ .holdFrame ∧ l.length < k * t.octets) :
    RunsAnswered q.command s s q { status := .badValue, body := [0, 6, 0xFF, 0xFF] } := by
  have hs : k = 0 ∨ 32 < k ∨ splitRecords t k l = none :=
    hb.imp_right (Or.imp_right fun ⟨ht, hl⟩ => splitRecords_short ht hl)
  exact .of_answer (exec_write h (actWriteTable_bad h hs) rfl) rfl

/-- Several records are written up to the first that is refused, and answered accordingly. -/
theorem writes_several {records : List Octets} {left : Nat → State} {m : Nat} {r : Reply}
    (h1 : 1 ≤ k) (h2 : k ≤ 32) (hk : records.length = k) (hl : l = records.flatten)
    (ht : ∀ x ∈ records, t.takes x) (h0 : left 0 = s)
    (hw : ∀ (j : Nat) (x : Octets), j < m → records[j]? = some x →
      writeRecord t (n + j) x (left j) = .ok (left (j + 1)))
    (hr : m = k ∧ r = wholeWrite k ∨ ∃ x y, records[m]? = some x ∧
      writeRecord t (n + m) x (left m) = .error y ∧ r = refusedWrite m y (n + m)) :
    ∃ u, exec q.command s = .next u ∧ u.unanswered = (left m).unanswered ∧
      u.mgmt = { s.mgmt with queue := s.mgmt.queue.tail } ∧
      (AnswerRoom (left m) q r → Answered u q r) := by
  have hsplit : splitRecords t k l = some records := by
    rw [← hk, hl]
    exact splitRecords_flatten records ht
  have ha := actWriteTable_good h h1 h2 hsplit
  obtain ⟨hall, hstop⟩ := writeRecords_left records n 0 m left hw
  rw [h0, Nat.zero_add] at hall hstop
  obtain ⟨hm, hact, hlen⟩ : m ≤ records.length ∧ actWriteTable q s = (left m, r) ∧ r.body.length = 4 := by
    obtain ⟨rfl, rfl⟩ | ⟨x, y, hx, hy, rfl⟩ := hr
    · rw [hall hk.symm, reply_of_whole] at ha
      exact ⟨hk.ge, ha, rfl⟩
    · rw [hstop x y hx hy, reply_of_refused] at ha
      exact ⟨(List.getElem?_eq_some_iff.mp hx).1.le, ha, rfl⟩
  have hmg : (left m).mgmt = s.mgmt := (left_mgmt hm hw).trans (by rw [h0])
  refine ⟨_, exec_write h hact hlen, ?_, ?_, fun hroom => sendAnswer_answered q r _ hroom⟩
  · exact (leaveQueue_unanswered ..).trans (sendAnswer_unanswered ..)
  · rw [leaveQueue_mgmt, sendAnswer_mgmt, hmg]

end

/-! ## The statement -/

section
variable {s : State} {q : Request} {n : Nat} {l : Octets}

/-- A WRITE TABLE of one PORT record. -/
theorem port_written (h : WriteOf s q .port 1 n l) (hl : l.length = 9) :
    (12 ≤ n → RunsAnswered .writePortRecord s s q (refusedWrite 0 .badIndex n)) ∧
    ∀ p : PortId, n = p.val →
      (decodePort l = none → RunsAnswered .writePortRecord s s q (refusedWrite 0 .badValue n)) ∧
      ∀ (c : PortCfg) (bad dup busy : Prop), decodePort l = some c →
        (bad ↔ p.val < 10 ∧ (c.role = .service ∨
            c.timing = .timeUp ∧ (c.role = .robot ∨ c.role = .camera)) ∨
          10 ≤ p.val ∧ (c.role ≠ .service ∨ c.timing ≠ .none ∨ c.mgmtAllowed = true)) →
        (dup ↔ c.timing = .timeUp ∧ ∃ x : PortId, x ≠ p ∧ s.ports[x].cfg.timing = .timeUp) →
        (busy ↔ s.ports[p].cfg.role = .robot ∧ c.role ≠ .robot ∧
          ∃ r : RobotId, s.robots[r].port = some p ∧ s.robots[r].state ≠ .idle) →
        (bad → RunsAnswered .writePortRecord s s q (refusedWrite 0 .badValue n)) ∧
        (¬bad → dup → RunsAnswered .writePortRecord s s q (refusedWrite 0 .duplicateKey n)) ∧
        (¬bad → ¬dup → busy → RunsAnswered .writePortRecord s s q (refusedWrite 0 .wrongState n)) ∧
        (¬bad → ¬dup → ¬busy →
          RunsAnswered .writePortRecord s (s.withPort p c) q (wholeWrite 1)) := by
  have hc : q.command = .writePortRecord := by unfold Request.command; rw [h.row]
  have h1 : TableId.port.octets ≤ l.length := hl.ge
  have h2 : recordLength .port l = l.length := hl.symm
  rw [← hc]
  refine ⟨fun hn => write_refused h h1 h2 (writeRecord_past hn l s), ?_⟩
  rintro p rfl
  refine ⟨fun hd => write_refused h h1 h2 (writePort_undecoded p hd s), ?_⟩
  intro c bad dup busy hd hbad hdup hbusy
  obtain ⟨hm, hst, hlink, hfit, hfree⟩ := storePort_kept p c s
  exact checkedWrite_answered h h1 h2 (hbad.trans (portValues_iff p c).symm)
    (hdup.trans (timeUpElsewhere_iff p c s).symm) (hbusy.trans (portInUse_iff p c s).symm)
    (writePort_decoded p hd s) hm (storePort_unanswered p c s)
    fun r => answerRoom_mono (hlink q.port) hst (fun n => hfit n q.port) hfree

/-- A WRITE TABLE of one STREAM record. -/
theorem stream_written (h : WriteOf s q .stream 1 n l) (hl : l.length = 20) :
    (256 ≤ n → RunsAnswered .writeStreamRecord s s q (refusedWrite 0 .badIndex n)) ∧
    ∀ i : StreamId, n = i.val →
      (decodeStream l = none → RunsAnswered .writeStreamRecord s s q (refusedWrite 0 .badValue n)) ∧
      ∀ (c : StreamCfg) (bad dup busy : Prop), decodeStream l = some c →
        (bad ↔ (c.role = .status ∨ c.role = .command) ∧ (∀ r : RobotId, c.subject ≠ .robot r) ∨
          c.role = .verdict ∧ c.cls ≠ .prompt) →
        (dup ↔ c.valid = true ∧ ∃ (j : StreamId) (y : Stream), j ≠ i ∧ y = s.streams[j] ∧
          y.cfg.valid = true ∧ y.damaged = false ∧ y.cfg.key = c.key ∧ y.cfg.vlan = c.vlan) →
        (busy ↔ ∃ r : RobotId, s.robots[r].state ≠ .idle ∧
          (s.robots[r].cfg.statusStream = i ∨ s.robots[r].cfg.commandStream = i)) →
        (bad → RunsAnswered .writeStreamRecord s s q (refusedWrite 0 .badValue n)) ∧
        (¬bad → dup → RunsAnswered .writeStreamRecord s s q (refusedWrite 0 .duplicateKey n)) ∧
        (¬bad → ¬dup → busy → RunsAnswered .writeStreamRecord s s q (refusedWrite 0 .wrongState n)) ∧
        (¬bad → ¬dup → ¬busy → RunsAnswered .writeStreamRecord s
          (s.modStream i fun _ => { cfg := c, damaged := false, ecc := .clean }) q (wholeWrite 1)) := by
  have hc : q.command = .writeStreamRecord := by unfold Request.command; rw [h.row]
  have h1 : TableId.stream.octets ≤ l.length := hl.ge
  have h2 : recordLength .stream l = l.length := hl.symm
  rw [← hc]
  refine ⟨fun hn => write_refused h h1 h2 (writeRecord_past hn l s), ?_⟩
  rintro i rfl
  refine ⟨fun hd => write_refused h h1 h2 (writeStream_undecoded i hd s), ?_⟩
  intro c bad dup busy hd hbad hdup hbusy
  exact checkedWrite_answered h h1 h2 (hbad.trans (streamValues_iff c).symm)
    (hdup.trans (keyElsewhere_iff i c s).symm) (hbusy.trans (streamInUse_iff i s).symm)
    (writeStream_decoded i hd s) rfl rfl fun _ hr => hr

/-- A WRITE TABLE of one ROBOT record. -/
theorem robot_written (h : WriteOf s q .robot 1 n l) (hl : l.length = 20) :
    (24 ≤ n → RunsAnswered .writeRobotRecord s s q (refusedWrite 0 .badIndex n)) ∧
    ∀ r : RobotId, n = r.val →
      (decodeRobot l = none → RunsAnswered .writeRobotRecord s s q (refusedWrite 0 .badValue n)) ∧
      ∀ c : RobotCfg, decodeRobot l = some c →
        (s.robots[r].state ≠ .idle →
          RunsAnswered .writeRobotRecord s s q (refusedWrite 0 .wrongState n)) ∧
        (s.robots[r].state = .idle → RunsAnswered .writeRobotRecord s
          (s.modRobot r fun x => { x with cfg := c, damaged := false, ecc := .clean }) q
          (wholeWrite 1)) := by
  have hc : q.command = .writeRobotRecord := by unfold Request.command; rw [h.row]
  have h1 : TableId.robot.octets ≤ l.length := hl.ge
  have h2 : recordLength .robot l = l.length := hl.symm
  rw [← hc]
  refine ⟨fun hn => write_refused h h1 h2 (writeRecord_past hn l s), ?_⟩
  rintro r rfl
  refine ⟨fun hd => write_refused h h1 h2 (writeRobot_undecoded r hd s), fun c hd =>
    ⟨fun hs => write_refused h h1 h2 (writeRobot_busy r hd hs), fun hs => ?_⟩⟩
  exact write_stored h h1 h2 (writeRobot_idle r hd hs) rfl rfl fun _ hr => hr

/-- A WRITE TABLE of one HOLD FRAME record. -/
theorem hold_written (h : WriteOf s q .holdFrame 1 n (beBytes 2 l.length ++ l))
    (hl : l.length < 65536) :
    (24 ≤ n → RunsAnswered .writeHoldFrame s s q (refusedWrite 0 .badIndex n)) ∧
    ∀ r : RobotId, n = r.val →
      (0 < l.length ∧ l.length < 64 ∨ 256 < l.length →
        RunsAnswered .writeHoldFrame s s q (refusedWrite 0 .badValue n)) ∧
      (l.length = 0 ∨ 64 ≤ l.length ∧ l.length ≤ 256 → RunsAnswered .writeHoldFrame s
        { s with holdFrames := s.holdFrames.set r l } q (wholeWrite 1)) := by
  have hc : q.command = .writeHoldFrame := by unfold Request.command; rw [h.row]
  have hb : (beBytes 2 l.length).length = 2 := beBytes_length ..
  have h1 : TableId.holdFrame.octets ≤ (beBytes 2 l.length ++ l).length := by
    rw [List.length_append, hb]
    exact Nat.le_add_right ..
  have h2 : recordLength .holdFrame (beBytes 2 l.length ++ l) = (beBytes 2 l.length ++ l).length := by
    rw [recordLength, field_head (by omega), List.length_append, hb]
  rw [← hc]
  refine ⟨fun hn => write_refused h h1 h2 (writeRecord_past hn _ s), ?_⟩
  rintro r rfl
  refine ⟨fun hd => write_refused h h1 h2 (writeHold_undecoded r (decodeHold_eq_none _ hb hd) s),
    fun hd => ?_⟩
  exact write_stored h h1 h2 (writeHold_decoded r (decodeHold_eq_some _ hb hd) s) rfl rfl fun _ hr => hr

/-- A WRITE TABLE of one CAMERA record. -/
theorem camera_written (h : WriteOf s q .camera 1 n l) (hl : l.length = 18) :
    (4 ≤ n → RunsAnswered .writeCameraRecord s s q (refusedWrite 0 .badIndex n)) ∧
    ∀ k : CameraId, n = k.val →
      (decodeCamera l = none → RunsAnswered .writeCameraRecord s s q (refusedWrite 0 .badValue n)) ∧
      ∀ c : CameraCfg, decodeCamera l = some c →
        RunsAnswered .writeCameraRecord s (s.modCamera k fun x => { x with cfg := c }) q
          (wholeWrite 1) := by
  have hc : q.command = .writeCameraRecord := by unfold Request.command; rw [h.row]
  have h1 : TableId.camera.octets ≤ l.length := hl.ge
  have h2 : recordLength .camera l = l.length := hl.symm
  rw [← hc]
  refine ⟨fun hn => write_refused h h1 h2 (writeRecord_past hn l s), ?_⟩
  rintro k rfl
  exact ⟨fun hd => write_refused h h1 h2 (writeCamera_undecoded k hd s), fun c hd =>
    write_stored h h1 h2 (writeCamera_decoded k hd s) rfl rfl fun _ hr => hr⟩

end

/-- Settles O42: each table's write by its checks in their order, and several records by induction on
the list. -/
theorem writesStoreRecords : Obligations.WritesStoreRecords := by
  unfold Obligations.WritesStoreRecords
  intro s q l n hq hn
  have one (code : Nat) (t : TableId) (x : Octets) (ht : tableOf code = some t) (hc : code < 9)
      (hb : q.body = beBytes 1 code ++ beBytes 1 1 ++ beBytes 2 n ++ x) : WriteOf s q t 1 n x :=
    ⟨hq, by decide, hn, code, ht, hc, hb⟩
  refine ⟨fun hb hl => ?_, fun hb hl => ?_, fun hb hl => ?_, fun hb hl => ?_, fun hb hl => ?_,
    fun t code k ht hc hk hb => ?_⟩
  · exact port_written (one 0 .port l rfl (by decide) hb) hl
  · obtain ⟨hpast, hrest⟩ := stream_written (one 1 .stream l rfl (by decide) hb) hl
    exact ⟨hpast, decodeStream_eq_none, hrest⟩
  · obtain ⟨hpast, hrest⟩ := robot_written (one 2 .robot l rfl (by decide) hb) hl
    exact ⟨hpast, decodeRobot_eq_none l, hrest⟩
  · rw [List.append_assoc] at hb
    exact hold_written (one 3 .holdFrame _ rfl (by decide) hb) hl
  · obtain ⟨hpast, hrest⟩ := camera_written (one 4 .camera l rfl (by decide) hb) hl
    exact ⟨hpast, (decodeCamera_eq_none l hl).symm, hrest⟩
  · have h : WriteOf s q t k n l := ⟨hq, hk, hn, code, ht, hc, hb⟩
    exact ⟨writes_bad h, fun records left m r h1 h2 hlen hl hrec h0 hw hr =>
      writes_several h h1 h2 hlen hl hrec h0 hw hr⟩

end Sys2Proof.Machine
end


section
/-! The cells that an arriving frame takes as its octets come in (R8, R24, R25). -/

namespace Sys2Proof.Machine

theorem reception_eq {s : State} {p : PortId} {r : Reception}
    (h : s.rx[p].cur = some r ∨ s.rx[p].cur = none ∧ r = s.newReception p) : s.reception p = r := by
  unfold State.reception
  rcases h with h | ⟨h, rfl⟩ <;> rw [h] <;> rfl

/-- The octets and the cells that the open frame lends to a piece under reception count with the piece's
own: none, where it is not the NEXT piece that the open frame expects. -/
theorem octetNeedsCell_iff {s : State} {o : ArrivingOctet} {r : Reception} {before held : Nat}
    (h : (∃ a, s.rx[o.port].asm = some a ∧ o.marker = some (.next a.expect) ∧ r.marked = true ∧
          s.ports[o.port].cfg.rxPreempt = true ∧ before = a.octets.length ∧ held = a.cells.length) ∨
        (before = 0 ∧ held = 0 ∧ (r.marked = false ∨ s.ports[o.port].cfg.rxPreempt = false ∨
          ∀ a, s.rx[o.port].asm = some a → o.marker ≠ some (.next a.expect)))) :
    s.octetNeedsCell o r = true ↔ held + r.cells.length < storedCells (before + o.number) := by
  unfold State.octetNeedsCell
  rcases h with ⟨a, ha, hm, hr, hp, rfl, rfl⟩ | ⟨rfl, rfl, hno⟩
  · rw [(openFrameOf_eq_some s o.port o.marker r a).mpr ⟨ha, hm, hr, hp⟩, decide_eq_true_eq]
  · have hnone : s.openFrameOf o.port o.marker r = none := by
      rw [Option.eq_none_iff_forall_ne_some]
      intro a ha
      obtain ⟨h1, h2, h3, h4⟩ := (openFrameOf_eq_some ..).mp ha
      rcases hno with h | h | h
      · rw [h3] at h; cases h
      · rw [h4] at h; cases h
      · exact h a h1 h2
    rw [hnone, decide_eq_true_eq, Nat.zero_add, Nat.zero_add]

theorem exec_receptionCellTake_down {s : State} {o : ArrivingOctet} (h : s.ports[o.port].link = false) :
    exec (.receptionCellTake o) s = .next s :=
  congrArg _ (if_neg (by rw [h]; exact Bool.false_ne_true))

/-- An octet that needs a cell, in a reception that is not overrun, asks the free list for one. -/
theorem exec_receptionCellTake_needed {s : State} {o : ArrivingOctet} {r r' : Reception} {m : CellMem}
    (hl : s.ports[o.port].link = true) (hr : s.reception o.port = r) (ho : r.overrun = false)
    (hn : s.octetNeedsCell o r = true) (ht : takeCell r s.mem = (r', m)) :
    exec (.receptionCellTake o) s =
      .next { s.modRx o.port (fun x => { x with cur := some r' }) with mem := m } := by
  refine congrArg _ ((if_pos hl).trans ?_)
  simp only [hr, ho, hn, ht, Bool.not_false, Bool.and_self, if_true]

/-- Any other octet leaves the cells of its reception as they are. -/
theorem exec_receptionCellTake_spared {s : State} {o : ArrivingOctet} {r : Reception}
    (hl : s.ports[o.port].link = true) (hr : s.reception o.port = r)
    (hn : r.overrun = true ∨ s.octetNeedsCell o r = false) :
    exec (.receptionCellTake o) s =
      .next (s.modRx o.port fun x => { x with cur := some r }) := by
  refine congrArg _ ((if_pos hl).trans ?_)
  have hc : ¬((!r.overrun && s.octetNeedsCell o r) = true) := by
    rcases hn with h | h <;> simp [h]
  simp only [hr, if_neg hc]
  rfl

/-- Settles O31: an octet that needs a cell finds the free list empty or takes its head, and another
takes none. -/
theorem receptionTakesCells : Obligations.ReceptionTakesCells := by
  rintro o p s rfl
  refine ⟨exec_receptionCellTake_down, fun r before held hl hr hopen => ?_⟩
  have hr : s.reception o.port = r := reception_eq hr
  have hneeds := octetNeedsCell_iff hopen
  refine ⟨fun ho hlt => ⟨fun c rest hfree => ?_, fun hfree => ?_⟩, fun h => ?_⟩
  · exact exec_receptionCellTake_needed hl hr ho (hneeds.mpr hlt) (takeCell_cons r s.mem c rest hfree)
  · exact exec_receptionCellTake_needed hl hr ho (hneeds.mpr hlt) (takeCell_nil r s.mem hfree)
  · refine exec_receptionCellTake_spared hl hr (h.imp_right fun h => ?_)
    exact Bool.eq_false_iff.mpr fun hn => absurd (hneeds.mp hn) (Nat.not_lt.mpr h)

end Sys2Proof.Machine
end


section
/-! What may start on a port, and the heads that a choice counts as held back (R37, R74, R75). -/

namespace Sys2Proof.Machine

/-! ## The egress side of one port -/

theorem State.modEgress_get (p : PortId) (f : Egress → Egress) (s : State) :
    (s.modEgress p f).egress[p] = f s.egress[p] := upd_same ..

theorem State.modEgress_congr {p : PortId} {f g : Egress → Egress} {s : State}
    (h : f s.egress[p] = g s.egress[p]) : s.modEgress p f = s.modEgress p g :=
  congrArg (fun e => ({ s with egress := e } : State)) (upd_congr _ _ _ _ h)

theorem State.modEgress_modEgress (p : PortId) (f g : Egress → Egress) (s : State) :
    (s.modEgress p f).modEgress p g = s.modEgress p fun e => g (f e) := by
  refine congrArg (fun e => ({ s with egress := e } : State)) ?_
  simp [State.modEgress, upd]

theorem State.modEgress_fixed {p : PortId} {f : Egress → Egress} {s : State}
    (h : f s.egress[p] = s.egress[p]) : s.modEgress p f = s :=
  congrArg (fun e => ({ s with egress := e } : State)) (upd_fixed _ _ _ h)

theorem modEgress_uncounted {s t : State} (h : s.uncounted = t.uncounted) (p : PortId)
    (f : Egress → Egress) : (s.modEgress p f).uncounted = (t.modEgress p f).uncounted := by
  rw [eq_recounted h]; rfl

/-! ## What may start (R74, R75) -/

theorem headMayStart_iff (s : State) (p : PortId) (q : QueueId) (x : QEntry) :
    s.headMayStart p q x = true ↔ s.mayStart p q x := by
  unfold State.headMayStart State.mayStart
  by_cases hq : 2 ≤ q.val
  · have hq' : ¬q.val < 2 := Nat.not_lt.mpr hq
    simp [hq, hq']
  · have hq' : q.val < 2 := Nat.not_le.mp hq
    simp [hq, hq']

theorem readyHead_of_head {s : State} {p : PortId} {q : QueueId} {x : QEntry} {rest : List QEntry}
    (hx : s.egress[p].queues[q] = x :: rest) (h : s.mayStart p q x) :
    s.readyHead p q = some (.head q x) := by
  simp only [State.readyHead, hx, if_pos ((headMayStart_iff s p q x).mpr h)]

theorem readyHead_eq_none {s : State} {p : PortId} {q : QueueId} (h : ¬s.queueReady p q) :
    s.readyHead p q = none := by
  unfold State.readyHead
  cases hx : s.egress[p].queues[q] with
  | nil => rfl
  | cons x rest =>
    refine if_neg fun hm => h ⟨x, ?_, (headMayStart_iff s p q x).mp hm⟩
    rw [hx]
    rfl

theorem queueReady_of_head {s : State} {p : PortId} {q : QueueId} {x : QEntry} {rest : List QEntry}
    (hx : s.egress[p].queues[q] = x :: rest) (h : s.mayStart p q x) : s.queueReady p q :=
  ⟨x, by rw [hx]; rfl, h⟩

theorem readyRemainder_of_open {s : State} {p : PortId} {r : Remainder}
    (hr : s.egress[p].remainder = some r) (ho : s.gates[p].isOpen r.queue = true) :
    s.readyRemainder p = some (.remainder r) := by
  simp only [State.readyRemainder, hr, if_pos ho]

theorem readyRemainder_eq_none {s : State} {p : PortId}
    (h : ∀ r, s.egress[p].remainder = some r → s.gates[p].isOpen r.queue = false) :
    s.readyRemainder p = none := by
  unfold State.readyRemainder
  cases hr : s.egress[p].remainder with
  | none => rfl
  | some r => exact if_neg (Bool.eq_false_iff.mp (h r hr))

/-- A preemptable head that may start finds no remainder held. -/
theorem readyRemainder_of_mayStart {s : State} {p : PortId} {q : QueueId} {x : QEntry}
    (h : s.mayStart p q x) (hq : q.val < 2) : s.readyRemainder p = none := by
  obtain ⟨-, hnone, -⟩ := h
  exact readyRemainder_eq_none fun r hr => by rw [hnone hq] at hr; cases hr

theorem express_cases {q : QueueId} (h : 2 ≤ q.val) : q = 2 ∨ q = 3 := by
  revert q
  decide

theorem preemptable_cases {q : QueueId} (h : q.val < 2) : q = 0 ∨ q = 1 := by
  revert q
  decide

/-- The item of R37 that goes before both preemptable queues. -/
def State.readyAbove (s : State) (p : PortId) : Option Pick :=
  s.readyHead p 3 <|> s.readyHead p 2 <|> s.readyRemainder p

theorem pick_eq (s : State) (p : PortId) :
    s.pick p = (s.readyAbove p <|> s.readyHead p 1 <|> s.readyHead p 0) := by
  unfold State.pick State.readyAbove
  cases s.readyHead p 3 <;> cases s.readyHead p 2 <;> rfl

theorem readyAbove_eq_none {s : State} {p : PortId} (h3 : ¬s.queueReady p 3)
    (h2 : ¬s.queueReady p 2) (hr : s.readyRemainder p = none) : s.readyAbove p = none := by
  unfold State.readyAbove
  rw [readyHead_eq_none h3, readyHead_eq_none h2, hr]
  rfl

/-- An express head that may start, with none above it, goes before both preemptable queues. -/
theorem readyAbove_express {s : State} {p : PortId} {q : QueueId} {x : QEntry} {rest : List QEntry}
    (hq : 2 ≤ q.val) (hx : s.egress[p].queues[q] = x :: rest) (h : s.mayStart p q x)
    (habove : ∀ q' : QueueId, q < q' → ¬s.queueReady p q') :
    s.readyAbove p = some (.head q x) := by
  unfold State.readyAbove
  obtain rfl | rfl := express_cases hq
  · rw [readyHead_eq_none (habove 3 (by decide)), readyHead_of_head hx h]
    rfl
  · rw [readyHead_of_head hx h]
    rfl

theorem readyAbove_remainder {s : State} {p : PortId} {r : Remainder} (h3 : ¬s.queueReady p 3)
    (h2 : ¬s.queueReady p 2) (hr : s.egress[p].remainder = some r)
    (ho : s.gates[p].isOpen r.queue = true) : s.readyAbove p = some (.remainder r) := by
  unfold State.readyAbove
  rw [readyHead_eq_none h3, readyHead_eq_none h2, readyRemainder_of_open hr ho]
  rfl

/-- Counting changes nothing that a choice reads. -/
theorem SameQueues.mayStart_iff {s t : State} (h : SameQueues s t) (p : PortId) (q : QueueId)
    (x : QEntry) : t.mayStart p q x ↔ s.mayStart p q x := by
  unfold State.mayStart
  rw [h.mem, h.egress, h.gates, h.ports, h.clock]

theorem SameQueues.queueReady_iff {s t : State} (h : SameQueues s t) (p : PortId) (q : QueueId) :
    t.queueReady p q ↔ s.queueReady p q := by
  unfold State.queueReady
  simp only [h.egress, h.mayStart_iff]

theorem SameQueues.heldBack {s t : State} (h : SameQueues s t) (p : PortId) (q : QueueId) :
    t.heldBack p q = s.heldBack p q := by
  unfold State.heldBack
  rw [h.mem, h.egress, h.gates, h.ports, h.clock]

/-! ## Heads marked as counted in holds (R75) -/

/-- A queue whose head is marked as counted in holds. -/
def markHead : List QEntry → List QEntry
  | [] => []
  | x :: rest => { x with holdCounted := true } :: rest

theorem markHeld_eq (s : State) (p : PortId) (l : List QueueId) :
    s.markHeld p l = s.modEgress p fun e =>
      { e with queues := Vector.ofFn fun q => if q ∈ l then markHead e.queues[q] else e.queues[q] } := by
  unfold State.markHeld markHead
  rfl

/-- A change of the queues' marks leaves the rest of a port. -/
theorem markHeld_egress (s : State) (p : PortId) (l : List QueueId) :
    (s.markHeld p l).egress[p] = { s.egress[p] with
      queues := Vector.ofFn fun q =>
        if q ∈ l then markHead s.egress[p].queues[q] else s.egress[p].queues[q] } := by
  rw [markHeld_eq, State.modEgress_get]

theorem markHeld_queues (s : State) (p : PortId) (l : List QueueId) (q : QueueId) :
    (s.markHeld p l).egress[p].queues[q] =
      if q ∈ l then markHead s.egress[p].queues[q] else s.egress[p].queues[q] := by
  rw [markHeld_egress]
  simp

theorem markHeld_nil (s : State) (p : PortId) : s.markHeld p [] = s := by
  rw [markHeld_eq]
  apply State.modEgress_fixed
  have h : (Vector.ofFn fun q : QueueId => s.egress[p].queues[q]) = s.egress[p].queues := by
    ext i hi
    simp
  simp only [List.not_mem_nil, if_false, h]

theorem markHead_markHead (l : List QEntry) : markHead (markHead l) = markHead l := by
  cases l <;> rfl

theorem markHeld_markHeld (s : State) (p : PortId) (l m : List QueueId) :
    (s.markHeld p l).markHeld p m = s.markHeld p (l ++ m) := by
  simp only [markHeld_eq, State.modEgress_modEgress]
  apply State.modEgress_congr
  congr 1
  ext i hi : 1
  simp only [Vector.getElem_ofFn, Fin.getElem_fin, List.mem_append]
  by_cases h1 : (⟨i, hi⟩ : QueueId) ∈ l <;> by_cases h2 : (⟨i, hi⟩ : QueueId) ∈ m <;>
    simp [h1, h2, markHead_markHead]

theorem markHeld_uncounted {s t : State} (h : s.uncounted = t.uncounted) (p : PortId)
    (l : List QueueId) : (s.markHeld p l).uncounted = (t.markHeld p l).uncounted :=
  modEgress_uncounted h p _

/-- A mark changes nothing that says whether a head may start. -/
theorem markHeld_mayStart (s : State) (p : PortId) (l : List QueueId) (q : QueueId) (x : QEntry) :
    (s.markHeld p l).mayStart p q x ↔ s.mayStart p q x := by
  have hr : (s.markHeld p l).egress[p].remainder = s.egress[p].remainder := by rw [markHeld_egress]
  unfold State.mayStart
  rw [hr]
  rfl

theorem markHeld_queueReady (s : State) (p : PortId) (l : List QueueId) (q : QueueId) :
    (s.markHeld p l).queueReady p q ↔ s.queueReady p q := by
  unfold State.queueReady
  rw [markHeld_queues]
  simp only [markHeld_mayStart]
  split
  · cases s.egress[p].queues[q] with
    | nil => rfl
    | cons y rest =>
      constructor
      · rintro ⟨x, hx, h⟩
        cases hx
        exact ⟨y, rfl, h⟩
      · rintro ⟨x, hx, h⟩
        cases hx
        exact ⟨_, rfl, h⟩
  · rfl

/-- What holds back a head of a queue has nothing to do with the marks of others. -/
theorem markHeld_heldBack (s : State) (p : PortId) {l : List QueueId} {q : QueueId} (h : q ∉ l) :
    (s.markHeld p l).heldBack p q = s.heldBack p q := by
  have hr : (s.markHeld p l).egress[p].remainder = s.egress[p].remainder := by rw [markHeld_egress]
  unfold State.heldBack
  rw [markHeld_queues, if_neg h, hr]
  rfl

/-! ## Holds counted (R75) -/

/-- A head that may start is not held back. -/
theorem heldBack_of_ready {s : State} {p : PortId} {q : QueueId} (h : s.queueReady p q) (hq : q.val < 2) :
    s.heldBack p q = false := by
  obtain ⟨x, hx, ho, hr, hf⟩ := h
  unfold State.heldBack
  cases hl : s.egress[p].queues[q] with
  | nil => rfl
  | cons y rest =>
    rw [hl] at hx
    cases hx
    rcases hf with ⟨-, hf⟩ | hf <;> simp [-Fin.getElem_fin, hf]

/-- The work of counting one head that is held back. -/
def holdHead (p : PortId) (q : QueueId) (s : State) : State :=
  bump (.port p .holds) (s.markHeld p [q])

theorem countHold_eq (s : State) (p : PortId) {q : QueueId} (hq : q.val < 2) :
    countHold p q s = if s.heldBack p q = true then holdHead p q s else s := by
  unfold countHold State.heldBack
  cases hx : s.egress[p].queues[q] with
  | nil => rfl
  | cons x rest =>
    have hc : (s.headHeldBack p q x && !x.holdCounted) =
        (!x.holdCounted && s.gates[p].isOpen q && s.egress[p].remainder.isNone &&
          !s.ports[p].cfg.txPreempt &&
          !s.gates[p].fits p q (s.mem.octetsOf x.frame).length s.clock.hall) := by
      have hq' : ¬2 ≤ q.val := Nat.not_le.mpr hq
      simp only [State.headHeldBack, State.headMayStart, if_neg hq']
      rw [Bool.eq_iff_iff]
      simp only [Bool.and_eq_true, Bool.not_eq_true', Bool.and_eq_false_iff, Bool.or_eq_false_iff]
      grind
    simp only [hc]
    refine if_congr Iff.rfl (congrArg _ ?_) rfl
    rw [markHeld_eq]
    apply State.modEgress_congr
    congr 1
    ext i hi : 1
    rw [upd_getElem, Vector.getElem_ofFn]
    by_cases hi' : q.val = i
    · subst hi'
      rw [if_pos rfl, if_pos List.mem_cons_self, hx]
      rfl
    · have hne : (⟨i, hi⟩ : QueueId) ∉ [q] := by
        rw [List.mem_singleton]
        rintro rfl
        exact hi' rfl
      rw [if_neg hi', if_neg hne]
      rfl

theorem holdHead_queueReady (s : State) (p : PortId) (q k : QueueId) :
    (holdHead p q s).queueReady p k ↔ s.queueReady p k :=
  ((SameQueues.bump ..).queueReady_iff p k).trans (markHeld_queueReady s p [q] k)

theorem holdHead_heldBack (s : State) (p : PortId) {q k : QueueId} (h : k ≠ q) :
    (holdHead p q s).heldBack p k = s.heldBack p k :=
  ((SameQueues.bump ..).heldBack p k).trans
    (markHeld_heldBack s p (by rw [List.mem_singleton]; exact h))

theorem forEach_holdHead_uncounted (p : PortId) (l : List QueueId) (s : State) :
    (forEach l (holdHead p) s).uncounted = (s.markHeld p l).uncounted := by
  induction l generalizing s with
  | nil => rw [markHeld_nil]; rfl
  | cons q l ih =>
    have hq : (holdHead p q s).uncounted = (s.markHeld p [q]).uncounted := bump_uncounted ..
    rw [forEach_cons, ih, markHeld_uncounted hq, markHeld_markHeld]
    rfl

theorem forEach_holdHead_effects (p : PortId) (l : List QueueId) (s : State) (now : BaseTime) :
    Effects s (forEach l (holdHead p) s) now (l.map fun _ => .port p .holds) [] := by
  have h := (Effects.refl s now).forEach (f := holdHead p) (fun _ => [.port p .holds])
    (fun q t l h => (h.congr (t := t) (u := t.markHeld p [q]) rfl rfl).bump _) l
  rwa [← List.map_eq_flatMap, List.nil_append] at h

/-! ## The heads that a choice counts (R37, R75; log 55) -/

theorem countHolds_above {s : State} {p : PortId} (h : (s.readyAbove p).isSome = true) :
    countHolds p s = s := if_pos h

theorem countHolds_below {s : State} {p : PortId} (h : s.readyAbove p = none) :
    countHolds p s =
      if ((countHold p 1 s).readyHead p 1).isSome then countHold p 1 s
      else countHold p 0 (countHold p 1 s) :=
  if_neg (by rw [show (s.readyHead p 3 <|> s.readyHead p 2 <|> s.readyRemainder p) = none from h]; decide)

/-- With nothing ready above it, a choice that takes the head of Q1 holds nothing back. -/
theorem countHolds_ready {s : State} {p : PortId} {x : QEntry} {rest : List QEntry}
    (h : s.readyAbove p = none) (hx : s.egress[p].queues[(1 : QueueId)] = x :: rest)
    (hm : s.mayStart p 1 x) : countHolds p s = s := by
  have h1 : countHold p 1 s = s := by
    rw [countHold_eq s p (by decide), heldBack_of_ready (queueReady_of_head hx hm) (by decide)]
    rfl
  rw [countHolds_below h, h1, readyHead_of_head hx hm]
  rfl

/-- With nothing ready above Q0, the preemptable heads that are held back are counted, Q1's first. -/
theorem countHolds_held {s : State} {p : PortId} (h : s.readyAbove p = none)
    (h1 : ¬s.queueReady p 1) :
    countHolds p s = forEach ([(1 : QueueId), 0].filter (s.heldBack p)) (holdHead p) s := by
  rw [countHolds_below h, countHold_eq s p (by decide)]
  cases hb1 : s.heldBack p 1 with
  | false =>
    rw [if_neg Bool.false_ne_true, readyHead_eq_none h1, countHold_eq s p (by decide)]
    cases hb0 : s.heldBack p 0 <;> simp [hb1, hb0]
  | true =>
    have hn : ¬(holdHead p 1 s).queueReady p 1 := fun hq => h1 ((holdHead_queueReady s p 1 1).mp hq)
    have hb : (holdHead p 1 s).heldBack p 0 = s.heldBack p 0 := holdHead_heldBack s p (by decide)
    rw [if_pos rfl, readyHead_eq_none hn, countHold_eq _ p (by decide), hb]
    cases hb0 : s.heldBack p 0 <;> simp [hb1, hb0]

end Sys2Proof.Machine
end


section
/-! What an idle transmitter takes, and what its start puts on the wire (R36, R37, R62, R79, R80). -/

namespace Sys2Proof.Machine

/-! ## What a start puts on the wire (R36, R79, R80) -/

/-- A piece that begins now is at its first octet. -/
theorem Tx.position_start {t : Tx} {p : PortId} {now : Nat} (h : t.startTick = now) :
    t.position p now = 0 := by
  have hlt : octetTicks p - 1 < octetTicks p := Nat.sub_lt (octetTicks_pos p) Nat.one_pos
  rw [Tx.position, h, Nat.sub_self, Nat.zero_add, Nat.div_eq_of_lt hlt, Nat.zero_sub, Nat.zero_min]

/-- While a piece's own gate is open, an express head whose gate is open is what it is cut for. -/
theorem cutTrigger_open {s : State} {p : PortId} {t : Tx} (ho : s.gates[p].isOpen t.queue = true) :
    s.cutTrigger p t = true ↔
      ∃ q : QueueId, 2 ≤ q.val ∧ s.egress[p].queues[q] ≠ [] ∧ s.gates[p].isOpen q = true := by
  rw [cutTrigger_iff, State.cutTriggered]
  constructor
  · rintro (⟨hx, hg⟩ | ⟨hx, hg⟩ | hg)
    · exact ⟨3, by decide, hx, hg⟩
    · exact ⟨2, by decide, hx, hg⟩
    · rw [ho] at hg; cases hg
  · rintro ⟨q, hq, hx, hg⟩
    obtain rfl | rfl := express_cases hq
    · exact .inr (.inl ⟨hx, hg⟩)
    · exact .inl ⟨hx, hg⟩

/-- The cut point of a piece that begins now while its gate is open. -/
theorem cutChosen_start {s : State} {p : PortId} {t : Tx} (hs : t.startTick = s.clock.ticks)
    (hc : t.cutAt = none) (ho : s.gates[p].isOpen t.queue = true) :
    s.cutChosen p t =
      if t.cuttable = true then s.cutFromStart p (t.octets.length - t.offset) else none := by
  have hmin : max Config.cutMinimum 0 = 64 := rfl
  have hlong : Config.cutMinimum + 64 = 128 := rfl
  unfold State.cutChosen State.cutFromStart
  rw [Tx.position_start hs, hc, hmin]
  cases t.cuttable with
  | false => rfl
  | true =>
    simp only [Option.isNone_none, Bool.true_and, Bool.and_eq_true, decide_eq_true_eq,
      cutTrigger_open ho, Nat.add_comm 64, hlong, if_true]

/-- A transmitter takes a piece: what becomes of its port, where the express queues stay as they are if
the piece may be cut. -/
theorem noteCut_start {s : State} {p : PortId} {t : Tx} (f : Egress → Egress)
    (ht : (f s.egress[p]).tx = some t) (hs : t.startTick = s.clock.ticks) (hc : t.cutAt = none)
    (ho : s.gates[p].isOpen t.queue = true)
    (hq : t.cuttable = true → ∀ q : QueueId, 2 ≤ q.val →
      (f s.egress[p]).queues[q] = s.egress[p].queues[q]) :
    noteCut p (s.modEgress p f) = s.modEgress p fun e =>
      { f e with tx := some { t with cutAt :=
          if t.cuttable = true then s.cutFromStart p (t.octets.length - t.offset) else none } } := by
  have hcut : (s.modEgress p f).cutChosen p t =
      if t.cuttable = true then s.cutFromStart p (t.octets.length - t.offset) else none := by
    rw [cutChosen_start (s := s.modEgress p f) hs hc ho]
    split
    · next hcut =>
      unfold State.cutFromStart
      refine if_congr (and_congr_left' (exists_congr fun q => and_congr_right fun h2 => ?_)) rfl rfl
      rw [State.modEgress_get, hq hcut q h2]
      rfl
    · rfl
  have hnote : noteCut p (s.modEgress p f) = (s.modEgress p f).modEgress p fun e =>
      { e with tx := e.tx.map fun w => { w with cutAt := (s.modEgress p f).cutChosen p w } } := by
    rw [noteCut_frame, noteCut_egress]
    rfl
  rw [hnote, State.modEgress_modEgress]
  apply State.modEgress_congr
  rw [ht, Option.map_some, hcut]

/-- The piece that starts with the head `x` of a queue whose octets are sent as `octets`. -/
def State.headPiece (s : State) (p : PortId) (q : QueueId) (x : QEntry) (octets : Octets) : Tx :=
  { frame := x.frame, queue := q, kind := x.kind, octets := octets, offset := 0
    marker := if q.val < 2 ∧ s.ports[p].cfg.txPreempt = true then .first else .whole
    startTick := s.clock.ticks
    cuttable := decide (q.val < 2) && s.ports[p].cfg.txPreempt
    cutAt := if q.val < 2 ∧ s.ports[p].cfg.txPreempt = true then s.cutFromStart p octets.length
      else none }

theorem headPiece_marker (s : State) (p : PortId) (q : QueueId) (x : QEntry) (octets : Octets) :
    (s.headPiece p q x octets).marker = startMarker q s.ports[p].cfg.txPreempt := by
  simp only [State.headPiece, startMarker, Bool.and_eq_true, decide_eq_true_eq]

theorem headPiece_cuttable (s : State) (p : PortId) (q : QueueId) (x : QEntry) (octets : Octets) :
    (s.headPiece p q x octets).cuttable =
      decide (startMarker q s.ports[p].cfg.txPreempt = .first) := by
  unfold State.headPiece startMarker
  cases decide (q.val < 2) <;> cases s.ports[p].cfg.txPreempt <;> rfl

theorem startHead_noteCut {s : State} {p : PortId} {q : QueueId} {x : QEntry} {octets : Octets}
    (hsent : sentOctets (s.kindOf x.frame) (s.clock.delay.getD 0) (s.transmitTime p)
      (s.mem.octetsOf x.frame) = octets) :
    startHead p q x s = noteCut p (s.modEgress p fun e =>
      { e with queues := upd e.queues q List.tail
               tx := some { s.headPiece p q x octets with cutAt := none } }) := by
  subst hsent
  unfold startHead dropHead
  simp only [State.modEgress_modEgress, headPiece_marker, headPiece_cuttable]
  rfl

/-- The head of a queue whose gate is open leaves it and starts. -/
theorem startHead_eq {s : State} {p : PortId} {q : QueueId} {x : QEntry} {rest : List QEntry}
    {octets : Octets} (hx : s.egress[p].queues[q] = x :: rest) (ho : s.gates[p].isOpen q = true)
    (hsent : sentOctets (s.kindOf x.frame) (s.clock.delay.getD 0) (s.transmitTime p)
      (s.mem.octetsOf x.frame) = octets) :
    startHead p q x s = s.modEgress p fun e =>
      { e with queues := e.queues.set q rest, tx := some (s.headPiece p q x octets) } := by
  have hcut (h : (s.headPiece p q x octets).cuttable = true) : q.val < 2 := by
    simp only [State.headPiece, Bool.and_eq_true, decide_eq_true_eq] at h
    exact h.1
  rw [startHead_noteCut hsent, noteCut_start (t := { s.headPiece p q x octets with cutAt := none })
    _ rfl rfl rfl ho fun h k hk => upd_other _ _ _ _ fun e => by
      have := hcut h
      rw [e] at hk
      omega]
  apply State.modEgress_congr
  have hq : upd s.egress[p].queues q List.tail = s.egress[p].queues.set q rest := by
    rw [upd, hx]
    rfl
  rw [hq]
  simp only [State.headPiece, Bool.and_eq_true, decide_eq_true_eq, Nat.sub_zero]

/-- A held remainder whose gate is open goes on (R81). -/
theorem startRemainder_eq {s : State} {p : PortId} {r : Remainder}
    (ho : s.gates[p].isOpen r.queue = true) :
    startRemainder p r s = s.modEgress p fun e =>
      { e with
        remainder := none
        tx := some
          { frame := r.frame, queue := r.queue, kind := r.kind, octets := r.octets
            offset := r.offset, marker := .next r.nextN, startTick := s.clock.ticks
            cuttable := s.ports[p].cfg.txPreempt
            cutAt := if s.ports[p].cfg.txPreempt = true then
              s.cutFromStart p (r.octets.length - r.offset) else none } } := by
  unfold startRemainder
  dsimp only
  rw [noteCut_start _ rfl rfl rfl ho fun _ _ _ => rfl]

/-! ## One choice (R37, R62) -/

theorem exec_transmitterChoice {s : State} {p : PortId} (hl : s.ports[p].link = true)
    (ht : s.egress[p].tx = none) (hi : s.egress[p].idleUntil ≤ s.clock.ticks) :
    exec (.transmitterChoice p) s = .next (chooseNext p s) := by
  refine congrArg _ (if_pos ?_)
  rw [State.transmitterIdle, hl, ht, decide_eq_true hi]
  rfl

section
variable {s t : State} {p : PortId} (hc : countHolds p s = t)
include hc

theorem chooseLoop_nothing (n : Nat) (h : t.pick p = none) : chooseLoop p (n + 1) s = t := by
  simp only [chooseLoop, hc, h]

theorem chooseLoop_remainder (n : Nat) {r : Remainder} (h : t.pick p = some (.remainder r)) :
    chooseLoop p (n + 1) s = startRemainder p r t := by
  simp only [chooseLoop, hc, h]

theorem chooseLoop_head (n : Nat) {q : QueueId} {x : QEntry} (h : t.pick p = some (.head q x))
    (hd : relayDrop (t.kindOf x.frame) (t.clock.delay.getD 0) (t.transmitTime p) = none) :
    chooseLoop p (n + 1) s = startHead p q x t := by
  simp only [chooseLoop, hc, h, hd]

theorem chooseLoop_dropped (n : Nat) {q : QueueId} {x : QEntry} {c : ClockCounter}
    (h : t.pick p = some (.head q x))
    (hd : relayDrop (t.kindOf x.frame) (t.clock.delay.getD 0) (t.transmitTime p) = some c) :
    chooseLoop p (n + 1) s = chooseLoop p n (bump (.clock c) ((dropHead p q t).release x.frame)) := by
  simp only [chooseLoop, hc, h, hd]

end

/-- A frame that is no relayed copy is sent as it is, and never dropped at the choice. -/
theorem unrelayed {k : FrameKind} (h : ∀ recv carried void, k ≠ .relayed recv carried void)
    (delay : Int) (sent : HallTime) (l : Octets) :
    relayDrop k delay sent = none ∧ sentOctets k delay sent l = l := by
  cases k with
  | relayed recv carried void => exact absurd rfl (h recv carried void)
  | _ => exact ⟨rfl, rfl⟩

end Sys2Proof.Machine
end


section
/-! What a gate engine reads ahead: the windows to come in their order, the closing instant of a queue,
and hall time on the scale of a gate's instants (R66, R68, R72, R73, R76). -/

namespace Sys2Proof.Machine

/-! ## The gate now (R66, R76) -/

theorem Gate.isOpen_opened {g : Gate} (q : QueueId) (h : g.mode = .opened) : g.isOpen q = true := by
  simp only [Gate.isOpen, h]

theorem Gate.isOpen_resync {g : Gate} (q : QueueId) (h : g.mode = .resync) :
    g.isOpen q = decide (2 ≤ q.val) := by
  simp only [Gate.isOpen, h]

theorem Gate.isOpen_running {g : Gate} {l : GateList} {w : GateWindow} (q : QueueId)
    (h : g.mode = .running) (ha : g.active = some l) (hw : l.windows[g.windowIndex]? = some w) :
    g.isOpen q = w.openSet.getLsbD q.val := by
  simp only [Gate.isOpen, h, ha, hw]

/-! ## Windows laid one after another (R66) -/

/-- How long the first `w` windows of a list last together. -/
def windowsSpan (ws : List GateWindow) (w : Nat) : Int :=
  (((ws.take w).map GateWindow.duration).sum : Nat)

theorem windowsSpan_zero (ws : List GateWindow) : windowsSpan ws 0 = 0 := rfl

theorem windowsSpan_cons (v : GateWindow) (ws : List GateWindow) (w : Nat) :
    windowsSpan (v :: ws) (w + 1) = v.duration + windowsSpan ws w := by
  simp [windowsSpan]

theorem windowsSpan_nonneg (ws : List GateWindow) (w : Nat) : 0 ≤ windowsSpan ws w :=
  Int.natCast_nonneg _

/-- The windows after the `n`th begin where the first `n` end. -/
theorem windowOffset_add (l : GateList) (n w : Nat) :
    l.windowOffset (n + w) = l.windowOffset n + windowsSpan (l.windows.drop n) w := by
  simp only [GateList.windowOffset, windowsSpan, List.take_add, List.map_append, List.sum_append,
    Nat.cast_add]

/-- A window of a list laid from `start` begins at `i`, before `stop`, with open set `x`. -/
def LaidAt (ws : List GateWindow) (start stop i : Int) (x : QueueSet) : Prop :=
  ∃ (w : Nat) (v : GateWindow), ws[w]? = some v ∧ x = v.openSet ∧ i = start + windowsSpan ws w ∧ i < stop

/-- Of a list that is laid, its first window begins at `start`, and the others are laid after it. -/
theorem laidAt_cons (v : GateWindow) (ws : List GateWindow) (start stop i : Int) (x : QueueSet) :
    LaidAt (v :: ws) start stop i x ↔
      (i = start ∧ x = v.openSet ∧ start < stop) ∨ LaidAt ws (start + v.duration) stop i x := by
  constructor
  · rintro ⟨w, u, hw, rfl, rfl, hi⟩
    cases w with
    | zero =>
      cases hw
      rw [windowsSpan_zero, add_zero] at hi ⊢
      exact .inl ⟨rfl, rfl, hi⟩
    | succ w =>
      rw [windowsSpan_cons, ← add_assoc] at hi ⊢
      exact .inr ⟨w, u, hw, rfl, rfl, hi⟩
  · rintro (⟨rfl, rfl, hi⟩ | ⟨w, u, hw, rfl, rfl, hi⟩)
    · exact ⟨0, v, rfl, rfl, by rw [windowsSpan_zero, add_zero], hi⟩
    · exact ⟨w + 1, u, hw, rfl, by rw [windowsSpan_cons, add_assoc], hi⟩

theorem LaidAt.start_le {ws : List GateWindow} {start stop i : Int} {x : QueueSet}
    (h : LaidAt ws start stop i x) : start ≤ i := by
  obtain ⟨w, v, -, -, rfl, -⟩ := h
  have := windowsSpan_nonneg ws w
  omega

theorem LaidAt.lt_stop {ws : List GateWindow} {start stop i : Int} {x : QueueSet}
    (h : LaidAt ws start stop i x) : i < stop := by
  obtain ⟨w, v, -, -, -, hi⟩ := h
  exact hi

theorem mem_layWindows (ws : List GateWindow) (start stop i : Int) (x : QueueSet) :
    (i, x) ∈ layWindows ws start stop ↔ LaidAt ws start stop i x := by
  induction ws generalizing start with
  | nil =>
    constructor
    · intro h; cases h
    · rintro ⟨w, v, h, -⟩; cases h
  | cons v ws ih =>
    rw [laidAt_cons, ← ih, layWindows]
    by_cases h : start < stop
    · rw [if_pos h, List.mem_cons, Prod.mk.injEq]
      simp only [h, and_true]
    · rw [if_neg h, ih]
      constructor
      · intro hm; cases hm
      · rintro (⟨-, -, hlt⟩ | hl)
        · exact absurd hlt h
        · have h1 := hl.start_le
          have h2 := hl.lt_stop
          omega

theorem layWindows_sorted (ws : List GateWindow) (start stop : Int) :
    (layWindows ws start stop).Pairwise fun a b => a.1 ≤ b.1 := by
  induction ws generalizing start with
  | nil => exact List.Pairwise.nil
  | cons v ws ih =>
    unfold layWindows
    split
    · refine List.pairwise_cons.mpr ⟨fun b hb => ?_, ih _⟩
      have := ((mem_layWindows ..).mp hb).start_le
      dsimp only
      omega
    · exact List.Pairwise.nil

/-! ## A list of the windows to come -/

/-- A list of windows in the order of their instants stands for all the windows `W` to come: each is one
of them, and whatever opens at one of them opens in the list no later. -/
structure ReadsAhead (L : List (Int × QueueSet)) (W : Int → QueueSet → Prop) : Prop where
  sorted : L.Pairwise fun a b => a.1 ≤ b.1
  sound : ∀ i x, (i, x) ∈ L → W i x
  covers : ∀ i x, W i x → ∃ j, j ≤ i ∧ (j, x) ∈ L

namespace ReadsAhead

variable {L M : List (Int × QueueSet)} {W V : Int → QueueSet → Prop}

theorem congr (h : ReadsAhead L W) (e : ∀ i x, W i x ↔ V i x) : ReadsAhead L V :=
  ⟨h.sorted, fun i x m => (e i x).mp (h.sound i x m), fun i x v => h.covers i x ((e i x).mpr v)⟩

theorem nil : ReadsAhead [] fun _ _ => False where
  sorted := .nil
  sound _ _ h := absurd h List.not_mem_nil
  covers _ _ h := h.elim

/-- Windows before an instant, and then windows from it on. -/
theorem append (t : Int) (h : ReadsAhead L W) (k : ReadsAhead M V) (hL : ∀ i x, (i, x) ∈ L → i < t)
    (hM : ∀ i x, (i, x) ∈ M → t ≤ i) : ReadsAhead (L ++ M) fun i x => W i x ∨ V i x where
  sorted := List.pairwise_append.mpr ⟨h.sorted, k.sorted, fun a ha b hb => by
    have h1 := hL _ _ ha
    have h2 := hM _ _ hb
    omega⟩
  sound i x m := (List.mem_append.mp m).imp (h.sound i x) (k.sound i x)
  covers i x := by
    rintro (w | v)
    · obtain ⟨j, hj, m⟩ := h.covers i x w
      exact ⟨j, hj, List.mem_append_left _ m⟩
    · obtain ⟨j, hj, m⟩ := k.covers i x v
      exact ⟨j, hj, List.mem_append_right _ m⟩

/-- The windows before an instant. -/
theorem before (t : Int) (h : ReadsAhead L W) :
    ReadsAhead (L.filter fun w => decide (w.1 < t)) fun i x => W i x ∧ i < t where
  sorted := h.sorted.filter _
  sound i x m := by
    obtain ⟨m, hi⟩ := List.mem_filter.mp m
    exact ⟨h.sound i x m, of_decide_eq_true hi⟩
  covers i x := by
    rintro ⟨w, hi⟩
    obtain ⟨j, hj, m⟩ := h.covers i x w
    exact ⟨j, hj, List.mem_filter.mpr ⟨m, decide_eq_true (lt_of_le_of_lt hj hi)⟩⟩

theorem laid (ws : List GateWindow) (start stop : Int) :
    ReadsAhead (layWindows ws start stop) (LaidAt ws start stop) :=
  ⟨layWindows_sorted ws start stop, fun i x => (mem_layWindows ws start stop i x).mp,
    fun i x h => ⟨i, le_rfl, (mem_layWindows ws start stop i x).mpr h⟩⟩

/-- One cycle of a list stands for all that follow it, which repeat it (R66). -/
theorem cycle (l : GateList) (k : Int) :
    ReadsAhead (layWindows l.windows (l.boundary k) (l.boundary (k + 1))) (l.beginsFrom k) := by
  refine ⟨layWindows_sorted .., fun i x m => ?_, fun i x h => ?_⟩
  · obtain ⟨w, v, hw, hx, hi, hlt⟩ := (mem_layWindows ..).mp m
    exact ⟨k, w, v, le_rfl, hw, hx, hi, hlt⟩
  · obtain ⟨j, w, v, hj, hw, hx, hi, hlt⟩ := h
    have hback : 0 ≤ (j - k) * (l.cycle : Int) := by
      have : (0 : Int) ≤ l.cycle := Int.natCast_nonneg _
      exact mul_nonneg (by omega) this
    refine ⟨i - (j - k) * l.cycle, by omega, (mem_layWindows ..).mpr ⟨w, v, hw, hx, ?_, ?_⟩⟩
    · rw [hi]
      unfold GateList.boundary GateList.windowOffset windowsSpan
      ring
    · unfold GateList.boundary
      have e : l.base.toNs + (j + 1) * (l.cycle : Int) =
        l.base.toNs + (k + 1) * l.cycle + (j - k) * l.cycle := by ring
      omega

end ReadsAhead

/-! ## The windows ahead of a gate engine (R66, R72) -/

/-- A window of what is left of the cycle in progress, counted from window 0 (R66). -/
theorem laidAt_rest (l : GateList) (n : Nat) (start stop i : Int) (x : QueueSet) :
    LaidAt (l.windows.drop (n + 1)) (start + l.windowOffset (n + 1)) stop i x ↔
      ∃ (w : Nat) (v : GateWindow), n < w ∧ l.windows[w]? = some v ∧ x = v.openSet ∧
        i = start + l.windowOffset w ∧ i < stop := by
  constructor
  · rintro ⟨w, v, hw, hx, hi, hlt⟩
    rw [List.getElem?_drop] at hw
    exact ⟨n + 1 + w, v, by omega, hw, hx, by rw [hi, windowOffset_add l (n + 1), add_assoc], hlt⟩
  · rintro ⟨w, v, hn, hw, hx, hi, hlt⟩
    obtain ⟨k, rfl⟩ := Nat.exists_eq_add_of_lt hn
    rw [Nat.add_right_comm] at hw hi
    exact ⟨k, v, by rw [List.getElem?_drop]; exact hw, hx,
      by rw [hi, windowOffset_add l (n + 1), add_assoc], hlt⟩

/-- The rest of the cycle in progress and one cycle more stand for all the windows ahead. -/
theorem Gate.ahead_readsAhead (g : Gate) : ReadsAhead g.ahead g.beginsAhead := by
  unfold Gate.ahead
  cases hm : g.mode with
  | opened => exact ReadsAhead.nil.congr fun i x => by simp only [Gate.beginsAhead, hm]
  | running =>
    cases ha : g.active with
    | none => exact ReadsAhead.nil.congr fun i x => by simp only [Gate.beginsAhead, hm, ha]
    | some l =>
      have hrest := ReadsAhead.laid (l.windows.drop (g.windowIndex + 1))
        (g.cycleStart + l.windowOffset (g.windowIndex + 1)) (l.boundary (g.cycleIndex + 1))
      have hnext := ReadsAhead.cycle l (g.cycleIndex + 1)
      rw [add_assoc] at hnext
      refine (hrest.append (l.boundary (g.cycleIndex + 1)) hnext
        (fun i x m => ((mem_layWindows ..).mp m).lt_stop)
        (fun i x m => ((mem_layWindows ..).mp m).start_le)).congr fun i x => ?_
      simp only [Gate.beginsAhead, hm, ha, laidAt_rest]
      rfl
  | resync =>
    cases ha : g.active with
    | none => exact ReadsAhead.nil.congr fun i x => by simp only [Gate.beginsAhead, hm, ha]
    | some l =>
      exact (ReadsAhead.cycle l g.target).congr fun i x => by simp only [Gate.beginsAhead, hm, ha]

/-- The windows of a list that takes over at `t`: those laid from `t` up to its first boundary later than
`t`, and from there on its own (R72). -/
def GateList.takesOver (l : GateList) (t i : Int) (x : QueueSet) : Prop :=
  LaidAt l.windows t (l.boundary (l.indexAfter t)) i x ∨ l.beginsFrom (l.indexAfter t) i x

theorem aheadFrom_readsAhead (l : GateList) (t : Int) :
    ReadsAhead (aheadFrom l t) (l.takesOver t) :=
  (ReadsAhead.laid ..).append (l.boundary (l.indexAfter t)) (.cycle l _)
    (fun _ _ m => ((mem_layWindows ..).mp m).lt_stop)
    (fun _ _ m => ((mem_layWindows ..).mp m).start_le)

theorem le_of_mem_aheadFrom {l : GateList} {t i : Int} {x : QueueSet} (hl : 0 < l.cycle)
    (h : (i, x) ∈ aheadFrom l t) : t ≤ i := by
  have hlater := (l.indexAfter_le_iff t _ hl).mp le_rfl
  rcases List.mem_append.mp h with h | h
  · exact ((mem_layWindows ..).mp h).start_le
  · have := ((mem_layWindows ..).mp h).start_le
    omega

/-- The first boundary of a list later than an instant is the one whose predecessor is not. -/
theorem GateList.indexAfter_eq_iff {l : GateList} (t k : Int) (hl : 0 < l.cycle) :
    k = l.indexAfter t ↔ t < l.boundary k ∧ l.boundary (k - 1) ≤ t := by
  have h1 := l.indexAfter_le_iff t k hl
  have h2 := l.indexAfter_le_iff t (k - 1) hl
  omega

/-- Every window to come of a gate engine, as the list that its closing instants are read from. -/
def Gate.timeline (g : Gate) : List (Int × QueueSet) :=
  match g.switchAt, g.loaded with
  | some t, some l => g.ahead.filter (fun w => decide (w.1 < t)) ++ aheadFrom l t
  | _, _ => g.ahead

theorem Gate.closing_eq (g : Gate) (q : QueueId) :
    g.closing q = (g.timeline.find? fun w => !w.2.getLsbD q.val).map Prod.fst := rfl

theorem Gate.willBegin_takesOver {g : Gate} {t : Int} {l : GateList} (ht : g.switchAt = some t)
    (hl : g.loaded = some l) (hc : 0 < l.cycle) (i : Int) (x : QueueSet) :
    g.willBegin i x ↔ g.beginsAhead i x ∧ i < t ∨ l.takesOver t i x := by
  have hk := fun k => l.indexAfter_eq_iff t k hc
  simp only [Gate.willBegin, ht, hl]
  refine or_congr_right ⟨?_, fun h => ?_⟩
  · rintro ⟨k, hlt, hle, h⟩
    obtain rfl := (hk k).mpr ⟨hlt, hle⟩
    exact h
  · obtain ⟨hlt, hle⟩ := (hk _).mp rfl
    exact ⟨_, hlt, hle, h⟩

theorem Gate.timeline_readsAhead {g : Gate} (hc : ∀ l, g.loaded = some l → 0 < l.cycle) :
    ReadsAhead g.timeline g.willBegin := by
  unfold Gate.timeline
  cases ht : g.switchAt with
  | none =>
    exact g.ahead_readsAhead.congr fun i x => by simp only [Gate.willBegin, ht]
  | some t =>
    cases hl : g.loaded with
    | none => exact g.ahead_readsAhead.congr fun i x => by simp only [Gate.willBegin, ht, hl]
    | some l =>
      exact ((g.ahead_readsAhead.before t).append t (aheadFrom_readsAhead l t)
        (fun i x m => of_decide_eq_true (List.mem_filter.mp m).2)
        (fun i x m => le_of_mem_aheadFrom (hc l hl) m)).congr fun i x =>
          (Gate.willBegin_takesOver ht hl (hc l hl) i x).symm

/-! ## The closing instant (R73) -/

namespace ReadsAhead

variable {L : List (Int × QueueSet)} {W : Int → QueueSet → Prop} (h : ReadsAhead L W) (q : QueueId)
include h

/-- The first window of the list that does not hold a queue is no later than any to come. -/
theorem first_closed {a : Int × QueueSet} (ha : L.find? (fun w => !w.2.getLsbD q.val) = some a) :
    W a.1 a.2 ∧ a.2.getLsbD q.val = false ∧
      ∀ i x, W i x → i < a.1 → x.getLsbD q.val = true := by
  obtain ⟨hq, M, N, hL, hM⟩ := List.find?_eq_some_iff_append.mp ha
  refine ⟨h.sound _ _ (List.mem_of_find?_eq_some ha), by simpa using hq, fun i x hw hi => ?_⟩
  obtain ⟨j, hj, m⟩ := h.covers i x hw
  have hs := h.sorted
  rw [hL] at m hs
  obtain ⟨-, hN, -⟩ := List.pairwise_append.mp hs
  rcases List.mem_append.mp m with m | m
  · simpa using hM _ m
  · rcases List.mem_cons.mp m with rfl | m
    · exact absurd hj (not_le.mpr hi)
    · have := (List.pairwise_cons.mp hN).1 _ m
      dsimp only at this
      omega

theorem none_closed : L.find? (fun w => !w.2.getLsbD q.val) = none ↔
    ∀ i x, W i x → x.getLsbD q.val = true := by
  rw [List.find?_eq_none]
  constructor
  · intro hL i x hw
    obtain ⟨j, -, m⟩ := h.covers i x hw
    simpa using hL _ m
  · intro hW a m
    simpa using hW a.1 a.2 (h.sound _ _ m)

/-- The closing instant is the first one at which a window that does not hold the queue begins. -/
theorem closing_iff (c : Int) :
    (L.find? fun w => !w.2.getLsbD q.val).map Prod.fst = some c ↔
      (∃ x, W c x ∧ x.getLsbD q.val = false) ∧ ∀ i x, W i x → i < c → x.getLsbD q.val = true := by
  constructor
  · intro hf
    obtain ⟨a, ha, rfl⟩ := Option.map_eq_some_iff.mp hf
    obtain ⟨hw, hq, hmin⟩ := h.first_closed q ha
    exact ⟨⟨a.2, hw, hq⟩, hmin⟩
  · rintro ⟨⟨x, hw, hq⟩, hmin⟩
    cases ha : L.find? fun w => !w.2.getLsbD q.val with
    | none => rw [(h.none_closed q).mp ha c x hw] at hq; cases hq
    | some a =>
      obtain ⟨hw', hq', hmin'⟩ := h.first_closed q ha
      refine congrArg some (le_antisymm (not_lt.mp fun hlt => ?_) (not_lt.mp fun hlt => ?_))
      · rw [hmin' c x hw hlt] at hq; cases hq
      · rw [hmin a.1 a.2 hw' hlt] at hq'; cases hq'

end ReadsAhead

theorem Gate.closing_eq_some_iff {g : Gate} (hc : ∀ l, g.loaded = some l → 0 < l.cycle) (q : QueueId)
    (c : Int) : g.closing q = some c ↔ (∃ x, g.willBegin c x ∧ x.getLsbD q.val = false) ∧
      ∀ i x, g.willBegin i x → i < c → x.getLsbD q.val = true := by
  rw [g.closing_eq]
  exact (Gate.timeline_readsAhead hc).closing_iff q c

theorem Gate.closing_eq_none_iff {g : Gate} (hc : ∀ l, g.loaded = some l → 0 < l.cycle)
    (q : QueueId) : g.closing q = none ↔ ∀ i x, g.willBegin i x → x.getLsbD q.val = true := by
  rw [g.closing_eq, Option.map_eq_none_iff]
  exact (Gate.timeline_readsAhead hc).none_closed q

/-! ## Hall time near the boundary to come (R42, R48) -/

/-- Seconds that differ, but for wraps, by at most a quarter of the wrap read as that difference. -/
theorem secDiff_near {a b : Nat} {d m : Int} (h : (a : Int) - b = d + m * secWrap)
    (h1 : -2 ^ 46 - 1 ≤ d) (h2 : d ≤ 2 ^ 46 + 1) : secDiff a b = d := by
  have e : ((a : Int) - b).emod secWrap = d.emod secWrap := by
    rw [h]
    exact Int.add_mul_emod_self_right ..
  unfold secDiff
  rw [e]
  change (if d % secWrap < secWrap / 2 then d % secWrap else d % secWrap - secWrap) = d
  unfold secWrap
  norm_num at h1 h2 ⊢
  split <;> omega

/-- Within 2^46 s of an instant, hall time less it is their difference on one scale. -/
theorem diff_ofNs_near {t : HallTime} {n : Int} (ht : t.wf = true)
    (h : ((t.units : Int) - n * 4294967296).natAbs < 2 ^ 46 * 1000000000 * 4294967296) :
    HallTime.diff t (HallTime.ofNs n) = t.units - n * 4294967296 := by
  obtain ⟨⟨hsec, hns⟩, hfrac⟩ : (t.sec < secWrap ∧ t.ns < nsPerSec) ∧ t.frac < fracPerNs := by
    simpa only [HallTime.wf, Bool.and_eq_true, decide_eq_true_eq] using ht
  have hofNs : HallTime.ofNs n =
      { sec := (n % nsWrap).toNat / nsPerSec, ns := (n % nsWrap).toNat % nsPerSec, frac := 0 } := by
    simp only [HallTime.ofNs, HallTime.stepBy, Nat.zero_mul, Nat.cast_zero, zero_add]
    rfl
  have hwrap := Int.emod_add_mul_ediv n nsWrap
  have hpos := Int.emod_nonneg n (b := nsWrap) (by decide)
  have hlt := Int.emod_lt_of_pos n (b := nsWrap) (by decide)
  rw [hofNs]
  generalize n % (nsWrap : Int) = k at hwrap hpos hlt ⊢
  generalize n / (nsWrap : Int) = m at hwrap
  obtain ⟨k, rfl⟩ := Int.eq_ofNat_of_zero_le hpos
  simp only [HallTime.units, nsWrap, nsPerSec, secWrap, fracPerNs, Int.toNat_natCast] at *
  norm_num at h hwrap hlt
  have hd : secDiff t.sec (k / 1000000000) = t.sec - k / 1000000000 - m * 281474976710656 :=
    secDiff_near (m := m) (by unfold secWrap; omega) (by omega) (by omega)
  simp only [HallTime.diff, nsPerSec, fracPerNs, hd]
  omega

theorem Gate.nowUnits_near {g : Gate} {now : HallTime} (hw : now.wf = true)
    (h : ((now.units : Int) - g.nextBoundary * 4294967296).natAbs <
      2 ^ 46 * 1000000000 * 4294967296) : g.nowUnits now = now.units := by
  rw [Gate.nowUnits, diff_ofNs_near hw h, fracPerNs]
  omega

/-- A frame fits when hall time and its wire time together are not later than the closing instant. -/
theorem Gate.fits_near {g : Gate} {q : QueueId} {c : Int} {now : HallTime} (p : PortId) (n : Nat)
    (hc : g.closing q = some c) (hw : now.wf = true)
    (h : ((now.units : Int) - g.nextBoundary * 4294967296).natAbs <
      2 ^ 46 * 1000000000 * 4294967296) :
    g.fits p q n now = true ↔ (now.units : Int) +
      ((8 + n) * (if p.val < 10 then 8 else 80) : Nat) * 4294967296 ≤ c * 4294967296 := by
  rw [fits_iff g p q n now c hc, Gate.nowUnits_near hw h]
  rfl

end Sys2Proof.Machine
end


section
/-! The statement: what an idle transmitter takes, and what it reads of its gates (R36, R37, R62, R66,
R73 to R76, R79 to R81). -/

namespace Sys2Proof.Machine

/-! ## The highest head that may start -/

/-- The head of the highest queue whose head may start. -/
structure HighestHead (s : State) (p : PortId) (q : QueueId) (x : QEntry) (rest : List QEntry) :
    Prop where
  head : s.egress[p].queues[q] = x :: rest
  start : s.mayStart p q x
  above : ∀ q' : QueueId, q < q' → ¬s.queueReady p q'

namespace HighestHead

variable {s : State} {p : PortId} {q : QueueId} {x : QEntry} {rest : List QEntry}

/-- Below the express queues, nothing is ready that goes before the preemptable ones. -/
theorem nothing_above (h : HighestHead s p q x rest) (hq : q.val < 2) : s.readyAbove p = none := by
  have h2 : q < 2 := hq
  exact readyAbove_eq_none (h.above 3 (h2.trans (by decide))) (h.above 2 h2)
    (readyRemainder_of_mayStart h.start hq)

theorem picked (h : HighestHead s p q x rest) : s.pick p = some (.head q x) := by
  rw [pick_eq]
  by_cases hq : 2 ≤ q.val
  · rw [readyAbove_express hq h.head h.start h.above]
    rfl
  · have hq : q.val < 2 := Nat.not_le.mp hq
    rw [h.nothing_above hq]
    obtain rfl | rfl := preemptable_cases hq
    · rw [readyHead_eq_none (h.above 1 (by decide)), readyHead_of_head h.head h.start]
      rfl
    · rw [readyHead_of_head h.head h.start]
      rfl

/-- A choice of it holds nothing back, but for the head of Q1 above that of Q0. -/
theorem holds_nothing (h : HighestHead s p q x rest) (hn : q ≠ 0 ∨ s.heldBack p 1 = false) :
    countHolds p s = s := by
  by_cases hq : 2 ≤ q.val
  · exact countHolds_above (by rw [readyAbove_express hq h.head h.start h.above]; rfl)
  · have hq : q.val < 2 := Nat.not_le.mp hq
    obtain rfl | rfl := preemptable_cases hq
    · have h0 := heldBack_of_ready (queueReady_of_head h.head h.start) hq
      have h1 := hn.resolve_left (not_not_intro rfl)
      rw [countHolds_held (h.nothing_above hq) (h.above 1 (by decide))]
      simp [h0, h1]
    · exact countHolds_ready (h.nothing_above hq) h.head h.start

theorem holds_first (h : HighestHead s p 0 x rest) (h1 : s.heldBack p 1 = true) :
    countHolds p s = holdHead p 1 s := by
  have h0 := heldBack_of_ready (queueReady_of_head h.head h.start) (by decide)
  rw [countHolds_held (h.nothing_above (by decide)) (h.above 1 (by decide))]
  simp [h0, h1]

/-- It is still the highest once the head of a queue above it is counted. -/
theorem after_holdHead (h : HighestHead s p q x rest) {k : QueueId} (hk : q ≠ k) :
    HighestHead (holdHead p k s) p q x rest where
  head := by
    rw [holdHead, bump_egress, markHeld_queues, if_neg (by simpa using hk), h.head]
  start := ((SameQueues.bump ..).mayStart_iff p q x).mpr ((markHeld_mayStart s p [k] q x).mpr h.start)
  above q' hq' hr := h.above q' hq' ((holdHead_queueReady s p k q').mp hr)

/-- It starts, as it is or with its octets written anew. -/
theorem starts {t : State} (hc : countHolds p s = t) (h : HighestHead t p q x rest)
    {octets : Octets}
    (hd : relayDrop (t.kindOf x.frame) (t.clock.delay.getD 0) (t.transmitTime p) = none)
    (hsent : sentOctets (t.kindOf x.frame) (t.clock.delay.getD 0) (t.transmitTime p)
      (t.mem.octetsOf x.frame) = octets) :
    chooseNext p s = t.modEgress p fun e =>
      { e with queues := e.queues.set q rest, tx := some (t.headPiece p q x octets) } := by
  obtain ⟨ho, -, -⟩ := h.start
  rw [chooseNext, chooseLoop_head hc _ h.picked hd, startHead_eq h.head ho hsent]

end HighestHead

/-! ## What a mark leaves of a start -/

theorem markHead_eq_nil_iff (l : List QEntry) : markHead l = [] ↔ l = [] := by
  cases l <;> simp [markHead]

theorem markHeld_headPiece (s : State) (p : PortId) (l : List QueueId) (q : QueueId) (x : QEntry)
    (octets : Octets) : (s.markHeld p l).headPiece p q x octets = s.headPiece p q x octets := by
  have hn (k : QueueId) : (s.markHeld p l).egress[p].queues[k] ≠ [] ↔ s.egress[p].queues[k] ≠ [] := by
    rw [markHeld_queues]
    split
    · exact not_congr (markHead_eq_nil_iff _)
    · rfl
  have hcut : (s.markHeld p l).cutFromStart p octets.length = s.cutFromStart p octets.length := by
    simp only [State.cutFromStart, hn]
    rfl
  unfold State.headPiece
  rw [hcut]
  rfl

theorem SameQueues.headPiece {s t : State} (h : SameQueues s t) (p : PortId) (q : QueueId) (x : QEntry)
    (octets : Octets) : t.headPiece p q x octets = s.headPiece p q x octets := by
  unfold State.headPiece State.cutFromStart
  rw [h.ports, h.clock, h.egress, h.gates]

/-- A mark at the head of another queue may come before or after a start. -/
theorem markHeld_takes (s : State) (p : PortId) {q k : QueueId} (hk : q ≠ k) (rest : List QEntry)
    (t : Tx) :
    (s.modEgress p fun e => { e with queues := e.queues.set q rest, tx := some t }).markHeld p [k] =
      (s.markHeld p [k]).modEgress p fun e =>
        { e with queues := e.queues.set q rest, tx := some t } := by
  simp only [markHeld_eq, State.modEgress_modEgress]
  apply State.modEgress_congr
  congr 1
  ext i hi : 1
  simp only [Vector.getElem_ofFn, Vector.getElem_set, Fin.getElem_fin, List.mem_singleton]
  by_cases hq : q.val = i
  · subst hq
    simp [hk]
  · simp [hq]

/-! ## An item is taken -/

section
variable {s : State} {p : PortId} (hl : s.ports[p].link = true) (ht : s.egress[p].tx = none)
  (hi : s.egress[p].idleUntil ≤ s.clock.ticks)
include hl ht hi

/-- A frame that is no relayed copy starts as it is (R36, R79). -/
theorem exec_takes_head {q : QueueId} {x : QEntry} {rest : List QEntry}
    (h : HighestHead s p q x rest)
    (hk : ∀ recv carried void, s.kindOf x.frame ≠ .relayed recv carried void)
    (hn : q ≠ 0 ∨ s.heldBack p 1 = false) :
    exec (.transmitterChoice p) s = .next (s.modEgress p fun e =>
      { e with queues := e.queues.set q rest
               tx := some (s.headPiece p q x (s.mem.octetsOf x.frame)) }) := by
  obtain ⟨hd, hsent⟩ := unrelayed hk (s.clock.delay.getD 0) (s.transmitTime p) (s.mem.octetsOf x.frame)
  rw [exec_transmitterChoice hl ht hi, h.starts (h.holds_nothing hn) hd hsent]

/-- The head of Q0 starts below a head of Q1 that is held back and is counted so (R75; log 55). -/
theorem takes_zero_completes {x : QEntry} {rest : List QEntry} (h : HighestHead s p 0 x rest)
    (hk : ∀ recv carried void, s.kindOf x.frame ≠ .relayed recv carried void)
    (h1 : s.heldBack p 1 = true) :
    Completes (.transmitterChoice p) s
      ((s.modEgress p fun e =>
        { e with queues := e.queues.set (0 : QueueId) rest
                 tx := some (s.headPiece p 0 x (s.mem.octetsOf x.frame)) }).markHeld p [1])
      [.port p .holds] [] := by
  have hq := SameQueues.bump (.port p .holds) (s.markHeld p [1])
  have hu : (holdHead p 1 s).uncounted = (s.markHeld p [1]).uncounted := bump_uncounted ..
  have he : Effects s (holdHead p 1 s) s.clock.hall.base [.port p .holds] [] :=
    forEach_holdHead_effects p [1] s _
  have hh : HighestHead (holdHead p 1 s) p 0 x rest := h.after_holdHead (by decide)
  have hmem : (holdHead p 1 s).mem = s.mem := hq.mem
  have hpiece := fun o => (hq.headPiece p 0 x o).trans (markHeld_headPiece s p [1] 0 x o)
  have hc := h.holds_first h1
  rw [← holdHead] at hpiece
  generalize holdHead p 1 s = t at hu he hh hmem hpiece hc
  obtain ⟨hd, hsent⟩ := unrelayed (k := t.kindOf x.frame) (by rw [State.kindOf, hmem]; exact hk)
    (t.clock.delay.getD 0) (t.transmitTime p) (t.mem.octetsOf x.frame)
  have hx := hh.starts hc hd hsent
  rw [hpiece, hmem] at hx
  refine ⟨_, (exec_transmitterChoice hl ht hi).trans (congrArg _ hx), ?_, he.congr rfl rfl⟩
  rw [markHeld_takes s p (by decide)]
  exact modEgress_uncounted hu p _

/-- A held remainder goes on (R81). -/
theorem exec_takes_remainder {r : Remainder} (hr : s.egress[p].remainder = some r)
    (ho : s.gates[p].isOpen r.queue = true) (h3 : ¬s.queueReady p 3) (h2 : ¬s.queueReady p 2) :
    exec (.transmitterChoice p) s = .next (startRemainder p r s) := by
  have ha := readyAbove_remainder h3 h2 hr ho
  have hc : countHolds p s = s := countHolds_above (by rw [ha]; rfl)
  have hp : s.pick p = some (.remainder r) := by rw [pick_eq, ha]; rfl
  rw [exec_transmitterChoice hl ht hi, chooseNext, chooseLoop_remainder hc _ hp]

/-- With nothing that may start nothing is taken, and the heads held back are counted (R37, R75). -/
theorem nothing_completes
    (hr : ∀ r, s.egress[p].remainder = some r → s.gates[p].isOpen r.queue = false)
    (hq : ∀ q : QueueId, ¬s.queueReady p q) :
    Completes (.transmitterChoice p) s (s.markHeld p ([(1 : QueueId), 0].filter (s.heldBack p)))
      (([(1 : QueueId), 0].filter (s.heldBack p)).map fun _ => .port p .holds) [] := by
  have ha := readyAbove_eq_none (hq 3) (hq 2) (readyRemainder_eq_none hr)
  have hc := countHolds_held ha (hq 1)
  generalize [(1 : QueueId), 0].filter (s.heldBack p) = held at hc ⊢
  have hu := (forEach_holdHead_uncounted p held s).symm
  have he := forEach_holdHead_effects p held s s.clock.hall.base
  generalize forEach held (holdHead p) s = t at hc hu he
  have hready (q : QueueId) : ¬t.queueReady p q := fun h =>
    hq q ((markHeld_queueReady s p held q).mp (((SameQueues.of_uncounted hu.symm).queueReady_iff p q).mp h))
  have hremainder : t.readyRemainder p = none := by
    refine readyRemainder_eq_none fun r h => ?_
    have hs := SameQueues.of_uncounted hu.symm
    rw [hs.egress, markHeld_egress] at h
    rw [hs.gates]
    exact hr r h
  have hp : t.pick p = none := by
    rw [pick_eq, readyAbove_eq_none (hready 3) (hready 2) hremainder, readyHead_eq_none (hready 1),
      readyHead_eq_none (hready 0)]
    rfl
  exact ⟨t, by rw [exec_transmitterChoice hl ht hi, chooseNext, chooseLoop_nothing hc _ hp], hu.symm, he⟩

/-! ## A relayed copy is next (R62) -/

section
variable {x : QEntry} {rest : List QEntry} {recv : HallTime} {carried : Nat} {void : Bool}
  {delay : Int} (h : HighestHead s p 2 x rest)
  (hk : s.kindOf x.frame = .relayed recv carried void)
  (hdelay : delay = newCarried carried recv (s.transmitTime p) (s.clock.delay.getD 0))
include h hk hdelay

theorem exec_drops_relayed (hdrop : void = true ∨ 65536000000000 < delay) :
    exec (.transmitterChoice p) s = exec (.transmitterChoice p)
      (bump (.clock (if void then .relayDropsStep else .relayDropsDelay))
        ((s.modEgress p fun e => { e with queues := e.queues.set 2 rest }).release x.frame)) := by
  have hd : relayDrop (s.kindOf x.frame) (s.clock.delay.getD 0) (s.transmitTime p) =
      some (if void then .relayDropsStep else .relayDropsDelay) := by
    rw [hk]
    cases void with
    | true => rfl
    | false =>
      have hlong := hdrop.resolve_left Bool.false_ne_true
      rw [hdelay] at hlong
      exact if_pos hlong
  have hrest : dropHead p 2 s = s.modEgress p fun e => { e with queues := e.queues.set 2 rest } :=
    State.modEgress_congr (by rw [upd, h.head]; rfl)
  have hlen : s.egress[p].queues[(2 : QueueId)].length = rest.length + 1 := by rw [h.head]; rfl
  rw [exec_transmitterChoice hl ht hi, chooseNext, hlen,
    chooseLoop_dropped (h.holds_nothing (.inl (by decide))) _ h.picked hd, hrest]
  generalize hv : (s.modEgress p fun e => { e with queues := e.queues.set 2 rest }).release x.frame = v
  have hports : v.ports = s.ports := by rw [← hv]; rfl
  have hclock : v.clock = s.clock := by rw [← hv]; rfl
  have hegress : v.egress[p] = { s.egress[p] with queues := s.egress[p].queues.set 2 rest } := by
    rw [← hv, State.release_egress, State.modEgress_get]
  have hset : (s.egress[p].queues.set 2 rest)[(2 : QueueId)] = rest := Vector.getElem_set_self ..
  rw [exec_transmitterChoice (by rw [bump_ports, hports, hl]) (by rw [bump_egress, hegress, ht])
    (by rw [bump_egress, bump_clock, hegress, hclock]; exact hi), chooseNext, bump_egress, hegress, hset]

theorem exec_sends_relayed (hv : void = false) (hle : delay ≤ 65536000000000) :
    exec (.transmitterChoice p) s = .next (s.modEgress p fun e =>
      { e with queues := e.queues.set 2 rest
               tx := some (s.headPiece p 2 x (rewriteAt (s.mem.octetsOf x.frame) 12
                 (beBytes 8 delay.toNat))) }) := by
  have hd : relayDrop (s.kindOf x.frame) (s.clock.delay.getD 0) (s.transmitTime p) = none := by
    rw [hk, hv]
    rw [hdelay] at hle
    exact if_neg (not_lt.mpr hle)
  have hsent : sentOctets (s.kindOf x.frame) (s.clock.delay.getD 0) (s.transmitTime p)
      (s.mem.octetsOf x.frame) = rewriteAt (s.mem.octetsOf x.frame) 12 (beBytes 8 delay.toNat) := by
    rw [hk, hdelay]
    rfl
  rw [exec_transmitterChoice hl ht hi, h.starts (h.holds_nothing (.inl (by decide))) hd hsent]
  rfl

end

end

/-- Settles O35: the clauses by what the choice takes, and then those of the gate, its closing instant
and the frames that fit. -/
theorem transmitterTakesHighest : Obligations.TransmitterTakesHighest := by
  refine ⟨fun p s hl ht hi => ⟨fun q x rest u hx hm habove hk hu => ?_,
    fun r hr ho h3 h2 => ?_, fun held hheld hr hq => ?_,
    fun x rest recv carried void delay h3 hx hm hk hdelay => ?_⟩,
    fun g q => ⟨g.isOpen_opened q, g.isOpen_resync q, fun l w => Gate.isOpen_running q,
      fun hc => ?_, fun p n now => ⟨fits_of_open g p q n now, fun c => Gate.fits_near p n⟩⟩⟩
  · subst hu
    have h : HighestHead s p q x rest := ⟨hx, hm, habove⟩
    refine ⟨exec_takes_head hl ht hi h hk, fun h0 h1 => ?_⟩
    subst h0
    exact takes_zero_completes hl ht hi h hk h1
  · rw [exec_takes_remainder hl ht hi hr ho h3 h2, startRemainder_eq ho]
  · subst hheld
    exact nothing_completes hl ht hi hr hq
  · have h : HighestHead s p 2 x rest := ⟨hx, hm, fun q' hq' => by
      obtain rfl : q' = 3 := by revert q'; decide
      exact h3⟩
    exact ⟨exec_drops_relayed hl ht hi h hk hdelay, fun hv _ => exec_sends_relayed hl ht hi h hk hdelay hv⟩
  · have hc (l : GateList) (h : g.loaded = some l) : 0 < l.cycle := hc l (.inr h)
    exact ⟨Gate.closing_eq_some_iff hc q, Gate.closing_eq_none_iff hc q⟩

end Sys2Proof.Machine
end

section
/-! How the hall clock's servo takes an accepted mark within the step limit (R43, R50, R51, R61). -/

namespace Sys2Proof.Machine

/-! ## Rounding and clamping (R43, R50) -/

/-- Half the divisor added before a division that rounds down takes a tie upward. -/
theorem rounded_half_up {d : Nat} {x : Int} (hd : 0 < d) (hx : 0 ≤ x) :
    Rounded x d ((2 * x + d) / (2 * d)) := by
  have hd2 : (0 : Int) < 2 * d := by omega
  have hdiv := Int.mul_ediv_add_emod (2 * x + d) (2 * d)
  have hlow := Int.emod_nonneg (2 * x + d) hd2.ne'
  have hhigh := Int.emod_lt_of_pos (2 * x + d) hd2
  have hquot : 0 ≤ (2 * x + d) / (2 * d) := Int.ediv_nonneg (by omega) hd2.le
  generalize (2 * x + d) / (2 * d : Int) = q at *
  have habs : ((q.natAbs * d : Nat) : Int) = q * d := by
    rw [Nat.cast_mul, Int.natAbs_of_nonneg hquot]
  rw [mul_assoc, mul_comm (d : Int) q] at hdiv
  unfold Rounded
  omega

theorem Rounded.neg {x n : Int} {d : Nat} (h : Rounded x d n) : Rounded (-x) d (-n) := by
  have e : -x - -n * d = -(x - n * d) := by ring
  simpa only [Rounded, e, Int.natAbs_neg] using h

theorem roundHalfAway_rounded {d : Nat} (hd : 0 < d) (x : Int) : Rounded x d (roundHalfAway x d) := by
  unfold roundHalfAway
  split
  · exact rounded_half_up hd ‹_›
  · simpa only [neg_neg] using (rounded_half_up hd (x := -x) (by omega)).neg

theorem clampAbs_eq {m : Int} (hm : 0 ≤ m) (v : Int) : clampAbs m v = max (-m) (min m v) := by
  unfold clampAbs
  split
  · omega
  · split <;> omega

/-- Within the trim's limits the correction of R43 does not take the increment below 0. -/
theorem incrementOf_eq {trim : Int} (h : trim.natAbs ≤ 200000) :
    (incrementOf trim : Int) = 34359738368 + roundHalfAway (34359738368 * trim) 1000000000 := by
  have hr : Rounded (34359738368 * trim) 1000000000 (roundHalfAway (34359738368 * trim) 1000000000) :=
    roundHalfAway_rounded (by decide) _
  refine Int.toNat_of_nonneg (a := 34359738368 + roundHalfAway (34359738368 * trim) 1000000000) ?_
  unfold Rounded at hr
  omega

/-! ## The servo's move (R51) -/

section
variable {c : Clock} {offset : Int}

theorem servoMove_acquiring_within (hs : c.servo = .acquiring)
    (h : offset.natAbs ≤ c.cfg.lockThreshold) : servoMove c offset =
      (if c.goodMarks = 3 then .locked else .acquiring, c.goodMarks + 1) := by
  simp only [servoMove, hs, if_pos h, Nat.reduceEqDiff]
  split <;> rfl

theorem servoMove_acquiring_beyond (hs : c.servo = .acquiring)
    (h : c.cfg.lockThreshold < offset.natAbs) : servoMove c offset = (.acquiring, 0) := by
  simp only [servoMove, hs, if_neg h.not_ge]

theorem servoMove_locked_within (hs : c.servo = .locked)
    (h : offset.natAbs ≤ 4 * c.cfg.lockThreshold) : servoMove c offset = (.locked, c.goodMarks) := by
  simp only [servoMove, hs, if_pos h]

theorem servoMove_locked_beyond (hs : c.servo = .locked)
    (h : 4 * c.cfg.lockThreshold < offset.natAbs) : servoMove c offset = (.acquiring, 0) := by
  simp only [servoMove, hs, if_neg h.not_ge]

theorem servoMove_holdover (hs : c.servo = .holdover) : servoMove c offset = (.acquiring, 0) := by
  simp only [servoMove, hs]

/-- The servo locks at the fourth mark in a row within the lock threshold. -/
theorem servoMove_locks_iff : (servoMove c offset).1 = .locked ∧ c.servo = .acquiring ↔
    c.servo = .acquiring ∧ offset.natAbs ≤ c.cfg.lockThreshold ∧ c.goodMarks = 3 := by
  rw [and_comm]
  refine and_congr_right fun hs => ?_
  by_cases h : offset.natAbs ≤ c.cfg.lockThreshold
  · simp [servoMove_acquiring_within hs h, h]
  · simp [servoMove_acquiring_beyond hs (Nat.lt_of_not_le h), h]

end

/-! ## The servo update (R50, R51) -/

/-- The clock after the servo has taken an offset. -/
def Clock.trimmed (c : Clock) (offset : Int) : Clock :=
  { c with
    integral := (servoGains c offset).1, trim := (servoGains c offset).2
    increment := incrementOf (servoGains c offset).2
    servo := (servoMove c offset).1, goodMarks := (servoMove c offset).2 }

theorem servoGains_eq {c : Clock} {offset integral trim : Int}
    (hi : integral = max (-200000) (min 200000 (c.integral - Int.tdiv (offset * c.cfg.gi) 16)))
    (ht : trim = max (-200000) (min 200000 (integral - Int.tdiv (offset * c.cfg.gp) 16))) :
    servoGains c offset = (integral, trim) := by
  have hclamp (v : Int) : clampAbs Config.trimLimit v = max (-200000) (min 200000 v) :=
    clampAbs_eq (by decide) v
  simp only [servoGains, hclamp, hi, ht]

theorem servoUpdate_eq (offset : Int) (s : State) : servoUpdate offset s =
    if (servoMove s.clock offset).1 = .locked ∧ s.clock.servo = .acquiring then
      raise (.clockLocked offset.natAbs) (s.modClock (·.trimmed offset))
    else s.modClock (·.trimmed offset) := rfl

theorem servoUpdate_uncounted (offset : Int) (s : State) :
    (servoUpdate offset s).uncounted = (s.modClock (·.trimmed offset)).uncounted := by
  rw [servoUpdate_eq]
  split
  · exact raise_uncounted ..
  · rfl

theorem servoUpdate_clock (offset : Int) (s : State) :
    (servoUpdate offset s).clock = s.clock.trimmed offset :=
  (congrArg State.clock (servoUpdate_uncounted offset s) :)

theorem Effects.servoUpdate {s t : State} {now : BaseTime} {l : List CounterRef}
    (h : Effects s t now l []) (hnow : t.clock.hall.base = now) (offset : Int) :
    Effects s (Machine.servoUpdate offset t) now l
      (if t.clock.servo = .acquiring ∧ offset.natAbs ≤ t.clock.cfg.lockThreshold ∧
        t.clock.goodMarks = 3 then [.clockLocked offset.natAbs] else []) := by
  have htrim : Effects s (t.modClock (·.trimmed offset)) now l [] := h.congr rfl rfl
  rw [servoUpdate_eq]
  simp only [servoMove_locks_iff]
  split
  · exact htrim.raise _ hnow
  · exact htrim

/-! ## Relaying (R61) -/

theorem relayMark_unanswered (m : Mark) (recv : HallTime) (s : State) :
    (relayMark m recv s).unanswered = s.unanswered := by
  unfold relayMark
  split
  · rfl
  · exact buildFrame_unanswered ..

theorem relayMark_mgmt (m : Mark) (recv : HallTime) (s : State) :
    (relayMark m recv s).mgmt = s.mgmt := by
  unfold relayMark
  split
  · rfl
  · exact buildFrame_mgmt ..

/-! ## An accepted mark within the step limit (R47, R50) -/

theorem clock_of_unanswered {s t : State} (h : t.unanswered = s.unanswered) : t.clock = s.clock := by
  have e := congrArg State.clock h
  simpa only [State.unanswered, State.uncounted] using e

/-- The state in which a mark is accepted: it has left the list, is counted, and is the last one. -/
def State.accepting (s : State) (m : Mark) (rest : List Mark) : State :=
  (bump (.clock .marksAccepted) (s.modClock fun c => { c with marks := rest })).modClock fun c =>
    { c with lastMark := some m.recvRun }

section
variable {s : State} {m : Mark} {rest : List Mark}

theorem accepting_uncounted : (s.accepting m rest).uncounted =
    (s.modClock fun c => { c with marks := rest, lastMark := some m.recvRun }).uncounted :=
  modClock_uncounted (bump_uncounted ..) _

theorem accepting_clock : (s.accepting m rest).clock =
    { s.clock with marks := rest, lastMark := some m.recvRun } :=
  (congrArg State.clock accepting_uncounted :)

theorem accepting_effects : Effects s (s.accepting m rest) s.clock.hall.base
    [.clock .marksAccepted] [] :=
  ((Effects.start s (s.modClock fun c => { c with marks := rest }) s.clock.hall.base rfl rfl).bump
    (.clock .marksAccepted)).congr rfl rfl

theorem readMark_within {offset : Int} (hgood : m.malformed = false) (hepoch : m.epoch = s.clock.epoch)
    (hset : s.clock.servo ≠ .unset) (ho : offset = m.offset (s.clock.delay.getD 0))
    (hlimit : offset.natAbs ≤ s.clock.cfg.stepLimit) :
    readMark m (s.modClock fun c => { c with marks := rest }) =
      if s.clock.cfg.relay then relayMark m m.recvTime (servoUpdate offset (s.accepting m rest))
      else servoUpdate offset (s.accepting m rest) := by
  have hsteps : ¬(s.clock.servo = .unset ∨ s.clock.cfg.stepLimit < offset.natAbs) :=
    not_or.mpr ⟨hset, hlimit.not_gt⟩
  simp only [readMark, hgood, hepoch, State.modClock_clock, bump_clock, servoUpdate_clock, ← ho,
    if_neg hsteps, State.accepting, Clock.trimmed, ne_eq, not_true_eq_false, if_false,
    Bool.false_eq_true]

/-- A mark within the limit leaves a trimmed clock, and beside it only what a relayed copy may change. -/
theorem timeMark_trims {offset : Int} (hm : s.clock.marks = m :: rest) (hgood : m.malformed = false)
    (hepoch : m.epoch = s.clock.epoch) (hset : s.clock.servo ≠ .unset)
    (ho : offset = m.offset (s.clock.delay.getD 0)) (hlimit : offset.natAbs ≤ s.clock.cfg.stepLimit) :
    ∃ t, exec .timeMark s = .next t ∧ t.mgmt = s.mgmt ∧
      t.unanswered = (s.modClock fun c =>
        { c.trimmed offset with marks := rest, lastMark := some m.recvRun }).unanswered ∧
      (s.clock.cfg.relay = false → Effects s t s.clock.hall.base [.clock .marksAccepted]
        (if s.clock.servo = .acquiring ∧ offset.natAbs ≤ s.clock.cfg.lockThreshold ∧
          s.clock.goodMarks = 3 then [.clockLocked offset.natAbs] else [])) := by
  have hexec : exec .timeMark s =
      .next (readMark m (s.modClock fun c => { c with marks := rest })) := by
    simp only [exec, execTimeMark, hm]
  rw [readMark_within hgood hepoch hset ho hlimit] at hexec
  have hu : (servoUpdate offset (s.accepting m rest)).uncounted = (s.modClock fun c =>
      { c.trimmed offset with marks := rest, lastMark := some m.recvRun }).uncounted :=
    (servoUpdate_uncounted ..).trans (modClock_uncounted accepting_uncounted _)
  have hmgmt : (servoUpdate offset (s.accepting m rest)).mgmt = s.mgmt :=
    (mgmt_of_uncounted hu :)
  have he := (accepting_effects (s := s) (m := m) (rest := rest)).servoUpdate
    (by rw [accepting_clock]) offset
  simp only [accepting_clock] at he
  refine ⟨_, hexec, ?_, ?_, fun hr => by rwa [if_neg (by simp [hr])]⟩
  · split
    · exact (relayMark_mgmt ..).trans hmgmt
    · exact hmgmt
  · split
    · exact (relayMark_unanswered ..).trans (unanswered_of_uncounted hu)
    · exact unanswered_of_uncounted hu

end

/-! ## The statement -/

/-- Settles O11: the rounding of R43, and the trimmed clock of R50 read by the servo's moves of R51. -/
theorem markWithinTheLimitTrims : Obligations.MarkWithinTheLimitTrims := by
  refine ⟨fun trim h => ?_,
    fun s m rest offset integral trim hm hgood hepoch hset ho hlimit hi ht => ?_⟩
  · rw [incrementOf_eq h, add_sub_cancel_left]
    exact roundHalfAway_rounded (by decide) _
  · obtain ⟨t, hexec, hmgmt, hstate, heffects⟩ := timeMark_trims hm hgood hepoch hset ho hlimit
    have hclock := clock_of_unanswered hstate
    have hservo : t.clock.servo = (servoMove s.clock offset).1 := congrArg Clock.servo hclock
    have hgoodMarks : t.clock.goodMarks = (servoMove s.clock offset).2 :=
      congrArg Clock.goodMarks hclock
    refine ⟨t, hexec, hmgmt, ?_, fun hs h => ?_, fun hs h => ?_, fun hs h => ?_, fun hs h => ?_,
      fun hs => ?_, heffects⟩
    · rw [hstate, hservo, hgoodMarks]
      simp only [State.modClock, Clock.trimmed, servoGains_eq hi ht]
    all_goals rw [hservo, hgoodMarks]
    · rw [servoMove_acquiring_within hs h]
      simp
    · simp [servoMove_acquiring_beyond hs h]
    · simp [servoMove_locked_within hs h]
    · simp [servoMove_locked_beyond hs h]
    · simp [servoMove_holdover hs]

end Sys2Proof.Machine
end


section
/-! SUPPORT. Updates that counting does not see: a count or a notice before such an update is one after
it, so the counts of a command can be taken last. -/

namespace Sys2Proof.Machine

/-- A state with these counters and this notice block. -/
def State.recount (k : Counters) (b : NoticeBlock) (s : State) : State :=
  { s with counters := k, notices := b }

/-- An update that neither reads nor changes counters and notices, and keeps the clock. -/
structure Uncounting (g : State → State) : Prop where
  recount : ∀ k b s, g (s.recount k b) = (g s).recount k b
  clock : ∀ s, (g s).clock = s.clock

section
variable {g : State → State} (hg : Uncounting g)
include hg

theorem Uncounting.counters (s : State) : (g s).counters = s.counters :=
  (congrArg State.counters (hg.recount s.counters s.notices s) :)

theorem Uncounting.notices (s : State) : (g s).notices = s.notices :=
  (congrArg State.notices (hg.recount s.counters s.notices s) :)

theorem Uncounting.bumpWith {f : NoticeEvent → State → State} (hf : ∀ e s, f e (g s) = g (f e s))
    (c : CounterRef) (n : Nat) (s : State) : bumpWith f c n (g s) = g (bumpWith f c n s) := by
  have hc : (g s).counter c = s.counter c := by rw [State.counter, hg.counters]; rfl
  have hput (k : Counters) : ({ g s with counters := k } : State) = g { s with counters := k } := by
    refine Eq.trans ?_ (hg.recount k s.notices s).symm
    rw [← hg.notices]
    rfl
  dsimp only at hput
  unfold Machine.bumpWith
  dsimp only
  rw [hc, hput, hg.counters]
  split <;> split <;> simp only [hf]

theorem Uncounting.raiseDepth (n : Nat) (e : NoticeEvent) (s : State) :
    raiseDepth n e (g s) = g (raiseDepth n e s) := by
  have hput (b : NoticeBlock) (s : State) :
      ({ g s with notices := b } : State) = g { s with notices := b } := by
    refine Eq.trans ?_ (hg.recount s.counters b s).symm
    rw [← hg.counters]
    rfl
  dsimp only at hput
  induction n generalizing e s with
  | zero =>
    unfold Machine.raiseDepth
    rw [hput, hg.notices, hg.clock]
  | succ n ih =>
    unfold Machine.raiseDepth
    dsimp only
    rw [hput, hg.notices, hg.clock]
    split <;> simp only [hg.bumpWith ih]

theorem Uncounting.raise (e : NoticeEvent) (s : State) :
    Machine.raise e (g s) = g (Machine.raise e s) := hg.raiseDepth 7 e s

theorem Uncounting.bump (c : CounterRef) (s : State) :
    Machine.bump c (g s) = g (Machine.bump c s) := hg.bumpWith hg.raise c 1 s

theorem Uncounting.bumps (l : List CounterRef) (s : State) :
    forEach l Machine.bump (g s) = g (forEach l Machine.bump s) := by
  induction l generalizing s with
  | nil => rfl
  | cons c l ih => rw [forEach_cons, forEach_cons, hg.bump, ih]

end

theorem uncounting_modRx (p : PortId) (f : Rx → Rx) : Uncounting (State.modRx p f) :=
  ⟨fun _ _ _ => rfl, fun _ => rfl⟩

theorem uncounting_give (l : List CellId) : Uncounting (State.give l) :=
  ⟨fun _ _ _ => rfl, fun _ => rfl⟩

theorem bumps_modRx (p : PortId) (f : Rx → Rx) (l : List CounterRef) (s : State) :
    forEach l bump (s.modRx p f) = (forEach l bump s).modRx p f := (uncounting_modRx p f).bumps l s

theorem bumps_give (cells : List CellId) (l : List CounterRef) (s : State) :
    forEach l bump (s.give cells) = (forEach l bump s).give cells := (uncounting_give cells).bumps l s

/-- A command whose counts, each of one, come last completes as they say. -/
theorem completes_of_counts {c : Instr} {s u : State} (l : List CounterRef)
    (hx : exec c s = .next (forEach l bump u)) (hc : u.counters = s.counters)
    (hn : u.notices = s.notices) (hl : ∀ x ∈ l, x.ofNotices = false) : Completes c s u l [] := by
  refine ⟨_, hx, forEach_keeps State.uncounted l (fun x t => bump_uncounted x t) u, ?_⟩
  have key : ∀ (l m : List CounterRef) (t : State), (∀ x ∈ l, x.ofNotices = false) →
      Effects s t s.clock.hall.base m [] →
      Effects s (forEach l bump t) s.clock.hall.base (m ++ l) [] := by
    intro l
    induction l with
    | nil => intro m t _ h; rwa [List.append_nil]
    | cons x l ih =>
      intro m t hl h
      have hx := h.bump x (hl x List.mem_cons_self)
      simpa using ih (m ++ [x]) (bump x t) (fun y hy => hl y (List.mem_cons_of_mem x hy)) hx
  exact key l [] u hl (Effects.start s u _ hc hn)

end Sys2Proof.Machine
end


section
/-! What the receive assembler makes of a marked piece, by its marker, its length and its number (R25,
R82, R83). -/

namespace Sys2Proof.Machine

/-! ## The data of a piece (R83) -/

theorem pieceCheckOf_length (l : Octets) : (pieceCheckOf l).length = 4 := rfl

theorem withoutCheck_pieceCheck (data : Octets) :
    withoutCheck (data ++ pieceCheckOf data) = data := by
  unfold withoutCheck
  rw [List.length_append, pieceCheckOf_length, Nat.add_sub_cancel, List.take_left]

theorem endsWithPieceCheck_pieceCheck (data : Octets) :
    endsWithPieceCheck (data ++ pieceCheckOf data) = true := by
  have hl : lastFour (data ++ pieceCheckOf data) = pieceCheckOf data := by
    unfold lastFour
    rw [List.length_append, pieceCheckOf_length, Nat.add_sub_cancel, List.drop_left]
  simp only [endsWithPieceCheck, withoutCheck_pieceCheck, hl, List.length_append, pieceCheckOf_length,
    Bool.and_eq_true, decide_eq_true_eq, and_true]
  omega

/-- A piece carries this data of its frame, and is or is not its last piece: a correct piece check over
the data ends one that is not. -/
structure PieceOf (octets data : Octets) (last : Bool) : Prop where
  isLast : endsWithPieceCheck octets = !last
  isData : (if last then octets else withoutCheck octets) = data

theorem pieceOf_checked {octets data : Octets} (h : octets = data ++ pieceCheckOf data) :
    PieceOf octets data false := by
  subst h
  exact ⟨endsWithPieceCheck_pieceCheck data, withoutCheck_pieceCheck data⟩

theorem pieceOf_last {octets : Octets} (h : endsWithPieceCheck octets = false) :
    PieceOf octets octets true := ⟨h, rfl⟩

/-! ## A piece and the frame it joins (R25, R82) -/

theorem settleCells_overrun (n : Nat) (cells : List CellId) (s : State) :
    settleCells n cells true s = (s.give cells, none) := rfl

theorem settleCells_exact {n : Nat} {cells : List CellId} (h : cells.length = n) (s : State) :
    settleCells n cells false s = (s, some cells) := by
  simp only [settleCells, Bool.false_eq_true, if_false, ← h, le_refl, if_true, List.drop_length,
    List.take_length, State.give_nil]

section
variable {a : Assembly} {r : Reception}

theorem Assembly.overrun_of_short (ho : r.overrun = true)
    (h : a.cells.length < storedCells a.octets.length) : a.overrun r = true := by
  simp only [Assembly.overrun, ho, h, decide_true, Bool.and_self]

theorem Assembly.not_overrun (h : a.cells.length = storedCells a.octets.length) :
    a.overrun r = false := by
  simp only [Assembly.overrun, h, lt_irrefl, decide_false, Bool.and_false]

theorem joinPiece_overrun (p : PortId) (last : Bool) (s : State) (ho : r.overrun = true)
    (h : a.cells.length < storedCells a.octets.length) : joinPiece p a r last s =
      bump (.port p .receiveOverruns) ((s.modRx p fun x => { x with asm := none }).give a.cells) := by
  simp only [joinPiece, Assembly.overrun_of_short ho h, settleCells_overrun]

theorem joinPiece_open (p : PortId) (s : State) (h : a.cells.length = storedCells a.octets.length) :
    joinPiece p a r false s = s.modRx p fun x => { x with asm := some a } := by
  simp only [joinPiece, Assembly.not_overrun h, settleCells_exact h, Bool.false_eq_true, if_false,
    State.modRx, upd_upd]

theorem joinPiece_whole (p : PortId) (s : State) (h : a.cells.length = storedCells a.octets.length) :
    joinPiece p a r true s = receiveChecks
      { port := p, octets := a.octets, cells := a.cells, recvTime := a.recvTime, recvRun := a.recvRun,
        epoch := a.epoch } (bump (.port p .assemblyOk) (s.modRx p fun x => { x with asm := none })) := by
  simp only [joinPiece, Assembly.not_overrun h, settleCells_exact h, if_true]

end

/-! ## What is open on the port (R82, R84) -/

/-- The receive side of a port is as after a reset, and this is the free list. -/
def State.cleared (s : State) (p : PortId) (free : List CellId) : State :=
  { s with rx := upd s.rx p fun _ => Rx.reset, mem := { s.mem with free := free } }

/-- The cells of the frame that is open on a port. -/
def State.openCells (s : State) (p : PortId) : List CellId :=
  (s.rx[p].asm.map Assembly.cells).getD []

/-- What the end of the frame that is open on a port counts. -/
def State.failCounts (s : State) (p : PortId) : List CounterRef :=
  if s.rx[p].asm.isSome then [.port p .assemblyErrors] else []

theorem received_asm (s : State) (p : PortId) : (s.received p).rx[p].asm = s.rx[p].asm :=
  (congrArg Rx.asm (upd_same s.rx p fun x => { x with cur := none }) :)

theorem forEach_append {α : Type} (l m : List α) (f : α → State → State) (s : State) :
    forEach (l ++ m) f s = forEach m f (forEach l f s) := List.foldl_append

theorem discardOpen_eq (p : PortId) (s : State) : discardOpen p s =
    (s.modRx p fun x => { x with asm := none }).give (s.openCells p) := by
  unfold discardOpen State.openCells
  cases h : s.rx[p].asm with
  | none =>
    have hfix : s.modRx p (fun x => { x with asm := none }) = s :=
      congrArg (fun v => ({ s with rx := v } : State)) (upd_fixed _ _ _ (by rw [← h]))
    rw [hfix]
    exact (s.give_nil).symm
  | some a => rfl

theorem failOpen_eq (p : PortId) (s : State) :
    failOpen p s = forEach (s.failCounts p) bump (discardOpen p s) := by
  unfold failOpen discardOpen State.failCounts
  cases s.rx[p].asm <;> rfl

/-- After a reception that was counted in `l` and gave back `cells`, what is open is discarded and
counted too. -/
theorem failOpen_received (p : PortId) (l : List CounterRef) (cells : List CellId) (s : State) :
    failOpen p ((forEach l bump (s.received p)).give cells) =
      forEach (l ++ s.failCounts p) bump (s.cleared p (s.mem.free ++ cells ++ s.openCells p)) := by
  have hrx : (forEach l bump (s.received p)).rx = (s.received p).rx :=
    forEach_keeps State.rx l bump_rx _
  have hasm : ((forEach l bump (s.received p)).give cells).rx[p].asm = s.rx[p].asm := by
    rw [State.give_rx, hrx, received_asm]
  have hcells : ((forEach l bump (s.received p)).give cells).openCells p = s.openCells p := by
    unfold State.openCells
    rw [hasm]
  have hcounts : ((forEach l bump (s.received p)).give cells).failCounts p = s.failCounts p := by
    unfold State.failCounts
    rw [hasm]
  have hstate : (((s.received p).give cells).modRx p fun x => { x with asm := none }).give
      (s.openCells p) = s.cleared p (s.mem.free ++ cells ++ s.openCells p) := by
    simp only [State.received, State.modRx, State.give, State.modMem, CellMem.give, State.cleared, upd_upd]
    rfl
  rw [failOpen_eq, discardOpen_eq, hcells, hcounts, forEach_append, ← hstate]
  simp only [bumps_give, bumps_modRx]

/-- With nothing open, a reception that gave back `cells` leaves the port clear. -/
theorem received_idle {p : PortId} {s : State} (h : s.rx[p].asm = none) (cells : List CellId) :
    (s.received p).give cells = s.cleared p (s.mem.free ++ cells) := by
  have e : upd s.rx p (fun x => { x with cur := none }) = upd s.rx p fun _ => Rx.reset :=
    upd_congr _ _ _ _ (by rw [h]; rfl)
  simp only [State.received, State.give, State.modMem, CellMem.give, State.cleared, e]

/-! ## A piece by its marker (R82, R83) -/

/-- The reception of a piece whose marker is read: the port is UP with receive preemption enabled, and
was when the piece began. -/
structure MarkedPiece (s : State) (p : PortId) (r : Reception) : Prop where
  enabled : s.ports[p].cfg.rxPreempt = true
  up : s.ports[p].link = true
  current : s.rx[p].cur = some r
  marked : r.marked = true

theorem exec_pieceReceived_unmarked {s : State} {p : PortId} (m : PieceMarker) (octets : Octets)
    (h : s.ports[p].cfg.rxPreempt = false) :
    exec (.pieceReceived p m octets) s = exec (.frameReceptionEnd p octets) s := by
  simp only [exec, execPieceReceived, execFrameReceptionEnd, h, Bool.false_and, Bool.false_eq_true,
    if_false]

/-- The frame that a FIRST piece begins (R82). -/
def Reception.opens (r : Reception) (data : Octets) : Assembly :=
  { expect := 0, octets := data, cells := r.cells, recvTime := r.recvTime, recvRun := r.recvRun
    epoch := r.epoch }

/-- A port's piece has been received and counted. -/
def State.pieceTaken (s : State) (p : PortId) : State :=
  forEach [.port p .piecesReceived] bump (s.received p)

theorem pieceTaken_asm (s : State) (p : PortId) : (s.pieceTaken p).rx[p].asm = s.rx[p].asm := by
  rw [State.pieceTaken, forEach_cons, forEach_nil, bump_rx, received_asm]

section
variable {p : PortId} {octets data : Octets} {last : Bool} {s : State} {r : Reception}
  {a : Assembly} (hr : MarkedPiece s p r) (hd : PieceOf octets data last)
include hr hd

/-- A piece of fewer than 64 octets of data is dropped, and what is open with it (R83). -/
theorem exec_piece_short (m : PieceMarker) (h : data.length < 64) :
    exec (.pieceReceived p m octets) s = .next
      (if s.rx[p].asm.isSome then failOpen p ((s.pieceTaken p).give r.cells)
        else bump (.port p .orphanPieces) ((s.pieceTaken p).give r.cells)) := by
  have hlt : data.length < Config.minFrame := h
  have htaken : bump (.port p .piecesReceived) (endReception p s) = s.pieceTaken p := rfl
  simp only [exec, execPieceReceived, hr.enabled, hr.up, reception_of_cur hr.current, hr.marked,
    Bool.and_self, if_true, markedPiece, hd.isLast, Bool.not_not, hd.isData, hlt, htaken]
  rw [← pieceTaken_asm s p]
  cases (s.pieceTaken p).rx[p].asm <;> rfl

variable (h : 64 ≤ data.length)
include h

/-- A FIRST piece discards what is open and begins a frame. -/
theorem exec_piece_first : exec (.pieceReceived p .first octets) s = .next
    (joinPiece p (r.opens data) r last (failOpen p (s.pieceTaken p))) := by
  have hlt : ¬data.length < Config.minFrame := Nat.not_lt.mpr h
  have htaken : bump (.port p .piecesReceived) (endReception p s) = s.pieceTaken p := rfl
  simp only [exec, execPieceReceived, hr.enabled, hr.up, reception_of_cur hr.current, hr.marked,
    Bool.and_self, if_true, markedPiece, hd.isLast, Bool.not_not, hd.isData, hlt, if_false, htaken,
    Reception.opens]

/-- A NEXT piece joins the frame that is open when it is the one expected; another ends that frame, and
with none open it is an orphan. -/
theorem exec_piece_next (n : Fin 8) : exec (.pieceReceived p (.next n) octets) s = .next
    ((s.rx[p].asm.map fun a =>
      if n = a.expect then
        joinPiece p { a with expect := a.expect + 1, octets := a.octets ++ data
                             cells := a.cells ++ r.cells } r last (s.pieceTaken p)
      else failOpen p ((s.pieceTaken p).give r.cells)).getD
        (bump (.port p .orphanPieces) ((s.pieceTaken p).give r.cells))) := by
  have hlt : ¬data.length < Config.minFrame := Nat.not_lt.mpr h
  have htaken : bump (.port p .piecesReceived) (endReception p s) = s.pieceTaken p := rfl
  simp only [exec, execPieceReceived, hr.enabled, hr.up, reception_of_cur hr.current, hr.marked,
    Bool.and_self, if_true, markedPiece, hd.isLast, Bool.not_not, hd.isData, hlt, if_false, htaken]
  rw [← pieceTaken_asm s p]
  cases (s.pieceTaken p).rx[p].asm <;> rfl

end

/-! ## What a piece comes to -/

theorem openCells_of_some {p : PortId} {s : State} {a : Assembly} (h : s.rx[p].asm = some a) :
    s.openCells p = a.cells := by rw [State.openCells, h]; rfl

theorem openCells_of_none {p : PortId} {s : State} (h : s.rx[p].asm = none) : s.openCells p = [] := by
  rw [State.openCells, h]; rfl

theorem failCounts_of_some {p : PortId} {s : State} {a : Assembly} (h : s.rx[p].asm = some a) :
    s.failCounts p = [.port p .assemblyErrors] := by rw [State.failCounts, h]; rfl

/-- What is open ends with a piece that does not fit it. -/
theorem failOpen_dropped {p : PortId} {s : State} {a : Assembly} (r : Reception)
    (ha : s.rx[p].asm = some a) : failOpen p ((s.pieceTaken p).give r.cells) =
      forEach [.port p .piecesReceived, .port p .assemblyErrors] bump
        (s.cleared p (s.mem.free ++ r.cells ++ a.cells)) := by
  rw [State.pieceTaken, failOpen_received, openCells_of_some ha, failCounts_of_some ha]
  rfl

/-- With nothing open, a piece that fits nothing is an orphan. -/
theorem orphan_dropped {p : PortId} {s : State} (r : Reception) (ha : s.rx[p].asm = none) :
    bump (.port p .orphanPieces) ((s.pieceTaken p).give r.cells) =
      forEach [.port p .piecesReceived, .port p .orphanPieces] bump
        (s.cleared p (s.mem.free ++ r.cells)) := by
  rw [State.pieceTaken, ← bumps_give, received_idle ha]
  rfl

/-- A piece that opens a frame ends what is open before it. -/
theorem failOpen_taken (p : PortId) (s : State) : failOpen p (s.pieceTaken p) =
    forEach (.port p .piecesReceived :: s.failCounts p) bump
      (s.cleared p (s.mem.free ++ s.openCells p)) := by
  have h := failOpen_received p [.port p .piecesReceived] [] s
  rwa [State.give_nil, List.append_nil] at h

theorem failCounts_of_none {p : PortId} {s : State} (h : s.rx[p].asm = none) :
    s.failCounts p = [] := by rw [State.failCounts, h]; rfl

theorem failCounts_notNotices (p : PortId) (s : State) :
    ∀ x ∈ s.failCounts p, x.ofNotices = false := by
  unfold State.failCounts
  split <;> simp [CounterRef.ofNotices]

section
variable {p : PortId} {m : PieceMarker} {octets data : Octets} {s : State} {r : Reception}
  (hr : MarkedPiece s p r)
include hr

/-- R83: a piece of fewer than 64 octets of data. -/
theorem short_completes {last : Bool} (hd : PieceOf octets data last) (h : data.length < 64) :
    (∀ a, s.rx[p].asm = some a → Completes (.pieceReceived p m octets) s
      (s.cleared p (s.mem.free ++ r.cells ++ a.cells))
      [.port p .piecesReceived, .port p .assemblyErrors] []) ∧
    (s.rx[p].asm = none → Completes (.pieceReceived p m octets) s
      (s.cleared p (s.mem.free ++ r.cells)) [.port p .piecesReceived, .port p .orphanPieces] []) := by
  refine ⟨fun a ha => completes_of_counts _ ?_ rfl rfl (by simp [CounterRef.ofNotices]),
    fun ha => completes_of_counts _ ?_ rfl rfl (by simp [CounterRef.ofNotices])⟩
  · rw [exec_piece_short hr hd m h, ha, ← failOpen_dropped r ha]; rfl
  · rw [exec_piece_short hr hd m h, ha, ← orphan_dropped r ha]; rfl

variable (hd : PieceOf octets data false) (h : 64 ≤ data.length)
include hd h

/-- R82: a NEXT piece that is not the one expected. -/
theorem wrong_completes {a : Assembly} {n : Fin 8} (hn : n ≠ a.expect) (ha : s.rx[p].asm = some a) :
    Completes (.pieceReceived p (.next n) octets) s
      (s.cleared p (s.mem.free ++ r.cells ++ a.cells))
      [.port p .piecesReceived, .port p .assemblyErrors] [] := by
  refine completes_of_counts _ ?_ rfl rfl (by simp [CounterRef.ofNotices])
  rw [exec_piece_next hr hd h n, ha, ← failOpen_dropped r ha]
  exact congrArg _ (if_neg hn)

/-- R82: a NEXT piece with no frame open. -/
theorem orphan_completes (n : Fin 8) (ha : s.rx[p].asm = none) :
    Completes (.pieceReceived p (.next n) octets) s (s.cleared p (s.mem.free ++ r.cells))
      [.port p .piecesReceived, .port p .orphanPieces] [] := by
  refine completes_of_counts _ ?_ rfl rfl (by simp [CounterRef.ofNotices])
  rw [exec_piece_next hr hd h n, ha, ← orphan_dropped r ha]
  rfl

/-- R82: a FIRST piece that is not the last begins a frame that expects number 0. -/
theorem first_completes (hc : r.cells.length = storedCells data.length) :
    Completes (.pieceReceived p .first octets) s
      ((s.cleared p (s.mem.free ++ s.openCells p)).modRx p fun x => { x with asm := some (r.opens data) })
      (.port p .piecesReceived :: s.failCounts p) [] := by
  refine completes_of_counts _ ?_ rfl rfl (List.forall_mem_cons.mpr ⟨rfl, failCounts_notNotices p s⟩)
  rw [exec_piece_first hr hd h, joinPiece_open _ _ hc, failOpen_taken, bumps_modRx]

/-- R25: a FIRST piece whose frame lacks a cell. -/
theorem first_overruns (ho : r.overrun = true) (hc : r.cells.length < storedCells data.length) :
    Completes (.pieceReceived p .first octets) s
      (s.cleared p (s.mem.free ++ s.openCells p ++ r.cells))
      (.port p .piecesReceived :: s.failCounts p ++ [.port p .receiveOverruns]) [] := by
  refine completes_of_counts _ ?_ rfl rfl (List.forall_mem_append.mpr
    ⟨List.forall_mem_cons.mpr ⟨rfl, failCounts_notNotices p s⟩, by simp [CounterRef.ofNotices]⟩)
  rw [exec_piece_first hr hd h, joinPiece_overrun _ _ _ ho hc, failOpen_taken, forEach_append,
    ← bumps_modRx, ← bumps_give]
  simp only [State.cleared, State.modRx, State.give, State.modMem, CellMem.give, upd_upd, forEach_cons, forEach_nil]
  rfl

variable {a : Assembly} (ha : s.rx[p].asm = some a)
include ha

/-- R82: the NEXT piece that is expected joins the frame. -/
theorem next_completes
    (hc : (a.cells ++ r.cells).length = storedCells (a.octets ++ data).length) :
    Completes (.pieceReceived p (.next a.expect) octets) s
      (s.modRx p fun _ => { cur := none, asm := some { a with
        expect := a.expect + 1, octets := a.octets ++ data, cells := a.cells ++ r.cells } })
      [.port p .piecesReceived] [] := by
  refine completes_of_counts _ ?_ rfl rfl (by simp [CounterRef.ofNotices])
  rw [exec_piece_next hr hd h, ha, Option.map_some, Option.getD_some, if_pos rfl, joinPiece_open _ _ hc,
    State.pieceTaken, ← bumps_modRx]
  simp only [State.received, State.modRx, upd_upd]

/-- R25: the NEXT piece that is expected, with a frame that lacks a cell. -/
theorem next_overruns (ho : r.overrun = true)
    (hc : (a.cells ++ r.cells).length < storedCells (a.octets ++ data).length) :
    Completes (.pieceReceived p (.next a.expect) octets) s
      (s.cleared p (s.mem.free ++ (a.cells ++ r.cells)))
      [.port p .piecesReceived, .port p .receiveOverruns] [] := by
  refine completes_of_counts _ ?_ rfl rfl (by simp [CounterRef.ofNotices])
  rw [exec_piece_next hr hd h, ha, Option.map_some, Option.getD_some, if_pos rfl,
    joinPiece_overrun _ _ _ ho hc, State.pieceTaken, ← bumps_modRx, ← bumps_give]
  simp only [State.received, State.cleared, State.modRx, State.give, State.modMem, CellMem.give, upd_upd,
    forEach_cons, forEach_nil]
  rfl

end

/-! ## A frame made whole (R7, R82) -/

/-- The receive checks of a frame that its pieces made whole are those of one received whole. -/
theorem wholeFrame_counted {p : PortId} {whole : Octets} {x : Reception} (l : List CounterRef) (v : State)
    (ho : x.overrun = false) (hc : x.cells.length = storedCells whole.length) :
    wholeFrame p whole (forEach l bump (v.modRx p fun _ => { cur := some x, asm := none })) =
      receiveChecks (arrivalOf p whole x)
        (forEach l bump (v.modRx p fun _ => Rx.reset)) := by
  have hcur : (forEach l bump (v.modRx p fun _ => { cur := some x, asm := none })).rx[p].cur = some x := by
    rw [bumps_modRx]
    exact (congrArg Rx.cur (upd_same (forEach l bump v).rx p fun _ => { cur := some x, asm := none }) :)
  have hrec : (forEach l bump (v.modRx p fun _ => { cur := some x, asm := none })).received p =
      forEach l bump (v.modRx p fun _ => Rx.reset) := by
    change State.modRx p (fun x => { x with cur := none }) _ = _
    rw [← bumps_modRx]
    simp only [State.modRx, upd_upd]
    rfl
  rw [wholeFrame_settled hcur ho hc, hrec]

section
variable {p : PortId} {octets : Octets} {s : State} {r : Reception} (hr : MarkedPiece s p r)
  (hd : PieceOf octets octets true) (h : 64 ≤ octets.length)
include hr hd h

/-- A last FIRST piece is a frame received whole, after what is open was discarded. -/
theorem exec_first_last (hc : r.cells.length = storedCells octets.length) :
    exec (.pieceReceived p .first octets) s = exec (.frameReceptionEnd p octets)
      (forEach (.port p .piecesReceived :: s.failCounts p ++ [.port p .assemblyOk]) bump
        ((s.cleared p (s.mem.free ++ s.openCells p)).modRx p fun _ =>
          { cur := some { r with overrun := false }, asm := none })) := by
  rw [exec_piece_first hr hd h, joinPiece_whole _ _ hc, failOpen_taken, exec_frameReceptionEnd,
    wholeFrame_counted (x := { r with overrun := false }) _ _ rfl hc, forEach_append, ← bumps_modRx]
  · simp only [State.cleared, State.modRx, upd_upd]
    rfl
  · rw [forEach_keeps State.ports _ bump_ports]
    exact hr.up

/-- The last NEXT piece that is expected makes the open frame one received whole. -/
theorem exec_next_last {a : Assembly} (ha : s.rx[p].asm = some a)
    (hc : (a.cells ++ r.cells).length = storedCells (a.octets ++ octets).length) :
    exec (.pieceReceived p (.next a.expect) octets) s = exec (.frameReceptionEnd p (a.octets ++ octets))
      (forEach [.port p .piecesReceived, .port p .assemblyOk] bump (s.modRx p fun _ =>
        { cur := some { cells := a.cells ++ r.cells, recvTime := a.recvTime, recvRun := a.recvRun
                        epoch := a.epoch, overrun := false, marked := r.marked }, asm := none })) := by
  rw [exec_piece_next hr hd h, ha, Option.map_some, Option.getD_some, if_pos rfl,
    joinPiece_whole _ _ hc, State.pieceTaken, exec_frameReceptionEnd, wholeFrame_counted _ _ rfl hc,
    ← bumps_modRx]
  · simp only [State.received, State.modRx, upd_upd]
    rfl
  · rw [forEach_keeps State.ports _ bump_ports]
    exact hr.up

end

/-! ## The statement -/

/-- Settles O34: each clause by the piece's marker, its number and its length, with what is open on the
port. -/
theorem assemblerFollowsMarkers : Obligations.AssemblerFollowsMarkers := by
  refine fun p m octets s => ⟨exec_pieceReceived_unmarked m octets, fun r hp hl hcur hm => ?_⟩
  have hr : MarkedPiece s p r := ⟨hp, hl, hcur, hm⟩
  have hfree (free : List CellId) (hf : s.rx[p].asm = none ∧ free = s.mem.free ∨
      ∃ a, s.rx[p].asm = some a ∧ free = s.mem.free ++ a.cells) :
      free = s.mem.free ++ s.openCells p := by
    obtain ⟨ha, rfl⟩ | ⟨a, ha, rfl⟩ := hf
    · rw [openCells_of_none ha, List.append_nil]
    · rw [openCells_of_some ha]
  have hstored {n : Nat} (h : n ≤ 9216) : storedCells n = (n + 255) / 256 := by
    unfold storedCells cellsFor Config.maxFrame
    rw [Nat.min_eq_left h]
  refine ⟨fun data hlen hdata => ?_, fun hlen hend whole x hx hc => ?_,
    fun hlen hend hfirst hc a ha => ?_, fun data hlen hdata => ?_⟩
  · have hd := pieceOf_checked hdata
    refine ⟨?_, ?_, ?_, ?_, ?_, ?_⟩
    · rintro free rfl - h9216 hc hf
      rw [hfree free hf]
      have hx := first_completes hr hd hlen (hc.trans (hstored h9216).symm)
      simp only [State.cleared, State.modRx, upd_upd] at hx
      exact hx
    · rintro free rfl ho hc hf
      rw [hfree free hf]
      exact first_overruns hr hd hlen ho hc
    · rintro a rfl ha h9216 hc
      refine next_completes hr hd hlen ha ?_
      rw [List.length_append, List.length_append, hstored h9216, hc]
    · rintro a rfl ha ho hc
      refine next_overruns hr hd hlen ha ho ?_
      rw [List.length_append, List.length_append]
      exact hc
    · rintro a n rfl hn ha
      exact wrong_completes hr hd hlen hn ha
    · rintro n rfl ha
      exact orphan_completes hr hd hlen n ha
  · obtain ⟨rfl, ha, rfl, rfl⟩ | ⟨a, rfl, ha, rfl, rfl⟩ := hx
    · have hx := exec_first_last hr (pieceOf_last hend) hlen hc
      rw [openCells_of_none ha, failCounts_of_none ha] at hx
      simp only [State.cleared, State.modRx, upd_upd, List.cons_append, List.nil_append, List.append_nil,
        forEach_cons, forEach_nil] at hx
      exact hx
    · exact exec_next_last hr (pieceOf_last hend) hlen ha hc
  · subst hfirst
    have hx := exec_first_last hr (pieceOf_last hend) hlen hc
    rw [openCells_of_some ha, failCounts_of_some ha] at hx
    simp only [State.cleared, State.modRx, upd_upd, List.cons_append, List.nil_append, forEach_cons,
      forEach_nil] at hx
    exact hx
  · obtain ⟨last, hd⟩ : ∃ last, PieceOf octets data last := by
      obtain hdata | ⟨rfl, hend⟩ := hdata
      · exact ⟨_, pieceOf_checked hdata⟩
      · exact ⟨_, pieceOf_last hend⟩
    exact short_completes hr hd hlen

end Sys2Proof.Machine
end


section
/-! SUPPORT. What the supervisor does for one robot leaves the others' side alone: their records, the
windows that wait for them, and their counters (R92, R103). -/

namespace Sys2Proof.Machine

/-! ## One robot's side of a state -/

/-- What the supervisor keeps of one robot: its record, the windows that wait for it and its counters. -/
structure RobotSide where
  robot : Robot
  awaited : WindowId → Bool
  counts : RobotCounter → Nat

/-- One robot's side of a state. -/
def State.sideOf (x : RobotId) (s : State) : RobotSide :=
  { robot := s.robots[x], awaited := fun w => s.windows[w].pendingSet.getLsbD x.val
    counts := fun k => s.counter (.robot x k) }

section
variable {x r : RobotId}

theorem sideOf_congr {s t : State} (hr : t.robots[x] = s.robots[x])
    (hw : ∀ w : WindowId, t.windows[w].pendingSet.getLsbD x.val = s.windows[w].pendingSet.getLsbD x.val)
    (hc : ∀ k, t.counter (.robot x k) = s.counter (.robot x k)) : t.sideOf x = s.sideOf x := by
  simp only [State.sideOf, hr, hw, hc]

theorem bump_side (c : CounterRef) (s : State) (h : ∀ k, c ≠ .robot x k) :
    (bump c s).sideOf x = s.sideOf x :=
  sideOf_congr (by rw [bump_robots]) (fun w => by rw [bump_windows])
    fun k => bump_counter_other c _ s rfl (h k).symm

@[simp] theorem bumpPort_side (p : PortId) (k : PortCounter) (s : State) :
    (bump (.port p k) s).sideOf x = s.sideOf x := bump_side _ s (by simp)
@[simp] theorem bumpDevice_side (k : DeviceCounter) (s : State) :
    (bump (.device k) s).sideOf x = s.sideOf x := bump_side _ s (by simp)
@[simp] theorem raise_side (e : NoticeEvent) (s : State) : (raise e s).sideOf x = s.sideOf x :=
  sideOf_congr (by rw [raise_robots]) (fun w => by rw [raise_windows]) fun k => raise_counter e s _ rfl

@[simp] theorem modMem_side (f : CellMem → CellMem) (s : State) :
    (s.modMem f).sideOf x = s.sideOf x := rfl
@[simp] theorem withMem_side (m : CellMem) (s : State) :
    ({ s with mem := m } : State).sideOf x = s.sideOf x := rfl
@[simp] theorem addRef_side (h : CellId) (s : State) : (s.addRef h).sideOf x = s.sideOf x := rfl
@[simp] theorem releaseOpt_side (h : Option CellId) (s : State) :
    (s.releaseOpt h).sideOf x = s.sideOf x := by cases h <;> rfl
@[simp] theorem modEgress_side (p : PortId) (f : Egress → Egress) (s : State) :
    (s.modEgress p f).sideOf x = s.sideOf x := rfl
@[simp] theorem modHold_side (f : Hold → Hold) (s : State) : (s.modHold f).sideOf x = s.sideOf x := rfl
@[simp] theorem modWatch_side (f : Watch → Watch) (s : State) : (s.modWatch f).sideOf x = s.sideOf x := rfl
@[simp] theorem leaveHold_side (h : HoldSource) (s : State) : (leaveHold h s).sideOf x = s.sideOf x := rfl
@[simp] theorem noteCut_side (p : PortId) (s : State) : (noteCut p s).sideOf x = s.sideOf x := by
  rw [noteCut_frame]; rfl
@[simp] theorem joinHold_side (h : HoldSource) (s : State) : (joinHold h s).sideOf x = s.sideOf x := by
  obtain ⟨-, e⟩ | ⟨-, -, e⟩ | ⟨-, -, e⟩ := joinHold_cases h s <;> rw [e] <;> simp
@[simp] theorem watchIdleIfNone_side (s : State) : (watchIdleIfNone s).sideOf x = s.sideOf x := by
  unfold watchIdleIfNone
  split <;> simp
@[simp] theorem changeGate_side (p : PortId) (f : Gate → Gate) (s : State) :
    (changeGate p f s).sideOf x = s.sideOf x := by rw [changeGate_frame]; rfl

theorem modWindow_side (w : WindowId) (f : ServiceWindow → ServiceWindow) (s : State)
    (hf : (f s.windows[w]).pendingSet.getLsbD x.val = s.windows[w].pendingSet.getLsbD x.val) :
    (s.modWindow w f).sideOf x = s.sideOf x := by
  refine sideOf_congr rfl (fun v => ?_) fun _ => rfl
  simp only [State.modWindow_windows, Fin.getElem_fin, upd_get]
  split
  · next e => subst e; exact hf
  · rfl

theorem enqueueSend_side (p : PortId) (a : RobotId) (c : CellId) (s : State) :
    (enqueueSend p a c s).sideOf x = s.sideOf x := by
  simp [enqueueSend]

theorem leaveHeld_side (s : State) : (leaveHeld r s).sideOf x = s.sideOf x :=
  forEach_keeps (State.sideOf x) _ (fun w s => modWindow_side w _ s rfl) s

/-! ## What is done for another robot -/

variable (h : x ≠ r)
include h

theorem bumpRobot_side (k : RobotCounter) (s : State) :
    (bump (.robot r k) s).sideOf x = s.sideOf x :=
  bump_side _ s fun _ e => h (CounterRef.robot.inj e).1.symm

theorem modRobot_side (f : Robot → Robot) (s : State) : (s.modRobot r f).sideOf x = s.sideOf x :=
  sideOf_congr (upd_other s.robots r x f h) (fun _ => rfl) fun _ => rfl

theorem leavePending_side (s : State) : (leavePending r s).sideOf x = s.sideOf x :=
  forEach_keeps (State.sideOf x) _
    (fun w s => modWindow_side w _ s (by
      simp only [getLsbD_without, h, decide_false, Bool.not_false, Bool.and_true])) s

theorem emptySlots_side (s : State) : (emptySlots r s).sideOf x = s.sideOf x := by
  simp [emptySlots, modRobot_side h]

theorem toIdle_side (s : State) : (toIdle r s).sideOf x = s.sideOf x := by
  simp [toIdle, leavePending_side h, modRobot_side h, emptySlots_side h]

theorem intoService_side (w : WindowId) (s : State) : (intoService r w s).sideOf x = s.sideOf x := by
  simp only [intoService, watchIdleIfNone_side]
  rw [modWindow_side, modRobot_side h, emptySlots_side h]
  simp only [getLsbD_without, h, decide_false, Bool.not_false, Bool.and_true]

theorem reportParked_side (s : State) : (reportParked r s).sideOf x = s.sideOf x := by
  unfold reportParked
  split
  exacts [intoService_side h _ s, rfl]

theorem damageRobot_side (s : State) : (damageRobot r s).sideOf x = s.sideOf x := by
  simp [damageRobot, leaveHeld_side, toIdle_side h]

theorem checkRobot_side (k : ReadKind) (s : State) : (checkRobot r k s).sideOf x = s.sideOf x := by
  unfold checkRobot
  split
  · simp
  · split <;> simp [modRobot_side h, damageRobot_side h]

theorem loseRobot_side (s : State) : (loseRobot r s).sideOf x = s.sideOf x := by
  unfold loseRobot
  dsimp only
  split <;> split <;> simp [modRobot_side h, bumpRobot_side h]

theorem hitRobot_side (parked : Bool) (s : State) : (hitRobot r parked s).sideOf x = s.sideOf x := by
  cases parked <;> simp [hitRobot, reportParked_side h, modRobot_side h]

theorem missRobot_side (s : State) : (missRobot r s).sideOf x = s.sideOf x := by
  unfold missRobot
  dsimp only
  generalize (if s.robots[r].state = .running then 1 else min (s.robots[r].missCount + 1) 15) = misses
  split
  · simp [loseRobot_side h, modRobot_side h, bumpRobot_side h]
  · split <;> simp [modRobot_side h, bumpRobot_side h]

theorem stallRobot_side (s : State) : (stallRobot r s).sideOf x = s.sideOf x := by
  unfold stallRobot
  dsimp only
  split <;> simp [modRobot_side h]

theorem returnRobot_side (parked : Bool) (s : State) :
    (returnRobot r parked s).sideOf x = s.sideOf x := by
  cases parked <;> simp [returnRobot, reportParked_side h, modRobot_side h]

theorem judgePeriod_side (s : State) : (judgePeriod r s).sideOf x = s.sideOf x := by
  unfold judgePeriod
  dsimp only
  split
  case h_9 =>
    split
    exacts [rfl, returnRobot_side h _ s]
  all_goals simp [hitRobot_side h, missRobot_side h, stallRobot_side h, bumpRobot_side h]

theorem periodEnd_side (boundary : HallTime) (s : State) :
    (periodEnd r boundary s).sideOf x = s.sideOf x := by
  unfold periodEnd
  dsimp only
  rw [modRobot_side h]
  split <;> split <;> simp [judgePeriod_side h, modRobot_side h, bumpRobot_side h]

theorem boundaryFor_side (p : PortId) (index : Int) (disturbed : Bool) (boundary : HallTime) (s : State) :
    (boundaryFor p index disturbed boundary r s).sideOf x = s.sideOf x := by
  unfold boundaryFor
  split
  · dsimp only
    split
    · split <;> split <;> simp [periodEnd_side h, modRobot_side h, checkRobot_side h]
    · exact checkRobot_side h _ s
  · rfl

theorem sendHoldFrame_side (p : PortId) (s : State) : (sendHoldFrame r p s).sideOf x = s.sideOf x := by
  unfold sendHoldFrame
  split <;> simp [bumpRobot_side h, enqueueSend_side]

theorem sendSlot_side (p : PortId) (c : CellId) (s : State) :
    (sendSlot r p c s).sideOf x = s.sideOf x := by
  simp [sendSlot, bumpRobot_side h, enqueueSend_side, modRobot_side h]

theorem sendRepeat_side (p : PortId) (c : CellId) (s : State) :
    (sendRepeat r p c s).sideOf x = s.sideOf x := by
  simp [sendRepeat, bumpRobot_side h, enqueueSend_side, modRobot_side h]

theorem opening_side (p : PortId) (s : State) : (opening r p s).sideOf x = s.sideOf x := by
  unfold opening
  dsimp only
  repeat' split
  all_goals simp [sendSlot_side h, sendRepeat_side h, sendHoldFrame_side h, bumpRobot_side h,
    modRobot_side h]

theorem openingFor_side (p : PortId) (w : Nat) (s : State) :
    (openingFor p w r s).sideOf x = s.sideOf x := by
  unfold openingFor
  split
  · dsimp only
    split <;> simp [opening_side h, checkRobot_side h]
  · rfl

end

/-! ## Work done for each robot -/

/-- What is done for each of a list of robots leaves the side of one that is not in it alone. -/
theorem forEach_side {f : RobotId → State → State} {x : RobotId}
    (hf : ∀ a, x ≠ a → ∀ s, (f a s).sideOf x = s.sideOf x) (l : List RobotId) (hx : x ∉ l)
    (s : State) : (forEach l f s).sideOf x = s.sideOf x :=
  forEach_inv (P := fun t => t.sideOf x = s.sideOf x) l
    (fun a ha t ht => (hf a (fun e => hx (e ▸ ha)) t).trans ht) s rfl

/-- The robots in increasing index, before and after one of them. -/
theorem finRange_around (x : RobotId) : ∃ before after : List RobotId,
    List.finRange 24 = before ++ x :: after ∧ x ∉ before ∧ x ∉ after := by
  obtain ⟨before, after, e⟩ := List.append_of_mem (List.mem_finRange x)
  have hn := List.nodup_finRange 24
  rw [e, List.nodup_append, List.nodup_cons] at hn
  obtain ⟨-, ⟨ha, -⟩, hd⟩ := hn
  exact ⟨before, after, e, fun hb => hd x hb x List.mem_cons_self rfl, ha⟩

/-- A boundary that is signalled reaches each robot with its side as it was. -/
theorem signalBoundary_side (p : PortId) (index : Int) (disturbed : Bool) (boundary : HallTime)
    (r : RobotId) (s : State) : ∃ t : State, t.sideOf r = s.sideOf r ∧
      (signalBoundary p index disturbed boundary s).sideOf r =
        (boundaryFor p index disturbed boundary r t).sideOf r := by
  obtain ⟨before, after, e, hb, ha⟩ := finRange_around r
  have hside (a : RobotId) (hn : r ≠ a) (s : State) :=
    boundaryFor_side hn p index disturbed boundary s
  refine ⟨forEach before (boundaryFor p index disturbed boundary) s, forEach_side hside before hb s, ?_⟩
  rw [signalBoundary, e, forEach_append, forEach_cons, forEach_side hside after ha]

end Sys2Proof.Machine
end


section
/-! What a period's end makes of its robot, what a judged period comes to, and the boundaries that begin
cycles (R66, R68, R69, R92, R93, R96 to R99). -/

namespace Sys2Proof.Machine

/-! ## A judged period's robot (R97 to R99) -/

/-- A robot after a judged period without a hit in RUNNING, LATE or PARKED (R97, R98, R100). -/
def Robot.missed (b : Robot) : Robot :=
  let misses := if b.state = .running then 1 else min (b.missCount + 1) 15
  if b.cfg.tolerance ≤ misses then
    { b with missCount := misses, state := .lost, barred := b.barred || decide (0 < b.probation) }
  else { b with missCount := misses, state := if b.state = .running then .late else b.state }

/-- A robot after a judged period, where no window waits for it (R97 to R99). -/
def Robot.judged (b : Robot) : Robot :=
  match b.state, b.hit with
  | .arming, some parked | .running, some parked | .late, some parked | .parked, some parked =>
    { b with state := if parked then .parked else .running, missCount := 0 }
  | .arming, none => { b with armingCount := min (b.armingCount + 1) 65535 }
  | .running, none | .late, none | .parked, none => b.missed
  | .lost, some parked =>
    if b.barred then b
    else { b with state := if parked then .parked else .running, missCount := 0
                  probation := Config.probationPeriods }
  | .lost, none => b
  | .idle, _ | .service, _ => b

/-- A robot is supervised in ARMING, RUNNING, LATE or PARKED (R97). -/
def RobotState.supervised (x : RobotState) : Prop := x = .arming ∨ x = .running ∨ x = .late ∨ x = .parked

/-- It may miss in RUNNING, LATE or PARKED (R97). -/
def RobotState.mayMiss (x : RobotState) : Prop := x = .running ∨ x = .late ∨ x = .parked

/-- The rows by which an armed robot's period is judged (R97 to R99). -/
theorem Robot.judgement_cases {b : Robot} (h : b.state.armed = true) :
    (∃ parked, b.hit = some parked ∧ b.state.supervised) ∨ (b.hit = none ∧ b.state = .arming) ∨
      (b.hit = none ∧ b.state.mayMiss) ∨ (∃ parked, b.hit = some parked ∧ b.state = .lost) ∨
        (b.hit = none ∧ b.state = .lost) := by
  unfold RobotState.supervised RobotState.mayMiss
  cases hs : b.state <;> rw [hs] at h <;> cases b.hit <;> simp_all [RobotState.armed]

section
variable {b : Robot}

theorem Robot.judged_hit {parked : Bool} (hs : b.state.supervised) (hh : b.hit = some parked) :
    b.judged = { b with state := if parked then .parked else .running, missCount := 0 } := by
  obtain hs | hs | hs | hs := hs <;> simp only [Robot.judged, hs, hh]

theorem Robot.judged_arming (hs : b.state = .arming) (hh : b.hit = none) :
    b.judged = { b with armingCount := min (b.armingCount + 1) 65535 } := by
  simp only [Robot.judged, hs, hh]

theorem Robot.judged_missed (hs : b.state.mayMiss) (hh : b.hit = none) : b.judged = b.missed := by
  obtain hs | hs | hs := hs <;> simp only [Robot.judged, hs, hh]

theorem Robot.judged_back {parked : Bool} (hs : b.state = .lost) (hh : b.hit = some parked) :
    b.judged = if b.barred then b else { b with
      state := if parked then .parked else .running, missCount := 0
      probation := Config.probationPeriods } := by
  simp only [Robot.judged, hs, hh]

theorem Robot.judged_lost (hs : b.state = .lost) (hh : b.hit = none) : b.judged = b := by
  simp only [Robot.judged, hs, hh]

/-- No judged period leaves an armed robot in SERVICE where no window waits for it. -/
theorem Robot.judged_state (h : b.state.armed = true) : b.judged.state ≠ .service := by
  have hb : b.state ≠ .service := by rintro e; rw [e] at h; cases h
  have hif (parked : Bool) : (if parked then .parked else .running : RobotState) ≠ .service := by
    cases parked <;> decide
  obtain ⟨parked, hh, hs⟩ | ⟨hh, hs⟩ | ⟨hh, hs⟩ | ⟨parked, hh, hs⟩ | ⟨hh, hs⟩ := b.judgement_cases h
  · rw [Robot.judged_hit hs hh]; exact hif parked
  · rw [Robot.judged_arming hs hh]; exact hb
  · rw [Robot.judged_missed hs hh]
    unfold Robot.missed
    dsimp only
    generalize (if b.state = .running then 1 else min (b.missCount + 1) 15) = misses
    split
    · exact RobotState.noConfusion
    · dsimp only
      split
      exacts [RobotState.noConfusion, hb]
  · rw [Robot.judged_back hs hh]
    split
    exacts [hb, hif parked]
  · rw [Robot.judged_lost hs hh]; exact hb

end

/-! ## The record of one robot after an update (R89) -/

theorem State.modRobot_get (r : RobotId) (f : Robot → Robot) (s : State) :
    (s.modRobot r f).robots[r] = f s.robots[r] := upd_same ..

theorem bump_robot (c : CounterRef) (r : RobotId) (s : State) : (bump c s).robots[r] = s.robots[r] := by
  rw [bump_robots]

theorem raise_robot (e : NoticeEvent) (r : RobotId) (s : State) :
    (raise e s).robots[r] = s.robots[r] := by rw [raise_robots]

theorem joinHold_robot (h : HoldSource) (r : RobotId) (s : State) :
    (joinHold h s).robots[r] = s.robots[r] :=
  congrArg RobotSide.robot (joinHold_side (x := r) h s)

section
variable {r : RobotId} {s : State}

theorem loseRobot_robot : (loseRobot r s).robots[r] = { s.robots[r] with
    state := .lost, barred := s.robots[r].barred || decide (0 < s.robots[r].probation) } := by
  have hif (P : Prop) [Decidable P] (t : State) :
      (if P then joinHold (.robot r) t else t).robots[r] = t.robots[r] := by
    split
    exacts [joinHold_robot .., rfl]
  unfold loseRobot
  dsimp only
  rw [hif]
  split
  · next h =>
    rw [raise_robot, bump_robot, State.modRobot_get] at h
    rw [raise_robot, State.modRobot_get, raise_robot, bump_robot, State.modRobot_get]
    simp only [decide_eq_true h, Bool.or_true]
  · next h =>
    rw [raise_robot, bump_robot, State.modRobot_get] at h
    rw [raise_robot, bump_robot, State.modRobot_get]
    simp only [decide_eq_false h, Bool.or_false]

theorem missRobot_robot : (missRobot r s).robots[r] = s.robots[r].missed := by
  unfold missRobot Robot.missed
  dsimp only
  generalize (if s.robots[r].state = .running then 1 else min (s.robots[r].missCount + 1) 15) = misses
  split
  · rw [loseRobot_robot, bump_robot, State.modRobot_get]
  · split
    · rw [State.modRobot_get, bump_robot, State.modRobot_get]
    · rw [bump_robot, State.modRobot_get]

theorem stallRobot_robot : (stallRobot r s).robots[r] =
    { s.robots[r] with armingCount := min (s.robots[r].armingCount + 1) 65535 } := by
  unfold stallRobot
  dsimp only
  split
  · rw [raise_robot, State.modRobot_get]
  · rw [State.modRobot_get]

/-! ## A period judged by its row (R97 to R99) -/

theorem judgePeriod_hit {parked : Bool} (hs : s.robots[r].state.supervised)
    (hh : s.robots[r].hit = some parked) : judgePeriod r s = hitRobot r parked s := by
  obtain hs | hs | hs | hs := hs <;> simp only [judgePeriod, hs, hh]

theorem judgePeriod_arming (hs : s.robots[r].state = .arming) (hh : s.robots[r].hit = none) :
    judgePeriod r s = stallRobot r s := by simp only [judgePeriod, hs, hh]

theorem judgePeriod_missed (hs : s.robots[r].state.mayMiss) (hh : s.robots[r].hit = none) :
    judgePeriod r s = missRobot r s := by
  obtain hs | hs | hs := hs <;> simp only [judgePeriod, hs, hh]

theorem judgePeriod_back {parked : Bool} (hs : s.robots[r].state = .lost)
    (hh : s.robots[r].hit = some parked) :
    judgePeriod r s = if s.robots[r].barred then s else returnRobot r parked s := by
  simp only [judgePeriod, hs, hh]

theorem judgePeriod_lost (hs : s.robots[r].state = .lost) (hh : s.robots[r].hit = none) :
    judgePeriod r s = bump (.robot r .misses) s := by simp only [judgePeriod, hs, hh]

/-! ## What a judged period leaves of the silent periods -/

/-- The silent periods that were counted of a robot. -/
def State.silentPeriods (s : State) (r : RobotId) : Nat := s.counter (.robot r .silentPeriods)

theorem bump_silent (k : RobotCounter) (hk : k ≠ .silentPeriods) (t : State) :
    (bump (.robot r k) t).silentPeriods r = t.silentPeriods r :=
  bump_counter_other _ _ _ rfl (by simp [hk.symm])

theorem raise_silent (e : NoticeEvent) (t : State) : (raise e t).silentPeriods r = t.silentPeriods r :=
  raise_counter e t _ rfl

theorem modRobot_silent (f : Robot → Robot) (t : State) :
    (t.modRobot r f).silentPeriods r = t.silentPeriods r := rfl

theorem joinHold_silent (h : HoldSource) (t : State) :
    (joinHold h t).silentPeriods r = t.silentPeriods r :=
  congrFun (congrArg RobotSide.counts (joinHold_side (x := r) h t)) .silentPeriods

theorem loseRobot_silent : (loseRobot r s).silentPeriods r = s.silentPeriods r := by
  have hif (P : Prop) [Decidable P] (t : State) :
      (if P then joinHold (.robot r) t else t).silentPeriods r = t.silentPeriods r := by
    split
    exacts [joinHold_silent .., rfl]
  unfold loseRobot
  dsimp only
  rw [hif]
  split
  · rw [raise_silent, modRobot_silent, raise_silent, bump_silent _ (by decide), modRobot_silent]
  · rw [raise_silent, bump_silent _ (by decide), modRobot_silent]

theorem missRobot_silent : (missRobot r s).silentPeriods r = s.silentPeriods r := by
  unfold missRobot
  dsimp only
  generalize (if s.robots[r].state = .running then 1 else min (s.robots[r].missCount + 1) 15) = misses
  split
  · rw [loseRobot_silent, bump_silent _ (by decide), modRobot_silent]
  · split
    · rw [modRobot_silent, bump_silent _ (by decide), modRobot_silent]
    · rw [bump_silent _ (by decide), modRobot_silent]

theorem stallRobot_silent : (stallRobot r s).silentPeriods r = s.silentPeriods r := by
  unfold stallRobot
  dsimp only
  split
  · rw [raise_silent, modRobot_silent]
  · rw [modRobot_silent]

/-! ## The steps of a period's end (R96) -/

/-- A robot with one period of its probation over. -/
def Robot.spent (b : Robot) : Robot := { b with probation := b.probation - 1 }

/-- A robot's next period begins at a boundary, with its marks cleared. -/
def Robot.begun (b : Robot) (boundary : HallTime) : Robot :=
  { b with partialPeriod := false, disturbed := false, openingTaken := false, hit := none
           periodStart := boundary }

/-- A period is judged when it is neither partial nor disturbed. -/
def Robot.judgeable (b : Robot) : Bool := !b.partialPeriod && !b.disturbed

/-- A period's end, with the operations that tell of the record named. -/
theorem periodEnd_eq (boundary : HallTime) : periodEnd r boundary s =
    State.modRobot r (fun b => b.nextPeriod boundary)
      (let t := if s.robots[r].judgeable then judgePeriod r (s.modRobot r Robot.spent)
        else s.modRobot r Robot.spent
      if s.robots[r].judgeable && !s.robots[r].openingTaken then bump (.robot r .silentPeriods) t
      else t) := by
  have hrobot := State.modRobot_get r Robot.spent s
  unfold Robot.spent at hrobot
  unfold periodEnd
  dsimp only
  rw [hrobot]
  rfl

variable (hw : ∀ w : WindowId, s.windows[w].pendingSet.getLsbD r.val = false)
include hw

/-- A robot that no window waits for is taken into no window as it parks (R163). -/
theorem reportParked_unawaited : reportParked r s = s := by
  unfold reportParked
  have hnone : ([(0 : WindowId), 1].find? fun w =>
      s.windows[w].maintains && s.windows[w].pendingSet.getLsbD r) = none := by
    rw [List.find?_eq_none]
    intro w _
    rw [hw w, Bool.and_false]
    exact Bool.false_ne_true
  rw [hnone]

theorem hitRobot_unawaited (parked : Bool) : hitRobot r parked s = s.modRobot r fun b =>
    { b with state := if parked then .parked else .running, missCount := 0 } := by
  unfold hitRobot
  dsimp only
  split
  · exact reportParked_unawaited hw
  · rfl

theorem returnRobot_unawaited (parked : Bool) : returnRobot r parked s =
    leaveHold (.robot r) (raise (.robotBack r (if parked then .parked else .running))
      (s.modRobot r fun b => { b with state := if parked then .parked else .running, missCount := 0
                                      probation := Config.probationPeriods })) := by
  unfold returnRobot
  dsimp only
  split
  · refine reportParked_unawaited fun w => ?_
    exact (congrArg (fun v : Vector ServiceWindow 2 => v[w].pendingSet.getLsbD r.val)
      (raise_windows _ _)).trans (hw w)
  · rfl

/-- What a judged period makes of its robot's record. -/
theorem judgePeriod_robot (h : s.robots[r].state.armed = true) :
    (judgePeriod r s).robots[r] = s.robots[r].judged := by
  obtain ⟨parked, hh, hs⟩ | ⟨hh, hs⟩ | ⟨hh, hs⟩ | ⟨parked, hh, hs⟩ | ⟨hh, hs⟩ :=
    s.robots[r].judgement_cases h
  · rw [judgePeriod_hit hs hh, hitRobot_unawaited hw, State.modRobot_get, Robot.judged_hit hs hh]
  · rw [judgePeriod_arming hs hh, stallRobot_robot, Robot.judged_arming hs hh]
  · rw [judgePeriod_missed hs hh, missRobot_robot, Robot.judged_missed hs hh]
  · rw [judgePeriod_back hs hh, Robot.judged_back hs hh]
    split
    · rfl
    · rw [returnRobot_unawaited hw]
      exact (raise_robot ..).trans (State.modRobot_get ..)
  · rw [judgePeriod_lost hs hh, bump_robot, Robot.judged_lost hs hh]

/-- A judged period counts no silent period. -/
theorem judgePeriod_silent (h : s.robots[r].state.armed = true) :
    (judgePeriod r s).silentPeriods r = s.silentPeriods r := by
  obtain ⟨parked, hh, hs⟩ | ⟨hh, hs⟩ | ⟨hh, hs⟩ | ⟨parked, hh, hs⟩ | ⟨hh, hs⟩ :=
    s.robots[r].judgement_cases h
  · rw [judgePeriod_hit hs hh, hitRobot_unawaited hw, modRobot_silent]
  · rw [judgePeriod_arming hs hh, stallRobot_silent]
  · rw [judgePeriod_missed hs hh, missRobot_silent]
  · rw [judgePeriod_back hs hh]
    split
    · rfl
    · rw [returnRobot_unawaited hw]
      exact (raise_silent ..).trans (modRobot_silent ..)
  · rw [judgePeriod_lost hs hh, bump_silent _ (by decide)]

/-! ## A period's end (R96) -/

/-- What a period's end makes of its robot's record. -/
theorem periodEnd_robot (h : s.robots[r].state.armed = true) (boundary : HallTime) :
    (periodEnd r boundary s).robots[r] =
      (if s.robots[r].judgeable then s.robots[r].spent.judged else s.robots[r].spent).begun boundary := by
  have hspent := State.modRobot_get r Robot.spent s
  have harmed : (s.modRobot r Robot.spent).robots[r].state.armed = true := by rw [hspent]; exact h
  have hjudged := judgePeriod_robot (s := s.modRobot r Robot.spent) hw harmed
  have hstate := Robot.judged_state harmed
  rw [hspent] at hjudged hstate
  have hs : s.robots[r].spent.state ≠ .service := by
    intro e
    rw [show s.robots[r].state = .service from e] at h
    cases h
  have hsilent (P : Prop) [Decidable P] (t : State) :
      (if P then bump (.robot r .silentPeriods) t else t).robots[r] = t.robots[r] := by
    split
    exacts [bump_robot .., rfl]
  rw [periodEnd_eq boundary, State.modRobot_get, hsilent]
  split
  · rw [hjudged, Robot.nextPeriod_of_supervised _ _ hstate]
    rfl
  · rw [hspent, Robot.nextPeriod_of_supervised _ _ hs]
    rfl

/-- A judged period whose command window did not open counts as silent, and no other. -/
theorem periodEnd_silent (h : s.robots[r].state.armed = true) (boundary : HallTime) :
    (periodEnd r boundary s).silentPeriods r =
      if s.robots[r].judgeable && !s.robots[r].openingTaken then
        min (s.silentPeriods r + 1) Config.counterMax
      else s.silentPeriods r := by
  have harmed : (s.modRobot r Robot.spent).robots[r].state.armed = true := by
    rw [State.modRobot_get]; exact h
  have hjudged := judgePeriod_silent (s := s.modRobot r Robot.spent) hw harmed
  have hcount : (if s.robots[r].judgeable then judgePeriod r (s.modRobot r Robot.spent)
      else s.modRobot r Robot.spent).silentPeriods r =
        s.silentPeriods r := by
    split
    exacts [hjudged, rfl]
  rw [periodEnd_eq boundary]
  rw [modRobot_silent]
  dsimp only
  split
  · exact (bump_counter _ _ _ rfl).trans (by rw [if_pos rfl, ← hcount]; rfl)
  · exact hcount

end

/-! ## A boundary as it reaches one robot (R92, R93) -/

/-- A robot whose period is marked disturbed if the cycle that ends was. -/
def Robot.marked (disturbed : Bool) (b : Robot) : Robot := { b with disturbed := b.disturbed || disturbed }

theorem boundaryFor_sound {p : PortId} {r : RobotId} {s : State} (ha : s.robots[r].state.armed = true)
    (hp : s.robots[r].port = some p) (hd : s.robots[r].damaged = false)
    (he : s.robots[r].ecc = .clean) (index : Int) (disturbed : Bool) (boundary : HallTime) :
    boundaryFor p index disturbed boundary r s =
      if index.emod s.robots[r].cfg.period = s.robots[r].cfg.phase then
        periodEnd r boundary (s.modRobot r (Robot.marked disturbed))
      else s.modRobot r (Robot.marked disturbed) := by
  have hmark : (if disturbed then s.modRobot r fun b => { b with disturbed := true } else s) =
      s.modRobot r (Robot.marked disturbed) := by
    cases disturbed
    · refine (congrArg (fun v => ({ s with robots := v } : State)) (upd_fixed _ _ _ ?_)).symm
      simp only [Robot.marked, Bool.or_false]
    · exact congrArg (fun v => ({ s with robots := v } : State))
        (upd_congr _ _ _ _ (by simp only [Robot.marked, Bool.or_true]))
  unfold boundaryFor
  rw [if_pos ⟨ha, hp⟩, checkRobot_clean r .supervision s hd he]
  dsimp only
  rw [if_pos ha, hmark, State.modRobot_get]
  rfl

theorem boundaryFor_elsewhere {p : PortId} {r : RobotId} {s : State}
    (h : s.robots[r].port ≠ some p ∨ s.robots[r].state.armed = false) (index : Int) (disturbed : Bool)
    (boundary : HallTime) : boundaryFor p index disturbed boundary r s = s := by
  refine if_neg ?_
  rintro ⟨ha, hp⟩
  obtain h | h := h
  · exact h hp
  · rw [ha] at h; cases h

/-! ## A boundary signalled to the supervisor, as one robot sees it (R92, R93, R96) -/

/-- A robot is armed on a port. -/
def Robot.armedOn (b : Robot) (p : PortId) : Prop := b.state.armed = true ∧ b.port = some p

/-- Its record is sound: it is not damaged and holds no bit error (R18). -/
def Robot.sound (b : Robot) : Prop := b.damaged = false ∧ b.ecc = .clean

theorem robot_of_side {s t : State} {r : RobotId} (h : t.sideOf r = s.sideOf r) :
    t.robots[r] = s.robots[r] := congrArg RobotSide.robot h

theorem awaited_of_side {s t : State} {r : RobotId} (h : t.sideOf r = s.sideOf r) (w : WindowId) :
    t.windows[w].pendingSet.getLsbD r.val = s.windows[w].pendingSet.getLsbD r.val :=
  congrFun (congrArg RobotSide.awaited h) w

theorem counter_of_side {s t : State} {r : RobotId} (h : t.sideOf r = s.sideOf r) (k : RobotCounter) :
    t.counter (.robot r k) = s.counter (.robot r k) := congrFun (congrArg RobotSide.counts h) k

/-- An armed robot's period end that is not judged clears its marks alone. -/
theorem periodEnd_unjudged {r : RobotId} {s : State} (ha : s.robots[r].state.armed = true)
    (hj : s.robots[r].judgeable = false) (boundary : HallTime) :
    (periodEnd r boundary s).robots[r] = s.robots[r].spent.begun boundary := by
  have hs : s.robots[r].spent.state ≠ .service := by
    intro e
    rw [show s.robots[r].state = .service from e] at ha
    cases ha
  rw [periodEnd_eq boundary, hj, State.modRobot_get]
  simp only [Bool.false_and, Bool.false_eq_true, if_false]
  rw [State.modRobot_get, Robot.nextPeriod_of_supervised _ _ hs]
  rfl

section
variable {p : PortId} {r : RobotId} {s : State} (index : Int) (disturbed : Bool) (boundary : HallTime)

theorem signalBoundary_elsewhere (h : s.robots[r].port ≠ some p ∨ s.robots[r].state.armed = false) :
    (signalBoundary p index disturbed boundary s).sideOf r = s.sideOf r := by
  obtain ⟨t, ht, he⟩ := signalBoundary_side p index disturbed boundary r s
  rw [he, boundaryFor_elsewhere (by rw [robot_of_side ht]; exact h), ht]

variable (ha : s.robots[r].armedOn p) (hs : s.robots[r].sound)
include ha hs

/-- A boundary reaches an armed robot of the port with its side as it was, and is tested as a period
end. -/
theorem signalBoundary_reaches : ∃ t : State, t.sideOf r = s.sideOf r ∧
    (signalBoundary p index disturbed boundary s).sideOf r =
      State.sideOf r (if index.emod s.robots[r].cfg.period = s.robots[r].cfg.phase then
        periodEnd r boundary (t.modRobot r (Robot.marked disturbed))
      else t.modRobot r (Robot.marked disturbed)) := by
  obtain ⟨t, ht, he⟩ := signalBoundary_side p index disturbed boundary r s
  have hr := robot_of_side ht
  refine ⟨t, ht, ?_⟩
  rw [he, boundaryFor_sound (by rw [hr]; exact ha.1) (by rw [hr]; exact ha.2) (by rw [hr]; exact hs.1)
    (by rw [hr]; exact hs.2), hr]

/-- A boundary that ends no period of a robot marks its period at most. -/
theorem signalBoundary_within (hn : index.emod s.robots[r].cfg.period ≠ s.robots[r].cfg.phase) :
    (signalBoundary p index disturbed boundary s).robots[r] = s.robots[r].marked disturbed ∧
      ∀ k, (signalBoundary p index disturbed boundary s).counter (.robot r k) =
        s.counter (.robot r k) := by
  obtain ⟨t, ht, he⟩ := signalBoundary_reaches index disturbed boundary ha hs
  rw [if_neg hn] at he
  exact ⟨by rw [robot_of_side he, State.modRobot_get, robot_of_side ht],
    fun k => (counter_of_side he k).trans (counter_of_side ht k)⟩

variable (hn : index.emod s.robots[r].cfg.period = s.robots[r].cfg.phase)
include hn

/-- A boundary that ends a disturbed period of a robot judges nothing. -/
theorem signalBoundary_disturbed :
    (signalBoundary p index true boundary s).robots[r] =
      (s.robots[r].marked true).spent.begun boundary := by
  obtain ⟨t, ht, he⟩ := signalBoundary_reaches index true boundary ha hs
  have hr : (t.modRobot r (Robot.marked true)).robots[r] = s.robots[r].marked true := by
    rw [State.modRobot_get, robot_of_side ht]
  rw [if_pos hn] at he
  rw [robot_of_side he, periodEnd_unjudged (by rw [hr]; exact ha.1)
    (by rw [hr]; simp [Robot.judgeable, Robot.marked]), hr]

/-- A boundary that ends a period of a robot that no window waits for judges and begins as R96 says. -/
theorem signalBoundary_ends
    (hw : ∀ w : WindowId, s.windows[w].pendingSet.getLsbD r.val = false) :
    (signalBoundary p index disturbed boundary s).robots[r] =
        (if (s.robots[r].marked disturbed).judgeable then
          (s.robots[r].marked disturbed).spent.judged
        else (s.robots[r].marked disturbed).spent).begun boundary ∧
      (signalBoundary p index disturbed boundary s).silentPeriods r =
        if (s.robots[r].marked disturbed).judgeable && !s.robots[r].openingTaken then
          min (s.silentPeriods r + 1) Config.counterMax
        else s.silentPeriods r := by
  obtain ⟨t, ht, he⟩ := signalBoundary_reaches index disturbed boundary ha hs
  have hr : (t.modRobot r (Robot.marked disturbed)).robots[r] = s.robots[r].marked disturbed := by
    rw [State.modRobot_get, robot_of_side ht]
  have hwt (w : WindowId) : (t.modRobot r (Robot.marked disturbed)).windows[w].pendingSet.getLsbD r.val =
      false := (awaited_of_side ht w).trans (hw w)
  have harmed : (t.modRobot r (Robot.marked disturbed)).robots[r].state.armed = true := by
    rw [hr]; exact ha.1
  have hcount : (t.modRobot r (Robot.marked disturbed)).silentPeriods r = s.silentPeriods r :=
    counter_of_side ht .silentPeriods
  rw [if_pos hn] at he
  constructor
  · rw [robot_of_side he, periodEnd_robot hwt harmed, hr]
  · refine (counter_of_side he .silentPeriods).trans ((periodEnd_silent hwt harmed boundary).trans ?_)
    rw [hcount, hr]
    rfl

end

/-! ## A boundary that begins a cycle (R66, R68, R69) -/

/-- The index of the cycle that begins at the end of the one in progress, where no switch-over is
made. -/
def Gate.plainIndex (g : Gate) : Int :=
  if g.mode = .opened then nextGridIndex g.cycleIndex else g.cycleIndex + 1

/-- An engine whose next cycle begins, where no switch-over is made. -/
def Gate.nextCycle (g : Gate) : Gate :=
  { g with cycleIndex := g.plainIndex, windowIndex := 0, commitFrom := g.commitFromNext
           cycleStart := if g.mode = .opened then gridBoundary g.plainIndex else g.cycleEnd
           disturbed := false }

/-- The state in which the end of the cycle in progress has been signalled and the next has begun. -/
def State.cycleBegun (s : State) (p : PortId) : State :=
  changeGate p (fun _ => s.gates[p].nextCycle)
    (signalBoundary p s.gates[p].plainIndex s.gates[p].disturbed (HallTime.ofNs s.gates[p].cycleEnd) s)

theorem State.unsupervised_gates (s : State) : s.unsupervised.gates = s.gates := by cases s; rfl

theorem gates_of_beside {s t : State} (h : t.beside = s.beside) : t.gates = s.gates := by
  rw [← t.unsupervised_gates, unsupervised_of_beside h, State.unsupervised_gates]

theorem modGate_beside {s t : State} (h : t.beside = s.beside) (p : PortId) (f : Gate → Gate) :
    (t.modGate p f).beside = (s.modGate p f).beside := by
  have hg := gates_of_beside h
  have e : ∀ u : State, (u.modGate p f).beside =
      ({ u.beside.1 with gates := upd u.gates p f }, u.beside.2) := fun _ => rfl
  rw [e, e, h, hg]

theorem cycleBegun_beside (s : State) (p : PortId) :
    (s.cycleBegun p).beside = (s.modGate p fun _ => s.gates[p].nextCycle).beside := by
  rw [State.cycleBegun, changeGate_beside]
  exact modGate_beside (signalBoundary_beside ..) p _

theorem cycleBegun_side (s : State) (p : PortId) (r : RobotId) : (s.cycleBegun p).sideOf r =
    (signalBoundary p s.gates[p].plainIndex s.gates[p].disturbed
      (HallTime.ofNs s.gates[p].cycleEnd) s).sideOf r := changeGate_side ..

theorem changeGate_congr {p : PortId} {f g : Gate → Gate} {s : State} (h : f s.gates[p] = g s.gates[p]) :
    changeGate p f s = changeGate p g s := by
  have e : s.modGate p f = s.modGate p g :=
    congrArg (fun v => ({ s with gates := v } : State)) (upd_congr _ _ _ _ h)
  unfold changeGate
  rw [e]

theorem takeBoundary_plain {p : PortId} {s : State} (h : s.gates[p].switchDue = none) :
    takeBoundary p s =
      if s.gates[p].mode = .opened then s.cycleBegun p else signalWindow p 0 (s.cycleBegun p) := by
  have hg (i : Int) : (signalBoundary p i s.gates[p].disturbed
      (HallTime.ofNs s.gates[p].cycleEnd) s).gates = s.gates := gates_of_beside (signalBoundary_beside ..)
  unfold takeBoundary State.cycleBegun
  dsimp only
  rw [h]
  dsimp only
  rw [changeGate_congr (g := fun _ => s.gates[p].nextCycle)]
  · rfl
  · simp only [hg]
    rfl

theorem switchDue_none {g : Gate} (h : g.commit = false ∨ g.switchIndex ≠ g.cycleIndex + 1) :
    g.switchDue = none := by
  refine if_neg ?_
  rintro ⟨hc, hi⟩
  obtain h | h := h
  · rw [h] at hc; cases hc
  · exact h hi

end Sys2Proof.Machine
end


section
/-! The boundaries of a port's grid or list that begin the next cycle, and the periods that they end and
judge (R66, R68, R69, R92, R93, R96 to R99). -/

namespace Sys2Proof.Machine

/-! ## The boundary as a command (R66, R68, R69) -/

theorem cycleEnd_opened {g : Gate} (h : g.mode = .opened) :
    g.cycleEnd = (g.cycleIndex + 1) * 1000000 := by
  simp only [Gate.cycleEnd, Gate.boundaryAt, h]
  rfl

theorem cycleEnd_running {g : Gate} {l : GateList} (h : g.mode = .running) (hl : g.active = some l) :
    g.cycleEnd = l.base.toNs + (g.cycleIndex + 1) * l.cycle := by
  simp only [Gate.cycleEnd, Gate.boundaryAt, h, hl]
  rfl

theorem plainIndex_opened {g : Gate} (h : g.mode = .opened) :
    g.plainIndex = if g.cycleIndex + 1 = gridIndexes then 0 else g.cycleIndex + 1 := if_pos h

theorem plainIndex_running {g : Gate} (h : g.mode = .running) : g.plainIndex = g.cycleIndex + 1 :=
  if_neg (by rw [h]; decide)

theorem nextCycle_opened {g : Gate} (h : g.mode = .opened) : g.nextCycle =
    { g with cycleIndex := g.plainIndex, windowIndex := 0, cycleStart := g.plainIndex * 1000000
             disturbed := false
             commitFrom := if g.cycleIndex + 1 = gridIndexes then
               g.commitFrom.map fun c => c - gridIndexes else g.commitFrom } := by
  simp only [Gate.nextCycle, Gate.commitFromNext, h, true_and, if_true]
  rfl

theorem nextCycle_running {g : Gate} (h : g.mode = .running) : g.nextCycle =
    { g with cycleIndex := g.cycleIndex + 1, windowIndex := 0, cycleStart := g.cycleEnd
             disturbed := false } := by
  have hn : ¬g.mode = .opened := by rw [h]; decide
  simp only [Gate.nextCycle, Gate.commitFromNext, plainIndex_running h, hn, false_and, if_false]

/-- A command of the boundary of a port's grid or list. -/
def BoundaryCommand (c : Instr) (g : Gate) (p : PortId) : Prop :=
  g.mode = .opened ∧ c = .openGridBoundary p ∨ g.mode = .running ∧ c = .cycleBoundary p

theorem exec_boundary {p : PortId} {s : State} {c : Instr} (hc : BoundaryCommand c s.gates[p] p)
    (hsw : s.gates[p].commit = false ∨ s.gates[p].switchIndex ≠ s.gates[p].cycleIndex + 1)
    (hr : s.clock.hall.reached s.gates[p].cycleEnd = true) :
    exec c s = .next (if s.gates[p].mode = .opened then s.cycleBegun p
      else signalWindow p 0 (s.cycleBegun p)) := by
  have ht := takeBoundary_plain (switchDue_none hsw)
  obtain ⟨hm, rfl⟩ | ⟨hm, rfl⟩ := hc
  · rw [← ht]
    exact congrArg _ (if_pos ⟨hm, hr⟩)
  · rw [← ht]
    exact congrArg _ (if_pos ⟨hm, hr⟩)

theorem modGate_congr {p : PortId} {f g : Gate → Gate} {s : State} (h : f s.gates[p] = g s.gates[p]) :
    s.modGate p f = s.modGate p g :=
  congrArg (fun v => ({ s with gates := v } : State)) (upd_congr _ _ _ _ h)

/-! ## The statement's clause of judgement (R97, R99) -/

section
variable {r : RobotId} {s : State}

theorem stallRobot_effects : (stallRobot r s).uncounted = (s.modRobot r fun b =>
      { b with armingCount := min (b.armingCount + 1) 65535 }).uncounted ∧
    Effects s (stallRobot r s) s.clock.hall.base []
      (if s.robots[r].armingCount = 63 then [.armStalled r 64] else []) := by
  have hstate : (s.modRobot r fun b =>
      { b with armingCount := min (s.robots[r].armingCount + 1) 65535 }) =
      s.modRobot r fun b => { b with armingCount := min (b.armingCount + 1) 65535 } :=
    congrArg (fun v => ({ s with robots := v } : State)) (upd_congr _ _ _ _ rfl)
  have he := Effects.start s (s.modRobot r fun b =>
    { b with armingCount := min (b.armingCount + 1) 65535 }) s.clock.hall.base rfl rfl
  unfold stallRobot
  dsimp only
  rw [hstate]
  by_cases h : s.robots[r].armingCount = 63
  · rw [if_pos (by rw [h]; decide), if_pos h, h]
    exact ⟨raise_uncounted .., he.raise _ rfl⟩
  · rw [if_neg (by simp only [Config.armStall]; omega), if_neg h]
    exact ⟨rfl, he⟩

/-- A miss below the tolerance (R97). -/
theorem missRobot_effects {st : RobotState} {n : Nat}
    (hn : s.robots[r].state = .running ∧ n = 1 ∧ st = .late ∨
      (s.robots[r].state = .late ∨ s.robots[r].state = .parked) ∧ n = s.robots[r].missCount + 1 ∧
        st = s.robots[r].state)
    (h15 : n ≤ 15) (ht : n < s.robots[r].cfg.tolerance) :
    (missRobot r s).uncounted =
        (s.modRobot r fun b => { b with state := st, missCount := n }).uncounted ∧
      Effects s (missRobot r s) s.clock.hall.base [.robot r .misses] [] := by
  have he := (Effects.start s (s.modRobot r fun b => { b with missCount := n }) s.clock.hall.base
    rfl rfl).bump (.robot r .misses)
  have hmisses : (if s.robots[r].state = .running then 1 else min (s.robots[r].missCount + 1) 15) = n := by
    obtain ⟨hs, rfl, -⟩ | ⟨hs, rfl, -⟩ := hn
    · exact if_pos hs
    · rw [if_neg (by obtain hs | hs := hs <;> rw [hs] <;> decide), Nat.min_eq_left h15]
  unfold missRobot
  dsimp only
  rw [hmisses, if_neg (Nat.not_le.mpr ht)]
  obtain ⟨hs, -, rfl⟩ | ⟨hs, -, rfl⟩ := hn
  · rw [if_pos hs]
    refine ⟨(modRobot_uncounted (bump_uncounted ..) r _).trans ?_, he.congr rfl rfl⟩
    refine congrArg State.uncounted (congrArg (fun v => ({ s with robots := v } : State)) ?_)
    rw [State.modRobot_robots, upd_upd]
  · rw [if_neg (by obtain hs | hs := hs <;> rw [hs] <;> decide)]
    refine ⟨(bump_uncounted ..).trans ?_, he⟩
    exact congrArg State.uncounted (congrArg (fun v => ({ s with robots := v } : State))
      (upd_congr _ _ _ _ rfl))

/-- A hit that returns a robot from LOST (R99). -/
theorem returnRobot_effects (hw : ∀ w : WindowId, s.windows[w].pendingSet.getLsbD r.val = false)
    (parked : Bool) {st : RobotState} (hst : st = if parked then .parked else .running) :
    (returnRobot r parked s).uncounted = ((leaveHold (.robot r) s).modRobot r fun b =>
        { b with state := st, missCount := 0, probation := 256 }).uncounted ∧
      Effects s (returnRobot r parked s) s.clock.hall.base [] [.robotBack r st] := by
  have he := (Effects.start s (s.modRobot r fun b =>
    { b with state := st, missCount := 0, probation := 256 }) s.clock.hall.base rfl rfl).raise
    (.robotBack r st) rfl
  have hu := raise_uncounted (.robotBack r st) (s.modRobot r fun b =>
    { b with state := st, missCount := 0, probation := 256 })
  rw [returnRobot_unawaited hw, ← hst]
  refine ⟨?_, he.congr rfl rfl⟩
  change (leaveHold _ (raise _ (s.modRobot r fun b =>
    { b with state := st, missCount := 0, probation := 256 }))).uncounted = _
  rw [eq_recounted hu.symm]
  rfl

end

/-! ## A period of a robot over a boundary (R93, R96) -/

theorem not_judgeable_iff (b : Robot) (disturbed : Bool) : (b.marked disturbed).judgeable = false ↔
    b.partialPeriod = true ∨ (b.disturbed || disturbed) = true := by
  cases h : b.partialPeriod <;> cases hd : b.disturbed <;>
    simp [Robot.judgeable, Robot.marked, h, hd]

theorem marked_eq_self {b : Robot} {disturbed : Bool} (h : (b.disturbed || disturbed) = false) :
    b.marked disturbed = b := by
  have hb : b.disturbed = false := (Bool.or_eq_false_iff.mp h).1
  unfold Robot.marked
  rw [h, ← hb]

section
variable {p : PortId} {r : RobotId} {s : State} (ha : s.robots[r].armedOn p) (hs : s.robots[r].sound)
  (hw : ∀ w : WindowId, s.windows[w].pendingSet.getLsbD r.val = false)
  (hn : s.gates[p].plainIndex.emod s.robots[r].cfg.period = s.robots[r].cfg.phase)
include ha hs hw hn

/-- The record of a robot whose period ends as a cycle begins. -/
theorem cycleBegun_ends_robot {v : Robot}
    (hv : v = if s.robots[r].partialPeriod = true ∨
        (s.robots[r].disturbed || s.gates[p].disturbed) = true then
      { s.robots[r] with probation := s.robots[r].probation - 1 }
      else (judgePeriod r (s.modRobot r fun b => { b with probation := b.probation - 1 })).robots[r]) :
    (s.cycleBegun p).robots[r] = v.begun (HallTime.ofNs s.gates[p].cycleEnd) := by
  have hends := (signalBoundary_ends _ s.gates[p].disturbed (HallTime.ofNs s.gates[p].cycleEnd)
    ha hs hn hw).1
  rw [robot_of_side (cycleBegun_side s p r), hends, hv]
  by_cases hj : s.robots[r].partialPeriod = true ∨
      (s.robots[r].disturbed || s.gates[p].disturbed) = true
  · rw [if_pos hj, (not_judgeable_iff ..).mpr hj, if_neg Bool.false_ne_true]
    rfl
  · have hjudge : (s.robots[r].marked s.gates[p].disturbed).judgeable = true :=
      Bool.not_eq_false _ ▸ fun h => hj ((not_judgeable_iff ..).mp h)
    have hjudged := judgePeriod_robot (s := s.modRobot r Robot.spent) hw
      (by rw [State.modRobot_get]; exact ha.1)
    rw [State.modRobot_get] at hjudged
    rw [if_neg hj, if_pos hjudge, marked_eq_self (by simpa using (not_or.mp hj).2), ← hjudged]
    rfl

/-- Its silent periods. -/
theorem cycleBegun_ends_silent : (s.cycleBegun p).counter (.robot r .silentPeriods) =
    if s.robots[r].partialPeriod = false ∧ (s.robots[r].disturbed || s.gates[p].disturbed) = false ∧
        s.robots[r].openingTaken = false then
      min (s.counter (.robot r .silentPeriods) + 1) Config.counterMax
    else s.counter (.robot r .silentPeriods) := by
  have hends := (signalBoundary_ends _ s.gates[p].disturbed (HallTime.ofNs s.gates[p].cycleEnd)
    ha hs hn hw).2
  refine (counter_of_side (cycleBegun_side s p r) .silentPeriods).trans (hends.trans ?_)
  refine if_congr ?_ rfl rfl
  simp only [Robot.judgeable, Robot.marked, Bool.and_eq_true, Bool.not_eq_true', and_assoc]

end

/-! ## The statement -/

/-- Settles O12: the next cycle by the engine's mode, each robot of the port by whether the boundary ends
its period, and each judged period by its row. -/
theorem boundariesBeginCycles : Obligations.BoundariesBeginCycles := by
  refine ⟨fun p s k n hm hsw hk hn hr => ?_, fun p s l k hm hl hsw hk hr => ?_,
    fun p s T k n c hc hsw hk hr => ?_, fun r s b st hb hw => ?_⟩
  · subst hk
    have hx := exec_boundary (.inl ⟨hm, rfl⟩) hsw (by rw [cycleEnd_opened hm]; exact hr)
    have hbeside := cycleBegun_beside s p
    rw [if_pos hm] at hx
    refine ⟨_, hx, (mgmt_of_beside hbeside :), (unsupervised_of_beside hbeside).trans ?_⟩
    rw [modGate_congr]
    rw [nextCycle_opened hm, plainIndex_opened hm, ← hn]
  · subst hk
    have hx := exec_boundary (.inr ⟨hm, rfl⟩) hsw (by rw [cycleEnd_running hm hl]; exact hr)
    have hbeside := (signalWindow_beside p 0 (s.cycleBegun p)).trans (cycleBegun_beside s p)
    rw [if_neg (by rw [hm]; decide)] at hx
    refine ⟨_, hx, (mgmt_of_beside hbeside :), (unsupervised_of_beside hbeside).trans ?_⟩
    rw [modGate_congr]
    rw [nextCycle_running hm, cycleEnd_running hm hl]
  · subst hk
    obtain ⟨hcommand, rfl, rfl⟩ : BoundaryCommand c s.gates[p] p ∧ T = s.gates[p].cycleEnd ∧
        n = s.gates[p].plainIndex := by
      obtain ⟨hm, hc, hT, hn⟩ | ⟨hm, hc, hn, l, hl, hT⟩ := hc
      · exact ⟨.inl ⟨hm, hc⟩, by rw [cycleEnd_opened hm, hT], by rw [plainIndex_opened hm, hn]⟩
      · exact ⟨.inr ⟨hm, hc⟩, by rw [cycleEnd_running hm hl, hT], by rw [plainIndex_running hm, hn]⟩
    refine ⟨s.cycleBegun p, exec_boundary hcommand hsw hr, fun r h => ?_,
      fun r b v marked hb harmed hport hd he hw hmarked => ⟨fun hn => ?_, fun hn hv => ?_⟩⟩
    · exact robot_of_side ((cycleBegun_side s p r).trans (signalBoundary_elsewhere _ _ _ h))
    all_goals
      subst hb hmarked
      have ha : s.robots[r].armedOn p := ⟨harmed, hport⟩
    · have hside := cycleBegun_side s p r
      obtain ⟨hrobot, hcount⟩ := signalBoundary_within _ s.gates[p].disturbed
        (HallTime.ofNs s.gates[p].cycleEnd) ha ⟨hd, he⟩ hn
      exact ⟨(robot_of_side hside).trans hrobot, fun x => (counter_of_side hside x).trans (hcount x)⟩
    · exact ⟨cycleBegun_ends_robot ha ⟨hd, he⟩ hw hn hv, cycleBegun_ends_silent ha ⟨hd, he⟩ hw hn⟩
  · subst hb
    refine ⟨fun parked hh hst => ⟨fun hs => ?_, fun hs hb => ?_, fun hs hb => ?_⟩,
      fun hh => ⟨fun hs => ?_, fun n hn h15 ht => ?_, fun hs => ?_⟩⟩
    · rw [judgePeriod_hit hs hh, hitRobot_unawaited hw, hst]
    · rw [judgePeriod_back hs hh, if_pos hb]
    · rw [judgePeriod_back hs hh, hb, if_neg Bool.false_ne_true]
      exact returnRobot_effects hw parked hst
    · rw [judgePeriod_arming hs hh]
      exact stallRobot_effects
    · rw [judgePeriod_missed (by obtain ⟨hs, -⟩ | ⟨hs, -⟩ := hn; exacts [.inl hs, .inr hs]) hh]
      exact missRobot_effects hn h15 ht
    · rw [judgePeriod_lost hs hh]
      exact ⟨bump_uncounted .., (Effects.refl s _).bump _⟩

end Sys2Proof.Machine
end


section
/-! What a change of a gate engine does to its port's queues and to the piece on its wire (R75, R80), and
the commands of a window edge and of a RESYNC's target boundary (R69, R77). -/

namespace Sys2Proof.Machine

/-! ## Runs of open windows that end (R75) -/

/-- A queue's entries may be counted in holds again where its run of open windows ends. -/
def endRun (ends : Bool) (p : PortId) (q : QueueId) (s : State) : State :=
  if ends then clearHolds p q s else s

/-- An entry that may be counted in holds again. -/
def QEntry.unheld (x : QEntry) : QEntry := { x with holdCounted := false }

section
variable {ends : Bool} {p : PortId} {q : QueueId} {s : State}

theorem endRun_other {x : PortId} (h : x ≠ p) : (endRun ends p q s).egress[x] = s.egress[x] := by
  cases ends
  exacts [rfl, upd_other s.egress p x _ h]

theorem endRun_port : (endRun ends p q s).egress[p] =
    { s.egress[p] with queues := (endRun ends p q s).egress[p].queues } := by
  cases ends
  · rfl
  · simp only [endRun, if_true, clearHolds, State.modEgress_get]

theorem endRun_queue (k : QueueId) : (endRun ends p q s).egress[p].queues[k] =
    if k = q ∧ ends = true then s.egress[p].queues[k].map QEntry.unheld
    else s.egress[p].queues[k] := by
  cases ends
  · simp only [Bool.false_eq_true, and_false, if_false]
    rfl
  · simp only [endRun, if_true, clearHolds, State.modEgress_get, and_true]
    refine (upd_get ..).trans ?_
    split
    · next e => rw [e]; rfl
    · rfl

end

/-! ## A change of a gate engine -/

/-- A preemptable queue's run of open windows ends as an engine changes: its gate closes. -/
def runEnds (before after : Gate) (q : QueueId) : Bool := before.isOpen q && !after.isOpen q

/-- A state whose engine has changed, before a cut trigger is looked for. -/
def State.gateChanged (s : State) (p : PortId) (f : Gate → Gate) : State :=
  endRun (runEnds s.gates[p] (s.modGate p f).gates[p] 1) p 1
    (endRun (runEnds s.gates[p] (s.modGate p f).gates[p] 0) p 0 (s.modGate p f))

theorem changeGate_eq (p : PortId) (f : Gate → Gate) (s : State) :
    changeGate p f s = noteCut p (s.gateChanged p f) := rfl

section
variable (p : PortId) (f : Gate → Gate) (s : State)

theorem gateChanged_other {x : PortId} (h : x ≠ p) : (s.gateChanged p f).egress[x] = s.egress[x] :=
  (endRun_other h).trans (endRun_other h)

theorem gateChanged_port : (s.gateChanged p f).egress[p] =
    { s.egress[p] with queues := (s.gateChanged p f).egress[p].queues } := by
  have e : (s.gateChanged p f).egress[p] = _ := endRun_port
  have h : (endRun (runEnds s.gates[p] (s.modGate p f).gates[p] 0) p 0 (s.modGate p f)).egress[p] = _ :=
    endRun_port
  rw [e, h]
  rfl

theorem gateChanged_queue (q : QueueId) : (s.gateChanged p f).egress[p].queues[q] =
    if q.val < 2 ∧ s.gates[p].isOpen q = true ∧ (s.modGate p f).gates[p].isOpen q = false then
      s.egress[p].queues[q].map QEntry.unheld
    else s.egress[p].queues[q] := by
  have hends (k : QueueId) : runEnds s.gates[p] (s.modGate p f).gates[p] k = true ↔
      s.gates[p].isOpen k = true ∧ (s.modGate p f).gates[p].isOpen k = false := by
    simp only [runEnds, Bool.and_eq_true, Bool.not_eq_true']
  simp only [State.gateChanged, endRun_queue, hends]
  by_cases hq : q.val < 2
  · obtain rfl | rfl := preemptable_cases hq
    · rw [if_neg (by rintro ⟨e, -⟩; cases e)]
      exact if_congr (by simp) rfl rfl
    · rw [if_neg (c := (1 : QueueId) = 0 ∧ _) (by rintro ⟨e, -⟩; cases e)]
      exact if_congr (by simp) rfl rfl
  · have hne (k : QueueId) (hk : k.val < 2) (P : Prop) : ¬(q = k ∧ P) := fun h => hq (h.1 ▸ hk)
    rw [if_neg (hne 1 (by decide) _), if_neg (hne 0 (by decide) _), if_neg fun h => hq h.1]
    rfl

theorem changeGate_gates : (changeGate p f s).gates = (s.modGate p f).gates := by
  rw [changeGate_frame]

theorem changeGate_other {x : PortId} (h : x ≠ p) : (changeGate p f s).egress[x] = s.egress[x] := by
  rw [changeGate_eq, noteCut_egress]
  exact (upd_other _ p x _ h).trans (gateChanged_other p f s h)

theorem noteCut_port : (noteCut p s).egress[p] =
    { s.egress[p] with tx := s.egress[p].tx.map fun w => { w with cutAt := s.cutChosen p w } } := by
  rw [noteCut_egress]
  exact upd_same ..

theorem changeGate_tx : (changeGate p f s).egress[p].tx = s.egress[p].tx.map fun w =>
    { w with cutAt := (s.gateChanged p f).cutChosen p w } := by
  rw [changeGate_eq, noteCut_port, gateChanged_port]

theorem changeGate_port : (changeGate p f s).egress[p] =
    { s.egress[p] with queues := (changeGate p f s).egress[p].queues
                       tx := (changeGate p f s).egress[p].tx } := by
  rw [changeGate_eq, noteCut_port, gateChanged_port]

theorem changeGate_queue (q : QueueId) : (changeGate p f s).egress[p].queues[q] =
    if q.val < 2 ∧ s.gates[p].isOpen q = true ∧ (changeGate p f s).gates[p].isOpen q = false then
      s.egress[p].queues[q].map QEntry.unheld
    else s.egress[p].queues[q] := by
  rw [changeGate_gates, changeGate_eq, noteCut_queues, gateChanged_queue]

/-- A cut trigger is looked for in the state that results. -/
theorem changeGate_cutNoted (w : Tx) :
    CutNoted (changeGate p f s) p w ((s.gateChanged p f).cutChosen p w) :=
  cutChosen_noted _ _ p w (noteCut_cutTriggered p _) (noteCut_cutPoint p _)

end

/-! ## A window edge (R69) -/

/-- The next window edge of an engine in RUNNING. -/
theorem nextWindow_running {g : Gate} {l : GateList} (h : g.mode = .running) (hl : g.active = some l) :
    g.nextWindow =
      if g.windowIndex + 1 < l.windows.length ∧ g.cycleStart + l.windowOffset (g.windowIndex + 1) <
          l.base.toNs + (g.cycleIndex + 1) * l.cycle then
        some (g.cycleStart + l.windowOffset (g.windowIndex + 1))
      else none := by
  rw [← cycleEnd_running h hl]
  simp only [Gate.nextWindow, h, hl]

theorem exec_windowStart_over {p : PortId} {s : State} {edge : Int}
    (he : s.gates[p].nextWindow = some edge) (hr : s.clock.hall.reached edge = true) :
    exec (.windowStart p) s = .next (takeWindow p s) := by
  have hover : s.windowOver p = true := by simp only [State.windowOver, he, hr]
  exact congrArg Host.Outcome.next (if_pos hover)

theorem exec_windowStart_waits {p : PortId} {s : State}
    (h : ∀ edge, s.gates[p].nextWindow = some edge → s.clock.hall.reached edge = false) :
    exec (.windowStart p) s = .next s := by
  have hover : s.windowOver p = false := by
    unfold State.windowOver
    split
    · next edge he => exact h edge he
    · rfl
  exact congrArg Host.Outcome.next (if_neg (by rw [hover]; exact Bool.false_ne_true))

theorem takeWindow_beside (p : PortId) (s : State) : (takeWindow p s).beside =
    (s.modGate p fun g => { g with windowIndex := s.gates[p].windowIndex + 1 }).beside :=
  (signalWindow_beside ..).trans (changeGate_beside ..)

/-! ## The target boundary of a RESYNC (R77) -/

/-- An engine that enters RUNNING at its target boundary. -/
def Gate.atTarget (start : Int) (g : Gate) : Gate :=
  { g with mode := .running, cycleIndex := g.target, windowIndex := 0, cycleStart := start
           disturbed := false }

/-- The state in which the target boundary has been signalled and the engine has entered RUNNING. -/
def State.targetTaken (s : State) (p : PortId) (start : Int) : State :=
  changeGate p (Gate.atTarget start)
    (signalBoundary p s.gates[p].target true (HallTime.ofNs start) s)

theorem exec_target {p : PortId} {s : State} {l : GateList} (hm : s.gates[p].mode = .resync)
    (hl : s.gates[p].active = some l)
    (hr : s.clock.hall.reached (l.base.toNs + s.gates[p].target * l.cycle) = true) :
    exec (.resyncTargetBoundary p) s = .next (signalWindow p 0
      (raise (.scheduleResync p s.gates[p].target)
        (s.targetTaken p (l.base.toNs + s.gates[p].target * l.cycle)))) := by
  refine congrArg Host.Outcome.next ?_
  simp only [hm, hl]
  rw [if_pos (c := s.clock.hall.reached (l.boundary s.gates[p].target) = true) hr]
  rfl

section
variable (p : PortId) (start : Int) (s : State)

theorem targetTaken_beside : (s.targetTaken p start).beside =
    (s.modGate p (Gate.atTarget start)).beside := by
  rw [State.targetTaken, changeGate_beside]
  exact modGate_beside (signalBoundary_beside ..) p _

theorem targetTaken_side (r : RobotId) : (s.targetTaken p start).sideOf r =
    (signalBoundary p s.gates[p].target true (HallTime.ofNs start) s).sideOf r := changeGate_side ..

/-- With no armed robot on the port, a boundary that is signalled does nothing. -/
theorem signalBoundary_nobody (index : Int) (disturbed : Bool) (boundary : HallTime)
    (h : ∀ r : RobotId, s.robots[r].port ≠ some p ∨ s.robots[r].state.armed = false) :
    signalBoundary p index disturbed boundary s = s :=
  forEach_inv (P := fun t => t = s) _
    (fun r _ t ht => (boundaryFor_elsewhere (by rw [ht]; exact h r) ..).trans ht) s rfl

theorem targetTaken_nobody
    (h : ∀ r : RobotId, s.robots[r].port ≠ some p ∨ s.robots[r].state.armed = false) :
    (s.targetTaken p start).counters = s.counters ∧ (s.targetTaken p start).notices = s.notices := by
  rw [State.targetTaken, signalBoundary_nobody p s _ _ _ h, changeGate_frame]
  exact ⟨rfl, rfl⟩

/-- The target boundary is signalled disturbed, so it judges no period: it ends an armed robot's period,
or marks it disturbed. -/
theorem targetTaken_robot {r : RobotId} (ha : s.robots[r].armedOn p) (hs : s.robots[r].sound) :
    (s.targetTaken p start).robots[r] =
      if s.gates[p].target.emod s.robots[r].cfg.period = s.robots[r].cfg.phase then
        (s.robots[r].marked true).spent.begun (HallTime.ofNs start)
      else s.robots[r].marked true := by
  rw [robot_of_side (targetTaken_side p start s r)]
  split
  · next hn => exact signalBoundary_disturbed _ _ ha hs hn
  · next hn => exact (signalBoundary_within _ true _ ha hs hn).1

end

theorem Robot.marked_true (b : Robot) : b.marked true = { b with disturbed := true } := by
  simp only [Robot.marked, Bool.or_true]

end Sys2Proof.Machine
end


section
/-! What a command window that opens makes of its robot's side, of cell memory and of the robot port's
Q3, and what a window start counts as delayed (R33, R103, R104). -/

namespace Sys2Proof.Machine

/-! ## The robot port's Q3 -/

/-- The entries of a port's Q3. -/
def State.q3 (s : State) (p : PortId) : List QEntry := s.egress[p].queues[(3 : QueueId)]

/-- A robot send joins Q3 behind the robot sends and ahead of the rest (R33). -/
theorem insertSend_append {x : QEntry} {sends others : List QEntry}
    (hs : ∀ y ∈ sends, y.isRobotSend = true) (ho : ∀ y ∈ others, y.isRobotSend = false) :
    insertSend x (sends ++ others) = sends ++ x :: others := by
  have ht : others.takeWhile QEntry.isRobotSend = [] := by
    cases others with
    | nil => rfl
    | cons y ys => exact List.takeWhile_cons_of_neg (by rw [ho y List.mem_cons_self]; decide)
  have hd : others.dropWhile QEntry.isRobotSend = others := by
    cases others with
    | nil => rfl
    | cons y ys => exact List.dropWhile_cons_of_neg (by rw [ho y List.mem_cons_self]; decide)
  rw [insertSend, List.takeWhile_append_of_pos hs, List.dropWhile_append_of_pos hs, ht, hd,
    List.append_nil]

theorem isRobotSend_iff (x : QEntry) : x.isRobotSend = true ↔ ∃ r, x.kind = .robotSend r := by
  unfold QEntry.isRobotSend
  split
  · next r h => exact ⟨fun _ => ⟨r, h⟩, fun _ => rfl⟩
  · next h => exact ⟨Bool.noConfusion, fun ⟨r, e⟩ => (h r e).elim⟩

section
variable (p : PortId) (r : RobotId) (c : CellId) (s : State)

theorem enqueueSend_q3 :
    (enqueueSend p r c s).q3 p = insertSend (newEntry c (.robotSend r)) (s.q3 p) := by
  unfold State.q3 enqueueSend
  dsimp only
  rw [bump_egress, noteCut_queues, State.modEgress_get]
  exact upd_same ..

theorem enqueueSend_mem : (enqueueSend p r c s).mem = s.mem := by
  unfold enqueueSend
  dsimp only
  rw [bump_mem, noteCut_frame]
  rfl

end

/-! ## A robot's record as its command window opens (R103) -/

/-- A robot whose opening is taken. -/
def Robot.opened (b : Robot) : Robot := { b with openingTaken := true }

/-- A robot whose slot's frame is sent and becomes the store. -/
def Robot.slotSent (c : CellId) (b : Robot) : Robot :=
  { b with slot := none, store := some c, repeatsUsed := 0 }

/-- A robot whose store's frame is sent once more. -/
def Robot.repeatSent (b : Robot) : Robot := { b with repeatsUsed := b.repeatsUsed + 1 }

/-- A robot has a stored frame to send once more. -/
def Robot.mayRepeat (b : Robot) : Prop := b.store.isSome = true ∧ b.repeatsUsed < b.cfg.repeatLimit

section
variable {p : PortId} {r : RobotId} {s : State}

theorem opening_down (h : s.ports[p].link = false) :
    opening r p s = bump (.robot r .silentPeriods) (s.modRobot r Robot.opened) := by
  unfold opening
  exact if_pos (by rw [show (s.modRobot r _).ports[p].link = false from h]; rfl)

section
variable (hl : s.ports[p].link = true)
include hl

theorem opening_up : opening r p s = match s.robots[r].slot with
    | some c => sendSlot r p c (s.modRobot r Robot.opened)
    | none =>
      match s.robots[r].store with
      | some c =>
        if s.robots[r].repeatsUsed < s.robots[r].cfg.repeatLimit then
          sendRepeat r p c (s.modRobot r Robot.opened)
        else if s.holdFrames[r].isEmpty then
          bump (.robot r .silentPeriods) (s.modRobot r Robot.opened)
        else sendHoldFrame r p (s.modRobot r Robot.opened)
      | none =>
        if s.holdFrames[r].isEmpty then bump (.robot r .silentPeriods) (s.modRobot r Robot.opened)
        else sendHoldFrame r p (s.modRobot r Robot.opened) := by
  have hrobot := State.modRobot_get r Robot.opened s
  have hlink : (!(s.modRobot r Robot.opened).ports[p].link) = false := by
    rw [show (s.modRobot r _).ports[p].link = true from hl]; rfl
  unfold Robot.opened at hrobot hlink
  unfold opening
  dsimp only
  rw [hrobot, hlink, if_neg Bool.false_ne_true]
  rfl

theorem opening_slot {c : CellId} (h : s.robots[r].slot = some c) :
    opening r p s = sendSlot r p c (s.modRobot r Robot.opened) := by
  rw [opening_up hl, h]

variable (hslot : s.robots[r].slot = none)
include hslot

theorem opening_repeat {c : CellId} (h : s.robots[r].store = some c)
    (hn : s.robots[r].repeatsUsed < s.robots[r].cfg.repeatLimit) :
    opening r p s = sendRepeat r p c (s.modRobot r Robot.opened) := by
  rw [opening_up hl, hslot, h]
  exact if_pos hn

theorem opening_otherwise (h : ¬s.robots[r].mayRepeat) : opening r p s =
    if s.holdFrames[r].isEmpty then bump (.robot r .silentPeriods) (s.modRobot r Robot.opened)
    else sendHoldFrame r p (s.modRobot r Robot.opened) := by
  rw [opening_up hl, hslot]
  cases hstore : s.robots[r].store with
  | none => rfl
  | some c => exact if_neg fun hn => h ⟨by rw [hstore]; rfl, hn⟩

end

/-- The forms that an opening takes. -/
theorem opening_cases :
    opening r p s = bump (.robot r .silentPeriods) (s.modRobot r Robot.opened) ∨
      (∃ c, opening r p s = sendSlot r p c (s.modRobot r Robot.opened)) ∨
      (∃ c, opening r p s = sendRepeat r p c (s.modRobot r Robot.opened)) ∨
      opening r p s = sendHoldFrame r p (s.modRobot r Robot.opened) := by
  cases hl : s.ports[p].link with
  | false => exact .inl (opening_down hl)
  | true =>
    cases hslot : s.robots[r].slot with
    | some c => exact .inr (.inl ⟨c, opening_slot hl hslot⟩)
    | none =>
      by_cases h : s.robots[r].mayRepeat
      · obtain ⟨hsome, hn⟩ := h
        obtain ⟨c, hc⟩ := Option.isSome_iff_exists.mp hsome
        exact .inr (.inr (.inl ⟨c, opening_repeat hl hslot hc hn⟩))
      · rw [opening_otherwise hl hslot h]
        split
        exacts [.inl rfl, .inr (.inr (.inr rfl))]

/-! ## The hold frame (R33, R105) -/

/-- The hold frame takes one cell. -/
theorem sendHoldFrame_room (h : s.mem.free ≠ []) : ∃ (c : CellId) (m : CellMem),
    m.free = s.mem.free.tail ∧ sendHoldFrame r p s =
      bump (.robot r .holdFramesSent) (enqueueSend p r c { s with mem := m }) := by
  obtain ⟨c, free, hf⟩ := List.exists_cons_of_ne_nil h
  have ht : s.mem.take 1 = some ([c], { s.mem with
      free := s.mem.free.drop 1, low := min s.mem.low (s.mem.free.length - 1) }) := by
    rw [CellMem.take_eq_some, hf]
    exact ⟨Nat.succ_le_succ (Nat.zero_le _), rfl, rfl⟩
  refine ⟨c, _, ?_, by unfold sendHoldFrame; rw [ht]⟩
  rw [CellMem.store_free, List.drop_one]

theorem sendHoldFrame_none (h : s.mem.free = []) : sendHoldFrame r p s =
    bump (.robot r .silentPeriods) (bump (.device (.generationDrops .holdFrame)) s) := by
  have ht : s.mem.take 1 = none := by rw [CellMem.take_eq_none, h]; exact Nat.zero_lt_one
  unfold sendHoldFrame
  rw [ht]

/-! ## Cell memory over an opening -/

theorem release_room (c : CellId) (m : CellMem) : m.free.length ≤ (m.release c).free.length := by
  rw [CellMem.release_free]
  split
  · split
    · rw [List.length_append]; exact Nat.le_add_right ..
    · exact le_rfl
  · exact le_rfl

theorem sendSlot_room (c : CellId) : s.mem.free.length ≤ (sendSlot r p c s).mem.free.length := by
  have hrelease : s.mem.free.length ≤ (s.releaseOpt s.robots[r].store).mem.free.length := by
    cases s.robots[r].store
    exacts [le_rfl, release_room ..]
  unfold sendSlot
  dsimp only
  rw [bump_mem, enqueueSend_mem]
  exact hrelease.trans_eq (congrArg List.length (CellMem.addRef_free _ c).symm)

theorem sendRepeat_room (c : CellId) : s.mem.free.length ≤ (sendRepeat r p c s).mem.free.length := by
  unfold sendRepeat
  dsimp only
  rw [bump_mem, enqueueSend_mem]
  exact (congrArg List.length (CellMem.addRef_free _ c).symm).le

theorem sendHoldFrame_takes : s.mem.free.length ≤ (sendHoldFrame r p s).mem.free.length + 1 := by
  by_cases h : s.mem.free = []
  · rw [h]; exact Nat.zero_le _
  · obtain ⟨c, m, hm, e⟩ := sendHoldFrame_room (r := r) (p := p) h
    rw [e, bump_mem, enqueueSend_mem]
    have ht : m.free.length = s.mem.free.length - 1 := by rw [hm, List.length_tail]
    change _ ≤ m.free.length + 1
    omega

/-- An opening takes one cell at most. -/
theorem opening_takes : s.mem.free.length ≤ (opening r p s).mem.free.length + 1 := by
  obtain e | ⟨c, e⟩ | ⟨c, e⟩ | e := opening_cases (p := p) (r := r) (s := s)
  · rw [e, bump_mem]; exact Nat.le_succ _
  · rw [e]; exact (sendSlot_room c (s := s.modRobot r Robot.opened)).trans (Nat.le_succ _)
  · rw [e]; exact (sendRepeat_room c (s := s.modRobot r Robot.opened)).trans (Nat.le_succ _)
  · rw [e]; exact sendHoldFrame_takes (s := s.modRobot r Robot.opened)

end

/-! ## The robot's own side of an opening -/

/-- A robot's side with one more of a counter. -/
def RobotSide.counted (n : RobotCounter) (x : RobotSide) : RobotSide :=
  { x with counts := fun k => if k = n then min (x.counts k + 1) Config.counterMax else x.counts k }

/-- A robot's side with another record. -/
def RobotSide.become (b : Robot) (x : RobotSide) : RobotSide := { x with robot := b }

section
variable {p : PortId} {r : RobotId} {s : State}

theorem bumpRobot_own (n : RobotCounter) :
    (bump (.robot r n) s).sideOf r = (s.sideOf r).counted n := by
  have hc (k : RobotCounter) : (bump (.robot r n) s).counter (.robot r k) =
      if k = n then min (s.counter (.robot r k) + 1) Config.counterMax else s.counter (.robot r k) := by
    rw [bump_counter _ _ _ rfl]
    by_cases h : k = n
    · rw [h, if_pos rfl, if_pos rfl]
    · rw [if_neg h, if_neg fun e => h (CounterRef.robot.inj e).2]
  simp only [State.sideOf, RobotSide.counted, bump_robot, bump_windows, hc]

theorem modRobot_own (f : Robot → Robot) :
    (s.modRobot r f).sideOf r = (s.sideOf r).become (f s.robots[r]) :=
  congrArg (fun b => (s.sideOf r).become b) (State.modRobot_get r f s)

theorem sendSlot_own (c : CellId) : (sendSlot r p c s).sideOf r =
    ((s.sideOf r).become (s.robots[r].slotSent c)).counted .commandsSent := by
  have hr : ((s.releaseOpt s.robots[r].store).addRef c).robots[r] = s.robots[r] := by
    rw [releaseOpt_frame]; rfl
  have hside : ((s.releaseOpt s.robots[r].store).addRef c).sideOf r = s.sideOf r := by simp
  unfold sendSlot
  dsimp only
  rw [bumpRobot_own, enqueueSend_side, modRobot_own, hr, hside]
  rfl

theorem sendRepeat_own (c : CellId) : (sendRepeat r p c s).sideOf r =
    ((s.sideOf r).become s.robots[r].repeatSent).counted .repeatsSent := by
  unfold sendRepeat
  dsimp only
  rw [bumpRobot_own, enqueueSend_side, modRobot_own]
  rfl

theorem sendHoldFrame_own_room (h : s.mem.free ≠ []) :
    (sendHoldFrame r p s).sideOf r = (s.sideOf r).counted .holdFramesSent := by
  obtain ⟨c, m, -, e⟩ := sendHoldFrame_room (r := r) (p := p) h
  rw [e, bumpRobot_own, enqueueSend_side, withMem_side]

theorem sendHoldFrame_own_none (h : s.mem.free = []) :
    (sendHoldFrame r p s).sideOf r = (s.sideOf r).counted .silentPeriods := by
  rw [sendHoldFrame_none h, bumpRobot_own, bumpDevice_side]

/-- An opening that sends nothing. -/
theorem silent_own : (bump (.robot r .silentPeriods) (s.modRobot r Robot.opened)).sideOf r =
    ((s.sideOf r).become s.robots[r].opened).counted .silentPeriods := by
  rw [bumpRobot_own, modRobot_own]

/-- What an opening makes of a robot's record and which counter it grows, by the link, the robot's hold
frame and whether a cell is free. -/
inductive Opens (link : Bool) (holdFrame : Octets) (room : Bool) (b : Robot) : Robot → RobotCounter → Prop
  | down (h : link = false) : Opens link holdFrame room b b.opened .silentPeriods
  | slot (c : CellId) (h : link = true) (hc : b.slot = some c) :
      Opens link holdFrame room b (b.opened.slotSent c) .commandsSent
  | again (h : link = true) (hs : b.slot = none) (hr : b.mayRepeat) :
      Opens link holdFrame room b b.opened.repeatSent .repeatsSent
  | silent (h : link = true) (hs : b.slot = none) (hr : ¬b.mayRepeat) (hf : holdFrame = []) :
      Opens link holdFrame room b b.opened .silentPeriods
  | held (h : link = true) (hs : b.slot = none) (hr : ¬b.mayRepeat) (hf : holdFrame ≠ [])
      (hm : room = true) : Opens link holdFrame room b b.opened .holdFramesSent
  | unmade (h : link = true) (hs : b.slot = none) (hr : ¬b.mayRepeat) (hf : holdFrame ≠ [])
      (hm : room = false) : Opens link holdFrame room b b.opened .silentPeriods

theorem opening_own {x : Robot} {n : RobotCounter}
    (h : Opens s.ports[p].link s.holdFrames[r] (!s.mem.free.isEmpty) s.robots[r] x n) :
    (opening r p s).sideOf r = ((s.sideOf r).become x).counted n := by
  have hrobot := State.modRobot_get r Robot.opened s
  cases h with
  | down h => rw [opening_down h, silent_own]
  | slot c h hc =>
    rw [opening_slot h hc, sendSlot_own, modRobot_own, hrobot]
    rfl
  | again h hs hr =>
    obtain ⟨hsome, hn⟩ := hr
    obtain ⟨c, hc⟩ := Option.isSome_iff_exists.mp hsome
    rw [opening_repeat h hs hc hn, sendRepeat_own, modRobot_own, hrobot]
    rfl
  | silent h hs hr hf =>
    rw [opening_otherwise h hs hr, if_pos (List.isEmpty_iff.mpr hf), silent_own]
  | held h hs hr hf hm =>
    rw [opening_otherwise h hs hr, if_neg (by rwa [List.isEmpty_iff]),
      sendHoldFrame_own_room (by rintro e; rw [show s.mem.free = [] from e] at hm; cases hm),
      modRobot_own]
  | unmade h hs hr hf hm =>
    rw [opening_otherwise h hs hr, if_neg (by rwa [List.isEmpty_iff]),
      sendHoldFrame_own_none (List.isEmpty_iff.mp (by simpa using hm)), modRobot_own]

/-! ## Q3 over an opening -/

/-- The entry that an opening with a command frame or a repeat adds. -/
def sendEntry (r : RobotId) (b : Robot) : Option QEntry :=
  (b.slot <|> b.store).map fun c => newEntry c (.robotSend r)

theorem opening_q3 (hl : s.ports[p].link = true)
    (h : s.robots[r].slot.isSome = true ∨ s.robots[r].mayRepeat) :
    ∃ x, x.isRobotSend = true ∧ sendEntry r s.robots[r] = some x ∧
      (opening r p s).q3 p = insertSend x (s.q3 p) := by
  cases hslot : s.robots[r].slot with
  | some c =>
    refine ⟨newEntry c (.robotSend r), rfl, by rw [sendEntry, hslot]; rfl, ?_⟩
    rw [opening_slot hl hslot]
    unfold sendSlot State.q3
    dsimp only
    rw [bump_egress]
    refine (enqueueSend_q3 ..).trans ?_
    unfold State.q3
    rw [releaseOpt_frame]
    rfl
  | none =>
    rw [hslot] at h
    obtain ⟨hsome, hn⟩ := h.resolve_left Bool.false_ne_true
    obtain ⟨c, hc⟩ := Option.isSome_iff_exists.mp hsome
    refine ⟨newEntry c (.robotSend r), rfl, by rw [sendEntry, hslot, hc]; rfl, ?_⟩
    rw [opening_repeat hl hslot hc hn]
    unfold sendRepeat State.q3
    dsimp only
    rw [bump_egress]
    exact enqueueSend_q3 ..

end

/-! ## Delayed sends (R104) -/

/-- The delayed sends that were counted of each robot. -/
def State.delayed (s : State) (r : RobotId) : Nat := s.counter (.robot r .delayedSends)

theorem bump_delayed {c : CounterRef} (s : State) (h : ∀ r, CounterRef.robot r .delayedSends ≠ c) :
    (bump c s).delayed = s.delayed :=
  funext fun r => bump_counter_other c _ s rfl (h r)

theorem bumpRobot_delayed {k : RobotCounter} (r : RobotId) (s : State)
    (h : RobotCounter.delayedSends ≠ k) : (bump (.robot r k) s).delayed = s.delayed :=
  bump_delayed s fun _ e => h (CounterRef.robot.inj e).2

theorem enqueueSend_delayed (p : PortId) (r : RobotId) (c : CellId) (s : State) :
    (enqueueSend p r c s).delayed = s.delayed :=
  funext fun x => counter_of_side (enqueueSend_side (x := x) p r c s) .delayedSends

theorem releaseOpt_delayed (h : Option CellId) (s : State) : (s.releaseOpt h).delayed = s.delayed := by
  rw [releaseOpt_frame]; rfl

section
variable (r : RobotId) (p : PortId) (s : State)

theorem sendHoldFrame_delayed : (sendHoldFrame r p s).delayed = s.delayed := by
  by_cases h : s.mem.free = []
  · rw [sendHoldFrame_none h, bumpRobot_delayed _ _ (by decide), bump_delayed _ fun _ => by simp]
  · obtain ⟨c, m, -, e⟩ := sendHoldFrame_room (r := r) (p := p) h
    rw [e, bumpRobot_delayed _ _ (by decide), enqueueSend_delayed]
    rfl

theorem opening_delayed : (opening r p s).delayed = s.delayed := by
  obtain e | ⟨c, e⟩ | ⟨c, e⟩ | e := opening_cases (p := p) (r := r) (s := s) <;> rw [e]
  · rw [bumpRobot_delayed _ _ (by decide)]; rfl
  · unfold sendSlot
    dsimp only
    rw [bumpRobot_delayed _ _ (by decide), enqueueSend_delayed]
    exact releaseOpt_delayed _ (s.modRobot r Robot.opened)
  · unfold sendRepeat
    dsimp only
    rw [bumpRobot_delayed _ _ (by decide), enqueueSend_delayed]
    rfl
  · rw [sendHoldFrame_delayed]; rfl

end

/-- A window start finds an entry: a robot send that was not counted as delayed yet is. -/
def countDelay (x : QEntry) (s : State) : State :=
  match x.kind with
  | .robotSend r => if x.delayCounted then s else bump (.robot r .delayedSends) s
  | _ => s

/-- An entry after a window start. -/
def QEntry.waited (x : QEntry) : QEntry := if x.isRobotSend then { x with delayCounted := true } else x

theorem countDelayed_eq (p : PortId) (s : State) : countDelayed p s =
    (forEach (s.q3 p) countDelay s).modEgress p fun e =>
      { e with queues := upd e.queues 3 fun l => l.map QEntry.waited } := rfl

/-- A window start counts an entry in a robot's delayed sends. -/
def QEntry.delays (r : RobotId) (x : QEntry) : Bool :=
  decide (x.kind = .robotSend r) && !x.delayCounted

/-- Counting a delayed send counts, and does nothing else. -/
theorem countDelay_cases (x : QEntry) (s : State) :
    (countDelay x s = s ∧ ∀ r, x.delays r = false) ∨
      ∃ a, x.kind = .robotSend a ∧ x.delayCounted = false ∧
        countDelay x s = bump (.robot a .delayedSends) s := by
  unfold countDelay QEntry.delays
  split
  · next a h =>
    cases hd : x.delayCounted with
    | true => exact .inl ⟨rfl, fun r => by simp⟩
    | false => exact .inr ⟨a, h, rfl, rfl⟩
  · next h => exact .inl ⟨rfl, fun r => by rw [decide_eq_false (h r), Bool.false_and]⟩

section
variable (l : List QEntry) (s : State)

theorem countDelays_robots : (forEach l countDelay s).robots = s.robots :=
  forEach_keeps State.robots l (fun x t => by
    obtain ⟨e, -⟩ | ⟨a, -, -, e⟩ := countDelay_cases x t
    · rw [e]
    · rw [e, bump_robots]) s

theorem countDelays_mem : (forEach l countDelay s).mem = s.mem :=
  forEach_keeps State.mem l (fun x t => by
    obtain ⟨e, -⟩ | ⟨a, -, -, e⟩ := countDelay_cases x t
    · rw [e]
    · rw [e, bump_mem]) s

theorem countDelays_egress : (forEach l countDelay s).egress = s.egress :=
  forEach_keeps State.egress l (fun x t => by
    obtain ⟨e, -⟩ | ⟨a, -, -, e⟩ := countDelay_cases x t
    · rw [e]
    · rw [e, bump_egress]) s

theorem countDelays_other (r : RobotId) {k : RobotCounter} (h : k ≠ .delayedSends) :
    (forEach l countDelay s).counter (.robot r k) = s.counter (.robot r k) :=
  forEach_keeps (fun t => t.counter (.robot r k)) l (fun x t => by
    obtain ⟨e, -⟩ | ⟨a, -, -, e⟩ := countDelay_cases x t
    · rw [e]
    · rw [e]
      exact bump_counter_other _ _ _ rfl fun e => h (CounterRef.robot.inj e).2) s

end

/-- A counter that is grown a number of times, up to its limit. -/
def grown (v n : Nat) : Nat := if n = 0 then v else min (v + n) Config.counterMax

theorem grown_grown (v n : Nat) : grown (min (v + 1) Config.counterMax) n = grown v (n + 1) := by
  unfold grown
  rw [if_neg n.succ_ne_zero]
  split <;> omega

theorem countDelays_delayed (l : List QEntry) (s : State) (r : RobotId) :
    (forEach l countDelay s).delayed r = grown (s.delayed r) (l.filter (QEntry.delays r)).length := by
  induction l generalizing s with
  | nil => rfl
  | cons x l ih =>
    rw [forEach_cons, ih]
    obtain ⟨e, hx⟩ | ⟨a, ha, hx, e⟩ := countDelay_cases x s
    · rw [e, List.filter_cons_of_neg (by rw [hx r]; exact Bool.false_ne_true)]
    · rw [e]
      by_cases hr : a = r
      · have hd : x.delays r = true := by simp [QEntry.delays, ha, hx, hr]
        have hb : (bump (.robot a .delayedSends) s).delayed r =
            min (s.delayed r + 1) Config.counterMax :=
          (bump_counter _ _ _ rfl).trans (by rw [hr, if_pos rfl]; rfl)
        rw [List.filter_cons_of_pos hd, hb, grown_grown]
        rfl
      · have hd : x.delays r = false := by simp [QEntry.delays, ha, hr]
        have hb : (bump (.robot a .delayedSends) s).delayed r = s.delayed r :=
          bump_counter_other _ _ _ rfl fun e => hr (CounterRef.robot.inj e).1.symm
        rw [List.filter_cons_of_neg (by rw [hd]; exact Bool.false_ne_true), hb]

section
variable (p : PortId) (s : State)

theorem countDelayed_robot (r : RobotId) : (countDelayed p s).robots[r] = s.robots[r] :=
  congrArg (fun v : Vector Robot 24 => v[r]) (countDelays_robots (s.q3 p) s)

theorem countDelayed_mem : (countDelayed p s).mem = s.mem := countDelays_mem (s.q3 p) s

theorem countDelayed_other (r : RobotId) {k : RobotCounter} (h : k ≠ .delayedSends) :
    (countDelayed p s).counter (.robot r k) = s.counter (.robot r k) :=
  countDelays_other (s.q3 p) s r h

theorem countDelayed_delayed (r : RobotId) : (countDelayed p s).delayed r =
    grown (s.delayed r) ((s.q3 p).filter (QEntry.delays r)).length := countDelays_delayed (s.q3 p) s r

theorem countDelayed_q3 : (countDelayed p s).q3 p = (s.q3 p).map QEntry.waited := by
  rw [countDelayed_eq]
  unfold State.q3
  rw [State.modEgress_get]
  dsimp only
  rw [countDelays_egress]
  exact upd_same ..

end

end Sys2Proof.Machine
end


section
/-! Window edges and RESYNC targets, and the command windows that a window start opens (R33, R69, R77,
R103, R104). -/

namespace Sys2Proof.Machine

/-! ## The robots whose command window opens (R103) -/

/-- A window start opens a robot's command window. -/
def Robot.opensAt (b : Robot) (p : PortId) (w : Nat) : Bool :=
  b.state.armed && decide (b.port = some p ∧ b.cfg.window = w) && !b.openingTaken

theorem Robot.opensAt_iff (b : Robot) (p : PortId) (w : Nat) : b.opensAt p w = true ↔
    b.armedOn p ∧ b.cfg.window = w ∧ b.openingTaken = false := by
  simp only [Robot.opensAt, Robot.armedOn, Bool.and_eq_true, Bool.not_eq_true', decide_eq_true_eq]
  tauto

/-- A window start opens the command window of a robot in a state. -/
def State.opens (s : State) (p : PortId) (w : Nat) (r : RobotId) : Bool := s.robots[r].opensAt p w

/-- The robots whose command windows a window start opens, in increasing index. -/
def State.openers (s : State) (p : PortId) (w : Nat) : List RobotId :=
  (List.finRange 24).filter (s.opens p w)

/-- The entry that a robot's opening with a command frame or a repeat adds to Q3. -/
def State.entryOf (s : State) (r : RobotId) : Option QEntry := sendEntry r s.robots[r]

/-- The command windows of some robots of a port open, in order. -/
def openAll (p : PortId) (l : List RobotId) (s : State) : State := forEach l (fun r => opening r p) s

/-- A window start as it reaches one robot whose record is sound if it is armed on the port. -/
theorem openingFor_sound {p : PortId} {w : Nat} {r : RobotId} {s : State}
    (h : s.robots[r].armedOn p → s.robots[r].sound) :
    openingFor p w r s = if s.opens p w r then opening r p s else s := by
  have hopens := s.robots[r].opensAt_iff p w
  by_cases ha : s.robots[r].armedOn p
  · obtain ⟨hd, he⟩ := h ha
    have hwindow : s.robots[r].state.armed = true ∧ s.robots[r].cfg.window = w ∧
        (!s.robots[r].openingTaken) = true ↔ s.opens p w r = true := by
      rw [Bool.not_eq_true', State.opens, hopens]
      exact ⟨fun h => ⟨ha, h.2⟩, fun h => ⟨ha.1, h.2⟩⟩
    refine (if_pos ha).trans ?_
    rw [checkRobot_clean r .supervision s hd he]
    exact if_congr hwindow rfl rfl
  · exact (if_neg ha).trans (if_neg fun ho => ha (hopens.mp ho).1).symm

/-- A window start reaches the robots that it opens, and no others. -/
theorem forEach_openingFor {p : PortId} {w : Nat} {l : List RobotId} (hl : l.Nodup) (s : State)
    (h : ∀ r ∈ l, s.robots[r].armedOn p → s.robots[r].sound) :
    forEach l (openingFor p w) s = openAll p (l.filter (s.opens p w)) s := by
  induction l generalizing s with
  | nil => rfl
  | cons a l ih =>
    obtain ⟨ha, hl⟩ := List.nodup_cons.mp hl
    have hsame (r : RobotId) (hr : r ∈ l) : (openingFor p w a s).robots[r] = s.robots[r] :=
      robot_of_side (openingFor_side (fun e : r = a => ha (e ▸ hr)) p w s)
    have hrest : l.filter ((openingFor p w a s).opens p w) = l.filter (s.opens p w) :=
      List.filter_congr fun r hr => by rw [State.opens, State.opens, hsame r hr]
    rw [forEach_cons, ih hl _ fun r hr => by
      rw [hsame r hr]; exact h r (List.mem_cons_of_mem a hr), hrest,
      openingFor_sound (h a List.mem_cons_self)]
    cases ho : s.opens p w a with
    | true => rw [List.filter_cons_of_pos ho]; rfl
    | false => rw [List.filter_cons_of_neg (by rw [ho]; exact Bool.false_ne_true)]; rfl

/-- A window start counts the sends that wait and opens the command windows. -/
theorem signalWindow_eq {p : PortId} {w : Nat} {s : State}
    (h : ∀ r : RobotId, s.robots[r].armedOn p → s.robots[r].sound) :
    signalWindow p w s = openAll p (s.openers p w) (countDelayed p s) := by
  have hopeners : s.openers p w = (List.finRange 24).filter ((countDelayed p s).opens p w) :=
    List.filter_congr fun r _ => by rw [State.opens, State.opens, countDelayed_robot]
  rw [hopeners]
  exact forEach_openingFor (List.nodup_finRange 24) _ fun r _ => by
    rw [countDelayed_robot]; exact h r

/-! ## What openings change -/

theorem State.unsupervised_ports (s : State) : s.unsupervised.ports = s.ports := by cases s; rfl

theorem State.unsupervised_holdFrames (s : State) : s.unsupervised.holdFrames = s.holdFrames := by
  cases s; rfl

theorem ports_of_beside {s t : State} (h : t.beside = s.beside) : t.ports = s.ports := by
  rw [← t.unsupervised_ports, unsupervised_of_beside h, State.unsupervised_ports]

theorem holdFrames_of_beside {s t : State} (h : t.beside = s.beside) : t.holdFrames = s.holdFrames := by
  rw [← t.unsupervised_holdFrames, unsupervised_of_beside h, State.unsupervised_holdFrames]

section
variable (p : PortId) (l : List RobotId) (s : State)

theorem openAll_beside : (openAll p l s).beside = s.beside :=
  forEach_keeps State.beside l (fun r s => opening_beside r p s) s

theorem openAll_delayed : (openAll p l s).delayed = s.delayed :=
  forEach_keeps State.delayed l (fun r s => opening_delayed r p s) s

theorem openAll_side {r : RobotId} (h : r ∉ l) : (openAll p l s).sideOf r = s.sideOf r :=
  forEach_side (fun _ hn s => opening_side hn p s) l h s

/-- Openings take one cell each at most. -/
theorem openAll_takes : s.mem.free.length ≤ (openAll p l s).mem.free.length + l.length := by
  induction l generalizing s with
  | nil => exact le_rfl
  | cons r l ih =>
    have h := ih (opening r p s)
    have ht := opening_takes (p := p) (r := r) (s := s)
    rw [List.length_cons]
    change _ ≤ (openAll p l (opening r p s)).mem.free.length + _
    omega

/-- One robot's opening among others meets its side as it was. -/
theorem openAll_own {r : RobotId} {before after : List RobotId} {x : Robot} {n : RobotCounter}
    (hb : r ∉ before) (ha : r ∉ after)
    (h : Opens s.ports[p].link s.holdFrames[r] (!(openAll p before s).mem.free.isEmpty)
      s.robots[r] x n) :
    (openAll p (before ++ r :: after) s).sideOf r = ((s.sideOf r).become x).counted n := by
  have hbeside := openAll_beside p before s
  have hside := openAll_side p before s hb
  have hlast : (openAll p (before ++ r :: after) s).sideOf r =
      (opening r p (openAll p before s)).sideOf r := by
    unfold openAll
    rw [forEach_append, forEach_cons]
    exact openAll_side p after _ ha
  rw [hlast, opening_own (by
    rwa [ports_of_beside hbeside, holdFrames_of_beside hbeside, robot_of_side hside]), hside]

end

/-- Openings that send frames add them to Q3 in order, behind the sends that wait there (R33). -/
theorem openAll_q3 {p : PortId} {l : List RobotId} (hl : l.Nodup) {s : State}
    {sends others : List QEntry} (hlink : s.ports[p].link = true)
    (hq : s.q3 p = sends ++ others) (hs : ∀ x ∈ sends, x.isRobotSend = true)
    (ho : ∀ x ∈ others, x.isRobotSend = false)
    (h : ∀ r ∈ l, s.robots[r].slot.isSome = true ∨ s.robots[r].mayRepeat) :
    (openAll p l s).q3 p =
      sends ++ l.filterMap s.entryOf ++ others := by
  induction l generalizing s sends with
  | nil =>
    rw [List.filterMap_nil, List.append_nil]
    exact hq
  | cons a l ih =>
    obtain ⟨ha, hl⟩ := List.nodup_cons.mp hl
    obtain ⟨x, hx, hentry, he⟩ := opening_q3 hlink (h a List.mem_cons_self)
    have hsame (r : RobotId) (hr : r ∈ l) : (opening a p s).robots[r] = s.robots[r] :=
      robot_of_side (opening_side (fun e : r = a => ha (e ▸ hr)) p s)
    have hrest : l.filterMap (opening a p s).entryOf = l.filterMap s.entryOf :=
      List.filterMap_congr fun r hr => by rw [State.entryOf, State.entryOf, hsame r hr]
    rw [hq, insertSend_append hs ho, List.append_cons] at he
    have hi := ih (sends := sends ++ [x]) hl
      (by rw [ports_of_beside (opening_beside a p s)]; exact hlink) he
      (fun y hy => (List.mem_append.mp hy).elim (hs y) fun hy => List.mem_singleton.mp hy ▸ hx)
      fun r hr => by rw [hsame r hr]; exact h r (List.mem_cons_of_mem a hr)
    rw [hrest] at hi
    rw [List.filterMap_cons_some (f := s.entryOf) hentry, List.append_cons sends x]
    exact hi

theorem opened_of_side {s t : State} {r : RobotId} {x : Robot} {n : RobotCounter}
    (h : t.sideOf r = ((s.sideOf r).become x).counted n) : t.robots[r] = x ∧
      ∀ k, t.counter (.robot r k) =
        if k = n then min (s.counter (.robot r k) + 1) Config.counterMax else s.counter (.robot r k) :=
  ⟨congrArg RobotSide.robot h, fun k => congrFun (congrArg RobotSide.counts h) k⟩

theorem not_mayRepeat {b : Robot} (h : b.store = none ∨ b.cfg.repeatLimit ≤ b.repeatsUsed) :
    ¬b.mayRepeat := by
  rintro ⟨hsome, hlt⟩
  obtain h | h := h
  · rw [h] at hsome; cases hsome
  · exact absurd hlt (Nat.not_lt.mpr h)

/-! ## The statement's clause of openings (R33, R103, R104) -/

section
variable {p : PortId} {w : Nat} {s : State}
  (hsound : ∀ r : RobotId, s.robots[r].armedOn p → s.robots[r].sound)
include hsound

theorem signalWindow_other {r : RobotId} (h : r ∉ s.openers p w) :
    (signalWindow p w s).robots[r] = s.robots[r] := by
  rw [signalWindow_eq hsound, robot_of_side (openAll_side p _ _ h), countDelayed_robot]

/-- A robot whose command window opens, by the row of R103 that applies: the cells that the openings
before it take are at most one for each of the other robots. -/
theorem signalWindow_opens {r : RobotId} {x : Robot} {n : RobotCounter} (hr : r ∈ s.openers p w)
    (h : ∀ room, (24 ≤ s.mem.free.length → room = true) →
      (s.mem.free = [] → s.openers p w = [r] → room = false) →
      Opens s.ports[p].link s.holdFrames[r] room s.robots[r] x n) :
    (signalWindow p w s).sideOf r = (((countDelayed p s).sideOf r).become x).counted n := by
  have hbeside := countDelayed_beside p s
  obtain ⟨before, after, e⟩ := List.append_of_mem hr
  have hn : (s.openers p w).Nodup := (List.nodup_finRange 24).filter _
  have hlen : (s.openers p w).length ≤ 24 :=
    (List.length_filter_le ..).trans_eq (List.length_finRange)
  rw [e, List.nodup_append, List.nodup_cons] at hn
  obtain ⟨-, ⟨ha, -⟩, hd⟩ := hn
  rw [e, List.length_append, List.length_cons] at hlen
  have htakes := openAll_takes p before (countDelayed p s)
  rw [countDelayed_mem] at htakes
  rw [signalWindow_eq hsound, e]
  refine openAll_own p _ (fun hb => hd r hb r List.mem_cons_self rfl) ha ?_
  rw [ports_of_beside hbeside, holdFrames_of_beside hbeside, countDelayed_robot]
  refine h _ (fun hm => ?_) fun hm ho => ?_
  · rw [Bool.not_eq_true', List.isEmpty_eq_false_iff_exists_mem]
    exact List.exists_mem_of_length_pos (by omega)
  · rw [e] at ho
    have hnil : before = [] := by
      cases before with
      | nil => rfl
      | cons b l => simp at ho
    rw [hnil]
    change (!(countDelayed p s).mem.free.isEmpty) = false
    rw [countDelayed_mem, hm]
    rfl

theorem signalWindow_delayed (r : RobotId) : (signalWindow p w s).delayed r =
    grown (s.delayed r) ((s.q3 p).filter (QEntry.delays r)).length := by
  rw [signalWindow_eq hsound, openAll_delayed, countDelayed_delayed]

theorem signalWindow_q3 {sends others : List QEntry} (hlink : s.ports[p].link = true)
    (hq : s.q3 p = sends ++ others) (hs : ∀ x ∈ sends, x.isRobotSend = true)
    (ho : ∀ x ∈ others, x.isRobotSend = false)
    (h : ∀ r ∈ s.openers p w, s.robots[r].slot.isSome = true ∨ s.robots[r].mayRepeat) :
    (signalWindow p w s).q3 p = (sends.map fun x => { x with delayCounted := true }) ++
      (s.openers p w).filterMap s.entryOf ++ others := by
  have hsends : sends.map QEntry.waited = sends.map fun x => { x with delayCounted := true } :=
    List.map_congr_left fun x hx => if_pos (hs x hx)
  have hothers : others.map QEntry.waited = others :=
    (List.map_congr_left fun x hx => if_neg (by rw [ho x hx]; decide)).trans (List.map_id _)
  have hcounted : (countDelayed p s).q3 p =
      (sends.map fun x => { x with delayCounted := true }) ++ others := by
    rw [countDelayed_q3, hq, List.map_append, hsends, hothers]
  have hentries : (countDelayed p s).entryOf = s.entryOf :=
    funext fun r => by rw [State.entryOf, State.entryOf, countDelayed_robot]
  rw [signalWindow_eq hsound, ← hentries]
  refine openAll_q3 ((List.nodup_finRange 24).filter _)
    (by rw [ports_of_beside (countDelayed_beside p s)]; exact hlink) hcounted (fun x hx => ?_) ho
    fun r hr => by rw [countDelayed_robot]; exact h r hr
  obtain ⟨y, hy, rfl⟩ := List.mem_map.mp hx
  exact hs y hy

end

/-! ## The statement -/

/-- Settles O14: a window edge by whether a further window of the cycle has come, a RESYNC's target by
each robot's period, and a window start by the robots whose command windows it opens. -/
theorem windowEdgesAndTargets : Obligations.WindowEdgesAndTargets := by
  refine ⟨fun p s l edge hm hl he => ⟨fun hw hc hr => ?_, fun h => ?_⟩,
    fun p s l T hm hl hT hr => ?_, fun p w s t openers ht hsound ho => ?_⟩
  · have hnext : s.gates[p].nextWindow = some edge := by
      rw [nextWindow_running hm hl, ← he, if_pos ⟨hw, hc⟩]
    have hbeside := takeWindow_beside p s
    refine ⟨_, _, exec_windowStart_over hnext hr, (mgmt_of_beside hbeside :),
      unsupervised_of_beside hbeside, rfl, changeGate_frame .., fun x hx => changeGate_other p _ s hx,
      changeGate_port .., fun hx => ?_, fun x hx => ⟨_, ?_, changeGate_cutNoted p _ s x⟩,
      changeGate_queue p _ s⟩
    · rw [changeGate_tx, hx]; rfl
    · rw [changeGate_tx, hx]; rfl
  · refine exec_windowStart_waits fun t ht => ?_
    rw [nextWindow_running hm hl, ← he] at ht
    split at ht
    · next hnext =>
      obtain rfl := Option.some.inj ht
      obtain h | h | h := h
      · omega
      · omega
      · exact h
    · cases ht
  · subst hT
    have hbeside := targetTaken_beside p (l.base.toNs + s.gates[p].target * l.cycle) s
    have hwhole := (signalWindow_beside p 0 _).trans
      ((raise_beside (.scheduleResync p s.gates[p].target) _).trans hbeside)
    refine ⟨_, _, _, exec_target hm hl hr, (mgmt_of_beside hwhole :), rfl, fun h => ?_,
      unsupervised_of_beside hwhole, rfl, fun r b hb => ⟨fun h => ?_, fun hp ha hd he => ?_⟩⟩
    · refine targetTaken_nobody p _ s fun r => ?_
      by_cases hp : s.robots[r].port = some p
      exacts [.inr (h r hp), .inl hp]
    · subst hb
      rw [raise_robot, robot_of_side (targetTaken_side ..)]
      exact robot_of_side (signalBoundary_elsewhere _ _ _ h)
    · subst hb
      rw [raise_robot, targetTaken_robot p _ s ⟨ha, hp⟩ ⟨hd, he⟩, Robot.marked_true]
      rfl
  · obtain rfl : openers = s.openers p w := ho
    rw [ht]
    clear ht t
    replace hsound (r : RobotId) (h : s.robots[r].armedOn p) : s.robots[r].sound :=
      hsound r h.2 h.1
    refine ⟨fun r hr => signalWindow_other hsound hr, fun r hr b x n hb hrow => ?_,
      fun sends others hq hs ho => ?_⟩
    · subst hb
      have hside := signalWindow_opens (x := x) (n := n) hsound hr fun room hroom hfull => by
        obtain ⟨hlink, rfl, rfl⟩ | ⟨hlink, ⟨c, hc, rfl, rfl⟩ |
          ⟨hslot, ⟨hstore, hn, rfl, rfl⟩ | ⟨hrepeat, rfl, hrow⟩⟩⟩ := hrow
        · exact .down hlink
        · exact .slot c hlink hc
        · exact .again hlink hslot ⟨hstore, hn⟩
        · have hno := not_mayRepeat hrepeat
          obtain ⟨hf, rfl⟩ | ⟨hf, ⟨hm, rfl⟩ | ⟨hm, hone, rfl⟩⟩ := hrow
          · exact .silent hlink hslot hno hf
          · exact .held hlink hslot hno hf (hroom hm)
          · exact .unmade hlink hslot hno hf (hfull hm hone)
      obtain ⟨hrobot, hcount⟩ := opened_of_side hside
      refine ⟨hrobot, fun k hk => ?_⟩
      rw [← countDelayed_other p s r hk]
      exact hcount k
    · replace hs (x : QEntry) (hx : x ∈ sends) : x.isRobotSend = true :=
        (isRobotSend_iff x).mpr (hs x hx)
      refine ⟨fun r n hn => ?_, fun hlink hall =>
        signalWindow_q3 hsound hlink hq hs (fun x hx => ?_) hall⟩
      · have hnone : others.filter (QEntry.delays r) = [] :=
          List.filter_eq_nil_iff.mpr fun x hx => by
            rw [QEntry.delays, decide_eq_false (ho x hx r), Bool.false_and]
            exact Bool.false_ne_true
        have hcount := signalWindow_delayed (w := w) hsound r
        rw [show s.q3 p = sends ++ others from hq, List.filter_append, hnone, List.append_nil] at hcount
        rw [hn]
        exact hcount
      · rw [← Bool.not_eq_true, isRobotSend_iff]
        rintro ⟨r, hr⟩
        exact ho x hx r hr

end Sys2Proof.Machine
end


section
/-! SUPPORT. What lasts: the loss action, the straps and the queue of commands that wait are as they were
after every command but a reset and SET LOSS ACTION (R108, R191). This part: the shared operations. -/

namespace Sys2Proof.Machine

/-- What no command but a reset and SET LOSS ACTION changes. -/
def State.lasting (s : State) : HoldPolicy × Straps × List Instr := (s.watch.action, s.straps, s.pending)

theorem lasting_of_uncounted {s t : State} (h : t.uncounted = s.uncounted) : t.lasting = s.lasting :=
  (congrArg State.lasting h :)

theorem lasting_of_unanswered {s t : State} (h : t.unanswered = s.unanswered) : t.lasting = s.lasting := by
  have e := congrArg State.lasting h
  simpa only [State.lasting, State.unanswered, State.uncounted] using e

@[simp] theorem lasting_ite (P : Prop) [Decidable P] (s t : State) :
    (if P then s else t).lasting = if P then s.lasting else t.lasting := apply_ite State.lasting P s t

/-! ## Updates of one part -/

section
variable (p : PortId) (r : RobotId) (w : WindowId) (s : State)

@[simp] theorem State.modPort_lasting (f : Port → Port) : (s.modPort p f).lasting = s.lasting := rfl
@[simp] theorem State.modRx_lasting (f : Rx → Rx) : (s.modRx p f).lasting = s.lasting := rfl
@[simp] theorem State.modMem_lasting (f : CellMem → CellMem) : (s.modMem f).lasting = s.lasting := rfl
@[simp] theorem State.modEgress_lasting (f : Egress → Egress) : (s.modEgress p f).lasting = s.lasting := rfl
@[simp] theorem State.modGate_lasting (f : Gate → Gate) : (s.modGate p f).lasting = s.lasting := rfl
@[simp] theorem State.modStream_lasting (i : StreamId) (f : Stream → Stream) :
    (s.modStream i f).lasting = s.lasting := rfl
@[simp] theorem State.modRobot_lasting (f : Robot → Robot) : (s.modRobot r f).lasting = s.lasting := rfl
@[simp] theorem State.modCamera_lasting (c : CameraId) (f : Camera → Camera) :
    (s.modCamera c f).lasting = s.lasting := rfl
@[simp] theorem State.modWindow_lasting (f : ServiceWindow → ServiceWindow) :
    (s.modWindow w f).lasting = s.lasting := rfl
@[simp] theorem State.modClock_lasting (f : Clock → Clock) : (s.modClock f).lasting = s.lasting := rfl
@[simp] theorem State.modTracker_lasting (f : Tracker → Tracker) : (s.modTracker f).lasting = s.lasting := rfl
@[simp] theorem State.modReject_lasting (f : Reject → Reject) : (s.modReject f).lasting = s.lasting := rfl
@[simp] theorem State.modHold_lasting (f : Hold → Hold) : (s.modHold f).lasting = s.lasting := rfl
@[simp] theorem State.modMgmt_lasting (f : Mgmt → Mgmt) : (s.modMgmt f).lasting = s.lasting := rfl
@[simp] theorem State.modRecord_lasting (q : BitVec 32) (f : TrackRec → TrackRec) :
    (s.modRecord q f).lasting = s.lasting := rfl
@[simp] theorem withMem_lasting (m : CellMem) : ({ s with mem := m } : State).lasting = s.lasting := rfl
@[simp] theorem withNotices_lasting (b : NoticeBlock) :
    ({ s with notices := b } : State).lasting = s.lasting := rfl

/-- The watch may be set anew but for its loss action. -/
theorem State.modWatch_lasting {f : Watch → Watch} (h : (f s.watch).action = s.watch.action) :
    (s.modWatch f).lasting = s.lasting := by
  simp only [State.lasting, State.modWatch, h]

/-! ## Counts, notices, hold sources, and work over a list -/

@[simp] theorem raise_lasting (e : NoticeEvent) : (raise e s).lasting = s.lasting :=
  lasting_of_uncounted (raise_uncounted e s)
@[simp] theorem bumpBy_lasting (c : CounterRef) (n : Nat) : (bumpBy c n s).lasting = s.lasting :=
  lasting_of_uncounted (bumpBy_uncounted c n s)
@[simp] theorem bump_lasting (c : CounterRef) : (bump c s).lasting = s.lasting :=
  lasting_of_uncounted (bump_uncounted c s)
@[simp] theorem leaveHold_lasting (h : HoldSource) : (leaveHold h s).lasting = s.lasting := rfl
@[simp] theorem joinHold_lasting (h : HoldSource) : (joinHold h s).lasting = s.lasting :=
  (lasting_of_uncounted (joinHold_frame h s) :)

@[simp] theorem forEach_lasting {α : Type} {f : α → State → State} (l : List α)
    (hf : ∀ a s, (f a s).lasting = s.lasting) : (forEach l f s).lasting = s.lasting :=
  forEach_keeps State.lasting l hf s

/-! ## Cells, queues and frames built (R22 to R35) -/

@[simp] theorem give_lasting (l : List CellId) : (s.give l).lasting = s.lasting := rfl
@[simp] theorem addRef_lasting (h : CellId) : (s.addRef h).lasting = s.lasting := rfl
@[simp] theorem release_lasting (h : CellId) : (s.release h).lasting = s.lasting := rfl
@[simp] theorem releaseOpt_lasting (h : Option CellId) : (s.releaseOpt h).lasting = s.lasting := by
  cases h <;> rfl
@[simp] theorem noteCut_lasting : (noteCut p s).lasting = s.lasting :=
  lasting_of_unanswered (noteCut_unanswered p s)
@[simp] theorem enqueue_lasting (q : QueueId) (x : QEntry) : (enqueue p q x s).lasting = s.lasting :=
  lasting_of_unanswered (enqueue_unanswered p q x s)
@[simp] theorem enqueueSend_lasting (h : CellId) : (enqueueSend p r h s).lasting = s.lasting := by
  simp [enqueueSend]
@[simp] theorem releaseEntries_lasting (l : List QEntry) : (releaseEntries l s).lasting = s.lasting := by
  rw [releaseEntries_frame]; rfl
@[simp] theorem buildFrame_lasting (k : GenKind) (kind : FrameKind) (ports : List PortId) (octets : Octets) :
    (buildFrame k kind ports octets s).1.lasting = s.lasting :=
  lasting_of_unanswered (buildFrame_unanswered k kind ports octets s)
@[simp] theorem sendAnswer_lasting (q : Request) (a : Reply) : (sendAnswer q a s).1.lasting = s.lasting :=
  buildFrame_lasting ..
@[simp] theorem answerGone_lasting (h : CellId) : (answerGone h s).lasting = s.lasting := rfl

@[simp] theorem admitReceived_lasting (ports : List PortId) (q : QueueId) (cells : List CellId)
    (octets : Octets) (owner : CounterRef) :
    (admitReceived ports q cells octets owner s).1.lasting = s.lasting := by
  unfold admitReceived
  dsimp only
  split <;> simp

@[simp] theorem mirrorTo_lasting (h : CellId) : (mirrorTo w h s).lasting = s.lasting := by
  simp [mirrorTo]
@[simp] theorem mirrorFrame_lasting (i : StreamId) (h : CellId) :
    (mirrorFrame i h s).lasting = s.lasting := by
  simp [mirrorFrame]

end

/-! ## The supervisor (R89 to R107) -/

section
variable (p : PortId) (r : RobotId) (w : WindowId) (s : State)

@[simp] theorem watchIdleIfNone_lasting : (watchIdleIfNone s).lasting = s.lasting := by
  simp [watchIdleIfNone, State.modWatch_lasting]
@[simp] theorem startWatch_lasting : (startWatch s).lasting = s.lasting := rfl
@[simp] theorem emptySlots_lasting : (emptySlots r s).lasting = s.lasting := by
  simp [emptySlots]
@[simp] theorem leavePending_lasting : (leavePending r s).lasting = s.lasting := by
  simp [leavePending]
@[simp] theorem leaveHeld_lasting : (leaveHeld r s).lasting = s.lasting := by
  simp [leaveHeld]
@[simp] theorem toIdle_lasting : (toIdle r s).lasting = s.lasting := by
  simp [toIdle]
@[simp] theorem enterArming_lasting : (enterArming r s).lasting = s.lasting := by
  simp [enterArming]
@[simp] theorem intoService_lasting : (intoService r w s).lasting = s.lasting := by
  simp [intoService]
@[simp] theorem reportParked_lasting : (reportParked r s).lasting = s.lasting := by
  unfold reportParked
  split <;> simp
@[simp] theorem giveBack_lasting : (giveBack r s).lasting = s.lasting := by
  simp [giveBack]
@[simp] theorem damageRobot_lasting : (damageRobot r s).lasting = s.lasting := by
  simp [damageRobot]
@[simp] theorem checkStream_lasting (i : StreamId) (k : ReadKind) :
    (checkStream i k s).lasting = s.lasting := by
  unfold checkStream
  split
  · simp
  · split <;> simp
@[simp] theorem checkRobot_lasting (k : ReadKind) : (checkRobot r k s).lasting = s.lasting := by
  unfold checkRobot
  split
  · simp
  · split <;> simp

@[simp] theorem loseRobot_lasting : (loseRobot r s).lasting = s.lasting := by
  simp [loseRobot]
@[simp] theorem hitRobot_lasting (parked : Bool) : (hitRobot r parked s).lasting = s.lasting := by
  simp [hitRobot]
@[simp] theorem missRobot_lasting : (missRobot r s).lasting = s.lasting := by
  simp [missRobot]
@[simp] theorem stallRobot_lasting : (stallRobot r s).lasting = s.lasting := by
  simp [stallRobot]
@[simp] theorem returnRobot_lasting (parked : Bool) : (returnRobot r parked s).lasting = s.lasting := by
  simp [returnRobot]
@[simp] theorem judgePeriod_lasting : (judgePeriod r s).lasting = s.lasting := by
  unfold judgePeriod
  dsimp only
  split <;> simp
@[simp] theorem periodEnd_lasting (boundary : HallTime) : (periodEnd r boundary s).lasting = s.lasting := by
  simp [periodEnd]
@[simp] theorem boundaryFor_lasting (index : Int) (disturbed : Bool) (boundary : HallTime) :
    (boundaryFor p index disturbed boundary r s).lasting = s.lasting := by
  simp [boundaryFor]
@[simp] theorem signalBoundary_lasting (index : Int) (disturbed : Bool) (boundary : HallTime) :
    (signalBoundary p index disturbed boundary s).lasting = s.lasting := by
  simp [signalBoundary]

@[simp] theorem countDelayed_lasting : (countDelayed p s).lasting = s.lasting := by
  rw [countDelayed_eq, State.modEgress_lasting]
  refine forEach_lasting s _ fun x t => ?_
  obtain ⟨e, -⟩ | ⟨a, -, -, e⟩ := countDelay_cases x t <;> simp [e]
@[simp] theorem sendHoldFrame_lasting : (sendHoldFrame r p s).lasting = s.lasting := by
  unfold sendHoldFrame
  split <;> simp
@[simp] theorem sendSlot_lasting (h : CellId) : (sendSlot r p h s).lasting = s.lasting := by
  simp [sendSlot]
@[simp] theorem sendRepeat_lasting (h : CellId) : (sendRepeat r p h s).lasting = s.lasting := by
  simp [sendRepeat]
@[simp] theorem opening_lasting : (opening r p s).lasting = s.lasting := by
  obtain e | ⟨c, e⟩ | ⟨c, e⟩ | e := opening_cases (p := p) (r := r) (s := s) <;> simp [e]
@[simp] theorem openingFor_lasting (n : Nat) : (openingFor p n r s).lasting = s.lasting := by
  simp [openingFor]
@[simp] theorem signalWindow_lasting (n : Nat) : (signalWindow p n s).lasting = s.lasting := by
  simp [signalWindow]

@[simp] theorem recordHit_lasting (octets : Octets) : (recordHit r octets s).lasting = s.lasting := by
  unfold recordHit
  dsimp only
  split <;> simp
@[simp] theorem noteLate_lasting (i : StreamId) (past : Option Nat) :
    (noteLate r i past s).lasting = s.lasting := by
  simp [noteLate]
@[simp] theorem statusFrame_lasting (i : StreamId) (octets : Octets) (recv : HallTime) :
    (statusFrame r i octets recv s).lasting = s.lasting := by
  simp [statusFrame]
@[simp] theorem acceptedCommand_lasting : (acceptedCommand s).lasting = s.lasting := by
  unfold acceptedCommand
  split
  · rfl
  · exact s.modWatch_lasting rfl
  · simp
@[simp] theorem storeFrame_lasting (cells : List CellId) (octets : Octets) :
    (storeFrame cells octets s).lasting = s.lasting := rfl
@[simp] theorem placeCommand_lasting (i : StreamId) (cells : List CellId) (octets : Octets) :
    (placeCommand r i cells octets s).lasting = s.lasting := by
  unfold placeCommand
  split <;> simp
@[simp] theorem loseController_lasting : (loseController s).lasting = s.lasting := by
  simp [loseController, State.modWatch_lasting]

end

end Sys2Proof.Machine
end


section
/-! SUPPORT. What lasts, continued: the gate engines, the hall clock, the service windows, the tracker and
the reject station, the transmitter, and what becomes of a frame received. -/

namespace Sys2Proof.Machine

/-! ## Gate engines and the hall clock (R42 to R78) -/

section
variable (p : PortId) (s : State)

@[simp] theorem changeGate_lasting (f : Gate → Gate) : (changeGate p f s).lasting = s.lasting := by
  rw [changeGate_frame]; rfl
@[simp] theorem takeBoundary_lasting : (takeBoundary p s).lasting = s.lasting := by
  unfold takeBoundary
  dsimp only
  split <;> simp
@[simp] theorem takeTarget_lasting (l : GateList) : (takeTarget p l s).lasting = s.lasting := by
  simp [takeTarget]
@[simp] theorem takeWindow_lasting : (takeWindow p s).lasting = s.lasting := by
  simp [takeWindow]
@[simp] theorem reportStep_lasting : (reportStep s).lasting = s.lasting := by
  simp [reportStep]

@[simp] theorem setTrim_lasting (trim : Int) : (setTrim trim s).lasting = s.lasting := rfl
@[simp] theorem stepTo_lasting (hall : HallTime) : (stepTo hall s).lasting = s.lasting := by
  simp [stepTo]
@[simp] theorem enterHoldover_lasting : (enterHoldover s).lasting = s.lasting := by
  simp [enterHoldover]
@[simp] theorem servoUpdate_lasting (offset : Int) : (servoUpdate offset s).lasting = s.lasting := by
  simp [servoUpdate]
@[simp] theorem markStep_lasting (offset : Int) : (markStep offset s).lasting = s.lasting := by
  simp [markStep]
@[simp] theorem relayMark_lasting (m : Mark) (recvTime : HallTime) :
    (relayMark m recvTime s).lasting = s.lasting := by
  unfold relayMark
  split <;> simp
@[simp] theorem readMark_lasting (m : Mark) : (readMark m s).lasting = s.lasting := by
  simp [readMark]
@[simp] theorem clockRequest_lasting : (clockRequest s).lasting = s.lasting := by
  unfold clockRequest
  split <;> rfl
@[simp] theorem requestStep_lasting (cause : StepCause) (hall : HallTime) (offset : Int) :
    (requestStep cause hall offset s).lasting = s.lasting := by
  simp [requestStep]
@[simp] theorem loseProbe_lasting : (loseProbe s).lasting = s.lasting := by
  unfold loseProbe
  split <;> simp
@[simp] theorem newProbe_lasting : (newProbe s).lasting = s.lasting := by
  unfold newProbe
  split <;> simp
@[simp] theorem takeProbeDue_lasting (due : Nat) : (takeProbeDue due s).lasting = s.lasting := by
  simp [takeProbeDue]
@[simp] theorem takeSample_lasting (sample : Int) : (takeSample sample s).lasting = s.lasting := by
  simp [takeSample]
@[simp] theorem readReply_lasting (octets : Octets) (t4 : HallTime) :
    (readReply octets t4 s).lasting = s.lasting := by
  unfold readReply
  dsimp only
  split
  · simp
  · split <;> simp
@[simp] theorem answerProbe_lasting (octets : Octets) (t2 : HallTime) :
    (answerProbe p octets t2 s).lasting = s.lasting := by
  simp [answerProbe]

end

/-! ## Service windows (R153 to R167) -/

section
variable (w : WindowId) (s : State)

@[simp] theorem dropMirrors_lasting (p : PortId) : (dropMirrors p s).lasting = s.lasting := by
  simp [dropMirrors]
@[simp] theorem releaseRobots_lasting : (releaseRobots w s).lasting = s.lasting := by
  simp [releaseRobots]
@[simp] theorem closeWindow_lasting (cause : CloseCause) : (closeWindow w cause s).lasting = s.lasting := by
  simp [closeWindow]
@[simp] theorem warnWindow_lasting : (warnWindow w s).lasting = s.lasting := by
  simp [warnWindow]
@[simp] theorem trap_lasting (reason : TrapReason) (src : Mac) :
    (trap w reason src s).lasting = s.lasting := by
  simp [trap]
@[simp] theorem claimRobot_lasting (r : RobotId) : (claimRobot w r s).lasting = s.lasting := by
  unfold claimRobot
  split <;> simp
@[simp] theorem activateWindow_lasting : (activateWindow w s).lasting = s.lasting := by
  simp [activateWindow]
@[simp] theorem judgeArrival_lasting (src : Mac) : (judgeArrival w src s).1.lasting = s.lasting := by
  unfold judgeArrival
  dsimp only
  repeat' split
  all_goals simp
@[simp] theorem grantWindow_lasting (g : Grant) : (grantWindow w g s).lasting = s.lasting := by
  simp [grantWindow]
@[simp] theorem extendWindow_lasting (remaining : Nat) :
    (extendWindow w remaining s).lasting = s.lasting := by
  simp [extendWindow]
@[simp] theorem lowerWindow_lasting (level : ServiceLevel) :
    (lowerWindow w level s).lasting = s.lasting := by
  simp [lowerWindow]

end

/-! ## The reject station and the tracker (R111 to R149) -/

section
variable (c : CameraId) (s : State)

@[simp] theorem recomputeLead_lasting : (recomputeLead s).lasting = s.lasting := rfl
@[simp] theorem startBlast_lasting : (startBlast s).lasting = s.lasting := by
  simp [startBlast]
@[simp] theorem startExtend_lasting : (startExtend s).lasting = s.lasting := by
  simp [startExtend]
@[simp] theorem startRetract_lasting : (startRetract s).lasting = s.lasting := by
  simp [startRetract]
@[simp] theorem leaveWaits_lasting : (leaveWaits s).lasting = s.lasting := by
  unfold leaveWaits
  split <;> simp
@[simp] theorem dwellTest_lasting : (dwellTest s).lasting = s.lasting := by
  unfold dwellTest
  split <;> simp
@[simp] theorem firePulse_lasting : (firePulse s).lasting = s.lasting := by
  unfold firePulse
  split <;> simp
@[simp] theorem fireDiverter_lasting : (fireDiverter s).lasting = s.lasting := by
  unfold fireDiverter
  dsimp only
  split <;> simp
@[simp] theorem fireEjector_lasting : (fireEjector s).lasting = s.lasting := by
  unfold fireEjector
  dsimp only
  split <;> simp
@[simp] theorem movePointers_lasting (gone : BitVec 32) : (movePointers gone s).lasting = s.lasting := rfl
@[simp] theorem decideHead_lasting (x : TrackRec) : (decideHead x s).lasting = s.lasting := by
  unfold decideHead
  dsimp only
  split <;> simp
@[simp] theorem decideDue_lasting (l : List TrackRec) : (decideDue l s).lasting = s.lasting := by
  induction l generalizing s with
  | nil => rfl
  | cons x l ih => simp [decideDue, ih]
@[simp] theorem restartEjector_lasting : (restartEjector s).lasting = s.lasting := rfl

@[simp] theorem qualify_lasting : (qualify s).lasting = s.lasting := by
  simp [qualify]
@[simp] theorem jamFound_lasting : (jamFound s).lasting = s.lasting := by
  unfold jamFound
  dsimp only
  split <;> simp
@[simp] theorem occlusionTests_lasting : (occlusionTests s).lasting = s.lasting := by
  simp [occlusionTests]
@[simp] theorem beginExcursion_lasting : (beginExcursion s).lasting = s.lasting := by
  unfold beginExcursion
  dsimp only
  split <;> simp
@[simp] theorem afterCount_lasting : (afterCount s).lasting = s.lasting := by
  simp [afterCount]
@[simp] theorem leadingEdge_lasting : (leadingEdge s).lasting = s.lasting := by
  simp [leadingEdge]
@[simp] theorem trailingEdge_lasting : (trailingEdge s).lasting = s.lasting := by
  unfold trailingEdge
  dsimp only
  split <;> simp
@[simp] theorem sensorEnds_lasting : (sensorEnds s).lasting = s.lasting := by
  simp [sensorEnds]
@[simp] theorem endSpeedWindow_lasting : (endSpeedWindow s).lasting = s.lasting := by
  simp [endSpeedWindow]
@[simp] theorem triggerNote_lasting (q : BitVec 32) (d : Dest) :
    (triggerNote c q d s).lasting = s.lasting := by
  simp [triggerNote]
@[simp] theorem fireTrigger_lasting (q : BitVec 32) : (fireTrigger c q s).lasting = s.lasting := by
  unfold fireTrigger
  dsimp only
  split <;> simp
@[simp] theorem skipTrigger_lasting (q : BitVec 32) : (skipTrigger c q s).lasting = s.lasting := by
  simp [skipTrigger]
@[simp] theorem triggerScan_lasting (l : List TrackRec) : (triggerScan c l s).lasting = s.lasting := by
  induction l generalizing s with
  | nil => rfl
  | cons x l ih => simp [triggerScan, ih]
@[simp] theorem testTrigger_lasting : (testTrigger c s).lasting = s.lasting := by
  simp [testTrigger]
@[simp] theorem applyCount_lasting (count : Int) : (applyCount count s).lasting = s.lasting := by
  simp [applyCount]
@[simp] theorem clearList_lasting : (clearList s).lasting = s.lasting := by
  simp only [clearList, bump_lasting, leaveHold_lasting]
  rfl

@[simp] theorem applyInList_lasting (i : StreamId) (e : VerdictEntry) :
    (applyInList i c e s).lasting = s.lasting := by
  unfold applyInList
  dsimp only
  split
  · simp
  · split <;> simp
@[simp] theorem applyVerdict_lasting (i : StreamId) (e : VerdictEntry) :
    (applyVerdict i e s).lasting = s.lasting := by
  unfold applyVerdict
  dsimp only
  split <;> simp
@[simp] theorem readVerdicts_lasting (i : StreamId) (frame : Octets) :
    (readVerdicts i frame s).lasting = s.lasting := by
  unfold readVerdicts
  split <;> simp

end

/-! ## The transmitter (R36 to R38, R79 to R81) -/

section
variable (p : PortId) (s : State)

@[simp] theorem countHold_lasting (q : QueueId) : (countHold p q s).lasting = s.lasting := by
  unfold countHold
  split <;> simp
@[simp] theorem countHolds_lasting : (countHolds p s).lasting = s.lasting := by
  simp [countHolds]
@[simp] theorem stampSent_lasting : (stampSent p s).lasting = s.lasting := by
  rw [stampSent_frame]; rfl
@[simp] theorem dropHead_lasting (q : QueueId) : (dropHead p q s).lasting = s.lasting := rfl
@[simp] theorem startHead_lasting (q : QueueId) (x : QEntry) : (startHead p q x s).lasting = s.lasting := by
  simp [startHead]
@[simp] theorem startRemainder_lasting (x : Remainder) : (startRemainder p x s).lasting = s.lasting := by
  simp [startRemainder]
@[simp] theorem chooseLoop_lasting (n : Nat) : (chooseLoop p n s).lasting = s.lasting := by
  induction n generalizing s with
  | zero => rfl
  | succ n ih =>
    unfold chooseLoop
    dsimp only
    split
    · simp
    · simp
    · split <;> simp [ih]
@[simp] theorem chooseNext_lasting : (chooseNext p s).lasting = s.lasting := by
  simp [chooseNext]
@[simp] theorem cutPiece_lasting (t : Tx) (c : Nat) : (cutPiece p t c s).lasting = s.lasting := by
  simp [cutPiece]
@[simp] theorem completePiece_lasting (t : Tx) : (completePiece p t s).lasting = s.lasting := by
  unfold completePiece
  dsimp only
  split <;> simp

end

/-! ## Good frames (R9 to R17, R158 to R168) -/

section
variable (a : Arrival) (w : WindowId) (i : StreamId) (s : State)

@[simp] theorem offerRequest_lasting (q : Request) : (offerRequest q s).lasting = s.lasting := by
  simp [offerRequest]
@[simp] theorem classify_lasting (p : PortId) (octets : Octets) :
    (classify p octets s).1.lasting = s.lasting := by
  unfold classify
  split
  · rfl
  · dsimp only
    split <;> simp
@[simp] theorem countStream_lasting (octets : Octets) : (countStream i octets s).lasting = s.lasting := by
  simp [countStream]
@[simp] theorem forward_lasting (ports : List PortId) (q : QueueId) :
    (forward a i ports q s).lasting = s.lasting := by
  have h := admitReceived_lasting s ports q a.cells a.octets (.stream i .cellDrops)
  unfold forward
  split
  · simp
  · split
    · next e => simpa [e] using h
    · next e => simpa [e] using h
@[simp] theorem commandRobot_lasting : (commandRobot i s).1.lasting = s.lasting := by
  unfold commandRobot
  split
  · split <;> simp
  · rfl
@[simp] theorem takeCommand_lasting (r : RobotId) (ports : List PortId) :
    (takeCommand a i r ports s).lasting = s.lasting := by
  unfold takeCommand
  dsimp only
  split <;> simp
@[simp] theorem readByRole_lasting : (readByRole a i s).lasting = s.lasting := by
  unfold readByRole
  split <;> simp
@[simp] theorem matchedFrame_lasting : (matchedFrame a i s).lasting = s.lasting := by
  have h := commandRobot_lasting i (countStream i a.octets s)
  unfold matchedFrame
  dsimp only
  split
  · simp
  · split
    · next e => simpa [e] using h
    · next e => simpa [e] using h
@[simp] theorem unmatchedFrame_lasting : (unmatchedFrame a s).lasting = s.lasting := by
  unfold unmatchedFrame
  dsimp only
  split
  · simp
  · split <;> simp
@[simp] theorem injectFrame_lasting : (injectFrame a w i s).lasting = s.lasting := by
  simp [injectFrame]
@[simp] theorem serviceFrame_lasting : (serviceFrame a w s).lasting = s.lasting := by
  have hc := classify_lasting s a.port a.octets
  unfold serviceFrame
  dsimp only
  generalize classify a.port a.octets s = x at hc ⊢
  have hj := judgeArrival_lasting w x.1 (frameSrc a.octets)
  split
  · simpa using hc
  · next t e =>
    have ht : t.lasting = s.lasting := by simpa [e] using hj.trans hc
    split <;> simp [ht]
@[simp] theorem serviceRequest_lasting : (serviceRequest a w s).lasting = s.lasting := by
  have hj := judgeArrival_lasting w s (frameSrc a.octets)
  unfold serviceRequest
  dsimp only
  split
  · simp
  · next e => simpa [e] using hj
@[simp] theorem lineRequest_lasting : (lineRequest a s).lasting = s.lasting := by
  simp [lineRequest]
@[simp] theorem markFrame_lasting : (markFrame a s).lasting = s.lasting := by
  unfold markFrame
  dsimp only
  split <;> simp
@[simp] theorem probeFrame_lasting : (probeFrame a s).lasting = s.lasting := by
  unfold probeFrame
  dsimp only
  split <;> simp
@[simp] theorem replyFrame_lasting : (replyFrame a s).lasting = s.lasting := by
  unfold replyFrame
  dsimp only
  split <;> simp
@[simp] theorem goodFrame_lasting : (goodFrame a s).lasting = s.lasting := by
  unfold goodFrame
  dsimp only
  generalize hu : bumpBy _ _ (bump _ s) = u
  have e : u.lasting = s.lasting := by simp [← hu]
  have hc := (classify_lasting u a.port a.octets).trans e
  generalize classify a.port a.octets u = x at hc ⊢
  obtain ⟨t, i⟩ := x
  split
  · simp [e]
  · split
    · simp [e]
    · split
      · simp [e]
      · split
        · simp [e]
        · split
          · simp [e]
          · cases i <;> simpa using hc

end

/-! ## Reception (R6, R7, R24, R82 to R84) -/

section
variable (p : PortId) (s : State)

@[simp] theorem settleCells_lasting (n : Nat) (cells : List CellId) (overrun : Bool) :
    (settleCells n cells overrun s).1.lasting = s.lasting := by
  unfold settleCells
  split
  · simp
  · split
    · simp
    · split <;> simp
@[simp] theorem receiveChecks_lasting (a : Arrival) : (receiveChecks a s).lasting = s.lasting := by
  unfold receiveChecks
  split <;> simp
@[simp] theorem endReception_lasting : (endReception p s).lasting = s.lasting := rfl
@[simp] theorem wholeFrame_lasting (octets : Octets) : (wholeFrame p octets s).lasting = s.lasting := by
  have h := settleCells_lasting (endReception p s) (storedCells octets.length) (s.reception p).cells
    (s.reception p).overrun
  unfold wholeFrame
  dsimp only
  split
  · next e => simpa [e] using h
  · next e => simpa [e] using h
@[simp] theorem discardOpen_lasting : (discardOpen p s).lasting = s.lasting := by
  unfold discardOpen
  split <;> simp
@[simp] theorem failOpen_lasting : (failOpen p s).lasting = s.lasting := by
  unfold failOpen
  split <;> simp
@[simp] theorem joinPiece_lasting (a : Assembly) (r : Reception) (last : Bool) :
    (joinPiece p a r last s).lasting = s.lasting := by
  have h := settleCells_lasting (s.modRx p fun x => { x with asm := none }) (storedCells a.octets.length)
    a.cells (a.overrun r)
  unfold joinPiece
  dsimp only
  split
  · next e => simpa [e] using h
  · next e => simpa [e] using h
@[simp] theorem dropPiece_lasting (r : Reception) : (dropPiece r s).lasting = s.lasting := rfl
@[simp] theorem markedPiece_lasting (marker : PieceMarker) (octets : Octets) :
    (markedPiece p marker octets s).lasting = s.lasting := by
  unfold markedPiece
  dsimp only
  generalize (if (!endsWithPieceCheck octets) = true then octets else withoutCheck octets) = data
  split
  · split <;> simp
  · split <;> simp
@[simp] theorem abortReception_lasting : (abortReception p s).lasting = s.lasting := by
  unfold abortReception
  split <;> simp

end

end Sys2Proof.Machine
end


section
/-! SUPPORT. What lasts, concluded: the tables, the notices, the requests, and every command but the two
resets and SET LOSS ACTION. -/

namespace Sys2Proof.Machine

/-! ## Notices sent, links, the RESTART carried out, the scrub (R5, R18, R39, R178, R193) -/

section
variable (p : PortId) (s : State)

@[simp] theorem sendNotices_lasting (d : Dest) : (sendNotices d s).lasting = s.lasting := by
  unfold sendNotices
  dsimp only
  generalize hx : buildFrame _ _ _ _ _ = x
  have h : x.1.lasting = s.lasting := by rw [← hx]; simp
  obtain ⟨t, _ | c⟩ := x <;> simpa using h
@[simp] theorem attemptIfDue_lasting : (attemptIfDue s).lasting = s.lasting := by
  unfold attemptIfDue
  split <;> simp
@[simp] theorem flushFrame_lasting (h : CellId) : (flushFrame h s).lasting = s.lasting := rfl
@[simp] theorem flushPort_lasting : (flushPort p s).lasting = s.lasting := by
  rw [flushPort_frame]; rfl
@[simp] theorem freeFramePath_lasting : (freeFramePath s).lasting = s.lasting := by
  have h := forEach_lasting s (List.finRange 12) abortReception_lasting
  unfold freeFramePath
  generalize forEach _ _ s = u at h ⊢
  exact h
@[simp] theorem disturbCycles_lasting : (disturbCycles s).lasting = s.lasting := rfl
@[simp] theorem carryOutRestart_lasting : (carryOutRestart s).lasting = s.lasting := by
  simp [carryOutRestart]
@[simp] theorem takeHit_lasting (x : EccRecord) (e : EccError) : (takeHit x e s).lasting = s.lasting := by
  cases x <;> rfl
@[simp] theorem scrubNext_lasting : (scrubNext s).lasting = s.lasting := by
  have e : ({ s with scrub := s.scrub + 1 } : State).lasting = s.lasting := rfl
  unfold scrubNext
  dsimp only
  split <;> simp [e]

end

/-! ## The tables (R186, R187) -/

section
variable (s : State)

@[simp] theorem disableReceive_lasting (p : PortId) : (disableReceive p s).lasting = s.lasting := by
  simp [disableReceive]
@[simp] theorem storePort_lasting (p : PortId) (c : PortCfg) : (storePort p c s).lasting = s.lasting := by
  simp [storePort]
@[simp] theorem rereadSensor_lasting (before : Bool) : (rereadSensor before s).lasting = s.lasting := by
  simp [rereadSensor]
@[simp] theorem applyJamPolicy_lasting : (applyJamPolicy s).lasting = s.lasting := by
  unfold applyJamPolicy
  split <;> simp
@[simp] theorem storeTracking_lasting (c : TrackerCfg) : (storeTracking c s).lasting = s.lasting := by
  simp [storeTracking]
@[simp] theorem storeEjector_lasting (c : EjectorCfg) : (storeEjector c s).lasting = s.lasting := by
  simp [storeEjector]
@[simp] theorem storeClock_lasting (c : ClockCfg) : (storeClock c s).lasting = s.lasting := by
  unfold storeClock
  dsimp only
  rw [lasting_ite, takeProbeDue_lasting, ite_self, lasting_ite, enterHoldover_lasting, ite_self]
  rfl
@[simp] theorem storeDevice_lasting (c : DeviceCfg) : (storeDevice c s).lasting = s.lasting := by
  have e : ({ s with device := c } : State).lasting = s.lasting := rfl
  simp [storeDevice, e]

end

/-- What a chain of checks comes to, when none of them refuses, has a property. -/
def Yields {α : Type} (P : α → Prop) (x : Except Status α) : Prop := ∀ a, x = .ok a → P a

theorem Yields.bind {α β : Type} {P : β → Prop} {x : Except Status α} {f : α → Except Status β}
    (h : ∀ a, Yields P (f a)) : Yields P (x >>= f) := fun b e =>
  have ⟨a, _, e⟩ := bind_eq_ok e
  h a b e

theorem Yields.pure {α : Type} {P : α → Prop} {a : α} (h : P a) : Yields P (Pure.pure a) := fun _ e =>
  Except.ok.inj e ▸ h

section
variable (s : State)

/-- A record that its table takes is stored without a change to what lasts. -/
theorem writeRecord_lasting (t : TableId) (i : Nat) (l : Octets) :
    Yields (fun u => u.lasting = s.lasting) (writeRecord t i l s) := by
  cases t with
  | port =>
    exact .bind fun p => .bind fun c => .bind fun _ => .bind fun _ => .bind fun _ =>
      .pure (storePort_lasting s p c)
  | stream => exact .bind fun _ => .bind fun _ => .bind fun _ => .bind fun _ => .bind fun _ => .pure rfl
  | robot => exact .bind fun _ => .bind fun _ => .bind fun _ => .pure rfl
  | holdFrame => exact .bind fun _ => .bind fun _ => .pure rfl
  | camera => exact .bind fun _ => .bind fun _ => .pure rfl
  | tracking => exact .bind fun _ => .bind fun c => .pure (storeTracking_lasting s c)
  | ejector => exact .bind fun _ => .bind fun c => .bind fun _ => .pure (storeEjector_lasting s c)
  | clock => exact .bind fun _ => .bind fun c => .pure (storeClock_lasting s c)
  | device => exact .bind fun _ => .bind fun c => .pure (storeDevice_lasting s c)

theorem writeRecords_lasting (t : TableId) (records : List Octets) (i n : Nat) :
    (writeRecords t records i n s).state.lasting = s.lasting := by
  induction records generalizing i n s with
  | nil => rfl
  | cons l ls ih =>
    unfold writeRecords
    split
    · next e => exact (ih _ _ _).trans (writeRecord_lasting _ _ _ _ _ e)
    · rfl

@[simp] theorem readRecord_lasting (t : TableId) (i : Nat) : (readRecord t i s).1.lasting = s.lasting := by
  cases t <;> simp [readRecord]
@[simp] theorem readRecords_lasting (t : TableId) (n i : Nat) :
    (readRecords t n i s).1.lasting = s.lasting := by
  induction n generalizing i s with
  | zero => rfl
  | succ n ih => simp [readRecords, ih]
@[simp] theorem stateRecord_lasting (x : StateSubject) : (stateRecord x s).1.lasting = s.lasting := by
  cases x <;> simp [stateRecord]
@[simp] theorem clearCounters_lasting (x : CounterSubject) : (clearCounters x s).lasting = s.lasting := by
  cases x <;> rfl

end

/-! ## The run of a request (R184, R185) -/

section
variable (q : Request) (s : State)

@[simp] theorem leaveQueue_lasting : (leaveQueue s).lasting = s.lasting := rfl
@[simp] theorem countTechnician_lasting : (countTechnician q s).lasting = s.lasting := by
  unfold countTechnician
  split <;> simp
@[simp] theorem judgeTechnician_lasting (w : WindowId) : (judgeTechnician w q s).1.lasting = s.lasting := by
  unfold judgeTechnician
  dsimp only
  repeat' split
  all_goals simp

end

section
variable {P : State → Prop} (hP : ∀ s t : State, t.lasting = s.lasting → P s → P t)
  {act : Act} (ha : ∀ q s, P s → P (act q s).1) (q : Request) {s : State} (h : P s)
include hP ha h

theorem perform_keeps : P (perform act q s).1 := by
  unfold perform
  split
  · exact h
  · split
    · exact h
    · split
      · next w _ =>
        have hj := hP s _ (judgeTechnician_lasting q s w) h
        split
        · next e => simpa [e] using hj
        · next e => exact ha q _ (by simpa [e] using hj)
      · split
        · exact h
        · split
          · exact h
          · exact ha q s h

/-- What an act keeps of what lasts, the run of its request keeps. -/
theorem performFitted_keeps : P (performFitted act q s).1 := by
  have hc := hP s _ (countTechnician_lasting q s) h
  unfold performFitted
  dsimp only
  split
  · exact hc
  · exact perform_keeps hP ha q hc

theorem runRequest_keeps {after : Request → Reply → State → State}
    (hafter : ∀ q r s, P s → P (after q r s)) : P (runRequest act after q s) := by
  have hp := performFitted_keeps hP ha q h
  unfold runRequest
  generalize performFitted act q s = x at hp ⊢
  exact hafter q x.2 _ (hP x.1 _ (sendAnswer_lasting x.1 q x.2) hp)

theorem runHead_keeps (row : RequestRow) : P (runHead row act s) := by
  unfold runHead
  split
  · exact runRequest_keeps hP ha _ h fun _ _ _ h => h
  · exact h

end

/-- An act that keeps what lasts. -/
def Act.lasts (act : Act) : Prop := ∀ q s, (act q s).1.lasting = s.lasting

theorem runHead_lasting {act : Act} (ha : act.lasts) (row : RequestRow) (s : State) :
    (runHead row act s).lasting = s.lasting :=
  runHead_keeps (P := fun t => t.lasting = s.lasting) (fun _ _ e h => e.trans h)
    (fun q t h => (ha q t).trans h) rfl row

theorem orRefuse_lasting {s : State} {x : Except Status (State × Reply)}
    (h : Yields (fun r => r.1.lasting = s.lasting) x) : (orRefuse s x).1.lasting = s.lasting := by
  unfold orRefuse
  split
  · exact h _ rfl
  · rfl

/-! ## Each request -/

theorem actReadTable_lasts : actReadTable.lasts := fun q s =>
  orRefuse_lasting (.bind fun t => .bind fun _ => .bind fun _ =>
    .pure (readRecords_lasting s t (field q.body 1 1) (field q.body 2 2)))

theorem actWriteTable_lasts : actWriteTable.lasts := fun q s => by
  unfold actWriteTable
  dsimp only
  split
  · rfl
  · split
    · rfl
    · split
      · rfl
      · exact writeRecords_lasting ..

theorem actReadCounters_lasts (clear : Bool) : (actReadCounters clear).lasts := fun q s =>
  orRefuse_lasting (.bind fun x => .bind fun _ => .pure (by cases clear <;> simp [taken]))

theorem actReadState_lasts : actReadState.lasts := fun _ s =>
  orRefuse_lasting (.bind fun x => .pure (stateRecord_lasting s x))

theorem actArm_lasts : actArm.lasts := fun q s => by
  unfold actArm
  split
  · rfl
  · split
    · rfl
    · dsimp only
      split <;> simp [refuse, taken, joinPending, armReads]

theorem actDisarm_lasts : actDisarm.lasts := fun q s => by
  unfold actDisarm
  split
  · rfl
  · split
    · rfl
    · split <;> simp [taken]

theorem actSetClock_lasts : actSetClock.lasts := fun q s => by
  unfold actSetClock
  dsimp only
  split <;> simp [refuse, taken]

theorem actAdjustClock_lasts : actAdjustClock.lasts := fun q s => by
  unfold actAdjustClock
  dsimp only
  split <;> simp [refuse, taken]

theorem actLoadSchedule_lasts : actLoadSchedule.lasts := fun _ _ =>
  orRefuse_lasting (.bind fun _ => .bind fun _ => .bind fun _ => .pure rfl)

theorem actCommitSchedule_lasts : actCommitSchedule.lasts := fun q s => by
  unfold actCommitSchedule
  dsimp only
  split
  · rfl
  · split
    · rfl
    · split
      · rfl
      · split
        · rfl
        · exact forEach_lasting s _ fun _ _ => rfl

theorem actClearTracking_lasts : actClearTracking.lasts := fun q s => by
  unfold actClearTracking
  split <;> simp [refuse, taken]

theorem actOpenWindow_lasts : actOpenWindow.lasts := fun _ s =>
  orRefuse_lasting (.bind fun w => .bind fun g => .bind fun _ => .pure (grantWindow_lasting w s g))

theorem actExtendWindow_lasts : actExtendWindow.lasts := fun _ s =>
  orRefuse_lasting (.bind fun w => .bind fun _ => .pure (extendWindow_lasting w s _))

theorem actCloseWindow_lasts : actCloseWindow.lasts := fun q s => by
  unfold actCloseWindow
  split
  · rfl
  · exact orRefuse_lasting (.bind fun w => .bind fun _ => .pure (closeWindow_lasting w s .controller))

theorem closeAfter_lasting (q : Request) (r : Reply) (s : State) :
    (closeAfter q r s).lasting = s.lasting := by
  unfold closeAfter
  split <;> simp

theorem actLowerLevel_lasts : actLowerLevel.lasts := fun q s => by
  unfold actLowerLevel
  split <;> simp [refuse, taken]

theorem actReleaseHold_lasts : actReleaseHold.lasts := fun q s => by
  unfold actReleaseHold
  split <;> simp [taken, releaseLatch]

theorem runRestart_lasting (q : Request) (s : State) : (runRestart q s).lasting = s.lasting := by
  have h := performFitted_keeps (P := fun t => t.lasting = s.lasting)
    (fun _ _ e h => e.trans h) (act := fun _ s => taken s []) (fun _ _ h => h) q rfl
  unfold runRestart
  dsimp only
  split <;> simpa using h

/-! ## Every command -/

/-- A command completes, and what lasts is as it was. -/
def State.LastsIn (s : State) (o : Result) : Prop := ∃ t, o = .next t ∧ t.lasting = s.lasting

theorem State.LastsIn.next {s t : State} (h : t.lasting = s.lasting) : s.LastsIn (.next t) := ⟨t, rfl, h⟩

theorem runHead_lastsIn {act : Act} (ha : act.lasts) (row : RequestRow) (s : State) :
    s.LastsIn (.next (runHead row act s)) := .next (runHead_lasting ha row s)

section
variable (p : PortId) (w : WindowId) (s : State)

theorem execLinkGained_lasts : s.LastsIn (execLinkGained p s) := .next (by simp)

theorem execLinkLost_lasts : s.LastsIn (execLinkLost p s) := .next (by
  dsimp only
  split
  · split <;> simp
  · rfl)

theorem execReceptionCellTake_lasts (o : ArrivingOctet) : s.LastsIn (execReceptionCellTake o s) :=
  .next (by split <;> rfl)

theorem execPieceReceived_lasts (marker : PieceMarker) (octets : Octets) :
    s.LastsIn (execPieceReceived p marker octets s) := .next (by simp)

theorem execFrameReceptionEnd_lasts (octets : Octets) : s.LastsIn (execFrameReceptionEnd p octets s) :=
  .next (by simp)

theorem execTransmitterChoice_lasts : s.LastsIn (execTransmitterChoice p s) := .next (by simp)

theorem execPieceCut_lasts : s.LastsIn (execPieceCut p s) := .next (by
  split
  · split <;> simp
  · rfl)

theorem execTransmissionComplete_lasts : s.LastsIn (execTransmissionComplete p s) :=
  .next (by split <;> simp)

theorem execTimeMark_lasts : s.LastsIn (execTimeMark s) := .next (by split <;> simp)

theorem execHallTimeAdvance_lasts : s.LastsIn (execHallTimeAdvance s) := by
  unfold execHallTimeAdvance
  exact .next ((forEach_lasting _ _ stampSent_lasting).trans (s.modClock_lasting _))

theorem execRunTimeAdvance_lasts : s.LastsIn (execRunTimeAdvance s) := .next (s.modClock_lasting _)

theorem execMarkTimeout_lasts : s.LastsIn (execMarkTimeout s) := .next (by simp)

theorem execProbeDue_lasts : s.LastsIn (execProbeDue s) := .next (by simp)

theorem execOpenGridBoundary_lasts : s.LastsIn (execOpenGridBoundary p s) := .next (by simp)

theorem execCycleBoundary_lasts : s.LastsIn (execCycleBoundary p s) := .next (by simp)

theorem execWindowStart_lasts : s.LastsIn (execWindowStart p s) := .next (by simp)

theorem execResyncTargetBoundary_lasts : s.LastsIn (execResyncTargetBoundary p s) :=
  .next (by split <;> simp)

theorem execControllerTimeout_lasts : s.LastsIn (execControllerTimeout s) := .next (by simp)

theorem execEncoderTransition_lasts (a b : Bool) : s.LastsIn (execEncoderTransition a b s) := .next (by
  dsimp only
  split
  · rfl
  · split
    · simp
    · split <;> simp)

theorem execSensorLeadingEdge_lasts : s.LastsIn (execSensorLeadingEdge s) := .next (by simp)

theorem execSensorTrailingEdge_lasts : s.LastsIn (execSensorTrailingEdge s) := .next (by simp)

theorem execSpeedWindowEnd_lasts : s.LastsIn (execSpeedWindowEnd s) := .next (by simp)

theorem execTriggerPulseEnd_lasts (c : CameraId) : s.LastsIn (execTriggerPulseEnd c s) := .next (by simp)

theorem execBlastEnd_lasts : s.LastsIn (execBlastEnd s) := .next (by simp)

theorem execExtendTimeEnd_lasts : s.LastsIn (execExtendTimeEnd s) := .next (by simp)

theorem execRetractTimeEnd_lasts : s.LastsIn (execRetractTimeEnd s) := .next (by simp)

theorem execInhibitEnd_lasts : s.LastsIn (execInhibitEnd s) := .next (by simp)

theorem execScrubRead_lasts (struck : EccRecord) (error : EccError) :
    s.LastsIn (execScrubRead struck error s) := .next (by simp)

theorem execServiceExpiryWarning_lasts : s.LastsIn (execServiceExpiryWarning w s) := .next (by simp)

theorem execServiceWindowExpiry_lasts : s.LastsIn (execServiceWindowExpiry w s) := .next (by simp)

theorem execRestartCarriedOut_lasts : s.LastsIn (execRestartCarriedOut s) := .next (by simp)

theorem execRestart_lasts : s.LastsIn (execRestart s) := .next (by split <;> simp [runRestart_lasting])

theorem execCloseServiceWindow_lasts : s.LastsIn (execCloseServiceWindow s) := .next (by
  split
  · exact runRequest_keeps (P := fun t => t.lasting = s.lasting) (fun _ _ e h => e.trans h)
      (fun q t h => (actCloseWindow_lasts q t).trans h) _ rfl
      fun q r t h => (closeAfter_lasting q r t).trans h
  · rfl)

end

/-- A command that leaves what lasts as it was: every one but the resets and SET LOSS ACTION. -/
def ordinaryCommand : Instr → Bool
  | .powerOnReset _ | .hardReset _ | .setLossAction => false
  | _ => true

theorem exec_lasts (c : Instr) (s : State) (hc : ordinaryCommand c = true) : s.LastsIn (exec c s) := by
  cases c with
  | powerOnReset pins => cases hc
  | hardReset pins => cases hc
  | setLossAction => cases hc
  | linkGained p => exact execLinkGained_lasts p s
  | linkLost p => exact execLinkLost_lasts p s
  | receptionCellTake o => exact execReceptionCellTake_lasts s o
  | pieceReceived p marker octets => exact execPieceReceived_lasts p s marker octets
  | frameReceptionEnd p octets => exact execFrameReceptionEnd_lasts p s octets
  | timeMark => exact execTimeMark_lasts s
  | hallTimeAdvance => exact execHallTimeAdvance_lasts s
  | runTimeAdvance => exact execRunTimeAdvance_lasts s
  | markTimeout => exact execMarkTimeout_lasts s
  | probeDue => exact execProbeDue_lasts s
  | transmitterChoice p => exact execTransmitterChoice_lasts p s
  | pieceCut p => exact execPieceCut_lasts p s
  | transmissionComplete p => exact execTransmissionComplete_lasts p s
  | openGridBoundary p => exact execOpenGridBoundary_lasts p s
  | cycleBoundary p => exact execCycleBoundary_lasts p s
  | windowStart p => exact execWindowStart_lasts p s
  | resyncTargetBoundary p => exact execResyncTargetBoundary_lasts p s
  | controllerTimeout => exact execControllerTimeout_lasts s
  | encoderTransition a b => exact execEncoderTransition_lasts s a b
  | sensorLeadingEdge => exact execSensorLeadingEdge_lasts s
  | sensorTrailingEdge => exact execSensorTrailingEdge_lasts s
  | speedWindowEnd => exact execSpeedWindowEnd_lasts s
  | triggerPulseEnd c => exact execTriggerPulseEnd_lasts s c
  | blastEnd => exact execBlastEnd_lasts s
  | extendTimeEnd => exact execExtendTimeEnd_lasts s
  | retractTimeEnd => exact execRetractTimeEnd_lasts s
  | nonOverlapEnd => exact .next (leaveWaits_lasting s)
  | inhibitEnd => exact execInhibitEnd_lasts s
  | scrubRead struck error => exact execScrubRead_lasts s struck error
  | serviceExpiryWarning w => exact execServiceExpiryWarning_lasts w s
  | serviceWindowExpiry w => exact execServiceWindowExpiry_lasts w s
  | noticeSendAttempt => exact .next (attemptIfDue_lasting s)
  | restartCarriedOut => exact execRestartCarriedOut_lasts s
  | readTable => exact runHead_lastsIn actReadTable_lasts _ s
  | writePortRecord => exact runHead_lastsIn actWriteTable_lasts _ s
  | writeStreamRecord => exact runHead_lastsIn actWriteTable_lasts _ s
  | writeRobotRecord => exact runHead_lastsIn actWriteTable_lasts _ s
  | writeHoldFrame => exact runHead_lastsIn actWriteTable_lasts _ s
  | writeCameraRecord => exact runHead_lastsIn actWriteTable_lasts _ s
  | writeTrackingRecord => exact runHead_lastsIn actWriteTable_lasts _ s
  | writeEjectorRecord => exact runHead_lastsIn actWriteTable_lasts _ s
  | writeClockRecord => exact runHead_lastsIn actWriteTable_lasts _ s
  | writeDeviceRecord => exact runHead_lastsIn actWriteTable_lasts _ s
  | readCounters => exact runHead_lastsIn (actReadCounters_lasts false) _ s
  | readAndClearCounters => exact runHead_lastsIn (actReadCounters_lasts true) _ s
  | readState => exact runHead_lastsIn actReadState_lasts _ s
  | restart => exact execRestart_lasts s
  | armRobot => exact runHead_lastsIn actArm_lasts _ s
  | disarmRobot => exact runHead_lastsIn actDisarm_lasts _ s
  | setClock => exact runHead_lastsIn actSetClock_lasts _ s
  | adjustClock => exact runHead_lastsIn actAdjustClock_lasts _ s
  | loadSchedule => exact runHead_lastsIn actLoadSchedule_lasts _ s
  | commitSchedule => exact runHead_lastsIn actCommitSchedule_lasts _ s
  | clearTracking => exact runHead_lastsIn actClearTracking_lasts _ s
  | openServiceWindow => exact runHead_lastsIn actOpenWindow_lasts _ s
  | extendServiceWindow => exact runHead_lastsIn actExtendWindow_lasts _ s
  | closeServiceWindow => exact execCloseServiceWindow_lasts s
  | lowerLevel => exact runHead_lastsIn actLowerLevel_lasts _ s
  | releaseHold => exact runHead_lastsIn actReleaseHold_lasts _ s
  | unknownRequest =>
    exact runHead_lastsIn (act := fun _ s => refuse .unknownRequest s) (fun _ _ => rfl) _ s

end Sys2Proof.Machine
end


section
/-! SUPPORT. A request of a line port that its act answers with no body (R184, R185). -/

namespace Sys2Proof.Machine

/-! ## What stands in a state that an answer was built in -/

theorem hold_of_unanswered {s t : State} (h : t.unanswered = s.unanswered) : t.hold = s.hold := by
  have e := congrArg State.hold h
  simpa only [State.unanswered, State.uncounted] using e

theorem watch_of_unanswered {s t : State} (h : t.unanswered = s.unanswered) : t.watch = s.watch := by
  have e := congrArg State.watch h
  simpa only [State.unanswered, State.uncounted] using e

theorem streams_of_unanswered {s t : State} (h : t.unanswered = s.unanswered) : t.streams = s.streams := by
  have e := congrArg State.streams h
  simpa only [State.unanswered, State.uncounted] using e

/-- A state in which a request was answered, and left the queue. -/
def State.afterAnswer (u : State) (q : Request) (r : Reply) : State := leaveQueue (sendAnswer q r u).1

section
variable (u : State) (q : Request) (r : Reply)

theorem afterAnswer_unanswered : (u.afterAnswer q r).unanswered = u.unanswered :=
  (leaveQueue_unanswered _).trans (sendAnswer_unanswered q r u)

theorem afterAnswer_mgmt : (u.afterAnswer q r).mgmt = { u.mgmt with queue := u.mgmt.queue.tail } := by
  unfold State.afterAnswer
  rw [leaveQueue_mgmt, sendAnswer_mgmt]

theorem afterAnswer_answered (h : AnswerRoom u q r) : Answered (u.afterAnswer q r) q r :=
  sendAnswer_answered q r u h

end

/-- The room for an answer is as it was in a state that differs in counters and notices. -/
theorem answerRoom_of_uncounted {s u : State} {q : Request} {r : Reply} (h : u.uncounted = s.uncounted) :
    AnswerRoom u q r ↔ AnswerRoom s q r :=
  (SameQueues.of_uncounted h).answerRoom (station_of_uncounted h) q r

/-! ## The act of a request that is answered with no body -/

/-- The kinds whose command is their own row. -/
theorem LineRequest.row_other {s : State} {q : Request} {kind : Nat} {k : RequestKind}
    (hq : LineRequest s q kind) (hk : requestKindOf kind = some k) (h1 : k ≠ .readTable)
    (h2 : k ≠ .writeTable) (h3 : k ≠ .readCounters) : q.row = .other k := by
  unfold Request.row
  rw [if_neg (not_not.mpr hq.version), hq.isKind, hk]
  split
  · next h => cases h
  · next h => exact (h1 (Option.some.inj h)).elim
  · next h => exact (h2 (Option.some.inj h)).elim
  · next h => exact (h3 (Option.some.inj h)).elim
  · next h => exact congrArg _ (Option.some.inj h).symm

theorem answerFrame_bare_length (station : Mac) (q : Request) (x : Status) :
    (answerFrame station q (.bare x)).length ≤ Config.maxFrame := by
  simp only [answerFrame, Reply.bare, formFrame, List.length_append, List.length_replicate, beBytes_length,
    fcsOf, checkBytes, macBytes, List.length_cons, List.length_nil, Config.maxFrame]
  split <;> simp only [List.length_append, beBytes_length, List.length_nil] <;> omega

/-- A request of one octet or more, of a kind with one fixed octet, is acted on and answered. -/
theorem runHead_bare {s u : State} {q : Request} {kind : Nat} {k : RequestKind} {x : Status} {act : Act}
    (hq : LineRequest s q kind) (hk : requestKindOf kind = some k) (hr : q.row = .other k)
    (hb : fixedOctets k q.body ≤ q.body.length) (ha : act q s = (u, .bare x)) :
    runHead (.other k) act s = u.afterAnswer q (.bare x) := by
  have hlen : (answerFrame s.station q (act q s).2).length ≤ Config.maxFrame := by
    rw [ha]
    exact answerFrame_bare_length ..
  rw [← hr, runHead_line hq k hk act hb hlen, ha]
  rfl

/-- And when the act changed counters and notices alone, nothing but the answer tells of it. -/
theorem RunsAnswered.of_act {c : Instr} {s u : State} {q : Request} {x : Status}
    (he : exec c s = .next (u.afterAnswer q (.bare x))) (hu : u.uncounted = s.uncounted) :
    RunsAnswered c s s q { status := x, body := [] } :=
  ⟨_, he, (afterAnswer_unanswered u q _).trans (unanswered_of_uncounted hu),
    by rw [afterAnswer_mgmt, mgmt_of_uncounted hu],
    fun h => afterAnswer_answered u q _ ((answerRoom_of_uncounted hu).mpr h)⟩

end Sys2Proof.Machine
end

section
/-! SET LOSS ACTION, and the loss action over every step (R108). -/

namespace Sys2Proof.Machine

/-! ## SET LOSS ACTION -/

/-- The loss action becomes HOLD_LINE, and a lost controller a hold source. -/
def State.withHoldLine (s : State) : State :=
  if s.watch.state = .lost then joinHold .controller (s.modWatch fun w => { w with action := .holdLine })
  else s.modWatch fun w => { w with action := .holdLine }

theorem withHoldLine_lost {s : State} (h : s.watch.state = .lost) : s.withHoldLine =
    joinHold .controller (s.modWatch fun w => { w with action := .holdLine }) := if_pos h

theorem withHoldLine_other {s : State} (h : s.watch.state ≠ .lost) : s.withHoldLine =
    s.modWatch fun w => { w with action := .holdLine } := if_neg h

/-- It changes the loss action, the hold block, counters and notices alone. -/
theorem withHoldLine_frame (s : State) : s.withHoldLine.uncounted =
    { s with watch := { s.watch with action := .holdLine }, hold := s.withHoldLine.hold }.uncounted := by
  by_cases h : s.watch.state = .lost
  · rw [withHoldLine_lost h]
    exact joinHold_frame ..
  · rw [withHoldLine_other h]
    rfl

theorem joinHold_present (h : HoldSource) (s : State) : (joinHold h s).hold.present.has h = true := by
  obtain ⟨hp, e⟩ | ⟨-, -, e⟩ | ⟨-, -, e⟩ := joinHold_cases h s <;> rw [e]
  · exact hp
  · simp [PresentSet.has_join]
  · simp [PresentSet.has_join]

section
variable {s : State} {q : Request}

theorem actLossAction_holdLine (h : q.body = [1]) : actLossAction q s = (s.withHoldLine, .bare .ok) := by
  unfold actLossAction
  rw [h]
  rfl

theorem actLossAction_kept (h : q.body = [0]) (ha : s.watch.action = .report) :
    actLossAction q s = (s, .bare .ok) := by
  unfold actLossAction
  rw [h]
  exact if_pos ha

theorem actLossAction_refused (h : q.body = [0]) (ha : s.watch.action = .holdLine) :
    actLossAction q s = (s, .bare .notPermitted) := by
  unfold actLossAction
  rw [h]
  exact if_neg (by rw [ha]; decide)

theorem exec_setLossAction (hq : LineRequest s q 8) {u : State} {x : Status} (hb : 1 ≤ q.body.length)
    (ha : actLossAction q s = (u, .bare x)) :
    exec .setLossAction s = .next (u.afterAnswer q (.bare x)) :=
  congrArg Host.Outcome.next (runHead_bare hq rfl
    (hq.row_other rfl (by decide) (by decide) (by decide)) hb ha)

end

/-- A SET LOSS ACTION never takes HOLD_LINE back (R108). -/
theorem actLossAction_keeps (q : Request) (s : State) (h : s.watch.action = .holdLine) :
    (actLossAction q s).1.watch.action = .holdLine := by
  unfold actLossAction
  split
  · exact h
  · have e := congrArg (fun u : State => u.watch.action) (withHoldLine_frame s)
    exact e
  · rw [if_neg (by rw [h]; decide)]
    exact h

/-! ## Every step -/

theorem action_of_lasting {s t : State} (h : t.lasting = s.lasting) : t.watch.action = s.watch.action :=
  congrArg Prod.fst h

/-- Of all commands a power-on reset alone takes HOLD_LINE back. -/
theorem exec_keeps_holdLine {c : Instr} {s t : State} (h : s.watch.action = .holdLine)
    (he : exec c s = .next t) (hc : ∀ pins, c ≠ .powerOnReset pins) : t.watch.action = .holdLine := by
  by_cases ho : ordinaryCommand c = true
  · obtain ⟨u, hu, hl⟩ := exec_lasts c s ho
    rw [he] at hu
    rw [Host.Outcome.next.inj hu, action_of_lasting hl, h]
  · cases c with
    | powerOnReset pins => exact (hc pins rfl).elim
    | hardReset pins => exact Host.Outcome.next.inj he ▸ h
    | setLossAction =>
      rw [← Host.Outcome.next.inj he]
      exact runHead_keeps (P := fun u => u.watch.action = .holdLine)
        (fun _ _ e h => (action_of_lasting e).trans h) actLossAction_keeps h _
    | _ => exact (ho rfl).elim

/-- And no step does without one. -/
theorem step_keeps_holdLine {s t : State} (hs : step s = .next t) (h : s.watch.action = .holdLine)
    (hp : ∀ pins, s.pending.head? ≠ some (.powerOnReset pins)) : t.watch.action = .holdLine := by
  unfold step at hs
  split at hs
  · exact Host.Outcome.next.inj hs ▸ h
  · next c rest e =>
    rw [e] at hp
    exact exec_keeps_holdLine (s := { s with pending := rest }) h hs fun pins hc => hp pins (by rw [hc]; rfl)

/-- SET LOSS ACTION with HOLD_LINE is taken whatever the action is (R108). -/
theorem setLossAction_holdLine {s : State} {q : Request} (hq : LineRequest s q 8) (hb : q.body = [1]) :
    ∃ t, exec .setLossAction s = .next t ∧ t.watch = { s.watch with action := .holdLine } ∧
      (s.watch.state = .lost → t.hold.present.has .controller = true) ∧
      (s.watch.state ≠ .lost → t.hold = s.hold) ∧
      (AnswerRoom s q { status := .ok, body := [] } → Answered t q { status := .ok, body := [] }) ∧
      t.mgmt = { s.mgmt with queue := s.mgmt.queue.tail } ∧
      t.unsupervised = s.unsupervised ∧ t.robots = s.robots ∧ t.windows = s.windows := by
  have hf := withHoldLine_frame s
  have hu := afterAnswer_unanswered s.withHoldLine q (.bare .ok)
  refine ⟨_, exec_setLossAction hq (by rw [hb]; decide) (actLossAction_holdLine hb), ?_, fun hl => ?_,
    fun hl => ?_, fun hroom => ?_, ?_, ?_, ?_, ?_⟩
  · exact (watch_of_unanswered hu).trans (congrArg State.watch hf)
  · rw [hold_of_unanswered hu, withHoldLine_lost hl]
    exact joinHold_present ..
  · rw [hold_of_unanswered hu, withHoldLine_other hl]
    rfl
  · exact afterAnswer_answered _ q _ ((answerRoom_of_uncounted hf).mpr hroom)
  · rw [afterAnswer_mgmt, (mgmt_of_uncounted hf :)]
  · exact (unsupervised_of_unanswered hu).trans
      (unsupervised_of_unanswered (unanswered_of_uncounted hf) :)
  · exact (robots_of_unanswered hu).trans (robots_of_uncounted hf :)
  · exact (windows_of_unanswered hu).trans (windows_of_uncounted hf :)

/-- Settles O46: the three forms of SET LOSS ACTION, what the resets and a RESTART leave, and every step by
its command. -/
theorem lossActionHolds : Obligations.LossActionHolds := by
  refine ⟨fun s q hq => ⟨setLossAction_holdLine hq, fun hb ha => ?_, fun hb ha => ?_⟩, fun s pins =>
    ⟨⟨_, rfl, rfl⟩, ⟨_, rfl, rfl⟩, ?_⟩, fun s t hs hh hr => ?_⟩
  · exact .of_act (exec_setLossAction hq (by rw [hb]; decide) (actLossAction_kept hb ha)) rfl
  · exact .of_act (exec_setLossAction hq (by rw [hb]; decide) (actLossAction_refused hb ha)) rfl
  · obtain ⟨t, ht, hl⟩ := execRestartCarriedOut_lasts s
    exact ⟨t, ht, action_of_lasting hl⟩
  · by_contra hp
    have hk := step_keeps_holdLine hs hh fun pins e => hp ⟨pins, e⟩
    rw [hr] at hk
    cases hk

end Sys2Proof.Machine
end


section
/-! The robot table over a reset and a RESTART (R88). -/

namespace Sys2Proof.Machine

/-- What READ TABLE and ARM ROBOT have written of a robot: its configured fields, its robot port and
whether it is damaged (R86). -/
def Robot.record (b : Robot) : RobotCfg × Option PortId × Bool := (b.cfg, b.port, b.damaged)

theorem Robot.record_eq_iff {a b : Robot} : a.record = b.record ↔
    a.cfg = b.cfg ∧ a.port = b.port ∧ a.damaged = b.damaged := by
  simp only [Robot.record, Prod.mk.injEq]

/-- The robot table of a reset: every robot is blank. -/
theorem afterReset_robot (cause : ResetCause) (action : HoldPolicy) (pins : ResetPins)
    (pending : List Instr) (r : RobotId) :
    (State.afterReset cause action pins pending).robots[r] = Robot.reset := by
  simp [State.afterReset]

/-- No octet under the blank mask is the blank record's parked value. -/
theorem readsParked_reset (frame : Octets) : readsParked Robot.reset.cfg frame = false := by
  unfold readsParked
  split
  · simp [Robot.reset]
  · rfl

theorem abortReception_robots (p : PortId) (s : State) : (abortReception p s).robots = s.robots :=
  (robots_of_uncounted (abortReception_frame p s) :)

section
variable (s : State) (r : RobotId)

theorem freeFramePath_record : (freeFramePath s).robots[r].record = s.robots[r].record := by
  have e := forEach_keeps State.robots (List.finRange 12) abortReception_robots s
  unfold freeFramePath
  dsimp only
  simp [e, Robot.record]

theorem disturbCycles_record : (disturbCycles s).robots[r].record = s.robots[r].record := by
  simp only [disturbCycles, Fin.getElem_fin, Vector.getElem_map]
  split <;> rfl

theorem closeWindow_record (w : WindowId) (cause : CloseCause) :
    (closeWindow w cause s).robots[r].record = s.robots[r].record := by
  by_cases h : s.windows[w].state = .closed
  · rw [closeWindow, if_pos h]
  · rw [closeWindow_robot w cause s h]
    split <;> rfl

/-- A RESTART that is carried out leaves every robot record as written. -/
theorem carryOutRestart_record : (carryOutRestart s).robots[r].record = s.robots[r].record := by
  have hclose (u : State) : (forEach [(0 : WindowId), 1] (closeWindow · .link) u).robots[r].record =
      u.robots[r].record :=
    forEach_keeps (fun u : State => u.robots[r].record) _ (fun w s => closeWindow_record s r w .link) u
  have hrest (u : State) : (restartEjector (disturbCycles u)).robots[r].record = u.robots[r].record :=
    disturbCycles_record u r
  unfold carryOutRestart
  dsimp only
  rw [hrest, hclose]
  dsimp only
  rw [freeFramePath_record, bump_robot]

end

/-- Settles O5: both resets leave the blank table, and a RESTART touches no record of it. -/
theorem robotTableAfterResets : Obligations.RobotTableAfterResets := by
  refine ⟨fun pins s c hc => ?_, fun s => ⟨_, rfl, fun r => Robot.record_eq_iff.mp ?_⟩⟩
  · obtain ⟨cause, action, he⟩ : ∃ cause action,
        exec c s = .next (State.afterReset cause action pins s.pending) := by
      rcases hc with rfl | rfl
      exacts [⟨_, _, rfl⟩, ⟨_, _, rfl⟩]
    refine ⟨_, he, fun r => ?_⟩
    rw [afterReset_robot]
    exact ⟨rfl, rfl, rfl, readsParked_reset⟩
  · split
    · exact carryOutRestart_record s r
    · rfl

end Sys2Proof.Machine
end


section
/-! ARM ROBOT and DISARM ROBOT (R90, R91, R101, R106). -/

namespace Sys2Proof.Machine

/-! ## The records that ARM ROBOT reads (R18, R90) -/

/-- A checked read that finds no bit error counts at most. -/
theorem checkRobot_uncounted {r : RobotId} {k : ReadKind} {s : State} (h : s.robots[r].ecc = .clean) :
    (checkRobot r k s).uncounted = s.uncounted := by
  cases hd : s.robots[r].damaged with
  | true => rw [checkRobot_damaged r k s hd, bump_uncounted]
  | false => rw [checkRobot_clean r k s hd h]

theorem checkStream_uncounted {i : StreamId} {k : ReadKind} {s t : State} (h : t.uncounted = s.uncounted)
    (he : s.streams[i].ecc = .clean) : (checkStream i k t).uncounted = s.uncounted := by
  have he : t.streams[i].ecc = .clean := by rw [streams_of_uncounted h]; exact he
  cases hd : t.streams[i].damaged with
  | true => rw [checkStream_damaged i k t hd, bump_uncounted, h]
  | false => rw [checkStream_clean i k t hd he, h]

section
variable {s : State} {r : RobotId} (hr : s.robots[r].ecc = .clean)
  (hx : s.streams[s.robots[r].cfg.statusStream].ecc = .clean)
  (hy : s.streams[s.robots[r].cfg.commandStream].ecc = .clean)
include hr hx hy

theorem armReads_uncounted : (armReads r s).uncounted = s.uncounted := by
  have h1 := checkRobot_uncounted (k := .request) hr
  unfold armReads
  dsimp only
  rw [robots_of_uncounted h1]
  have h2 := checkStream_uncounted (k := .request) h1 hx
  rw [robots_of_uncounted h2]
  exact checkStream_uncounted h2 hy

/-- And of sound records it does nothing. -/
theorem armReads_sound (hr' : s.robots[r].damaged = false)
    (hx' : s.streams[s.robots[r].cfg.statusStream].damaged = false)
    (hy' : s.streams[s.robots[r].cfg.commandStream].damaged = false) : armReads r s = s := by
  unfold armReads
  dsimp only
  rw [checkRobot_clean r _ s hr' hr, checkStream_clean _ _ s hx' hx, checkStream_clean _ _ s hy' hy]

end

/-! ## The third check of R90 -/

theorem members_eq_singleton {n : Nat} (b : BitVec n) (i : Fin n) :
    members b = [i] ↔ ∀ k : Fin n, b.getLsbD k.val = true ↔ k = i := by
  constructor
  · intro h k
    rw [← mem_members, h, List.mem_singleton]
  · intro h
    have hnodup : (members b).Nodup := (List.nodup_finRange n).filter _
    refine List.perm_singleton.mp ((List.perm_ext_iff_of_nodup hnodup (List.nodup_singleton i)).mpr
      fun k => ?_)
    rw [mem_members, h, List.mem_singleton]

theorem armPort_iff (s : State) (r : RobotId) (p : PortId) : s.armPort r = some p ↔
    (∀ k : PortId, s.streams[s.robots[r].cfg.commandStream].cfg.egress.getLsbD k.val = true ↔ k = p) ∧
      s.ports[p].cfg.role = .robot ∧
      ∃ l, s.gates[p].active = some l ∧ s.robots[r].cfg.window < l.windows.length := by
  rw [← members_eq_singleton]
  unfold State.armPort
  dsimp only
  constructor
  · intro h
    split at h
    · next k e =>
      split at h
      · next hrole =>
        split at h
        · next l hl =>
          obtain ⟨hw, hk⟩ := Option.ite_none_right_eq_some.mp h
          exact Option.some.inj hk ▸ ⟨e, hrole, l, hl, hw⟩
        · cases h
      · cases h
    · cases h
  · rintro ⟨e, hrole, l, hl, hw⟩
    rw [e]
    dsimp only
    rw [if_pos hrole, hl]
    exact if_pos hw

theorem fitsRobot_iff (x : Stream) (r : RobotId) (role : StreamRole) : x.fitsRobot r role = true ↔
    x.cfg.valid = true ∧ x.damaged = false ∧ x.cfg.role = role ∧ x.cfg.subject = .robot r := by
  simp [Stream.fitsRobot, and_assoc]

theorem armable_iff (s : State) (r : RobotId) (p : PortId) : s.armable r = some p ↔ s.fitToArm r p := by
  unfold State.armable State.fitToArm
  simp only [Option.ite_none_right_eq_some, armPort_iff, Bool.and_eq_true, Bool.not_eq_true', fitsRobot_iff,
    decide_eq_true_eq]
  constructor
  · rintro ⟨⟨⟨⟨⟨hd, x1, x2, x3, x4⟩, y1, y2, y3, y4⟩, hcls⟩, hlen⟩, hp, hrole, l, hl⟩
    exact ⟨_, _, _, l, rfl, rfl, rfl, hd, x1, x2, x3, x4, y1, y2, y3, y4, hcls, hlen, hp, hrole, hl⟩
  · rintro ⟨_, _, _, l, rfl, rfl, rfl, hd, x1, x2, x3, x4, y1, y2, y3, y4, hcls, hlen, hp, hrole, hl⟩
    exact ⟨⟨⟨⟨⟨hd, x1, x2, x3, x4⟩, y1, y2, y3, y4⟩, hcls⟩, hlen⟩, hp, hrole, l, hl⟩

theorem armable_of_uncounted {s t : State} (h : t.uncounted = s.uncounted) (r : RobotId) :
    t.armable r = s.armable r := by
  rw [eq_recounted h.symm]
  rfl

/-! ## A robot armed (R90, R101, R106) -/

theorem noneArmed_congr {s t : State} (h : ∀ x : RobotId, t.robots[x].state = s.robots[x].state) :
    t.noneArmed = s.noneArmed := by
  unfold State.noneArmed
  simp only [h]

/-- A robot that is given its port and enters ARMING. -/
def State.withArmed (s : State) (r : RobotId) (p : PortId) : State :=
  joinPending r (enterArming r (s.modRobot r fun b => { b with port := some p }))

section
variable (s : State) (r : RobotId) (p : PortId)

theorem joinPending_frame (u : State) : joinPending r u = { u with windows := (joinPending r u).windows } :=
  rfl

theorem enterArming_frame (u : State) : enterArming r u =
    { u with robots := upd u.robots r fun b => b.armedAt u.clock.hall
             watch := if u.noneArmed then { u.watch with state := .watching, restartTime := u.clock.run }
                      else u.watch } := by
  unfold enterArming
  dsimp only
  split <;> rfl

theorem withArmed_frame : s.withArmed r p = { s with
    robots := upd s.robots r fun b => { b with port := some p }.armedAt s.clock.hall
    watch := if s.noneArmed then { s.watch with state := .watching, restartTime := s.clock.run } else s.watch
    windows := (s.withArmed r p).windows } := by
  have hn : (s.modRobot r fun b => { b with port := some p }).noneArmed = s.noneArmed :=
    noneArmed_congr fun x => by
      simp only [State.modRobot_robots, Fin.getElem_fin, upd_get]
      split
      · next h => subst h; rfl
      · rfl
  unfold State.withArmed
  rw [joinPending_frame, enterArming_frame, hn]
  simp [upd]

end

/-! ## The acts -/

section
variable {s : State} {q : Request} {r : RobotId}

theorem field_robot {n : Nat} (hn : n < 256) (hb : q.body = beBytes 1 n) : field q.body 0 1 = n := by
  rw [hb, ← List.append_nil (beBytes 1 n)]
  exact field_head (by simpa using hn) []

theorem indexIn_robot (hb : q.body = beBytes 1 r.val) : indexIn 24 (field q.body 0 1) = .ok r := by
  rw [field_robot (by omega) hb]
  exact indexIn_val r

theorem actArm_past (h : indexIn 24 (field q.body 0 1) = .error .badIndex) :
    actArm q s = (s, .bare .badIndex) := by
  unfold actArm
  rw [h]
  rfl

theorem actDisarm_past (h : indexIn 24 (field q.body 0 1) = .error .badIndex) :
    actDisarm q s = (s, .bare .badIndex) := by
  unfold actDisarm
  rw [h]
  rfl

theorem actArm_busy (hb : q.body = beBytes 1 r.val) (h : s.robots[r].state ≠ .idle) :
    actArm q s = (s, .bare .wrongState) := by
  unfold actArm
  rw [indexIn_robot hb]
  exact if_pos h

theorem actArm_unfit (hb : q.body = beBytes 1 r.val) (h : s.robots[r].state = .idle)
    (ha : (armReads r s).armable r = none) : actArm q s = (armReads r s, .bare .badValue) := by
  unfold actArm
  rw [indexIn_robot hb]
  dsimp only
  rw [if_neg (not_not.mpr h), ha]
  rfl

theorem actArm_fit (hb : q.body = beBytes 1 r.val) (h : s.robots[r].state = .idle) {p : PortId}
    (hs : armReads r s = s) (ha : s.armable r = some p) : actArm q s = (s.withArmed r p, .bare .ok) := by
  unfold actArm
  rw [indexIn_robot hb]
  dsimp only
  rw [if_neg (not_not.mpr h), hs, ha]
  rfl

theorem actDisarm_service (hb : q.body = beBytes 1 r.val) (h : s.robots[r].state = .service) :
    actDisarm q s = (s, .bare .wrongState) := by
  unfold actDisarm
  rw [indexIn_robot hb]
  exact if_pos h

theorem actDisarm_idle (hb : q.body = beBytes 1 r.val) (h : s.robots[r].state = .idle) :
    actDisarm q s = (s, .bare .ok) := by
  unfold actDisarm
  rw [indexIn_robot hb]
  dsimp only
  rw [if_neg (by rw [h]; decide), if_pos h]
  rfl

theorem actDisarm_armed (hb : q.body = beBytes 1 r.val) (h : s.robots[r].state.armed = true) :
    actDisarm q s = (toIdle r s, .bare .ok) := by
  unfold actDisarm
  rw [indexIn_robot hb]
  dsimp only
  rw [if_neg (by rintro e; rw [e] at h; cases h), if_neg (by rintro e; rw [e] at h; cases h)]
  rfl

theorem exec_armRobot (hq : LineRequest s q 6) {n : Nat} (hb : q.body = beBytes 1 n) {u : State} {x : Status}
    (ha : actArm q s = (u, .bare x)) : exec .armRobot s = .next (u.afterAnswer q (.bare x)) :=
  congrArg Host.Outcome.next (runHead_bare hq rfl
    (hq.row_other rfl (by decide) (by decide) (by decide)) (by rw [hb, beBytes_length]; exact le_refl 1) ha)

theorem exec_disarmRobot (hq : LineRequest s q 7) {n : Nat} (hb : q.body = beBytes 1 n) {u : State}
    {x : Status} (ha : actDisarm q s = (u, .bare x)) :
    exec .disarmRobot s = .next (u.afterAnswer q (.bare x)) :=
  congrArg Host.Outcome.next (runHead_bare hq rfl
    (hq.row_other rfl (by decide) (by decide) (by decide)) (by rw [hb, beBytes_length]; exact le_refl 1) ha)

end

/-! ## A robot disarmed (R91, R107) -/

/-- A watch that finds no robot armed is idle, and takes a lost controller out of the hold sources. -/
theorem watchIdleIfNone_idle {s : State} (h : (watchIdleIfNone s).noneArmed = true) :
    (watchIdleIfNone s).watch.state = .idle ∧
      (s.watch.state ≠ .idle → (watchIdleIfNone s).hold.present.controller = false) := by
  have hn : s.noneArmed = true := by
    rw [watchIdleIfNone_frame] at h
    exact h
  by_cases hw : s.watch.state = .idle
  · rw [watchIdleIfNone, if_neg fun h => h.2 hw]
    exact ⟨hw, fun hn => (hn hw).elim⟩
  · rw [watchIdleIfNone, if_pos ⟨hn, hw⟩]
    exact ⟨rfl, fun _ => rfl⟩

theorem toIdle_watch {r : RobotId} {s : State} (h : (toIdle r s).noneArmed = true) :
    (toIdle r s).watch.state = .idle ∧
      (s.watch.state ≠ .idle → (toIdle r s).hold.present.controller = false) := by
  obtain ⟨u, e, hu⟩ : ∃ u, toIdle r s = watchIdleIfNone u ∧ u.watch = s.watch := by
    refine ⟨_, rfl, ?_⟩
    unfold emptySlots
    dsimp only
    rw [releaseOpt_frame, releaseOpt_frame]
    rfl
  rw [e] at h ⊢
  rw [← hu]
  exact watchIdleIfNone_idle h

/-! ## What a request that is taken leaves -/

section
variable {s : State} {q : Request} {r : RobotId}

theorem armRobot_taken {p : PortId} (hb : q.body = beBytes 1 r.val) (hq : LineRequest s q 6)
    (hi : s.robots[r].state = .idle) (hr : s.robots[r].ecc = .clean)
    (hx : s.streams[s.robots[r].cfg.statusStream].ecc = .clean)
    (hy : s.streams[s.robots[r].cfg.commandStream].ecc = .clean) (hf : s.fitToArm r p) :
    exec .armRobot s = .next ((s.withArmed r p).afterAnswer q (.bare .ok)) := by
  have ha := (armable_iff s r p).mpr hf
  obtain ⟨_, _, _, _, rfl, rfl, rfl, hd, -, hxd, -, -, -, hyd, -⟩ := hf
  exact exec_armRobot hq hb (actArm_fit hb hi (armReads_sound hr hx hy hd hxd hyd) ha)

/-- A robot armed, answered: apart from its record, the watch, the windows and the answer nothing
changes. -/
theorem withArmed_afterAnswer (s : State) (q : Request) (r : RobotId) (p : PortId) (a : Reply) :
    ((s.withArmed r p).afterAnswer q a).robots =
        upd s.robots r (fun b => { b with port := some p }.armedAt s.clock.hall) ∧
      ((s.withArmed r p).afterAnswer q a).watch = (if s.noneArmed then
        { s.watch with state := .watching, restartTime := s.clock.run } else s.watch) ∧
      ((s.withArmed r p).afterAnswer q a).hold = s.hold ∧
      ((s.withArmed r p).afterAnswer q a).clock = s.clock ∧
      ((s.withArmed r p).afterAnswer q a).streams = s.streams ∧
      (AnswerRoom s q a → Answered ((s.withArmed r p).afterAnswer q a) q a) ∧
      ((s.withArmed r p).afterAnswer q a).mgmt = { s.mgmt with queue := s.mgmt.queue.tail } := by
  have hu := afterAnswer_unanswered (s.withArmed r p) q a
  have hf := withArmed_frame s r p
  have hroom : AnswerRoom (s.withArmed r p) q a ↔ AnswerRoom s q a := by rw [hf]; rfl
  exact ⟨(robots_of_unanswered hu).trans (congrArg State.robots hf),
    (watch_of_unanswered hu).trans (congrArg State.watch hf),
    (hold_of_unanswered hu).trans (congrArg State.hold hf :),
    (clock_of_unanswered hu).trans (congrArg State.clock hf :),
    (streams_of_unanswered hu).trans (congrArg State.streams hf :),
    fun h => afterAnswer_answered _ q a (hroom.mpr h), by rw [afterAnswer_mgmt, hf]⟩

/-- A robot disarmed, answered. -/
theorem toIdle_afterAnswer (s : State) (q : Request) (r : RobotId) (a : Reply) :
    ((toIdle r s).afterAnswer q a).robots = upd s.robots r Robot.idled ∧
      ((toIdle r s).afterAnswer q a).hold.present.has (.robot r) = false ∧
      ((toIdle r s).afterAnswer q a).hold.latch = s.hold.latch ∧
      (((toIdle r s).afterAnswer q a).noneArmed = true →
        ((toIdle r s).afterAnswer q a).watch.state = .idle ∧ (s.watch.state ≠ .idle →
          ((toIdle r s).afterAnswer q a).hold.present.controller = false)) ∧
      ((toIdle r s).afterAnswer q a).mgmt = { s.mgmt with queue := s.mgmt.queue.tail } := by
  have hu := afterAnswer_unanswered (toIdle r s) q a
  have hf := toIdle_frame r s
  have hrobots := robots_of_unanswered hu
  have harmed := noneArmed_congr (s := toIdle r s) fun x => by rw [hrobots]
  obtain ⟨hpresent, hlatch⟩ := toIdle_hold r s
  rw [hold_of_unanswered hu, watch_of_unanswered hu, harmed]
  exact ⟨hrobots.trans (congrArg State.robots hf), hpresent, hlatch, toIdle_watch,
    by rw [afterAnswer_mgmt, hf]⟩

end

/-! ## The statement -/

/-- Settles O45: each request by the check that it fails, or by what it makes of its robot. -/
theorem armAndDisarmMoveTheRobot : Obligations.ArmAndDisarmMoveTheRobot := by
  refine ⟨fun s q n h24 h256 hb => ?_, fun s q r hb => ⟨fun hq hi => ?_, fun hq hi hr hx hy hf => ?_,
    fun p hq hi hr hx hy hf => ?_, fun hq ha => ?_, fun hq hi => ?_, fun hq hi => ?_⟩⟩
  · have hpast : indexIn 24 (field q.body 0 1) = .error .badIndex := by
      rw [field_robot h256 hb]
      exact indexIn_past h24
    exact ⟨fun hq => .of_act (exec_armRobot hq hb (actArm_past hpast)) rfl,
      fun hq => .of_act (exec_disarmRobot hq hb (actDisarm_past hpast)) rfl⟩
  · exact .of_act (exec_armRobot hq hb (actArm_busy hb hi)) rfl
  · have hu := armReads_uncounted hr hx hy
    have hn : (armReads r s).armable r = none := by
      rw [armable_of_uncounted hu]
      exact Option.eq_none_iff_forall_ne_some.mpr fun p e => hf p ((armable_iff s r p).mp e)
    exact .of_act (exec_armRobot hq hb (actArm_unfit hb hi hn)) hu
  · obtain ⟨hrobots, hrest⟩ := withArmed_afterAnswer s q r p (.bare .ok)
    refine ⟨_, armRobot_taken hb hq hi hr hx hy hf, ?_, fun x hx => ?_, hrest⟩
    · rw [hrobots]
      exact upd_same ..
    · rw [hrobots]
      exact upd_other _ _ _ _ hx
  · obtain ⟨hrobots, hpresent, hlatch, hwatch, hmgmt⟩ := toIdle_afterAnswer s q r (.bare .ok)
    have hrobot : ((toIdle r s).afterAnswer q (.bare .ok)).robots[r] = s.robots[r].idled := by
      rw [hrobots]
      exact upd_same ..
    refine ⟨_, exec_disarmRobot hq hb (actDisarm_armed hb ha), (congrArg Robot.state hrobot :),
      (congrArg Robot.slot hrobot :), (congrArg Robot.store hrobot :), (congrArg Robot.barred hrobot :),
      (congrArg Robot.cfg hrobot :), hpresent, hlatch, fun x hx => ?_, hwatch, hmgmt⟩
    rw [hrobots]
    exact upd_other _ _ _ _ hx
  · exact .of_act (exec_disarmRobot hq hb (actDisarm_idle hb hi)) rfl
  · exact .of_act (exec_disarmRobot hq hb (actDisarm_service hb hi)) rfl

end Sys2Proof.Machine
end

section
/-! The edges of the bottle sensor and the end of a speed window (R115, R119, R120, R124, R141). -/

namespace Sys2Proof.Machine

/-! ## The leading edge (R119) -/

theorem exec_sensorLeadingEdge {s : State} (h : s.tracker.sense ≠ s.tracker.cfg.activeHigh) :
    exec .sensorLeadingEdge s =
      .next (leadingEdge (s.modTracker fun t => { t with sense := t.cfg.activeHigh })) := by
  have hi : s.tracker.sensorActive = false := beq_false_of_ne h
  simp only [exec, execSensorLeadingEdge, hi, Bool.false_eq_true, if_false]

theorem leadingEdge_measures {s : State} (h : s.tracker.sensor = .clear)
    (he : s.tracker.excursion = false) : leadingEdge s = s.modTracker fun t =>
      { t with sensor := .measuring, leading := some t.position, link := none } := by
  simp [leadingEdge, h, he]

theorem leadingEdge_ignores {s : State} (h : s.tracker.sensor = .clear)
    (he : s.tracker.excursion = true) : leadingEdge s =
      bump (.tracker .ignoredOcclusions) (s.modTracker fun t => { t with sensor := .ignoring }) := by
  simp [leadingEdge, h, he]

theorem leadingEdge_occluded {s : State} (h : s.tracker.sensor ≠ .clear) : leadingEdge s = s :=
  if_neg h

/-! ## The trailing edge (R120, R124) -/

theorem exec_sensorTrailingEdge {s : State} (h : s.tracker.sense = s.tracker.cfg.activeHigh) :
    exec .sensorTrailingEdge s =
      .next (sensorEnds (s.modTracker fun t => { t with sense := !t.cfg.activeHigh })) := by
  have ha : s.tracker.sensorActive = true := beq_of_eq h
  simp only [exec, execSensorTrailingEdge, ha, if_true]

/-- An occlusion has ended: the sensor is CLEAR again. -/
def State.unoccluded (s : State) : State :=
  s.modTracker fun t => { t with sensor := .clear, leading := none, link := none }

theorem sensorEnds_measuring {s : State} (h : s.tracker.sensor = .measuring) :
    sensorEnds s = bump (.tracker .shortOcclusions) s.unoccluded := by
  simp [sensorEnds, trailingEdge, h, State.unoccluded]

theorem sensorEnds_jammed {s : State} (h : s.tracker.sensor = .jammed) :
    sensorEnds s = leaveHold .jam s.unoccluded := by
  simp [sensorEnds, trailingEdge, h, State.unoccluded]

theorem sensorEnds_unmeasured {s : State}
    (h : s.tracker.sensor = .qualified ∨ s.tracker.sensor = .ignoring) : sensorEnds s = s.unoccluded := by
  obtain h | h := h <;> simp [sensorEnds, trailingEdge, h, State.unoccluded]

/-- Settles O20: each edge by the sensor state it finds. -/
theorem sensorEdgesMoveTheSensor : Obligations.SensorEdgesMoveTheSensor := by
  refine ⟨fun s hs => ?_, fun s u hs hu => ?_⟩
  · rw [exec_sensorLeadingEdge hs]
    refine ⟨fun hc he => ?_, fun hc he => ?_, fun hc => ?_⟩
    · exact congrArg _ (leadingEdge_measures (s := s.modTracker _) hc he)
    · refine completes_of_counts [.tracker .ignoredOcclusions] ?_ rfl rfl (by simp [CounterRef.ofNotices])
      exact (exec_sensorLeadingEdge hs).trans
        (congrArg _ (leadingEdge_ignores (s := s.modTracker _) hc he))
    · exact congrArg _ (leadingEdge_occluded (s := s.modTracker _) hc)
  · subst hu
    refine ⟨fun hm => ?_, fun hq => ?_, fun hj => ?_⟩
    · refine completes_of_counts [.tracker .shortOcclusions] ?_ rfl rfl (by simp [CounterRef.ofNotices])
      exact (exec_sensorTrailingEdge hs).trans (congrArg _ (sensorEnds_measuring (s := s.modTracker _) hm))
    · exact (exec_sensorTrailingEdge hs).trans (congrArg _ (sensorEnds_unmeasured (s := s.modTracker _) hq))
    · exact (exec_sensorTrailingEdge hs).trans (congrArg _ (sensorEnds_jammed (s := s.modTracker _) hj))

/-! ## The end of a speed window (R115, R141) -/

theorem directionOf_eq (d : Int) :
    directionOf d = if d = 0 then .still else if 0 < d then .forward else .reverse := by
  rcases lt_trichotomy d 0 with h | rfl | h
  · simp [directionOf, h, h.ne, h.not_gt]
  · rfl
  · simp [directionOf, h, h.ne']

/-- Settles O21: the window measures `d` over its span, and the lead is that of the speed measured. -/
theorem speedWindowMeasures : Obligations.SpeedWindowMeasures := by
  rintro s w d rfl rfl hdue
  have hover : s.speedWindowOver = true := decide_eq_true hdue
  rw [← directionOf_eq]
  simp only [exec, execSpeedWindowEnd, hover, if_true]
  rfl

end Sys2Proof.Machine
end

section
/-! SUPPORT. What the test of a camera's trigger does: the records that its pointer passes, and what no
test changes (R132 to R135). -/

namespace Sys2Proof.Machine

/-! ## What the line shows of a state -/

/-- A counter of the tracker, of a camera or of the reject station. -/
def CounterRef.ofLine : CounterRef → Bool
  | .camera .. | .tracker _ | .reject _ => true
  | _ => false

theorem CounterRef.ofNotices_of_line {d : CounterRef} (h : d.ofLine = true) : d.ofNotices = false := by
  cases d with
  | camera | tracker | reject => rfl
  | _ => cases h

/-- Two states differ at most in what an answer may change, and agree in the counters of the line. -/
structure SameLine (s t : State) : Prop where
  state : s.unanswered = t.unanswered
  counter : ∀ d, d.ofLine = true → s.counter d = t.counter d

theorem raise_sameLine (e : NoticeEvent) (s : State) : SameLine (raise e s) s :=
  ⟨raise_unanswered e s, fun d hd => raise_counter e s d (d.ofNotices_of_line hd)⟩

theorem triggerNote_sameLine (c : CameraId) (q : BitVec 32) (d : Dest) (s : State) :
    SameLine (triggerNote c q d s) s := by
  refine ⟨buildFrame_unanswered .., fun k hk =>
    buildFrame_counter _ _ _ _ _ k (k.ofNotices_of_line hk) ?_ fun p => ?_⟩ <;>
  · rintro rfl
    cases hk

theorem tracker_of_unanswered {s t : State} (h : t.unanswered = s.unanswered) : t.tracker = s.tracker := by
  have e := congrArg State.tracker h
  simpa only [State.unanswered, State.uncounted] using e

theorem cameras_of_unanswered {s t : State} (h : t.unanswered = s.unanswered) : t.cameras = s.cameras := by
  have e := congrArg State.cameras h
  simpa only [State.unanswered, State.uncounted] using e

theorem reject_of_unanswered {s t : State} (h : t.unanswered = s.unanswered) : t.reject = s.reject := by
  have e := congrArg State.reject h
  simpa only [State.unanswered, State.uncounted] using e

/-- A view of the state that reads nothing that an answer may change and no counter but the line's. -/
def ReadsLine {β : Type} (g : State → β) : Prop := ∀ s t, SameLine s t → g s = g t

/-! ## A trigger fires, or is skipped (R133, R134) -/

/-- A trigger that fires, without its count and its note. -/
def State.fired (s : State) (c : CameraId) (q : BitVec 32) : State :=
  (s.modRecord q fun r => { r with triggered := r.triggered.set c true }).modCamera c fun k =>
    { k with pulseEnd := some (s.clock.run + k.cfg.pulseWidth) }

/-- What a fire shows: the pulse, the mark in the record, and its count. -/
theorem fireTrigger_sameLine (c : CameraId) (q : BitVec 32) (s : State) :
    SameLine (fireTrigger c q s) (bump (.camera c .triggersFired) (s.fired c q)) := by
  unfold fireTrigger
  dsimp only
  split
  · exact triggerNote_sameLine ..
  · exact ⟨rfl, fun _ _ => rfl⟩

theorem fireTrigger_unanswered (c : CameraId) (q : BitVec 32) (s : State) :
    (fireTrigger c q s).unanswered = (s.fired c q).unanswered :=
  (fireTrigger_sameLine c q s).state.trans (bump_unanswered ..)

theorem fireTrigger_mgmt (c : CameraId) (q : BitVec 32) (s : State) : (fireTrigger c q s).mgmt = s.mgmt := by
  unfold fireTrigger
  dsimp only
  split
  · exact (buildFrame_mgmt ..).trans (bump_mgmt ..)
  · exact bump_mgmt ..

theorem fireTrigger_counter (c : CameraId) (q : BitVec 32) (s : State) (d : CounterRef)
    (hd : d.ofLine = true) : (fireTrigger c q s).counter d = if d = .camera c .triggersFired then
      min (s.counter (.camera c .triggersFired) + 1) Config.counterMax else s.counter d :=
  ((fireTrigger_sameLine c q s).counter d hd).trans (bump_counter _ _ _ (d.ofNotices_of_line hd))

/-- A trigger that is skipped, without its count and its notice. -/
def State.skipped (s : State) (c : CameraId) (q : BitVec 32) : State :=
  s.modRecord q fun r => { r with verdicts := upd r.verdicts c skipVerdict }

theorem skipTrigger_uncounted (c : CameraId) (q : BitVec 32) (s : State) :
    (skipTrigger c q s).uncounted = (s.skipped c q).uncounted :=
  (raise_uncounted ..).trans (bump_uncounted ..)

theorem skipTrigger_effects (c : CameraId) (q : BitVec 32) (s : State) :
    Effects s (skipTrigger c q s) s.clock.hall.base [.camera c .triggersSkipped] [.triggerSkipped c q] :=
  ((Effects.start s (s.skipped c q) _ rfl rfl).bump _).raise _ (by rw [bump_clock]; rfl)

theorem skipTrigger_counter (c : CameraId) (q : BitVec 32) (s : State) (d : CounterRef)
    (hd : d.ofNotices = false) : (skipTrigger c q s).counter d = if d = .camera c .triggersSkipped then
      min (s.counter (.camera c .triggersSkipped) + 1) Config.counterMax else s.counter d :=
  (raise_counter _ _ d hd).trans (bump_counter _ _ _ hd)

/-! ## The records that a pointer passes (R132) -/

/-- A record has reached a camera. -/
def State.reaches (s : State) (c : CameraId) (r : TrackRec) : Prop :=
  (s.cameras[c].cfg.offset : Int) ≤ distance r.position s.tracker.position

/-- A record that has reached a camera: it is fired on, skipped or let go, and the pointer moves on. -/
def passRecord (c : CameraId) (r : TrackRec) (s : State) : State :=
  (if s.cameras[c].cfg.enabled then
    if s.cameras[c].pulseEnd.isSome then skipTrigger c r.seq s else fireTrigger c r.seq s
  else s).modCamera c fun k => { k with pointer := k.pointer + 1 }

theorem triggerScan_reached {c : CameraId} {r : TrackRec} {s : State} (h : s.reaches c r)
    (rest : List TrackRec) : triggerScan c (r :: rest) s = triggerScan c rest (passRecord c r s) := by
  rw [triggerScan]
  exact if_neg (Int.not_lt.mpr h)

/-- A scan ends at the first record that has not reached the camera. -/
theorem triggerScan_stops {c : CameraId} {l : List TrackRec} {s : State}
    (h : ∀ r, l.head? = some r → ¬s.reaches c r) : triggerScan c l s = s := by
  cases l with
  | nil => rfl
  | cons r rest => exact if_pos (Int.not_le.mp (h r rfl))

/-- The records of a list up to the first that has not reached the camera. -/
theorem exists_reached (c : CameraId) (s : State) (l : List TrackRec) : ∃ more far, l = more ++ far ∧
    (∀ r ∈ more, s.reaches c r) ∧ ∀ r, far.head? = some r → ¬s.reaches c r := by
  induction l with
  | nil => exact ⟨[], [], rfl, by simp, by simp⟩
  | cons r rest ih =>
    by_cases h : s.reaches c r
    · obtain ⟨more, far, rfl, hm, hf⟩ := ih
      exact ⟨r :: more, far, rfl, by simpa using ⟨h, hm⟩, hf⟩
    · exact ⟨[], r :: rest, rfl, by simp, by simpa using h⟩

theorem passRecord_disabled {c : CameraId} {s : State} (r : TrackRec) (h : s.cameras[c].cfg.enabled = false) :
    passRecord c r s = s.modCamera c fun k => { k with pointer := k.pointer + 1 } := by
  simp only [passRecord, h, Bool.false_eq_true, if_false]

theorem passRecord_idle {c : CameraId} {s : State} (r : TrackRec) (h : s.cameras[c].cfg.enabled = true)
    (hi : s.cameras[c].pulseEnd = none) : passRecord c r s =
      (fireTrigger c r.seq s).modCamera c fun k => { k with pointer := k.pointer + 1 } := by
  simp only [passRecord, h, hi, Option.isSome_none, Bool.false_eq_true, if_true, if_false]

theorem passRecord_busy {c : CameraId} {s : State} (r : TrackRec) (h : s.cameras[c].cfg.enabled = true)
    (hb : s.cameras[c].pulseEnd.isSome = true) : passRecord c r s =
      (skipTrigger c r.seq s).modCamera c fun k => { k with pointer := k.pointer + 1 } := by
  simp only [passRecord, h, hb, if_true]

/-! ## What no test changes -/

/-- What becomes of a record between its appearance and its decision leaves this of it. -/
def TrackRec.mark (r : TrackRec) : BitVec 32 × Position × Bool := (r.seq, r.position, r.jam)

section
variable {β : Type} {g : State → β} {c : CameraId} (hg : ReadsLine g)
  (hrec : ∀ q f s, (∀ r : TrackRec, (f r).mark = r.mark) → g (s.modRecord q f) = g s)
  (hcam : ∀ f s, (∀ k : Camera, (f k).cfg = k.cfg) → g (s.modCamera c f) = g s)
  (hcount : ∀ x s, g (bump (.camera c x) s) = g s)
include hg hrec hcam hcount

/-- A view of the line that a camera's record, its counts and a passed record's marks leave alone is left
by that camera's test. -/
theorem passRecord_keeps (r : TrackRec) (s : State) : g (passRecord c r s) = g s := by
  have hskip : g (skipTrigger c r.seq s) = g s :=
    (hg _ _ (raise_sameLine ..)).trans ((hcount ..).trans (hrec _ _ _ fun _ => rfl))
  have hmarked : g (s.modRecord r.seq fun x => { x with triggered := x.triggered.set c true }) = g s :=
    hrec _ _ _ fun _ => rfl
  have hfired : g (s.fired c r.seq) = g _ := hcam _ _ fun _ => rfl
  have hfire : g (fireTrigger c r.seq s) = g s :=
    (hg _ _ (fireTrigger_sameLine ..)).trans ((hcount ..).trans (hfired.trans hmarked))
  have hpointer (u : State) : g (u.modCamera c fun k => { k with pointer := k.pointer + 1 }) = g u :=
    hcam _ _ fun _ => rfl
  refine (hpointer _).trans ?_
  split_ifs
  exacts [hskip, hfire, rfl]

theorem triggerScan_keeps (l : List TrackRec) (s : State) : g (triggerScan c l s) = g s := by
  induction l generalizing s with
  | nil => rfl
  | cons r rest ih =>
    by_cases h : s.reaches c r
    · rw [triggerScan_reached h, ih, passRecord_keeps hg hrec hcam hcount]
    · rw [triggerScan_stops (by simpa using h)]

theorem testTrigger_keeps (s : State) : g (testTrigger c s) = g s :=
  triggerScan_keeps hg hrec hcam hcount _ s

end

/-- The marks of the records in the list. -/
def State.marks (s : State) : List (BitVec 32 × Position × Bool) := s.tracker.records.map TrackRec.mark

/-- What the triggers, the decisions and the dwell test leave alone: the tracker but for its list, the jam
among the hold sources, the clock, and the tracker's counters. -/
def State.sensed (s : State) : Tracker × Bool × Clock × (TrackerCounter → Nat) :=
  ({ s.tracker with records := [] }, s.hold.present.jam, s.clock, fun x => s.counter (.tracker x))

/-- The reject station with its counters. -/
def State.ejecting (s : State) : Reject × (RejectCounter → Nat) :=
  (s.reject, fun x => s.counter (.reject x))

/-- One camera with its counters. -/
def State.cameraSide (c : CameraId) (s : State) : Camera × (CameraCounter → Nat) :=
  (s.cameras[c], fun x => s.counter (.camera c x))

theorem readsLine_sensed : ReadsLine State.sensed := fun s t h => by
  simp only [State.sensed, tracker_of_unanswered h.state, hold_of_unanswered h.state,
    clock_of_unanswered h.state, h.counter (.tracker _) rfl]

theorem readsLine_ejecting : ReadsLine State.ejecting := fun s t h => by
  simp only [State.ejecting, reject_of_unanswered h.state, h.counter (.reject _) rfl]

theorem readsLine_cameraSide (c : CameraId) : ReadsLine (State.cameraSide c) := fun s t h => by
  simp only [State.cameraSide, cameras_of_unanswered h.state, h.counter (.camera c _) rfl]

theorem readsLine_marks : ReadsLine State.marks := fun s t h => by
  simp only [State.marks, tracker_of_unanswered h.state]

theorem modRecord_marks {f : TrackRec → TrackRec} (hf : ∀ r, (f r).mark = r.mark) (q : BitVec 32)
    (s : State) : (s.modRecord q f).marks = s.marks := by
  simp only [State.marks, State.modRecord, State.modTracker_tracker, List.map_map]
  refine List.map_congr_left fun r _ => ?_
  simp only [Function.comp_apply]
  split_ifs
  exacts [hf r, rfl]

/-- A count shows in no other block's counters. -/
theorem bump_sensed {c : CounterRef} (hc : ∀ x, c ≠ .tracker x) (s : State) :
    (bump c s).sensed = s.sensed := by
  simp only [State.sensed, bump_tracker, bump_hold, bump_clock,
    bump_counter_other _ _ _ (rfl : CounterRef.ofNotices (.tracker _) = false) (hc _).symm]

theorem bump_ejecting {c : CounterRef} (hc : ∀ x, c ≠ .reject x) (s : State) :
    (bump c s).ejecting = s.ejecting := by
  simp only [State.ejecting, bump_reject,
    bump_counter_other _ _ _ (rfl : CounterRef.ofNotices (.reject _) = false) (hc _).symm]

theorem bump_cameraSide {c : CounterRef} {k : CameraId} (hc : ∀ x, c ≠ .camera k x) (s : State) :
    (bump c s).cameraSide k = s.cameraSide k := by
  simp only [State.cameraSide, bump_cameras,
    bump_counter_other _ _ _ (rfl : CounterRef.ofNotices (.camera _ _) = false) (hc _).symm]

theorem testTrigger_sensed (c : CameraId) (s : State) : (testTrigger c s).sensed = s.sensed :=
  testTrigger_keeps readsLine_sensed (fun _ _ _ _ => rfl) (fun _ _ _ => rfl)
    (fun _ _ => bump_sensed (by simp) _) s

theorem testTrigger_ejecting (c : CameraId) (s : State) : (testTrigger c s).ejecting = s.ejecting :=
  testTrigger_keeps readsLine_ejecting (fun _ _ _ _ => rfl) (fun _ _ _ => rfl)
    (fun _ _ => bump_ejecting (by simp) _) s

theorem testTrigger_marks (c : CameraId) (s : State) : (testTrigger c s).marks = s.marks :=
  testTrigger_keeps readsLine_marks (fun q _ s hf => modRecord_marks hf q s) (fun _ _ _ => rfl)
    (fun _ _ => by simp only [State.marks, bump_tracker]) s

/-- A camera's test leaves the other cameras alone. -/
theorem testTrigger_cameraSide {c k : CameraId} (h : k ≠ c) (s : State) :
    (testTrigger c s).cameraSide k = s.cameraSide k :=
  testTrigger_keeps (readsLine_cameraSide k) (fun _ _ _ _ => rfl)
    (fun f s _ => Prod.ext (upd_other s.cameras c k f h) rfl)
    (fun _ _ => bump_cameraSide (by simp [h.symm]) _) s

/-! ## A scan from the record at the pointer -/

theorem State.modCamera_camera (c : CameraId) (f : Camera → Camera) (s : State) :
    (s.modCamera c f).cameras[c] = f s.cameras[c] := upd_same ..

theorem passRecord_tracker_position (c : CameraId) (r : TrackRec) (s : State) :
    (passRecord c r s).tracker.position = s.tracker.position :=
  congrArg (·.1.position) (passRecord_keeps (c := c) readsLine_sensed (fun _ _ _ _ => rfl) (fun _ _ _ => rfl)
    (fun _ _ => bump_sensed (by simp) _) r s)

theorem passRecord_cfg (c : CameraId) (r : TrackRec) (s : State) :
    (passRecord c r s).cameras[c].cfg = s.cameras[c].cfg :=
  passRecord_keeps (g := fun s => s.cameras[c].cfg) (c := c)
    (fun s t h => by simp only [cameras_of_unanswered h.state]) (fun _ _ _ _ => rfl)
    (fun f s hf => (congrArg _ (s.modCamera_camera c f)).trans (hf _))
    (fun _ _ => by simp only [bump_cameras]) r s

theorem passRecord_reaches (c : CameraId) (r x : TrackRec) (s : State) :
    (passRecord c r s).reaches c x ↔ s.reaches c x := by
  unfold State.reaches
  rw [passRecord_cfg, passRecord_tracker_position]

/-- The record at the pointer alone is passed. -/
theorem triggerScan_one {c : CameraId} {r : TrackRec} {rest : List TrackRec} {s : State}
    (h : s.reaches c r) (hr : ∀ x, rest.head? = some x → ¬s.reaches c x) :
    triggerScan c (r :: rest) s = passRecord c r s := by
  rw [triggerScan_reached h]
  exact triggerScan_stops fun x hx => (passRecord_reaches ..).not.mpr (hr x hx)

/-- The output of a camera that is disabled stays as it is, and nothing is counted of it. -/
theorem triggerScan_disabled {c : CameraId} (l : List TrackRec) {s : State}
    (h : s.cameras[c].cfg.enabled = false) :
    (triggerScan c l s).cameras[c].pulseEnd = s.cameras[c].pulseEnd ∧
      ∀ x, (triggerScan c l s).counter (.camera c x) = s.counter (.camera c x) := by
  induction l generalizing s with
  | nil => exact ⟨rfl, fun _ => rfl⟩
  | cons r rest ih =>
    by_cases hr : s.reaches c r
    · rw [triggerScan_reached hr, passRecord_disabled r h]
      obtain ⟨hp, hc⟩ := ih (s := s.modCamera c fun k => { k with pointer := k.pointer + 1 })
        (by rw [State.modCamera_camera]; exact h)
      exact ⟨hp.trans (by rw [State.modCamera_camera]), hc⟩
    · rw [triggerScan_stops (by simpa using hr)]
      exact ⟨rfl, fun _ => rfl⟩

/-- A camera whose output is busy skips each record that has reached it. -/
theorem triggerScan_busy {c : CameraId} {far : List TrackRec} (more : List TrackRec) {s : State}
    (he : s.cameras[c].cfg.enabled = true) (hb : s.cameras[c].pulseEnd.isSome = true)
    (hm : ∀ r ∈ more, s.reaches c r) (hf : ∀ r, far.head? = some r → ¬s.reaches c r) :
    (triggerScan c (more ++ far) s).cameras[c] =
        { s.cameras[c] with pointer := s.cameras[c].pointer + BitVec.ofNat 32 more.length } ∧
      (triggerScan c (more ++ far) s).counter (.camera c .triggersFired) =
        s.counter (.camera c .triggersFired) ∧
      (triggerScan c (more ++ far) s).counter (.camera c .triggersSkipped) =
        if more = [] then s.counter (.camera c .triggersSkipped)
        else min (s.counter (.camera c .triggersSkipped) + more.length) Config.counterMax := by
  induction more generalizing s with
  | nil =>
    rw [List.nil_append, triggerScan_stops hf]
    exact ⟨by simp, rfl, rfl⟩
  | cons r more ih =>
    have hcam : (passRecord c r s).cameras[c] =
        { s.cameras[c] with pointer := s.cameras[c].pointer + 1 } := by
      rw [passRecord_busy r he hb, State.modCamera_camera,
        cameras_of_unanswered (unanswered_of_uncounted (skipTrigger_uncounted c r.seq s))]
      rfl
    have hcount (x : CameraCounter) : (passRecord c r s).counter (.camera c x) =
        if x = .triggersSkipped then min (s.counter (.camera c .triggersSkipped) + 1) Config.counterMax
        else s.counter (.camera c x) := by
      rw [passRecord_busy r he hb]
      refine (skipTrigger_counter c r.seq s (.camera c x) rfl).trans ?_
      simp only [CounterRef.camera.injEq, true_and]
    obtain ⟨ic, ifired, iskip⟩ := ih (s := passRecord c r s) (by rw [hcam]; exact he)
      (by rw [hcam]; exact hb)
      (fun x hx => (passRecord_reaches ..).mpr (hm x (List.mem_cons_of_mem r hx)))
      (fun x hx => (passRecord_reaches ..).not.mpr (hf x hx))
    rw [List.cons_append, triggerScan_reached (hm r List.mem_cons_self)]
    refine ⟨?_, ?_, ?_⟩
    · rw [ic, hcam, List.length_cons, Nat.add_comm more.length, BitVec.ofNat_add, ← BitVec.add_assoc]
      rfl
    · rw [ifired, hcount, if_neg (by simp)]
    · rw [iskip, hcount, if_pos rfl, if_neg (List.cons_ne_nil r more), List.length_cons]
      split_ifs with h
      · simp [h]
      · omega

/-- A camera that is idle fires on the first record that has reached it, and skips those after it. -/
theorem triggerScan_idle {c : CameraId} {r : TrackRec} {more far : List TrackRec} {s : State}
    (he : s.cameras[c].cfg.enabled = true) (hi : s.cameras[c].pulseEnd = none)
    (hm : ∀ x ∈ r :: more, s.reaches c x) (hf : ∀ x, far.head? = some x → ¬s.reaches c x) :
    (triggerScan c (r :: (more ++ far)) s).cameras[c] =
        { s.cameras[c] with
          pulseEnd := some (s.clock.run + s.cameras[c].cfg.pulseWidth)
          pointer := s.cameras[c].pointer + BitVec.ofNat 32 (more.length + 1) } ∧
      (triggerScan c (r :: (more ++ far)) s).counter (.camera c .triggersFired) =
        min (s.counter (.camera c .triggersFired) + 1) Config.counterMax ∧
      (triggerScan c (r :: (more ++ far)) s).counter (.camera c .triggersSkipped) =
        if more = [] then s.counter (.camera c .triggersSkipped)
        else min (s.counter (.camera c .triggersSkipped) + more.length) Config.counterMax := by
  have hcam : (passRecord c r s).cameras[c] =
      { s.cameras[c] with pulseEnd := some (s.clock.run + s.cameras[c].cfg.pulseWidth)
                          pointer := s.cameras[c].pointer + 1 } := by
    rw [passRecord_idle r he hi, State.modCamera_camera,
      cameras_of_unanswered (fireTrigger_unanswered c r.seq s), State.fired, State.modCamera_camera]
    rfl
  have hcount (x : CameraCounter) : (passRecord c r s).counter (.camera c x) =
      if x = .triggersFired then min (s.counter (.camera c .triggersFired) + 1) Config.counterMax
      else s.counter (.camera c x) := by
    rw [passRecord_idle r he hi]
    refine (fireTrigger_counter c r.seq s (.camera c x) rfl).trans ?_
    simp only [CounterRef.camera.injEq, true_and]
  obtain ⟨hc, hfired, hskip⟩ := triggerScan_busy more (s := passRecord c r s) (by rw [hcam]; exact he)
    (by rw [hcam]; rfl) (fun x hx => (passRecord_reaches ..).mpr (hm x (List.mem_cons_of_mem r hx)))
    (fun x hx => (passRecord_reaches ..).not.mpr (hf x hx))
  rw [triggerScan_reached (hm r List.mem_cons_self)]
  refine ⟨?_, ?_, ?_⟩
  · rw [hc, hcam, Nat.add_comm more.length, BitVec.ofNat_add, ← BitVec.add_assoc]
    rfl
  · rw [hfired, hcount, if_pos rfl]
  · simp only [hskip, hcount, reduceCtorEq, if_false]

/-- A test scans from the record at the camera's pointer. -/
theorem testTrigger_at {c : CameraId} {s : State} {l rest : List TrackRec} {r : TrackRec}
    (hs : s.tracker.records = l ++ r :: rest) (hl : ∀ x ∈ l, x.seq ≠ s.cameras[c].pointer)
    (hr : r.seq = s.cameras[c].pointer) : testTrigger c s = triggerScan c (r :: rest) s := by
  rw [testTrigger, hs, List.dropWhile_append_of_pos (by simpa using hl),
    List.dropWhile_cons_of_neg (by simpa using hr)]

/-- A pointer at no record finds none to test. -/
theorem testTrigger_nowhere {c : CameraId} {s : State}
    (h : ∀ x ∈ s.tracker.records, x.seq ≠ s.cameras[c].pointer) : testTrigger c s = s := by
  have hnone : s.tracker.records.dropWhile (fun r => decide (r.seq ≠ s.cameras[c].pointer)) = [] :=
    List.dropWhile_eq_nil_iff.mpr (by simpa using h)
  rw [testTrigger, hnone]
  rfl

end Sys2Proof.Machine
end

section
/-! SUPPORT. The dwell test, the decisions of a forward count, and what they leave alone (R142 to R148). -/

namespace Sys2Proof.Machine

/-! ## The dwell test (R146) -/

theorem mayRetract_iff (s : State) : s.mayRetract = true ↔ s.reject.inhibitEnd ≤ s.clock.run ∧
    ∀ x, s.reject.releaseA = some x → x + s.reject.cfg.nonOverlap ≤ s.clock.run := by
  rw [State.mayRetract, Bool.and_eq_true, decide_eq_true_eq]
  cases s.reject.releaseA <;> simp [releasePassed]

theorem mayExtend_iff (s : State) : s.mayExtend = true ↔ s.reject.inhibitEnd ≤ s.clock.run ∧
    ∀ x, s.reject.releaseB = some x → x + s.reject.cfg.nonOverlap ≤ s.clock.run := by
  rw [State.mayExtend, Bool.and_eq_true, decide_eq_true_eq]
  cases s.reject.releaseB <;> simp [releasePassed]

/-- The gate leaves DIVERTED for RETRACT_WAIT. -/
def State.dwelt (s : State) : State := s.modReject fun x => { x with state := .retractWait }

section
variable {s : State} {d : Position} (h : s.reject.state = .diverted) (hd : s.reject.dwellStart = some d)
include h hd

theorem dwellTest_stays (hl : distance d s.tracker.position < s.reject.cfg.dwell) : dwellTest s = s := by
  simp only [dwellTest, h, hd, if_neg (Int.not_le.mpr hl)]

theorem dwellTest_leaves (hl : (s.reject.cfg.dwell : Int) ≤ distance d s.tracker.position) :
    dwellTest s = if s.mayRetract then startRetract s.dwelt else s.dwelt := by
  simp only [dwellTest, h, hd, if_pos hl]
  rfl

end

/-- All that the dwell test can do. -/
theorem dwellTest_cases (s : State) :
    dwellTest s = s ∨ dwellTest s = s.dwelt ∨ dwellTest s = startRetract s.dwelt := by
  by_cases h : s.reject.state = .diverted
  · cases hd : s.reject.dwellStart with
    | none => simp [dwellTest, h, hd]
    | some d =>
      by_cases hl : distance d s.tracker.position < s.reject.cfg.dwell
      · exact .inl (dwellTest_stays h hd hl)
      · rw [dwellTest_leaves h hd (Int.not_lt.mp hl)]
        split_ifs
        exacts [.inr (.inr rfl), .inr (.inl rfl)]
  · exact .inl (by unfold dwellTest; split <;> simp_all)

/-- The dwell test changes at most the state and its end. -/
theorem dwellTest_reject (s : State) :
    ∃ state phaseEnd, (dwellTest s).reject = { s.reject with state := state, phaseEnd := phaseEnd } := by
  obtain h | h | h := dwellTest_cases s <;> rw [h]
  · exact ⟨_, _, rfl⟩
  · exact ⟨_, _, rfl⟩
  · exact ⟨_, _, bump_reject ..⟩

theorem dwellTest_dwellStart (s : State) : (dwellTest s).reject.dwellStart = s.reject.dwellStart := by
  obtain ⟨_, _, h⟩ := dwellTest_reject s
  rw [h]

/-! ## What the reject station leaves alone -/

section
variable {β : Type} {g : State → β}
  (hrej : ∀ f s, (∀ x : Reject, (f x).cfg = x.cfg ∧ (f x).lead = x.lead) → g (s.modReject f) = g s)
  (hcount : ∀ x s, g (bump (.reject x) s) = g s)
include hrej hcount

/-- A counted move of the reject station. -/
theorem bump_modReject_keeps (x : RejectCounter) {f : Reject → Reject}
    (hf : ∀ x, (f x).cfg = x.cfg ∧ (f x).lead = x.lead) (s : State) :
    g (bump (.reject x) (s.modReject f)) = g s := (hcount ..).trans (hrej _ _ hf)

theorem startRetract_keeps (s : State) : g (startRetract s) = g s := by
  refine bump_modReject_keeps hrej hcount _ ?_ s
  exact fun _ => ⟨rfl, rfl⟩

theorem dwellTest_keeps (s : State) : g (dwellTest s) = g s := by
  have hdwelt : g s.dwelt = g s := hrej _ _ fun _ => ⟨rfl, rfl⟩
  obtain h | h | h := dwellTest_cases s <;> rw [h]
  · exact hdwelt
  · exact (startRetract_keeps hrej hcount _).trans hdwelt

theorem firePulse_keeps (s : State) : g (firePulse s) = g s := by
  have hmove {x f} := bump_modReject_keeps hrej hcount x (f := f) (s := s)
  unfold firePulse
  split
  · exact hmove fun _ => ⟨rfl, rfl⟩
  · split_ifs
    exacts [hcount .., hmove fun _ => ⟨rfl, rfl⟩, hmove fun _ => ⟨rfl, rfl⟩]

theorem fireDiverter_keeps (s : State) : g (fireDiverter s) = g s := by
  have hset : g (s.modReject fun x => { x with dwellStart := some s.tracker.position }) = g s :=
    hrej _ _ fun _ => ⟨rfl, rfl⟩
  have hmoved (u : State) (f : Reject → Reject) (hu : g u = g s)
      (hf : ∀ x, (f x).cfg = x.cfg ∧ (f x).lead = x.lead) : g (u.modReject f) = g s :=
    (hrej _ _ hf).trans hu
  unfold fireDiverter
  dsimp only
  split
  iterate 2
    split_ifs
    · exact (hcount ..).trans (hmoved _ _ hset fun _ => ⟨rfl, rfl⟩)
    · exact (hcount ..).trans (hmoved _ _ hset fun _ => ⟨rfl, rfl⟩)
  iterate 2 exact (hcount ..).trans hset
  · exact hset
  · exact (hcount ..).trans (hmoved _ _ hset fun _ => ⟨rfl, rfl⟩)
  · split_ifs
    exacts [(hcount ..).trans hset, hmoved _ _ hset fun _ => ⟨rfl, rfl⟩]

theorem fireEjector_keeps (s : State) : g (fireEjector s) = g s := by
  unfold fireEjector
  dsimp only
  split
  · exact (firePulse_keeps hrej hcount _).trans (hcount ..)
  · exact (fireDiverter_keeps hrej hcount _).trans (hcount ..)

end

/-! ## A decision (R143) -/

/-- A decision up to the fire of a REJECT: the outcome is counted and is the last one, and the record is
gone. -/
def State.decided (s : State) (r : TrackRec) : State :=
  movePointers r.seq (leaveHold .trackFull
    (((bump (.reject (outcomeCounter (decideRecord r))) s).modReject fun x =>
      { x with
        last := some { seq := r.seq, reason := decideRecord r, position := s.tracker.position } }).modTracker
        fun t => { t with records := t.records.tail }))

theorem decideHead_eq (r : TrackRec) (s : State) :
    decideHead r s = if decideRecord r = none then s.decided r else fireEjector (s.decided r) := by
  cases h : decideRecord r <;>
    simp only [decideHead, State.decided, h, bump_tracker, reduceCtorEq, if_true, if_false]

section
variable {β : Type} {g : State → β}
  (hrej : ∀ f s, (∀ x : Reject, (f x).cfg = x.cfg ∧ (f x).lead = x.lead) → g (s.modReject f) = g s)
  (hcount : ∀ x s, g (bump (.reject x) s) = g s)
  (hgone : ∀ q s, g (movePointers q (leaveHold .trackFull
    (s.modTracker fun t => { t with records := t.records.tail }))) = g s)
include hrej hcount hgone

theorem decideHead_keeps (r : TrackRec) (s : State) : g (decideHead r s) = g s := by
  have hlast (u : State) (x : Option Decision) : g (u.modReject fun y => { y with last := x }) = g u :=
    hrej _ _ fun _ => ⟨rfl, rfl⟩
  have hdecided : g (s.decided r) = g s := (hgone ..).trans ((hlast ..).trans (hcount ..))
  rw [decideHead_eq]
  split_ifs
  exacts [hdecided, (fireEjector_keeps hrej hcount _).trans hdecided]

theorem decideDue_keeps (l : List TrackRec) (s : State) : g (decideDue l s) = g s := by
  induction l generalizing s with
  | nil => rfl
  | cons r rest ih =>
    rw [decideDue]
    split_ifs
    exacts [(ih _).trans (decideHead_keeps hrej hcount hgone r s), rfl]

end

theorem decideHead_records (r : TrackRec) (s : State) :
    (decideHead r s).tracker.records = s.tracker.records.tail := by
  have hdecided : (s.decided r).tracker.records = s.tracker.records.tail :=
    congrArg (·.records.tail) (bump_tracker ..)
  rw [decideHead_eq]
  split_ifs
  · exact hdecided
  · exact (fireEjector_keeps (g := fun s => s.tracker.records) (fun _ _ _ => rfl)
      (fun _ _ => by rw [bump_tracker]) _).trans hdecided

/-! ## The decisions of a forward count (R142) -/

/-- The records that are left are the end of the list. -/
theorem decideDue_suffix {l : List TrackRec} {s : State} (h : s.tracker.records = l) :
    (decideDue l s).tracker.records <:+ l := by
  induction l generalizing s with
  | nil => simp [decideDue, h]
  | cons r rest ih =>
    rw [decideDue]
    split_ifs
    · exact (ih (by rw [decideHead_records, h]; rfl)).trans (List.suffix_cons r rest)
    · exact h.symm ▸ List.suffix_refl _

/-- The head that is left is not due. -/
theorem decideDue_head {l : List TrackRec} {s : State} (h : s.tracker.records = l) {r : TrackRec}
    (hr : (decideDue l s).tracker.records.head? = some r) : (decideDue l s).isDue r = false := by
  induction l generalizing s with
  | nil => simp [decideDue, h] at hr
  | cons x rest ih =>
    rw [decideDue] at hr ⊢
    by_cases hx : s.isDue x = true
    · rw [if_pos hx] at hr ⊢
      exact ih (by rw [decideHead_records, h]; rfl) hr
    · rw [if_neg hx] at hr ⊢
      rw [h, List.head?_cons, Option.some_inj] at hr
      exact hr ▸ Bool.eq_false_of_not_eq_true hx

/-- With a head that is not due nothing is decided. -/
theorem decideDue_none {l : List TrackRec} {s : State} (h : ∀ r, l.head? = some r → s.isDue r = false) :
    decideDue l s = s := by
  cases l with
  | nil => rfl
  | cons r rest => rw [decideDue, h r rfl]; rfl

theorem isDue_eq_false_iff (s : State) (r : TrackRec) : s.isDue r = false ↔
    (s.tracker.position - r.position).toInt < (s.reject.cfg.distance : Int) - s.reject.lead := by
  rw [State.isDue, decide_eq_false_iff_not, Int.not_le]
  rfl

/-! ## What the views show after them -/

/-- A camera's output with its counters. -/
def State.outputSide (c : CameraId) (s : State) : Option Nat × (CameraCounter → Nat) :=
  (s.cameras[c].pulseEnd, fun x => s.counter (.camera c x))

theorem outputSide_of_cameraSide {c : CameraId} {s t : State} (h : s.cameraSide c = t.cameraSide c) :
    s.outputSide c = t.outputSide c :=
  congrArg (fun x : Camera × (CameraCounter → Nat) => (x.1.pulseEnd, x.2)) h

/-- What decisions are made by but for the records: the record of the ejector and the lead. -/
def State.deciding (s : State) : EjectorCfg × Nat := (s.reject.cfg, s.reject.lead)

theorem bump_outputSide {c : CounterRef} {k : CameraId} (hc : ∀ x, c ≠ .camera k x) (s : State) :
    (bump c s).outputSide k = s.outputSide k :=
  outputSide_of_cameraSide (bump_cameraSide hc s)

theorem movePointers_pulseEnd (c : CameraId) (q : BitVec 32) (s : State) :
    (movePointers q s).cameras[c].pulseEnd = s.cameras[c].pulseEnd := by
  simp only [movePointers, Fin.getElem_fin, Vector.getElem_map]
  split_ifs <;> rfl

theorem dwellTest_sensed (s : State) : (dwellTest s).sensed = s.sensed :=
  dwellTest_keeps (fun _ _ _ => rfl) (fun _ _ => bump_sensed (by simp) _) s

theorem dwellTest_outputSide (c : CameraId) (s : State) : (dwellTest s).outputSide c = s.outputSide c :=
  dwellTest_keeps (fun _ _ _ => rfl) (fun _ _ => bump_outputSide (by simp) _) s

theorem dwellTest_records (s : State) : (dwellTest s).tracker.records = s.tracker.records :=
  dwellTest_keeps (g := fun s => s.tracker.records) (fun _ _ _ => rfl) (fun _ _ => by rw [bump_tracker]) s

theorem dwellTest_deciding (s : State) : (dwellTest s).deciding = s.deciding :=
  dwellTest_keeps (fun f s hf => Prod.ext (hf s.reject).1 (hf s.reject).2)
    (fun _ _ => by simp only [State.deciding, bump_reject]) s

theorem dwellTest_isDue (s : State) (r : TrackRec) : (dwellTest s).isDue r = s.isDue r := by
  have hd := dwellTest_deciding s
  have hcfg : (dwellTest s).reject.cfg = s.reject.cfg := congrArg Prod.fst hd
  have hlead : (dwellTest s).reject.lead = s.reject.lead := congrArg Prod.snd hd
  have hposition : (dwellTest s).tracker.position = s.tracker.position :=
    congrArg (·.1.position) (dwellTest_sensed s)
  rw [State.isDue, State.isDue, hcfg, hlead, hposition]

theorem decideDue_sensed (l : List TrackRec) (s : State) : (decideDue l s).sensed = s.sensed :=
  decideDue_keeps (fun _ _ _ => rfl) (fun _ _ => bump_sensed (by simp) _) (fun _ _ => rfl) l s

theorem decideDue_outputSide (c : CameraId) (l : List TrackRec) (s : State) :
    (decideDue l s).outputSide c = s.outputSide c :=
  decideDue_keeps (fun _ _ _ => rfl) (fun _ _ => bump_outputSide (by simp) _)
    (fun _ _ => Prod.ext (movePointers_pulseEnd ..) rfl) l s

/-! ## Decisions while the gate is DIVERTED (R147) -/

/-- The gate in DIVERTER mode is still in DIVERTED: of the ejector at most the dwell start and the last
decision are new, the former the position where a fire has set it, and no retract was counted. -/
structure StaysDiverted (s t : State) : Prop where
  reject : t.reject = { s.reject with dwellStart := t.reject.dwellStart, last := t.reject.last }
  dwellStart : t.reject.dwellStart = s.reject.dwellStart ∨ t.reject.dwellStart = some s.tracker.position
  position : t.tracker.position = s.tracker.position
  clock : t.clock = s.clock
  retracts : t.counter (.reject .retractsMade) = s.counter (.reject .retractsMade)

theorem StaysDiverted.refl (s : State) : StaysDiverted s s := ⟨rfl, .inl rfl, rfl, rfl, rfl⟩

theorem StaysDiverted.trans {s t u : State} (h : StaysDiverted s t) (k : StaysDiverted t u) :
    StaysDiverted s u where
  reject := by rw [k.reject, h.reject]
  dwellStart := by
    obtain e | e := k.dwellStart
    · exact e ▸ h.dwellStart
    · exact .inr (e.trans (congrArg some h.position))
  position := k.position.trans h.position
  clock := k.clock.trans h.clock
  retracts := k.retracts.trans h.retracts

theorem fireEjector_diverted {s : State} (hm : s.reject.cfg.mode = .diverter)
    (hs : s.reject.state = .diverted) : fireEjector s =
      (bump (.reject .fires) s).modReject fun x => { x with dwellStart := some s.tracker.position } := by
  simp only [fireEjector, bump_reject, hm, fireDiverter, hs, bump_tracker]

theorem outcomeCounter_ne_retracts (x : Option RejectReason) : outcomeCounter x ≠ .retractsMade := by
  rcases x with _ | _ | _ | _ | _ <;> simp [outcomeCounter]

theorem decided_reject (r : TrackRec) (s : State) : (s.decided r).reject = { s.reject with
    last := some { seq := r.seq, reason := decideRecord r, position := s.tracker.position } } := by
  simp [State.decided, movePointers, leaveHold]

theorem decided_staysDiverted (r : TrackRec) (s : State) : StaysDiverted s (s.decided r) where
  reject := by rw [decided_reject]
  dwellStart := .inl (by rw [decided_reject])
  position := by simp [State.decided, movePointers, leaveHold]
  clock := by simp [State.decided, movePointers, leaveHold]
  retracts := by
    have hcounters : (s.decided r).counters =
        (bump (.reject (outcomeCounter (decideRecord r))) s).counters := by
      simp [State.decided, movePointers, leaveHold]
    rw [counter_congr hcounters, bump_counter_other _ _ _ rfl]
    simpa using (outcomeCounter_ne_retracts (decideRecord r)).symm

theorem fireEjector_staysDiverted {s : State} (hm : s.reject.cfg.mode = .diverter)
    (hs : s.reject.state = .diverted) : StaysDiverted s (fireEjector s) := by
  rw [fireEjector_diverted hm hs]
  refine ⟨by simp, .inr rfl, by simp, by simp, ?_⟩
  rw [counter_congr (State.modReject_counters ..), bump_counter_other _ _ _ rfl (by simp)]

theorem decideHead_staysDiverted (r : TrackRec) {s : State} (hm : s.reject.cfg.mode = .diverter)
    (hs : s.reject.state = .diverted) : StaysDiverted s (decideHead r s) := by
  have hdecided := decided_staysDiverted r s
  rw [decideHead_eq]
  split_ifs
  · exact hdecided
  · exact hdecided.trans (fireEjector_staysDiverted (by rw [decided_reject]; exact hm)
      (by rw [decided_reject]; exact hs))

theorem decideDue_staysDiverted (l : List TrackRec) {s : State} (hm : s.reject.cfg.mode = .diverter)
    (hs : s.reject.state = .diverted) : StaysDiverted s (decideDue l s) := by
  induction l generalizing s with
  | nil => exact .refl s
  | cons r rest ih =>
    rw [decideDue]
    split_ifs
    · have h := decideHead_staysDiverted r hm hs
      exact h.trans (ih (by rw [h.reject]; exact hm) (by rw [h.reject]; exact hs))
    · exact .refl s

end Sys2Proof.Machine
end

section
/-! SUPPORT. What a count makes of the high-water mark, the excursion, the occlusion and the tracking list
(R117, R120 to R124). -/

namespace Sys2Proof.Machine

/-! ## An occlusion qualifies (R120 to R122) -/

/-- The record of a bottle whose occlusion qualifies. -/
def State.newRecord (s : State) : TrackRec :=
  { seq := s.tracker.nextSeq, position := s.tracker.leading.getD s.tracker.position
    verdicts := s.cameras.map firstVerdict
    triggered := Vector.replicate 4 false, jam := false }

theorem qualify_room {s : State} (h : s.tracker.records.length < 256) : qualify s =
    bump (.tracker .bottlesTracked) (s.modTracker fun t =>
      { t with sensor := .qualified, records := t.records ++ [s.newRecord], link := some t.nextSeq,
               nextSeq := t.nextSeq + 1 }) := if_pos h

/-- With a full list the occlusion qualifies without a record. -/
theorem qualify_full {s : State} (h : 256 ≤ s.tracker.records.length) : ∃ e, qualify s =
    joinHold .trackFull (raise e (bump (.tracker .untracked) (s.modTracker fun t =>
      { t with sensor := .qualified, link := none }))) := ⟨_, if_neg (Nat.not_lt.mpr h)⟩

theorem joinHold_tracker (h : HoldSource) (s : State) : (joinHold h s).tracker = s.tracker :=
  (congrArg State.tracker (joinHold_frame h s) :)

theorem joinHold_counter (h : HoldSource) (s : State) {d : CounterRef} (hd : d.ofLine = true) :
    (joinHold h s).counter d = s.counter d := by
  have hn := d.ofNotices_of_line hd
  obtain ⟨-, e⟩ | ⟨-, -, e⟩ | ⟨-, -, e⟩ := joinHold_cases h s
  · rw [e]
  · rw [e]; rfl
  · have hd' : d ≠ .device .holdSets := by rintro rfl; cases hd
    rw [e, bump_counter_other _ _ _ hn hd', raise_counter _ _ _ hn]
    rfl

theorem qualify_room_tracker {s : State} (h : s.tracker.records.length < 256) : (qualify s).tracker =
    { s.tracker with sensor := .qualified, records := s.tracker.records ++ [s.newRecord],
                     link := some s.tracker.nextSeq, nextSeq := s.tracker.nextSeq + 1 } := by
  rw [qualify_room h, bump_tracker]
  rfl

theorem qualify_full_tracker {s : State} (h : 256 ≤ s.tracker.records.length) :
    (qualify s).tracker = { s.tracker with sensor := .qualified, link := none } := by
  obtain ⟨e, he⟩ := qualify_full h
  rw [he, joinHold_tracker, raise_tracker, bump_tracker]
  rfl

/-- A bottle that qualifies is counted as tracked or as untracked, and no counter else changes. -/
theorem qualify_counter (s : State) {d : CounterRef} (hd : d.ofLine = true) :
    (qualify s).counter d =
      if d = (if s.tracker.records.length < 256 then .tracker .bottlesTracked else .tracker .untracked) then
        min (s.counter d + 1) Config.counterMax
      else s.counter d := by
  have hn := d.ofNotices_of_line hd
  have hcount (c : CounterRef) (f : Tracker → Tracker) : (bump c (s.modTracker f)).counter d =
      if d = c then min (s.counter d + 1) Config.counterMax else s.counter d := by
    rw [bump_counter c d _ hn]
    split_ifs with h
    exacts [h ▸ rfl, rfl]
  by_cases h : s.tracker.records.length < 256
  · rw [qualify_room h, hcount, if_pos h]
  · obtain ⟨e, he⟩ := qualify_full (Nat.not_lt.mp h)
    rw [he, joinHold_counter _ _ hd, raise_counter _ _ _ hn, hcount, if_neg h]

/-! ## An occlusion becomes a jam (R123) -/

/-- The record of the occlusion, where it is still in the list, is flagged. -/
def State.flagged (s : State) : State := s.modTracker fun t =>
  { t with sensor := .jammed
           records := t.records.map fun r => if t.link = some r.seq then { r with jam := true } else r }

theorem liveLink_eq_some {t : Tracker} {q : BitVec 32} (h : t.liveLink = some q) : t.link = some q := by
  unfold Tracker.liveLink at h
  split at h
  · next x hx =>
    split_ifs at h
    exact hx.trans h
  · cases h

theorem liveLink_eq_none {t : Tracker} (h : t.liveLink = none) :
    ∀ r ∈ t.records, t.link ≠ some r.seq := by
  intro r hr hl
  have hany : t.records.any (fun x => x.seq == r.seq) = true := List.any_eq_true.mpr ⟨r, hr, by simp⟩
  simp [Tracker.liveLink, hl, hany] at h

theorem flagged_live {s : State} {q : BitVec 32} (h : s.tracker.liveLink = some q) : s.flagged =
    (s.modTracker fun t => { t with sensor := .jammed }).modRecord q fun r => { r with jam := true } := by
  simp only [State.flagged, State.modRecord, State.modTracker, liveLink_eq_some h, Option.some_inj, eq_comm]

theorem flagged_gone {s : State} (h : s.tracker.liveLink = none) :
    s.flagged = s.modTracker fun t => { t with sensor := .jammed } := by
  have hmap : s.tracker.records.map
      (fun r => if s.tracker.link = some r.seq then { r with jam := true } else r) =
        s.tracker.records.map id :=
    List.map_congr_left fun r hr => if_neg (liveLink_eq_none h r hr)
  rw [List.map_id] at hmap
  simp only [State.flagged, State.modTracker, hmap]

/-- A jam: its record is flagged, it is counted and noticed, and under HOLD_LINE it is a hold source. -/
theorem jamFound_cases (s : State) : ∃ e,
    s.tracker.cfg.jamPolicy = .holdLine ∧
        jamFound s = joinHold .jam (raise e (bump (.tracker .jams) s.flagged)) ∨
      s.tracker.cfg.jamPolicy = .report ∧ jamFound s = raise e (bump (.tracker .jams) s.flagged) := by
  refine ⟨.jam s.tracker.liveLink (s.tracker.leading.getD s.tracker.position), ?_⟩
  have hu : jamFound s =
      let u := raise (.jam s.tracker.liveLink (s.tracker.leading.getD s.tracker.position))
        (bump (.tracker .jams) s.flagged)
      if u.tracker.cfg.jamPolicy = .holdLine then joinHold .jam u else u := by
    cases h : s.tracker.liveLink with
    | none => simp only [jamFound, h, flagged_gone h]
    | some q => simp only [jamFound, h, flagged_live h]
  rw [hu]
  simp only [raise_tracker, bump_tracker, State.flagged, State.modTracker_tracker]
  cases s.tracker.cfg.jamPolicy <;> simp

theorem jamFound_tracker (s : State) : (jamFound s).tracker = s.flagged.tracker := by
  obtain ⟨e, ⟨-, h⟩ | ⟨-, h⟩⟩ := jamFound_cases s
  · rw [h, joinHold_tracker, raise_tracker, bump_tracker]
  · rw [h, raise_tracker, bump_tracker]

theorem jamFound_counter (s : State) {d : CounterRef} (hd : d.ofLine = true) : (jamFound s).counter d =
    if d = .tracker .jams then min (s.counter (.tracker .jams) + 1) Config.counterMax else s.counter d := by
  have hn := d.ofNotices_of_line hd
  have hu (e : NoticeEvent) : (raise e (bump (.tracker .jams) s.flagged)).counter d = _ :=
    (raise_counter _ _ _ hn).trans (bump_counter _ _ _ hn)
  obtain ⟨e, ⟨-, h⟩ | ⟨-, h⟩⟩ := jamFound_cases s
  · rw [h, joinHold_counter _ _ hd, hu]
    rfl
  · rw [h, hu]
    rfl

theorem jamFound_holds {s : State} (h : s.tracker.cfg.jamPolicy = .holdLine) :
    (jamFound s).hold.present.jam = true := by
  obtain ⟨e, ⟨-, he⟩ | ⟨hr, -⟩⟩ := jamFound_cases s
  · exact he ▸ joinHold_present .jam _
  · rw [h] at hr; cases hr

theorem jamFound_reports {s : State} (h : s.tracker.cfg.jamPolicy = .report) :
    (jamFound s).hold = s.hold := by
  obtain ⟨e, ⟨hh, -⟩ | ⟨-, he⟩⟩ := jamFound_cases s
  · rw [h] at hh; cases hh
  · rw [he, raise_hold, bump_hold]
    rfl

/-! ## The tests of an occlusion's length (R120, R123) -/

section
variable {s : State}

theorem qualify_occlusion (s : State) : (qualify s).tracker.occlusion = s.tracker.occlusion := by
  by_cases h : s.tracker.records.length < 256
  · rw [qualify_room_tracker h]; rfl
  · rw [qualify_full_tracker (Nat.not_lt.mp h)]; rfl

theorem qualify_cfg (s : State) : (qualify s).tracker.cfg = s.tracker.cfg := by
  by_cases h : s.tracker.records.length < 256
  · rw [qualify_room_tracker h]
  · rw [qualify_full_tracker (Nat.not_lt.mp h)]

theorem occlusionTests_short (h : s.tracker.sensor = .measuring)
    (hl : s.tracker.occlusion < s.tracker.cfg.minOcclusion) : occlusionTests s = s := by
  simp [occlusionTests, h, Int.not_le.mpr hl]

theorem occlusionTests_qualifies (h : s.tracker.sensor = .measuring)
    (hm : s.tracker.cfg.minOcclusion ≤ s.tracker.occlusion)
    (hl : s.tracker.occlusion < s.tracker.cfg.maxOcclusion) : occlusionTests s = qualify s := by
  simp [occlusionTests, h, hm, qualify_occlusion, qualify_cfg, Int.not_le.mpr hl]

theorem occlusionTests_goesOn (h : s.tracker.sensor ≠ .measuring)
    (hl : s.tracker.sensor = .qualified → s.tracker.occlusion < s.tracker.cfg.maxOcclusion) :
    occlusionTests s = s := by
  simp only [occlusionTests, h, false_and, if_false]
  exact if_neg fun ⟨hq, hm⟩ => absurd (hl hq) (Int.not_lt.mpr hm)

theorem occlusionTests_jams (h : s.tracker.sensor = .qualified)
    (hl : s.tracker.cfg.maxOcclusion ≤ s.tracker.occlusion) : occlusionTests s = jamFound s := by
  simp [occlusionTests, h, hl]

/-- All that the tests can do. -/
theorem occlusionTests_cases (s : State) : ∃ u,
    (u = s ∨ s.tracker.sensor = .measuring ∧ u = qualify s) ∧
    (occlusionTests s = u ∨ occlusionTests s = jamFound u) := by
  unfold occlusionTests
  dsimp only
  split_ifs with hm hj hj
  · exact ⟨_, .inr ⟨hm.1, rfl⟩, .inr rfl⟩
  · exact ⟨_, .inr ⟨hm.1, rfl⟩, .inl rfl⟩
  · exact ⟨_, .inl rfl, .inr rfl⟩
  · exact ⟨_, .inl rfl, .inl rfl⟩

theorem occlusionTests_keeps {β : Type} {g : State → β} (hq : ∀ s, g (qualify s) = g s)
    (hj : ∀ s, g (jamFound s) = g s) (s : State) : g (occlusionTests s) = g s := by
  obtain ⟨u, hu, h⟩ := occlusionTests_cases s
  have hgu : g u = g s := by
    obtain rfl | ⟨-, rfl⟩ := hu
    exacts [rfl, hq s]
  obtain h | h := h <;> rw [h]
  exacts [hgu, (hj u).trans hgu]

end

/-! ## What the tests leave alone -/

/-- The course of the bottles: the position, the high-water mark, the excursion and the configuration, and
the excursions counted. -/
def State.course (s : State) : Tracker × Nat :=
  ({ s.tracker with sensor := .clear, leading := none, link := none, records := [], nextSeq := 0 },
    s.counter (.tracker .excursions))

theorem qualify_course (s : State) : (qualify s).course = s.course := by
  unfold State.course
  rw [qualify_counter s rfl, if_neg (by split_ifs <;> simp)]
  by_cases h : s.tracker.records.length < 256
  · rw [qualify_room_tracker h]
  · rw [qualify_full_tracker (Nat.not_lt.mp h)]

theorem jamFound_course (s : State) : (jamFound s).course = s.course := by
  unfold State.course
  rw [jamFound_counter s rfl, if_neg (by simp), jamFound_tracker]
  rfl

theorem occlusionTests_course (s : State) : (occlusionTests s).course = s.course :=
  occlusionTests_keeps qualify_course jamFound_course s

/-- The number and the position of a record. -/
def TrackRec.place (r : TrackRec) : BitVec 32 × Position := (r.seq, r.position)

theorem jamFound_places (s : State) :
    (jamFound s).tracker.records.map TrackRec.place = s.tracker.records.map TrackRec.place := by
  simp only [jamFound_tracker, State.flagged, State.modTracker_tracker, List.map_map]
  refine List.map_congr_left fun r _ => ?_
  simp only [Function.comp_apply]
  split_ifs <;> rfl

/-- The list gains at most the record of an occlusion that was measured. -/
theorem occlusionTests_places (s : State) : ∃ more, (occlusionTests s).tracker.records.map TrackRec.place =
    s.tracker.records.map TrackRec.place ++ more ∧ (s.tracker.sensor ≠ .measuring → more = []) := by
  obtain ⟨u, hu, h⟩ := occlusionTests_cases s
  have hplaces : (occlusionTests s).tracker.records.map TrackRec.place =
      u.tracker.records.map TrackRec.place := by
    obtain h | h := h <;> rw [h]
    exact jamFound_places u
  rw [hplaces]
  obtain rfl | ⟨hm, rfl⟩ := hu
  · exact ⟨[], by simp⟩
  · by_cases hr : s.tracker.records.length < 256
    · exact ⟨[s.newRecord.place], by simp [qualify_room_tracker hr, hm]⟩
    · exact ⟨[], by simp [qualify_full_tracker (Nat.not_lt.mp hr)]⟩

/-! ## After a count (R117, R124) -/

/-- The cameras and the reject station with their counters, and the clock: what the tracker leaves alone. -/
def State.downstream (s : State) :
    Vector Camera 4 × Reject × Clock × (CameraId → CameraCounter → Nat) × (RejectCounter → Nat) :=
  (s.cameras, s.reject, s.clock, fun c x => s.counter (.camera c x), fun x => s.counter (.reject x))

theorem modTracker_downstream (f : Tracker → Tracker) (s : State) :
    (s.modTracker f).downstream = s.downstream := rfl

theorem raise_downstream (e : NoticeEvent) (s : State) : (raise e s).downstream = s.downstream := by
  simp only [State.downstream, raise_cameras, raise_reject, raise_clock,
    raise_counter _ _ _ (rfl : CounterRef.ofNotices (.camera _ _) = false),
    raise_counter _ _ _ (rfl : CounterRef.ofNotices (.reject _) = false)]

theorem bump_downstream (x : TrackerCounter) (s : State) :
    (bump (.tracker x) s).downstream = s.downstream := by
  have hcamera (c : CameraId) (y : CameraCounter) :
      (bump (.tracker x) s).counter (.camera c y) = s.counter (.camera c y) :=
    bump_counter_other _ _ _ rfl (by simp)
  have hreject (y : RejectCounter) : (bump (.tracker x) s).counter (.reject y) = s.counter (.reject y) :=
    bump_counter_other _ _ _ rfl (by simp)
  simp only [State.downstream, bump_cameras, bump_reject, bump_clock, hcamera, hreject]

theorem joinHold_downstream (h : HoldSource) (s : State) : (joinHold h s).downstream = s.downstream := by
  have hf := joinHold_frame h s
  have hcameras : (joinHold h s).cameras = s.cameras := (congrArg State.cameras hf :)
  have hreject : (joinHold h s).reject = s.reject := (congrArg State.reject hf :)
  have hclock : (joinHold h s).clock = s.clock := (congrArg State.clock hf :)
  simp only [State.downstream, hcameras, hreject, hclock,
    joinHold_counter h s (rfl : CounterRef.ofLine (.camera _ _) = true),
    joinHold_counter h s (rfl : CounterRef.ofLine (.reject _) = true)]

theorem qualify_downstream (s : State) : (qualify s).downstream = s.downstream := by
  by_cases h : s.tracker.records.length < 256
  · rw [qualify_room h, bump_downstream, modTracker_downstream]
  · obtain ⟨e, he⟩ := qualify_full (Nat.not_lt.mp h)
    rw [he, joinHold_downstream, raise_downstream, bump_downstream, modTracker_downstream]

theorem jamFound_downstream (s : State) : (jamFound s).downstream = s.downstream := by
  have hu (e : NoticeEvent) : (raise e (bump (.tracker .jams) s.flagged)).downstream = s.downstream := by
    rw [raise_downstream, bump_downstream, State.flagged, modTracker_downstream]
  obtain ⟨e, ⟨-, h⟩ | ⟨-, h⟩⟩ := jamFound_cases s <;> rw [h]
  exacts [(joinHold_downstream ..).trans (hu e), hu e]

/-- An excursion begins, and is counted. -/
def State.astray (s : State) : State :=
  bump (.tracker .excursions) (s.modTracker fun t => { t with excursion := true })

/-- The sensor no longer measures. -/
def State.unmeasured (s : State) : State :=
  s.modTracker fun t => { t with sensor := .ignoring, leading := none, link := none }

section
variable {s : State}

theorem beginExcursion_measuring (h : s.tracker.sensor = .measuring) :
    beginExcursion s = bump (.tracker .abandonedOcclusions) s.astray.unmeasured := by
  simp [beginExcursion, h, State.astray, State.unmeasured]

theorem beginExcursion_qualified (h : s.tracker.sensor = .qualified) :
    beginExcursion s = s.astray.unmeasured := by
  simp [beginExcursion, h, State.astray, State.unmeasured]

theorem beginExcursion_unmeasured (h : s.tracker.sensor ≠ .measuring)
    (h' : s.tracker.sensor ≠ .qualified) : beginExcursion s = s.astray := by
  simp only [beginExcursion, bump_tracker, State.modTracker_tracker]
  cases hs : s.tracker.sensor with
  | measuring => exact absurd hs h
  | qualified => exact absurd hs h'
  | _ => rfl

/-- An excursion ends the measuring of an occlusion. -/
theorem beginExcursion_tracker (h : s.tracker.sensor = .measuring ∨ s.tracker.sensor = .qualified) :
    (beginExcursion s).tracker =
      { s.tracker with excursion := true, sensor := .ignoring, leading := none, link := none } := by
  obtain h | h := h
  · simp [beginExcursion_measuring h, State.unmeasured, State.astray]
  · simp [beginExcursion_qualified h, State.unmeasured, State.astray]

theorem astray_tracker (s : State) : s.astray.tracker = { s.tracker with excursion := true } :=
  bump_tracker ..

/-- The excursion is counted, and the cameras and the reject station are left alone. -/
theorem beginExcursion_counts (s : State) :
    (beginExcursion s).counter (.tracker .excursions) =
        min (s.counter (.tracker .excursions) + 1) Config.counterMax ∧
      (beginExcursion s).downstream = s.downstream := by
  have hcount : s.astray.counter (.tracker .excursions) =
      min (s.counter (.tracker .excursions) + 1) Config.counterMax := bump_counter _ _ _ rfl
  have hdown : s.astray.downstream = s.downstream := bump_downstream ..
  by_cases hm : s.tracker.sensor = .measuring
  · rw [beginExcursion_measuring hm, bump_counter_other _ _ _ rfl (by simp), bump_downstream]
    exact ⟨hcount, hdown⟩
  · by_cases hq : s.tracker.sensor = .qualified
    · rw [beginExcursion_qualified hq]
      exact ⟨hcount, hdown⟩
    · rw [beginExcursion_unmeasured hm hq]
      exact ⟨hcount, hdown⟩

end

/-- A count that leaves the position behind the mark, outside an excursion, begins one. -/
theorem afterCount_begins {s : State} (hd : distance s.tracker.highWater s.tracker.position < 0)
    (he : s.tracker.excursion = false) : afterCount s = beginExcursion s := by
  simp [afterCount, hd, he]

/-- The mark and the excursion as a count sets them. -/
def State.marked (mark : Position) (e : Bool) (s : State) : State :=
  s.modTracker fun t => { t with highWater := mark, excursion := e }

/-- Any other count moves the mark, when it leaves the position ahead of it, and tests the occlusion. -/
theorem afterCount_tests {s : State}
    (h : 0 ≤ distance s.tracker.highWater s.tracker.position ∨ s.tracker.excursion = true) :
    ∃ mark e, afterCount s = occlusionTests (s.marked mark e) ∧
      (0 < distance s.tracker.highWater s.tracker.position → mark = s.tracker.position ∧ e = false) ∧
      (distance s.tracker.highWater s.tracker.position ≤ 0 →
        mark = s.tracker.highWater ∧ e = s.tracker.excursion) := by
  have hn : ¬(distance s.tracker.highWater s.tracker.position < 0 ∧ !s.tracker.excursion) := by
    rintro ⟨hd, he⟩
    obtain h | h := h
    · omega
    · simp [h] at he
  by_cases hd : 0 < distance s.tracker.highWater s.tracker.position
  · refine ⟨s.tracker.position, false, ?_, fun _ => ⟨rfl, rfl⟩, fun h => absurd hd (Int.not_lt.mpr h)⟩
    simp only [afterCount, if_neg hn, if_pos hd]
    rfl
  · refine ⟨s.tracker.highWater, s.tracker.excursion, ?_, fun h => absurd h hd, fun _ => ⟨rfl, rfl⟩⟩
    simp only [afterCount, if_neg hn, if_neg hd]
    rfl

theorem afterCount_downstream (s : State) : (afterCount s).downstream = s.downstream := by
  by_cases h : 0 ≤ distance s.tracker.highWater s.tracker.position ∨ s.tracker.excursion = true
  · obtain ⟨_, _, e, -⟩ := afterCount_tests h
    rw [e, occlusionTests_keeps qualify_downstream jamFound_downstream]
    rfl
  · rw [not_or, Int.not_le, Bool.not_eq_true] at h
    rw [afterCount_begins h.1 h.2, (beginExcursion_counts s).2]

/-- The list gains at most the record of an occlusion that was measured. -/
theorem afterCount_places (s : State) : ∃ more, (afterCount s).tracker.records.map TrackRec.place =
    s.tracker.records.map TrackRec.place ++ more ∧ (s.tracker.sensor ≠ .measuring → more = []) := by
  by_cases h : 0 ≤ distance s.tracker.highWater s.tracker.position ∨ s.tracker.excursion = true
  · obtain ⟨_, _, e, -⟩ := afterCount_tests h
    rw [e]
    exact occlusionTests_places _
  · rw [not_or, Int.not_le, Bool.not_eq_true] at h
    rw [afterCount_begins h.1 h.2]
    refine ⟨[], ?_, fun _ => rfl⟩
    by_cases hm : s.tracker.sensor = .measuring ∨ s.tracker.sensor = .qualified
    · rw [beginExcursion_tracker hm, List.append_nil]
    · rw [not_or] at hm
      rw [beginExcursion_unmeasured hm.1 hm.2, astray_tracker, List.append_nil]

/-- The mark and the excursion after a count, and the excursions counted (R117). -/
theorem afterCount_course (s : State) {d : Int} (hd : d = distance s.tracker.highWater s.tracker.position) :
    (afterCount s).course =
      ({ s.tracker with
          sensor := .clear, leading := none, link := none, records := [], nextSeq := 0
          highWater := if 0 < d then s.tracker.position else s.tracker.highWater
          excursion := if 0 < d then false else decide (d < 0) || s.tracker.excursion },
        if d < 0 ∧ s.tracker.excursion = false then
          min (s.counter (.tracker .excursions) + 1) Config.counterMax
        else s.counter (.tracker .excursions)) := by
  subst hd
  by_cases h : 0 ≤ distance s.tracker.highWater s.tracker.position ∨ s.tracker.excursion = true
  · obtain ⟨mark, e, ha, hahead, hbehind⟩ := afterCount_tests h
    have hnone : ¬(distance s.tracker.highWater s.tracker.position < 0 ∧ s.tracker.excursion = false) := by
      rintro ⟨hd, he⟩
      obtain h | h := h
      exacts [absurd hd (Int.not_lt.mpr h), by rw [he] at h; cases h]
    rw [ha, occlusionTests_course, if_neg hnone]
    by_cases hd : 0 < distance s.tracker.highWater s.tracker.position
    · obtain ⟨rfl, rfl⟩ := hahead hd
      rw [if_pos hd, if_pos hd]
      rfl
    · obtain ⟨rfl, rfl⟩ := hbehind (Int.not_lt.mp hd)
      have he : (decide (distance s.tracker.highWater s.tracker.position < 0) || s.tracker.excursion) =
          s.tracker.excursion := by
        obtain h | h := h
        exacts [by simp [Int.not_lt.mpr h], by simp [h]]
      rw [if_neg hd, if_neg hd, he]
      rfl
  · rw [not_or, Int.not_le, Bool.not_eq_true] at h
    obtain ⟨hd, he⟩ := h
    rw [afterCount_begins hd he, State.course, (beginExcursion_counts s).1, if_neg (by omega),
      if_neg (by omega), if_pos ⟨hd, he⟩, decide_eq_true hd, Bool.true_or]
    by_cases hm : s.tracker.sensor = .measuring ∨ s.tracker.sensor = .qualified
    · rw [beginExcursion_tracker hm]
    · rw [not_or] at hm
      rw [beginExcursion_unmeasured hm.1 hm.2, astray_tracker]

end Sys2Proof.Machine
end

section
/-! SUPPORT. A transition of the encoder, the count that it makes, and what follows from the count (R111,
R132, R142, R146). -/

namespace Sys2Proof.Machine

/-! ## The table of R111 -/

section
variable {a0 b0 a1 b1 : Bool}

theorem quadCount_next (mode : CountMode) (h : nextLevels (a0, b0) = (a1, b1)) :
    quadCount mode a0 b0 a1 b1 = if countsForward mode (a0, b0) then 1 else 0 := by
  cases a0 <;> cases b0 <;> simp only [nextLevels, Prod.mk.injEq] at h <;> obtain ⟨rfl, rfl⟩ := h <;>
    cases mode <;> rfl

theorem quadCount_previous (mode : CountMode) (h : nextLevels (a1, b1) = (a0, b0)) :
    quadCount mode a0 b0 a1 b1 = if countsForward mode (a1, b1) then -1 else 0 := by
  cases a1 <;> cases b1 <;> simp only [nextLevels, Prod.mk.injEq] at h <;> obtain ⟨rfl, rfl⟩ := h <;>
    cases mode <;> rfl

theorem quadCount_cases (mode : CountMode) :
    quadCount mode a0 b0 a1 b1 = 0 ∨ quadCount mode a0 b0 a1 b1 = 1 ∨ quadCount mode a0 b0 a1 b1 = -1 := by
  cases a0 <;> cases b0 <;> cases a1 <;> cases b1 <;> cases mode <;> decide

theorem nextLevels_legal (h : nextLevels (a0, b0) = (a1, b1)) :
    illegalTransition a0 b0 a1 b1 = false ∧ ¬(a0 = a1 ∧ b0 = b1) := by
  cases a0 <;> cases b0 <;> simp only [nextLevels, Prod.mk.injEq] at h <;> obtain ⟨rfl, rfl⟩ := h <;> decide

theorem previousLevels_legal (h : nextLevels (a1, b1) = (a0, b0)) :
    illegalTransition a0 b0 a1 b1 = false ∧ ¬(a0 = a1 ∧ b0 = b1) := by
  obtain ⟨hl, hn⟩ := nextLevels_legal h
  refine ⟨?_, fun ⟨ha, hb⟩ => hn ⟨ha.symm, hb.symm⟩⟩
  rwa [illegalTransition, bne_comm, bne_comm (a := b0)]

end

/-! ## The stages of a count -/

/-- The state at the new position. -/
def State.moved (n : Int) (s : State) : State :=
  s.modTracker fun t => { t with position := t.position + BitVec.ofInt 32 n }

/-- A count up to the tests of the triggers. -/
@[irreducible] def State.tested (v : State) : State := forEach (List.finRange 4) testTrigger (afterCount v)

/-- All that follows from a count at the new position. -/
@[irreducible] def State.followed (n : Int) (v : State) : State :=
  dwellTest (if 0 < n then decideDue v.tested.tracker.records v.tested else v.tested)

theorem applyCount_eq (n : Int) (s : State) : applyCount n s = (s.moved n).followed n := by
  unfold applyCount State.followed State.tested State.moved
  rfl

/-! ## A transition -/

/-- The phases after a transition. -/
def State.levelled (a b : Bool) (s : State) : State :=
  s.modTracker fun t => { t with phaseA := a, phaseB := b }

/-- The phases and the position after a transition whose count is `n`. -/
def State.counted (a b : Bool) (n : Int) (s : State) : State := (s.levelled a b).moved n

/-- The count of a transition under the record. -/
def State.countOf (a b : Bool) (s : State) : Int :=
  if s.tracker.cfg.invert then -quadCount s.tracker.cfg.mode s.tracker.phaseA s.tracker.phaseB a b
  else quadCount s.tracker.cfg.mode s.tracker.phaseA s.tracker.phaseB a b

theorem countOf_cases (a b : Bool) (s : State) :
    s.countOf a b = 0 ∨ s.countOf a b = 1 ∨ s.countOf a b = -1 := by
  have h := quadCount_cases (a0 := s.tracker.phaseA) (b0 := s.tracker.phaseB) (a1 := a) (b1 := b)
    s.tracker.cfg.mode
  unfold State.countOf
  split_ifs
  exacts [by omega, h]

section
variable {a b : Bool} {s : State}

theorem exec_encoderTransition_legal (hn : ¬(s.tracker.phaseA = a ∧ s.tracker.phaseB = b))
    (hl : illegalTransition s.tracker.phaseA s.tracker.phaseB a b = false) :
    exec (.encoderTransition a b) s = .next (if s.countOf a b = 0 then s.levelled a b
      else (s.counted a b (s.countOf a b)).followed (s.countOf a b)) := by
  simp only [State.counted, ← applyCount_eq, exec, execEncoderTransition, if_neg hn, hl, Bool.false_eq_true,
    if_false]
  rfl

/-- A transition that moves the position is a count of one, forward or reverse. -/
theorem exec_encoderTransition_moves {t : State} (h : exec (.encoderTransition a b) s = .next t)
    (hp : t.tracker.position ≠ s.tracker.position) :
    ∃ n, (n = 1 ∨ n = -1) ∧ t = (s.counted a b n).followed n := by
  by_cases hn : s.tracker.phaseA = a ∧ s.tracker.phaseB = b
  · simp only [exec, execEncoderTransition, if_pos hn, Host.Outcome.next.injEq] at h
    exact absurd (h ▸ rfl) hp
  · cases hl : illegalTransition s.tracker.phaseA s.tracker.phaseB a b
    · rw [exec_encoderTransition_legal hn hl, Host.Outcome.next.injEq] at h
      split_ifs at h with h0
      · exact absurd (h ▸ rfl) hp
      · exact ⟨_, (countOf_cases a b s).resolve_left h0, h.symm⟩
    · simp only [exec, execEncoderTransition, if_neg hn, hl, if_true, Host.Outcome.next.injEq] at h
      refine absurd ?_ hp
      rw [← h, raise_tracker, bump_tracker]
      rfl

end

/-! ## What follows from a count -/

section
variable (n : Int) (v : State)

theorem tested_sensed : v.tested.sensed = (afterCount v).sensed := by
  rw [State.tested]
  exact forEach_keeps State.sensed _ testTrigger_sensed _

theorem tested_marks : v.tested.marks = (afterCount v).marks := by
  rw [State.tested]
  exact forEach_keeps State.marks _ testTrigger_marks _

theorem tested_ejecting : v.tested.ejecting = v.ejecting := by
  rw [State.tested]
  exact (forEach_keeps State.ejecting _ testTrigger_ejecting _).trans
    (congrArg (fun x => (x.2.1, x.2.2.2.2)) (afterCount_downstream v))

theorem followed_sensed : (v.followed n).sensed = (afterCount v).sensed := by
  unfold State.followed
  rw [dwellTest_sensed]
  split_ifs
  exacts [(decideDue_sensed ..).trans (tested_sensed v), tested_sensed v]

theorem followed_outputSide (c : CameraId) : (v.followed n).outputSide c = v.tested.outputSide c := by
  unfold State.followed
  rw [dwellTest_outputSide]
  split_ifs
  exacts [decideDue_outputSide .., rfl]

/-- The records that are left are the end of the list, with their numbers, positions and jams. -/
theorem followed_marks : (v.followed n).marks <:+ (afterCount v).marks := by
  unfold State.followed
  rw [← tested_marks, State.marks, dwellTest_records]
  split_ifs
  exacts [(decideDue_suffix rfl).map _, List.suffix_rfl]

theorem followed_position : (v.followed n).tracker.position = v.tracker.position :=
  (congrArg (·.1.position) (followed_sensed n v)).trans (congrArg (·.1.position) (afterCount_course v rfl))

theorem followed_phaseA : (v.followed n).tracker.phaseA = v.tracker.phaseA :=
  (congrArg (·.1.phaseA) (followed_sensed n v)).trans (congrArg (·.1.phaseA) (afterCount_course v rfl))

theorem followed_phaseB : (v.followed n).tracker.phaseB = v.tracker.phaseB :=
  (congrArg (·.1.phaseB) (followed_sensed n v)).trans (congrArg (·.1.phaseB) (afterCount_course v rfl))

end

/-- After a reverse count no record is decided. -/
theorem followed_reverse (v : State) : v.followed (-1) = dwellTest v.tested := by
  rw [State.followed, if_neg (by decide)]

theorem followed_forward (v : State) :
    v.followed 1 = dwellTest (decideDue v.tested.tracker.records v.tested) := by
  rw [State.followed, if_pos (by decide)]

/-- After a forward count the head that is left is not due (R142). -/
theorem followed_head {v : State} {r : TrackRec} (hr : (v.followed 1).tracker.records.head? = some r) :
    (v.followed 1).isDue r = false := by
  rw [followed_forward] at hr ⊢
  rw [dwellTest_records] at hr
  rw [dwellTest_isDue]
  exact decideDue_head rfl hr

theorem places_of_marks {s t : State} (h : s.marks = t.marks) :
    s.tracker.records.map TrackRec.place = t.tracker.records.map TrackRec.place := by
  have e := congrArg (List.map fun x : BitVec 32 × Position × Bool => (x.1, x.2.1)) h
  rw [State.marks, State.marks, List.map_map, List.map_map] at e
  exact e

/-! ## The test of one camera among those of the four -/

/-- The test of a camera finds the camera as it was and the records at their places, and what it does to the
camera's output stands. -/
theorem testTriggers_cameraSide {c : CameraId} {l : List CameraId} (hc : c ∈ l) (hl : l.Nodup) (s : State) :
    ∃ u, u.cameraSide c = s.cameraSide c ∧ u.sensed = s.sensed ∧ u.marks = s.marks ∧
      (forEach l testTrigger s).cameraSide c = (testTrigger c u).cameraSide c := by
  obtain ⟨before, after, rfl⟩ := List.append_of_mem hc
  rw [List.nodup_middle, List.nodup_cons, List.mem_append, not_or] at hl
  obtain ⟨⟨hbefore, hafter⟩, -⟩ := hl
  have hother {m : List CameraId} (hm : c ∉ m) (s : State) :
      (forEach m testTrigger s).cameraSide c = s.cameraSide c :=
    forEach_inv (P := fun t => t.cameraSide c = s.cameraSide c) m (fun k hk t ht =>
      (testTrigger_cameraSide (fun e => hm (by rwa [e])) t).trans ht) s rfl
  refine ⟨forEach before testTrigger s, hother hbefore s, forEach_keeps State.sensed _ testTrigger_sensed s,
    forEach_keeps State.marks _ testTrigger_marks s, ?_⟩
  rw [show forEach (before ++ c :: after) testTrigger s =
    forEach after testTrigger (testTrigger c (forEach before testTrigger s)) from List.foldl_append ..]
  exact hother hafter _

/-- A list that has a record at the place of `r` splits there as the list of `r` does. -/
theorem exists_split_of_places {m l rest : List TrackRec} {r : TrackRec} {more : List (BitVec 32 × Position)}
    (h : m.map TrackRec.place = (l ++ r :: rest).map TrackRec.place ++ more) :
    ∃ l' r' rest', m = l' ++ r' :: rest' ∧ l'.map TrackRec.place = l.map TrackRec.place ∧
      r'.place = r.place ∧ rest'.map TrackRec.place = rest.map TrackRec.place ++ more := by
  rw [List.map_append, List.map_cons, List.append_assoc, List.cons_append] at h
  obtain ⟨l', m', rfl, hl, hm⟩ := List.map_eq_append_iff.mp h
  obtain ⟨r', rest', rfl, hr, hrest⟩ := List.map_eq_cons_iff.mp hm
  exact ⟨l', r', rest', rfl, hl, hr, hrest⟩

/-- After a count a camera's output is what a scan leaves of it, from the record at its pointer on. -/
theorem followed_scan (n : Int) {v : State} {c : CameraId} {l rest : List TrackRec} {r : TrackRec}
    (hs : v.tracker.records = l ++ r :: rest) (hl : ∀ x ∈ l, x.seq ≠ v.cameras[c].pointer)
    (hr : r.seq = v.cameras[c].pointer) :
    ∃ (u : State) (r' : TrackRec) (rest' : List TrackRec) (more : List (BitVec 32 × Position)),
      u.cameraSide c = v.cameraSide c ∧ u.tracker.position = v.tracker.position ∧ u.clock = v.clock ∧
      r'.position = r.position ∧ rest'.map TrackRec.place = rest.map TrackRec.place ++ more ∧
      (v.followed n).outputSide c = (triggerScan c (r' :: rest') u).outputSide c := by
  obtain ⟨u, hcamera, hsensed, hmarks, htest⟩ :=
    testTriggers_cameraSide (List.mem_finRange c) (List.nodup_finRange 4) (afterCount v)
  obtain ⟨more, hplaces, -⟩ := afterCount_places v
  rw [hs] at hplaces
  obtain ⟨l', r', rest', hu, hl', hr', hrest'⟩ :=
    exists_split_of_places ((places_of_marks hmarks).trans hplaces)
  have hdown := afterCount_downstream v
  have hside : (afterCount v).cameraSide c = v.cameraSide c :=
    congrArg (fun x => (x.1[c], x.2.2.2.1 c)) hdown
  have hpointer : u.cameras[c].pointer = v.cameras[c].pointer := congrArg (·.1.pointer) (hcamera.trans hside)
  refine ⟨u, r', rest', more, hcamera.trans hside, ?_, ?_, congrArg Prod.snd hr', hrest', ?_⟩
  · exact (congrArg (·.1.position) hsensed).trans (congrArg (·.1.position) (afterCount_course v rfl))
  · exact (congrArg (·.2.2.1) hsensed).trans (congrArg (·.2.2.1) hdown)
  · have hscan : testTrigger c u = triggerScan c (r' :: rest') u := by
      refine testTrigger_at hu (fun x hx hp => ?_) ?_
      · have hx' : x.place ∈ l.map TrackRec.place := hl' ▸ List.mem_map_of_mem hx
        obtain ⟨y, hy, hxy⟩ := List.mem_map.mp hx'
        exact hl y hy ((congrArg Prod.fst hxy).trans (hp.trans hpointer))
      · exact (congrArg Prod.fst hr').trans (hr.trans hpointer.symm)
    rw [followed_outputSide, State.tested, ← hscan]
    exact outputSide_of_cameraSide htest

end Sys2Proof.Machine
end

section
/-! What a transition of the encoder makes of the position, the high-water mark and the occlusion (R111,
R117, R120 to R123, R142). -/

namespace Sys2Proof.Machine

/-! ## The mark and the excursion -/

section
variable (n : Int) {v : State} {d : Int} (hd : d = distance v.tracker.highWater v.tracker.position)
include hd

theorem followed_highWater : (v.followed n).tracker.highWater =
    if 0 < d then v.tracker.position else v.tracker.highWater :=
  (congrArg (·.1.highWater) (followed_sensed n v)).trans (congrArg (·.1.highWater) (afterCount_course v hd))

theorem followed_excursion : (v.followed n).tracker.excursion =
    if 0 < d then false else decide (d < 0) || v.tracker.excursion :=
  (congrArg (·.1.excursion) (followed_sensed n v)).trans (congrArg (·.1.excursion) (afterCount_course v hd))

theorem followed_excursions : (v.followed n).counter (.tracker .excursions) =
    if d < 0 ∧ v.tracker.excursion = false then
      min (v.counter (.tracker .excursions) + 1) Config.counterMax
    else v.counter (.tracker .excursions) :=
  (congrArg (fun x => x.2.2.2 .excursions) (followed_sensed n v)).trans
    (congrArg Prod.snd (afterCount_course v hd))

/-- An excursion that begins is not outlived by an occlusion that is measured. -/
theorem followed_begins (hneg : d < 0) (he : v.tracker.excursion = false) :
    (v.tracker.sensor = .measuring ∨ v.tracker.sensor = .qualified →
      (v.followed n).tracker.sensor = .ignoring ∧ (v.followed n).tracker.leading = none) ∧
    (v.tracker.sensor ≠ .measuring → v.tracker.sensor ≠ .qualified →
      (v.followed n).tracker.sensor = v.tracker.sensor) := by
  have h := followed_sensed n v
  rw [afterCount_begins (hd ▸ hneg) he] at h
  have hsensor : (v.followed n).tracker.sensor = (beginExcursion v).tracker.sensor := congrArg (·.1.sensor) h
  have hleading : (v.followed n).tracker.leading = (beginExcursion v).tracker.leading :=
    congrArg (·.1.leading) h
  rw [hsensor, hleading]
  exact ⟨fun hm => by rw [beginExcursion_tracker hm]; exact ⟨rfl, rfl⟩,
    fun hm hq => by rw [beginExcursion_unmeasured hm hq, astray_tracker]⟩

end

/-! ## The list -/

/-- After a reverse count every record is there still. -/
theorem followed_reverse_keeps {v : State} {r : TrackRec} (hr : r ∈ v.tracker.records) :
    ∃ x ∈ (v.followed (-1)).tracker.records, x.seq = r.seq ∧ x.position = r.position := by
  obtain ⟨more, hplaces, -⟩ := afterCount_places v
  have h := (places_of_marks (tested_marks v)).trans hplaces
  rw [followed_reverse, dwellTest_records]
  have hmem : r.place ∈ v.tested.tracker.records.map TrackRec.place :=
    h ▸ List.mem_append_left more (List.mem_map_of_mem hr)
  obtain ⟨x, hx, hxr⟩ := List.mem_map.mp hmem
  exact ⟨x, hx, congrArg Prod.fst hxr, congrArg Prod.snd hxr⟩

theorem flagged_jam {s : State} {x : TrackRec} (hx : x ∈ s.flagged.tracker.records)
    (h : s.tracker.link = some x.seq) : x.jam = true := by
  obtain ⟨r, -, rfl⟩ := List.mem_map.mp hx
  split_ifs at h ⊢ with hl
  exacts [rfl, absurd h hl]

/-! ## The occlusion -/

section
variable (n : Int) {v : State} {lead : Position} {length : Int} (hlead : v.tracker.leading = some lead)
  (hlength : length = distance lead v.tracker.position)
include hlead hlength

theorem occlusion_eq : v.tracker.occlusion = length := by
  simp only [Tracker.occlusion, hlead, hlength]

variable (htest : 0 ≤ distance v.tracker.highWater v.tracker.position ∨ v.tracker.excursion = true)
include htest

/-- A measured occlusion below the minimum goes on. -/
theorem followed_short (hm : v.tracker.sensor = .measuring) (hl : length < v.tracker.cfg.minOcclusion) :
    (v.followed n).tracker.sensor = .measuring ∧ (v.followed n).tracker.leading = some lead ∧
      (v.followed n).tracker.nextSeq = v.tracker.nextSeq ∧
      ∀ x, (v.followed n).counter (.tracker x) = v.counter (.tracker x) := by
  obtain ⟨mark, e, ha, -⟩ := afterCount_tests htest
  have h := followed_sensed n v
  rw [ha, occlusionTests_short (s := v.marked mark e) hm (occlusion_eq hlead hlength ▸ hl)] at h
  exact ⟨(congrArg (·.1.sensor) h).trans hm, (congrArg (·.1.leading) h).trans hlead,
    congrArg (·.1.nextSeq) h, congrFun (congrArg (·.2.2.2) h)⟩

/-- One that reaches the minimum qualifies. -/
theorem followed_qualifies (hm : v.tracker.sensor = .measuring) (hmin : v.tracker.cfg.minOcclusion ≤ length)
    (hmax : length < v.tracker.cfg.maxOcclusion) :
    (v.followed n).tracker.sensor = .qualified ∧ (v.followed n).tracker.leading = some lead ∧
      (v.tracker.records.length < 256 →
        (v.followed n).tracker.link = some v.tracker.nextSeq ∧
        (v.followed n).tracker.nextSeq = v.tracker.nextSeq + 1 ∧
        (v.followed n).counter (.tracker .bottlesTracked) =
          min (v.counter (.tracker .bottlesTracked) + 1) Config.counterMax) ∧
      (256 ≤ v.tracker.records.length →
        (v.followed n).tracker.link = none ∧ (v.followed n).tracker.nextSeq = v.tracker.nextSeq ∧
        (v.followed n).counter (.tracker .untracked) =
          min (v.counter (.tracker .untracked) + 1) Config.counterMax) := by
  have hlen := occlusion_eq hlead hlength
  obtain ⟨mark, e, ha, -⟩ := afterCount_tests htest
  have h := followed_sensed n v
  rw [ha, occlusionTests_qualifies (s := v.marked mark e) hm (hlen.symm ▸ hmin) (hlen.symm ▸ hmax)] at h
  have hsensor : (v.followed n).tracker.sensor = (qualify (v.marked mark e)).tracker.sensor :=
    congrArg (·.1.sensor) h
  have hleading : (v.followed n).tracker.leading = (qualify (v.marked mark e)).tracker.leading :=
    congrArg (·.1.leading) h
  have hlink : (v.followed n).tracker.link = (qualify (v.marked mark e)).tracker.link :=
    congrArg (·.1.link) h
  have hnext : (v.followed n).tracker.nextSeq = (qualify (v.marked mark e)).tracker.nextSeq :=
    congrArg (·.1.nextSeq) h
  have hcount (x : TrackerCounter) :
      (v.followed n).counter (.tracker x) = (qualify (v.marked mark e)).counter (.tracker x) :=
    congrFun (congrArg (·.2.2.2) h) x
  by_cases hr : (v.marked mark e).tracker.records.length < 256
  · rw [qualify_room_tracker hr] at hsensor hleading hlink hnext
    refine ⟨hsensor, hleading.trans hlead, fun _ => ⟨hlink, hnext, ?_⟩,
      fun hf => absurd hr (Nat.not_lt.mpr hf)⟩
    rw [hcount, qualify_counter _ rfl, if_pos hr, if_pos rfl]
    rfl
  · rw [qualify_full_tracker (Nat.not_lt.mp hr)] at hsensor hleading hlink hnext
    refine ⟨hsensor, hleading.trans hlead, fun h => absurd h hr, fun _ => ⟨hlink, hnext, ?_⟩⟩
    rw [hcount, qualify_counter _ rfl, if_neg hr, if_pos rfl]
    rfl

theorem followed_goesOn (hq : v.tracker.sensor = .qualified) (hl : length < v.tracker.cfg.maxOcclusion) :
    (v.followed n).tracker.sensor = .qualified ∧
      (v.followed n).counter (.tracker .jams) = v.counter (.tracker .jams) := by
  obtain ⟨mark, e, ha, -⟩ := afterCount_tests htest
  have h := followed_sensed n v
  have hne : v.tracker.sensor ≠ .measuring := by simp [hq]
  rw [ha, occlusionTests_goesOn (s := v.marked mark e) hne fun _ => occlusion_eq hlead hlength ▸ hl] at h
  exact ⟨(congrArg (·.1.sensor) h).trans hq, congrFun (congrArg (·.2.2.2) h) _⟩

/-- A qualified occlusion that reaches the maximum is a jam. -/
theorem followed_jams (hq : v.tracker.sensor = .qualified) (hl : v.tracker.cfg.maxOcclusion ≤ length) :
    (v.followed n).tracker.sensor = .jammed ∧
      (v.followed n).counter (.tracker .jams) = min (v.counter (.tracker .jams) + 1) Config.counterMax ∧
      (∀ x ∈ (v.followed n).tracker.records, v.tracker.link = some x.seq → x.jam = true) ∧
      (v.tracker.cfg.jamPolicy = .holdLine → (v.followed n).hold.present.jam = true) ∧
      (v.tracker.cfg.jamPolicy = .report → (v.followed n).hold.present.jam = v.hold.present.jam) := by
  obtain ⟨mark, e, ha, -⟩ := afterCount_tests htest
  have hlen := occlusion_eq hlead hlength
  rw [occlusionTests_jams (s := v.marked mark e) hq (hlen.symm ▸ hl)] at ha
  have h := followed_sensed n v
  have hmarks := followed_marks n v
  rw [ha] at h hmarks
  have hsensor : (v.followed n).tracker.sensor = (jamFound (v.marked mark e)).tracker.sensor :=
    congrArg (·.1.sensor) h
  have hcount : (v.followed n).counter (.tracker .jams) =
      (jamFound (v.marked mark e)).counter (.tracker .jams) :=
    congrFun (congrArg (·.2.2.2) h) .jams
  have hjam : (v.followed n).hold.present.jam = (jamFound (v.marked mark e)).hold.present.jam :=
    congrArg (·.2.1) h
  refine ⟨?_, ?_, fun x hx hlink => ?_, fun hp => ?_, fun hp => ?_⟩
  · rw [hsensor, jamFound_tracker]
    rfl
  · rw [hcount, jamFound_counter _ rfl, if_pos rfl]
    rfl
  · have hmem := hmarks.subset (List.mem_map_of_mem hx)
    rw [State.marks, jamFound_tracker] at hmem
    obtain ⟨y, hy, hyx⟩ := List.mem_map.mp hmem
    have hseq : y.seq = x.seq := congrArg Prod.fst hyx
    have hflag : y.jam = x.jam := congrArg (·.2.2) hyx
    rw [← hflag]
    exact flagged_jam hy (hseq ▸ hlink)
  · exact hjam.trans (jamFound_holds hp)
  · rw [hjam, jamFound_reports (s := v.marked mark e) hp]
    rfl

end

end Sys2Proof.Machine
end

section
/-! What a transition of the encoder makes of the cameras' outputs, and the statement about counts (R111,
R117, R120 to R123, R132 to R134, R142). -/

namespace Sys2Proof.Machine

/-! ## A camera's output after a count (R132 to R134) -/

section
variable (n : Int) {v : State} {c : CameraId} {l rest : List TrackRec} {r : TrackRec}
  (hs : v.tracker.records = l ++ r :: rest) (hl : ∀ x ∈ l, x.seq ≠ v.cameras[c].pointer)
  (hr : r.seq = v.cameras[c].pointer)
include hs hl hr

/-- The output of a camera that is disabled, or whose record is not reached, stays as it was. -/
theorem followed_output_kept (h : ¬v.reaches c r ∨ v.cameras[c].cfg.enabled = false) :
    (v.followed n).outputSide c = v.outputSide c := by
  obtain ⟨u, r', rest', more, hside, hposition, hclock, hr', hrest', hout⟩ := followed_scan n hs hl hr
  have hu : u.cameras[c] = v.cameras[c] := congrArg Prod.fst hside
  have hsame := outputSide_of_cameraSide hside
  rw [hout, ← hsame]
  obtain h | h := h
  · rw [triggerScan_stops]
    rintro x ⟨⟩
    rwa [State.reaches, hu, hposition, hr']
  · obtain ⟨hp, hc⟩ := triggerScan_disabled (r' :: rest') (s := u) (hu ▸ h)
    exact Prod.ext hp (funext hc)

/-- An enabled and idle camera whose record is reached fires once. -/
theorem followed_output_fires (h : v.reaches c r) (he : v.cameras[c].cfg.enabled = true)
    (hi : v.cameras[c].pulseEnd = none) :
    (v.followed n).cameras[c].pulseEnd = some (v.clock.run + v.cameras[c].cfg.pulseWidth) ∧
      (v.followed n).counter (.camera c .triggersFired) =
        min (v.counter (.camera c .triggersFired) + 1) Config.counterMax := by
  obtain ⟨u, r', rest', more, hside, hposition, hclock, hr', hrest', hout⟩ := followed_scan n hs hl hr
  have hu : u.cameras[c] = v.cameras[c] := congrArg Prod.fst hside
  have hfired : u.counter (.camera c .triggersFired) = v.counter (.camera c .triggersFired) :=
    congrFun (congrArg Prod.snd hside) _
  have hreach : u.reaches c r' := by rwa [State.reaches, hu, hposition, hr']
  obtain ⟨more, far, rfl, hm, hf⟩ := exists_reached c u rest'
  obtain ⟨hcamera, hcount, -⟩ := triggerScan_idle (hu ▸ he) (hu ▸ hi)
    (List.forall_mem_cons.mpr ⟨hreach, hm⟩) hf
  refine ⟨(congrArg Prod.fst hout).trans ?_, (congrFun (congrArg Prod.snd hout) _).trans ?_⟩
  · rw [State.outputSide, hcamera, hclock, hu]
  · exact hfired ▸ hcount

/-- An enabled and busy camera whose record is reached keeps its output, and skips that record alone when
the next one is not reached. -/
theorem followed_output_busy (h : v.reaches c r) (he : v.cameras[c].cfg.enabled = true)
    (hb : v.cameras[c].pulseEnd.isSome = true) :
    (v.followed n).cameras[c].pulseEnd = v.cameras[c].pulseEnd ∧
      (v.followed n).counter (.camera c .triggersFired) = v.counter (.camera c .triggersFired) ∧
      ∀ x, rest.head? = some x → ¬v.reaches c x → (v.followed n).counter (.camera c .triggersSkipped) =
        min (v.counter (.camera c .triggersSkipped) + 1) Config.counterMax := by
  obtain ⟨u, r', rest', more, hside, hposition, hclock, hr', hrest', hout⟩ := followed_scan n hs hl hr
  have hu : u.cameras[c] = v.cameras[c] := congrArg Prod.fst hside
  have hcounter (x : CameraCounter) : u.counter (.camera c x) = v.counter (.camera c x) :=
    congrFun (congrArg Prod.snd hside) x
  have hreach : u.reaches c r' := by rwa [State.reaches, hu, hposition, hr']
  obtain ⟨passed, far, e, hm, hf⟩ := exists_reached c u rest'
  have hscan := triggerScan_busy (c := c) (far := far) (r' :: passed) (s := u) (hu ▸ he) (hu ▸ hb)
    (List.forall_mem_cons.mpr ⟨hreach, hm⟩) hf
  rw [List.cons_append, ← e] at hscan
  obtain ⟨hcamera, hfired, hskipped⟩ := hscan
  refine ⟨(congrArg Prod.fst hout).trans ?_,
    (congrFun (congrArg Prod.snd hout) _).trans (hfired.trans (hcounter _)),
    fun x hx hnot => (congrFun (congrArg Prod.snd hout) _).trans (hskipped.trans ?_)⟩
  · rw [State.outputSide, hcamera, hu]
  · obtain ⟨tail, rfl⟩ := List.head?_eq_some_iff.mp hx
    rw [List.map_cons, List.cons_append] at hrest'
    obtain ⟨x', tail', rfl, hx', -⟩ := List.map_eq_cons_iff.mp hrest'
    have hnone : passed = [] := by
      cases passed with
      | nil => rfl
      | cons y passed =>
        rw [List.cons_append, List.cons.injEq] at e
        obtain ⟨rfl, -⟩ := e
        have hy := hm x' List.mem_cons_self
        have hx'' : x'.position = x.position := congrArg Prod.snd hx'
        rw [State.reaches, hu, hposition, hx''] at hy
        exact absurd hy hnot
    rw [hnone, if_neg (List.cons_ne_nil _ _), hcounter]
    rfl

end

/-! ## The test of a trigger at its pointer (R132 to R134) -/

theorem skipVerdict_eq (v : VerdictState) :
    skipVerdict v = if v = .pending ∨ v = .pass then .noImage else v := by
  cases v <;> rfl

theorem modCamera_unanswered {s t : State} (h : s.unanswered = t.unanswered) (c : CameraId)
    (f : Camera → Camera) : (s.modCamera c f).unanswered = (t.modCamera c f).unanswered := by
  have e (u : State) : (u.modCamera c f).unanswered = u.unanswered.modCamera c f := by
    rw [State.unanswered, State.unanswered]
    rfl
  rw [e, e, h]

theorem modCamera_uncounted {s t : State} (h : s.uncounted = t.uncounted) (c : CameraId)
    (f : Camera → Camera) : (s.modCamera c f).uncounted = (t.modCamera c f).uncounted := by
  have e (u : State) : (u.modCamera c f).uncounted = u.uncounted.modCamera c f := rfl
  rw [e, e, h]

/-- A fire with the pointer's move. -/
theorem fired_pointer (c : CameraId) (q : BitVec 32) (s : State) :
    ((fireTrigger c q s).modCamera c fun k => { k with pointer := k.pointer + 1 }).unanswered =
      ((s.modRecord q fun x => { x with triggered := x.triggered.set c true }).modCamera c fun k =>
        { k with pulseEnd := some (s.clock.run + k.cfg.pulseWidth)
                 pointer := k.pointer + 1 }).unanswered := by
  have h : ((fireTrigger c q s).modCamera c fun k => { k with pointer := k.pointer + 1 }).unanswered =
      ((s.fired c q).modCamera c fun k => { k with pointer := k.pointer + 1 }).unanswered :=
    modCamera_unanswered (fireTrigger_unanswered c q s) c _
  rw [h, State.fired]
  simp only [State.modCamera, upd_upd]

/-- A skip with the pointer's move. -/
theorem skipped_pointer (c : CameraId) (q : BitVec 32) (s : State) :
    ((skipTrigger c q s).modCamera c fun k => { k with pointer := k.pointer + 1 }).uncounted =
      ((s.modRecord q fun x => { x with verdicts := upd x.verdicts c fun v =>
          if v = .pending ∨ v = .pass then .noImage else v }).modCamera c
        fun k => { k with pointer := k.pointer + 1 }).uncounted := by
  have h : ((skipTrigger c q s).modCamera c fun k => { k with pointer := k.pointer + 1 }).uncounted =
      ((s.skipped c q).modCamera c fun k => { k with pointer := k.pointer + 1 }).uncounted :=
    modCamera_uncounted (skipTrigger_uncounted c q s) c _
  rw [h, State.skipped, ← funext skipVerdict_eq]

section
variable {c : CameraId} {s : State} {l rest : List TrackRec} {r : TrackRec}
  (hs : s.tracker.records = l ++ r :: rest) (hl : ∀ x ∈ l, x.seq ≠ s.cameras[c].pointer)
  (hr : r.seq = s.cameras[c].pointer)
include hs hl hr

theorem testTrigger_early (h : ¬s.reaches c r) : testTrigger c s = s := by
  rw [testTrigger_at hs hl hr]
  exact triggerScan_stops (by rintro x ⟨⟩; exact h)

theorem testTrigger_passes (h : s.reaches c r) (hrest : ∀ x, rest.head? = some x → ¬s.reaches c x) :
    testTrigger c s = passRecord c r s := by
  rw [testTrigger_at hs hl hr, triggerScan_one h hrest]

end

/-! ## The position (R111) -/

/-- A legal transition whose count is not 0 moves the position by it. -/
theorem exec_encoderTransition_position {a b : Bool} {s : State} {n : Int}
    (hn : ¬(s.tracker.phaseA = a ∧ s.tracker.phaseB = b))
    (hl : illegalTransition s.tracker.phaseA s.tracker.phaseB a b = false)
    (hc : s.countOf a b = n) (h0 : n ≠ 0) :
    ∃ t, exec (.encoderTransition a b) s = .next t ∧ t.tracker.phaseA = a ∧ t.tracker.phaseB = b ∧
      t.tracker.position = s.tracker.position + BitVec.ofInt 32 n := by
  rw [exec_encoderTransition_legal hn hl, hc, if_neg h0]
  exact ⟨_, rfl, followed_phaseA .., followed_phaseB .., followed_position ..⟩

theorem exec_encoderTransition_uncounted {a b : Bool} {s : State}
    (hn : ¬(s.tracker.phaseA = a ∧ s.tracker.phaseB = b))
    (hl : illegalTransition s.tracker.phaseA s.tracker.phaseB a b = false) (hc : s.countOf a b = 0) :
    exec (.encoderTransition a b) s = .next (s.levelled a b) := by
  rw [exec_encoderTransition_legal hn hl, if_pos hc]

/-- A count of one forward, or in reverse, is told by where the position goes. -/
theorem count_forward {n : Int} {p : Position} (hn : n = 1 ∨ n = -1)
    (h : p + BitVec.ofInt 32 n = p + 1) : n = 1 := by
  obtain rfl | rfl := hn
  · rfl
  · exact absurd (add_left_cancel h) (by decide)

theorem count_reverse {n : Int} {p : Position} (hn : n = 1 ∨ n = -1)
    (h : p + BitVec.ofInt 32 n = p + BitVec.ofInt 32 (-1)) : n = -1 := by
  obtain rfl | rfl := hn
  · exact absurd (add_left_cancel h) (by decide)
  · rfl

theorem encoderTransition_moves (a b : Bool) (s : State) (old : Bool × Bool)
    (ho : old = (s.tracker.phaseA, s.tracker.phaseB)) :
    (nextLevels old = (a, b) → countsForward s.tracker.cfg.mode old = true →
      ∃ t, exec (.encoderTransition a b) s = .next t ∧ t.tracker.phaseA = a ∧ t.tracker.phaseB = b ∧
        t.tracker.position =
          s.tracker.position + if s.tracker.cfg.invert then BitVec.ofInt 32 (-1) else 1) ∧
    (nextLevels (a, b) = old → countsForward s.tracker.cfg.mode (a, b) = true →
      ∃ t, exec (.encoderTransition a b) s = .next t ∧ t.tracker.phaseA = a ∧ t.tracker.phaseB = b ∧
        t.tracker.position =
          s.tracker.position + if s.tracker.cfg.invert then 1 else BitVec.ofInt 32 (-1)) ∧
    (nextLevels old = (a, b) ∧ countsForward s.tracker.cfg.mode old = false ∨
        nextLevels (a, b) = old ∧ countsForward s.tracker.cfg.mode (a, b) = false →
      exec (.encoderTransition a b) s = .next (s.levelled a b)) := by
  subst ho
  refine ⟨fun h hc => ?_, fun h hc => ?_, ?_⟩
  · obtain ⟨hl, hn⟩ := nextLevels_legal h
    have hcount : s.countOf a b = if s.tracker.cfg.invert then -1 else 1 := by
      rw [State.countOf, quadCount_next _ h, hc, if_pos rfl]
    convert exec_encoderTransition_position hn hl hcount (by split_ifs <;> decide) using 7
    split_ifs <;> rfl
  · obtain ⟨hl, hn⟩ := previousLevels_legal h
    have hcount : s.countOf a b = if s.tracker.cfg.invert then 1 else -1 := by
      rw [State.countOf, quadCount_previous _ h, hc, if_pos rfl]
      rfl
    convert exec_encoderTransition_position hn hl hcount (by split_ifs <;> decide) using 7
    split_ifs <;> rfl
  · rintro (⟨h, hc⟩ | ⟨h, hc⟩)
    · obtain ⟨hl, hn⟩ := nextLevels_legal h
      refine exec_encoderTransition_uncounted hn hl ?_
      simp [State.countOf, quadCount_next _ h, hc]
    · obtain ⟨hl, hn⟩ := previousLevels_legal h
      refine exec_encoderTransition_uncounted hn hl ?_
      simp [State.countOf, quadCount_previous _ h, hc]

/-! ## The statement -/

/-- Settles O19: a transition moves the position by the table; what follows from a count is what the count
leaves of the mark and the occlusion, the scan of each camera, and the decisions of a forward one. -/
theorem encoderCountsByTable : Obligations.EncoderCountsByTable := by
  refine ⟨encoderTransition_moves, fun a b s t d ht hp hd => ?_, fun c s h => testTrigger_nowhere h,
    fun c s l rest r hs hl hr => ⟨fun h => testTrigger_early hs hl hr (Int.not_le.mpr h), fun h hrest => ?_,
      fun more far hmore hm hf he hi => ?_, fun a b t ht hp => ?_⟩⟩
  · obtain ⟨n, hn, rfl⟩ := exec_encoderTransition_moves ht hp
    have hposition : ((s.counted a b n).followed n).tracker.position =
        s.tracker.position + BitVec.ofInt 32 n := followed_position ..
    have hd' : d = distance (s.counted a b n).tracker.highWater (s.counted a b n).tracker.position := by
      rw [hd, hposition]; rfl
    refine ⟨fun h => ?_, fun h => ?_, followed_excursions n hd', followed_begins n hd',
      fun h r hr => ?_, fun h r hr => ?_,
      fun lead length hlead hlength htest => ?_⟩
    · rw [followed_highWater n hd', followed_excursion n hd', if_pos h, if_pos h, hposition]
      exact ⟨rfl, rfl⟩
    · rw [followed_highWater n hd', followed_excursion n hd', if_neg (Int.not_lt.mpr h),
        if_neg (Int.not_lt.mpr h)]
      exact ⟨rfl, by simp [State.counted, State.moved, State.levelled]⟩
    · obtain rfl := count_forward hn (hposition ▸ h)
      exact (isDue_eq_false_iff _ _).mp (followed_head hr)
    · obtain rfl := count_reverse hn (hposition ▸ h)
      exact followed_reverse_keeps (v := s.counted a b (-1)) hr
    · rw [hposition] at hlength
      have htest' : 0 ≤ distance (s.counted a b n).tracker.highWater
          (s.counted a b n).tracker.position ∨ (s.counted a b n).tracker.excursion = true := hd' ▸ htest
      refine ⟨fun hm => ⟨fun hmin => ?_, fun hmin hmax => ?_⟩,
        fun hq => ⟨fun hmax => ?_, fun hmax => ?_⟩⟩
      · obtain ⟨hsensor, hkeeps, hnext, hcount⟩ :=
          followed_short n (v := s.counted a b n) hlead hlength htest' hm hmin
        exact ⟨hsensor, hkeeps, hnext, hcount _, hcount _⟩
      · exact followed_qualifies n (v := s.counted a b n) hlead hlength htest' hm hmin hmax
      · exact followed_goesOn n (v := s.counted a b n) hlead hlength htest' hq hmax
      · exact followed_jams n (v := s.counted a b n) hlead hlength htest' hq hmax
  · have hpass := testTrigger_passes hs hl hr h fun x hx => Int.not_le.mpr (hrest x hx)
    rw [hpass]
    refine ⟨fun he => passRecord_disabled r he, fun he hi => ?_, fun he hb => ?_⟩
    · rw [passRecord_idle r he hi]
      refine ⟨fired_pointer .., (State.modCamera_mgmt ..).trans (fireTrigger_mgmt ..), ?_⟩
      rw [counter_congr (State.modCamera_counters ..), fireTrigger_counter _ _ _ _ rfl, if_pos rfl]
    · rw [passRecord_busy r he hb]
      exact ⟨skipped_pointer .., (skipTrigger_effects c r.seq s).congr (State.modCamera_counters ..)
        (State.modCamera_notices ..)⟩
  · subst hmore
    obtain ⟨hcamera, hfired, hskipped⟩ := triggerScan_idle he hi hm fun x hx => Int.not_le.mpr (hf x hx)
    rw [testTrigger_at hs hl hr, hcamera]
    exact ⟨rfl, rfl, hfired, hskipped⟩
  · obtain ⟨n, hn, rfl⟩ := exec_encoderTransition_moves ht hp
    rw [followed_position]
    refine ⟨fun h => ?_, fun h he =>
      ⟨followed_output_fires n (v := s.counted a b n) hs hl hr h he, fun hb => ?_⟩⟩
    · have hout := followed_output_kept n (v := s.counted a b n) hs hl hr (h.imp_left Int.not_le.mpr)
      exact ⟨congrArg Prod.fst hout, congrFun (congrArg Prod.snd hout) _,
        congrFun (congrArg Prod.snd hout) _⟩
    · obtain ⟨hpulse, hfired, hskipped⟩ := followed_output_busy n (v := s.counted a b n) hs hl hr h he hb
      exact ⟨hpulse, hfired, fun x hx hnot => hskipped x hx (Int.not_le.mpr hnot)⟩

end Sys2Proof.Machine
end

section
/-! The ends of the trigger pulses and of the ejector's timed states, and the dwell test after a count (R133,
R145, R146, R148). -/

namespace Sys2Proof.Machine

/-! ## Trigger pulses (R133) -/

theorem exec_triggerPulseEnd_over {c : CameraId} {s : State} {e : Nat} (h : s.cameras[c].pulseEnd = some e)
    (hle : e ≤ s.clock.run) :
    exec (.triggerPulseEnd c) s = .next (s.modCamera c fun k => { k with pulseEnd := none }) := by
  have hover : s.pulseOver c = true := by
    rw [State.pulseOver, h]
    exact decide_eq_true hle
  simp only [exec, execTriggerPulseEnd, hover, if_true]

theorem exec_triggerPulseEnd_early {c : CameraId} {s : State} {e : Nat} (h : s.cameras[c].pulseEnd = some e)
    (hlt : s.clock.run < e) : exec (.triggerPulseEnd c) s = .next s := by
  have hover : s.pulseOver c = false := by
    rw [State.pulseOver, h]
    exact decide_eq_false (Nat.not_le.mpr hlt)
  simp only [exec, execTriggerPulseEnd, hover, Bool.false_eq_true, if_false]

/-! ## The timed states of the ejector (R145, R146) -/

section
variable {s : State}

theorem phaseOver_early (x : EjectState) (h : s.clock.run < s.reject.phaseEnd) : s.phaseOver x = false := by
  simp [State.phaseOver, h]

theorem phaseOver_due {x : EjectState} (h : s.reject.phaseEnd ≤ s.clock.run) (hx : s.reject.state = x) :
    s.phaseOver x = true := by
  simp [State.phaseOver, h, hx]

/-- EXTENDING has ended: EJECT_A is released now. -/
def State.extended (s : State) : State :=
  s.modReject fun x => { x with state := .diverted, releaseA := some s.clock.run }

/-- RETRACTING has ended: EJECT_B is released now. -/
def State.retracted (s : State) : State :=
  s.modReject fun x =>
    { x with state := if x.extendPending then .extendWait else .rest, releaseB := some s.clock.run }

variable (h : s.reject.phaseEnd ≤ s.clock.run)
include h

theorem exec_blastEnd_due (hx : s.reject.state = .blasting) : exec .blastEnd s =
    .next (s.modReject fun x => { x with state := .rest, releaseA := some s.clock.run }) := by
  simp only [exec, execBlastEnd, phaseOver_due h hx, if_true]

theorem exec_extendTimeEnd_due (hx : s.reject.state = .extending) :
    exec .extendTimeEnd s = .next (dwellTest s.extended) := by
  simp only [exec, execExtendTimeEnd, phaseOver_due h hx, if_true]
  rfl

theorem exec_retractTimeEnd_due (hx : s.reject.state = .retracting) :
    exec .retractTimeEnd s = .next (leaveWaits s.retracted) := by
  simp only [exec, execRetractTimeEnd, phaseOver_due h hx, if_true]
  rfl

end

/-- With a release at the run time now, the other output may be asserted just when the non-overlap time is 0
and the inhibit is over (R148). -/
theorem extended_mayRetract_iff (s : State) : s.extended.mayRetract = true ↔
    s.reject.cfg.nonOverlap = 0 ∧ s.reject.inhibitEnd ≤ s.clock.run := by
  rw [mayRetract_iff]
  simp [State.extended, and_comm]

theorem retracted_mayExtend_iff (s : State) : s.retracted.mayExtend = true ↔
    s.reject.cfg.nonOverlap = 0 ∧ s.reject.inhibitEnd ≤ s.clock.run := by
  rw [mayExtend_iff]
  simp [State.retracted, and_comm]

/-- Not both of them hold. -/
theorem not_released {s : State} (h : 0 < s.reject.cfg.nonOverlap ∨ s.clock.run < s.reject.inhibitEnd) :
    ¬(s.reject.cfg.nonOverlap = 0 ∧ s.reject.inhibitEnd ≤ s.clock.run) := by omega

/-- A dwell that is travelled as EXTENDING ends. -/
theorem extendTimeEnd_travelled {s : State} {d : Position} (h : s.reject.phaseEnd ≤ s.clock.run)
    (hx : s.reject.state = .extending) (hd : s.reject.dwellStart = some d)
    (hl : (s.reject.cfg.dwell : Int) ≤ (s.tracker.position - d).toInt) :
    (s.reject.cfg.nonOverlap = 0 → s.reject.inhibitEnd ≤ s.clock.run →
      Completes .extendTimeEnd s (s.modReject fun x =>
        { x with state := .retracting, releaseA := some s.clock.run
                 phaseEnd := s.clock.run + x.cfg.retractTime * 1000 }) [.reject .retractsMade] []) ∧
    (0 < s.reject.cfg.nonOverlap ∨ s.clock.run < s.reject.inhibitEnd →
      exec .extendTimeEnd s = .next (s.modReject fun x =>
        { x with state := .retractWait, releaseA := some s.clock.run })) := by
  have hexec : exec .extendTimeEnd s = .next (if s.extended.mayRetract then startRetract s.extended.dwelt
      else s.extended.dwelt) := by
    rw [exec_extendTimeEnd_due h hx, dwellTest_leaves (s := s.extended) rfl hd hl]
  refine ⟨fun hn hi => ?_, fun hw => ?_⟩
  · refine completes_of_counts [.reject .retractsMade] ?_ rfl rfl (by simp [CounterRef.ofNotices])
    rw [hexec, if_pos ((extended_mayRetract_iff s).mpr ⟨hn, hi⟩)]
    rfl
  · rw [hexec, if_neg ((extended_mayRetract_iff s).not.mpr (not_released hw))]
    rfl

/-- RETRACTING ends, with an extend pending or without. -/
theorem retractTimeEnd_pending {s : State} (h : s.reject.phaseEnd ≤ s.clock.run)
    (hx : s.reject.state = .retracting) (hp : s.reject.extendPending = true) :
    (s.reject.cfg.nonOverlap = 0 → s.reject.inhibitEnd ≤ s.clock.run →
      Completes .retractTimeEnd s (s.modReject fun x =>
        { x with state := .extending, extendPending := false, releaseB := some s.clock.run
                 phaseEnd := s.clock.run + x.cfg.extendTime * 1000 }) [.reject .extendsMade] []) ∧
    (0 < s.reject.cfg.nonOverlap ∨ s.clock.run < s.reject.inhibitEnd →
      exec .retractTimeEnd s = .next (s.modReject fun x =>
        { x with state := .extendWait, releaseB := some s.clock.run })) := by
  have hwait : s.retracted = s.modReject fun x =>
      { x with state := .extendWait, releaseB := some s.clock.run } := by
    simp only [State.retracted, State.modReject, hp, if_true]
  have hexec : exec .retractTimeEnd s = .next (if s.retracted.mayExtend then startExtend s.retracted
      else s.retracted) := by
    have hstate : s.retracted.reject.state = .extendWait := by rw [hwait]; rfl
    rw [exec_retractTimeEnd_due h hx, leaveWaits, hstate]
  refine ⟨fun hn hi => ?_, fun hw => ?_⟩
  · refine completes_of_counts [.reject .extendsMade] ?_ rfl rfl (by simp [CounterRef.ofNotices])
    rw [hexec, if_pos ((retracted_mayExtend_iff s).mpr ⟨hn, hi⟩), hwait]
    rfl
  · rw [hexec, if_neg ((retracted_mayExtend_iff s).not.mpr (not_released hw)), hwait]

theorem retractTimeEnd_rests {s : State} (h : s.reject.phaseEnd ≤ s.clock.run)
    (hx : s.reject.state = .retracting) (hp : s.reject.extendPending = false) :
    exec .retractTimeEnd s =
      .next (s.modReject fun x => { x with state := .rest, releaseB := some s.clock.run }) := by
  have hrest : s.retracted = s.modReject fun x =>
      { x with state := .rest, releaseB := some s.clock.run } := by
    simp [State.retracted, State.modReject, hp]
  rw [exec_retractTimeEnd_due h hx, hrest]
  rfl

/-! ## The dwell test after a count (R146) -/

/-- A gate that was in DIVERTED is there still when the fires of a count are done. -/
theorem followed_dwells (n : Int) {v : State} (hm : v.reject.cfg.mode = .diverter)
    (hx : v.reject.state = .diverted) : ∃ u, v.followed n = dwellTest u ∧ StaysDiverted v u := by
  have hejecting := tested_ejecting v
  have hsensed := (tested_sensed v).trans (followed_sensed n v).symm
  have hreject : v.tested.reject = v.reject := congrArg Prod.fst hejecting
  have htested : StaysDiverted v v.tested :=
    { reject := by rw [hreject]
      dwellStart := .inl (by rw [hreject])
      position := (congrArg (·.1.position) hsensed).trans (followed_position n v)
      clock := (congrArg (·.2.2.1) (tested_sensed v)).trans (congrArg (·.2.2.1) (afterCount_downstream v))
      retracts := congrFun (congrArg Prod.snd hejecting) _ }
  by_cases hn : 0 < n
  · refine ⟨_, by rw [State.followed, if_pos hn],
      htested.trans (decideDue_staysDiverted _ ?_ ?_)⟩ <;> rwa [hreject]
  · exact ⟨_, by rw [State.followed, if_neg hn], htested⟩

/-- A reverse count, or one after which the head is not due while no occlusion is measured, fires nothing. -/
theorem followed_unfired {n : Int} {v : State} (h : n = -1 ∨
    v.tracker.sensor ≠ .measuring ∧ ∀ r, v.tracker.records.head? = some r → v.isDue r = false) :
    v.followed n = dwellTest v.tested := by
  obtain rfl | ⟨hs, hd⟩ := h
  · exact followed_reverse v
  by_cases hn : 0 < n
  · have hnone : decideDue v.tested.tracker.records v.tested = v.tested := by
      refine decideDue_none fun r hr => ?_
      obtain ⟨more, hplaces, hmore⟩ := afterCount_places v
      rw [hmore hs, List.append_nil, ← places_of_marks (tested_marks v)] at hplaces
      have hhead := congrArg List.head? hplaces
      rw [List.head?_map, List.head?_map, hr] at hhead
      obtain ⟨r', hr', hplace⟩ := Option.map_eq_some_iff.mp hhead.symm
      have hreject : v.tested.reject = v.reject := congrArg Prod.fst (tested_ejecting v)
      have hposition : v.tested.tracker.position = v.tracker.position :=
        (congrArg (·.1.position) ((tested_sensed v).trans (followed_sensed n v).symm)).trans
          (followed_position n v)
      have hr'' : r'.position = r.position := congrArg Prod.snd hplace
      have := hd r' hr'
      rwa [State.isDue, hr'', ← hposition, ← hreject] at this
    rw [State.followed, if_pos hn, hnone]
  · rw [State.followed, if_neg hn]

/-- The dwell test of a gate that its fires have left in DIVERTED. -/
theorem StaysDiverted.dwells {s u : State} (hu : StaysDiverted s u) (hx : s.reject.state = .diverted)
    {d : Position} (hd : u.reject.dwellStart = some d) :
    (distance d s.tracker.position < s.reject.cfg.dwell → dwellTest u = u) ∧
    ((s.reject.cfg.dwell : Int) ≤ distance d s.tracker.position →
      dwellTest u = if s.mayRetract then startRetract u.dwelt else u.dwelt) := by
  have hstate : u.reject.state = .diverted := by rw [hu.reject]; exact hx
  have hdwell : u.reject.cfg.dwell = s.reject.cfg.dwell := by rw [hu.reject]
  have hmay : u.mayRetract = s.mayRetract := by
    rw [State.mayRetract, State.mayRetract, hu.reject, hu.clock]
  exact ⟨fun hl => dwellTest_stays hstate hd (by rwa [hu.position, hdwell]),
    fun hl => hmay ▸ dwellTest_leaves hstate hd (by rwa [hu.position, hdwell])⟩

/-- The gate after the dwell test, by whether the dwell is travelled and whether it may retract. -/
theorem StaysDiverted.outcome {s u : State} (hu : StaysDiverted s u) (hx : s.reject.state = .diverted)
    {d : Position} (hd : u.reject.dwellStart = some d) :
    (distance d s.tracker.position < s.reject.cfg.dwell → (dwellTest u).reject.state = .diverted ∧
      (dwellTest u).counter (.reject .retractsMade) = s.counter (.reject .retractsMade)) ∧
    ((s.reject.cfg.dwell : Int) ≤ distance d s.tracker.position →
      (s.mayRetract = true → (dwellTest u).reject.state = .retracting ∧
        (dwellTest u).reject.phaseEnd = s.clock.run + s.reject.cfg.retractTime * 1000 ∧
        (dwellTest u).counter (.reject .retractsMade) =
          min (s.counter (.reject .retractsMade) + 1) Config.counterMax) ∧
      (s.mayRetract = false → (dwellTest u).reject.state = .retractWait ∧
        (dwellTest u).counter (.reject .retractsMade) = s.counter (.reject .retractsMade))) := by
  obtain ⟨hstay, hleave⟩ := hu.dwells hx hd
  refine ⟨fun hl => ?_, fun hl => ⟨fun hmay => ?_, fun hmay => ?_⟩⟩
  · rw [hstay hl]
    exact ⟨by rw [hu.reject]; exact hx, hu.retracts⟩
  · have hretract : (startRetract u.dwelt).reject = { u.reject with
        state := .retracting, phaseEnd := u.clock.run + u.reject.cfg.retractTime * 1000 } := bump_reject ..
    have htime : u.reject.cfg.retractTime = s.reject.cfg.retractTime := by rw [hu.reject]
    rw [hleave hl, hmay, if_pos rfl, hretract, ← hu.retracts, ← hu.clock, ← htime]
    exact ⟨rfl, rfl, bump_counter _ _ _ rfl⟩
  · rw [hleave hl, hmay, if_neg Bool.false_ne_true]
    exact ⟨rfl, hu.retracts⟩

/-- Settles O23: the ends of the timed outputs, each from the state that is timed; and after a count the
dwell test on the state that its fires leave. -/
theorem timedOutputsEnd : Obligations.TimedOutputsEnd := by
  refine ⟨fun c s => ⟨fun e he hle => ?_, fun e he hlt => ?_⟩,
    fun s h => ⟨fun hx => ?_, fun d hx hd hl => ?_,
      fun d hx hd hl => extendTimeEnd_travelled h hx hd hl, fun hx hp => ?_,
      fun hx hp => retractTimeEnd_pending h hx hp⟩,
    fun s h => ?_, fun a b s t ht hp hm hx => ?_⟩
  · refine ⟨_, exec_triggerPulseEnd_over he hle, ?_, rfl⟩
    rw [State.camTrig, State.modCamera_camera]
    rfl
  · refine ⟨exec_triggerPulseEnd_early he hlt, ?_⟩
    rw [State.camTrig, he]
    rfl
  · exact ⟨by rw [State.ejectA, hx]; rfl, _, exec_blastEnd_due h hx, rfl, rfl⟩
  · refine ⟨by rw [State.ejectA, hx]; rfl, _, ?_, rfl, rfl⟩
    rw [exec_extendTimeEnd_due h hx, dwellTest_stays (s := s.extended) rfl hd hl]
    rfl
  · exact ⟨by rw [State.ejectB, hx]; rfl, _, retractTimeEnd_rests h hx hp, rfl, rfl⟩
  · simp only [exec, execBlastEnd, execExtendTimeEnd, execRetractTimeEnd, phaseOver_early _ h,
      Bool.false_eq_true, if_false, and_self]
  · obtain ⟨n, hn, rfl⟩ := exec_encoderTransition_moves ht hp
    have hv := followed_position n (s.counted a b n)
    obtain ⟨u, hu, hstays⟩ := followed_dwells n (v := s.counted a b n) hm hx
    have hunfired := followed_unfired (n := n) (v := s.counted a b n)
    obtain ⟨state, phaseEnd, hreject⟩ := dwellTest_reject u
    have hdwell := dwellTest_dwellStart u
    have hmay : (s.counted a b n).mayRetract = s.mayRetract := rfl
    refine ⟨?_, fun h => ?_, ?_, ?_, fun d hd => ?_⟩
    · rw [hv, hu, hdwell]
      exact hstays.dwellStart
    · have hquiet := h.imp (fun e => count_reverse hn (hv ▸ e)) fun ⟨hsensor, hdue⟩ =>
        (⟨hsensor, fun r hr => (isDue_eq_false_iff (s.counted a b n) r).mpr (hv ▸ hdue r hr)⟩ : _ ∧ _)
      rw [hunfired hquiet, dwellTest_dwellStart]
      exact congrArg (·.1.dwellStart) (tested_ejecting (s.counted a b n))
    · rw [hu, hreject, hstays.reject]
      rfl
    · rw [hu, hreject, hstays.reject]
      rfl
    · rw [hu, hdwell] at hd
      obtain ⟨hbelow, htravelled⟩ := hstays.outcome hx hd
      rw [hv, hu]
      refine ⟨hbelow, fun hl => ⟨fun hi ha => ?_, fun hw => ?_⟩⟩
      · exact (htravelled hl).1 (hmay.trans ((mayRetract_iff s).mpr ⟨hi, ha⟩))
      · refine (htravelled hl).2 (hmay.trans (Bool.eq_false_of_not_eq_true fun h => ?_))
        obtain ⟨hi, ha⟩ := (mayRetract_iff s).mp h
        obtain hw | ⟨x, hx, hw⟩ := hw
        exacts [absurd hi (Nat.not_le.mpr hw), absurd (ha x hx) (Nat.not_le.mpr hw)]

end Sys2Proof.Machine
end

section
/-! CLOSE SERVICE WINDOW from the line controller (R155, R157). -/

namespace Sys2Proof.Machine

/-! ## The port that the request names -/

theorem windowOf_val (w : WindowId) : windowOf (10 + w.val) = .ok w := by
  fin_cases w <;> rfl

theorem windowOf_other {n : Nat} (h10 : n ≠ 10) (h11 : n ≠ 11) : windowOf n = .error .badIndex := by
  rw [windowOf, if_neg h10, if_neg h11]

/-! ## The act of a request that is not the technician's -/

section
variable {s : State} {q : Request}

theorem technician_line (h : q.port.val < 10) : q.technician = false :=
  decide_eq_false (Nat.not_le.mpr h)

theorem actCloseWindow_other {n : Nat} (hn : n < 256) (hb : q.body = beBytes 1 n) (h10 : n ≠ 10)
    (h11 : n ≠ 11) (hl : q.port.val < 10) : actCloseWindow q s = (s, .bare .badIndex) := by
  unfold actCloseWindow
  rw [technician_line hl, field_robot hn hb, windowOf_other h10 h11]
  rfl

variable {w : WindowId}

/-- One that names a service port is left with the check of its window's state. -/
theorem actCloseWindow_port (hb : q.body = beBytes 1 (10 + w.val)) (hl : q.port.val < 10) :
    actCloseWindow q s = orRefuse s (need s.windows[w].isOpen .wrongState >>= fun _ =>
      pure (taken (closeWindow w .controller s) [])) := by
  unfold actCloseWindow
  rw [technician_line hl, field_robot (by omega) hb, windowOf_val]
  rfl

theorem actCloseWindow_closed (hb : q.body = beBytes 1 (10 + w.val)) (h : s.windows[w].state = .closed)
    (hl : q.port.val < 10) : actCloseWindow q s = (s, .bare .wrongState) := by
  have hopen : s.windows[w].isOpen = false := decide_eq_false (not_not.mpr h)
  rw [actCloseWindow_port hb hl, hopen]
  rfl

theorem actCloseWindow_open (hb : q.body = beBytes 1 (10 + w.val)) (h : s.windows[w].state ≠ .closed)
    (hl : q.port.val < 10) : actCloseWindow q s = (closeWindow w .controller s, .bare .ok) := by
  have hopen : s.windows[w].isOpen = true := decide_eq_true h
  rw [actCloseWindow_port hb hl, hopen]
  rfl

/-! ## The command -/

/-- The close that follows a technician's answer (R160) leaves a line port's request as it was answered. -/
theorem closeAfter_line (h : q.port.val < 10) (r : Reply) (s : State) : closeAfter q r s = s := by
  rw [closeAfter, portWindow_line h]

theorem headRequest_closeServiceWindow (hq : LineRequest s q 16) :
    s.headRequest (.other .closeServiceWindow) = some q := by
  obtain ⟨rest, hqueue⟩ := List.head?_eq_some_iff.mp hq.head
  have hrow : q.row = .other .closeServiceWindow :=
    hq.row_other rfl (by decide) (by decide) (by decide)
  simp only [State.headRequest, hqueue, hq.idle, hrow, if_true]

/-- So the command runs the head request as the other rows do. -/
theorem exec_closeServiceWindow_runHead (hq : LineRequest s q 16) :
    exec .closeServiceWindow s = .next (runHead (.other .closeServiceWindow) actCloseWindow s) := by
  simp only [exec, execCloseServiceWindow, runHead, headRequest_closeServiceWindow hq, runRequest,
    closeAfter_line hq.line]

theorem exec_closeServiceWindow (hq : LineRequest s q 16) {n : Nat} (hb : q.body = beBytes 1 n) {u : State}
    {x : Status} (ha : actCloseWindow q s = (u, .bare x)) :
    exec .closeServiceWindow s = .next (u.afterAnswer q (.bare x)) :=
  (exec_closeServiceWindow_runHead hq).trans (congrArg Host.Outcome.next (runHead_bare hq rfl
    (hq.row_other rfl (by decide) (by decide) (by decide)) (by rw [hb, beBytes_length]; exact le_refl 1) ha))

end

/-! ## The statement -/

/-- Settles O51: the request by the check that it fails, or by the window that it closes. -/
theorem controllerClosesWindow : Obligations.ControllerClosesWindow := by
  refine fun s q n hq hn hb => ⟨fun h10 h11 => ?_, ?_⟩
  · exact .of_act (exec_closeServiceWindow hq hb (actCloseWindow_other hn hb h10 h11 hq.line)) rfl
  rintro w rfl
  refine ⟨fun h => .of_act (exec_closeServiceWindow hq hb (actCloseWindow_closed hb h hq.line)) rfl,
    fun h => ⟨_, exec_closeServiceWindow hq hb (actCloseWindow_open hb h hq.line), ?_⟩⟩
  have hunanswered := afterAnswer_unanswered (closeWindow w .controller s) q (.bare .ok)
  rw [windows_of_unanswered hunanswered, robots_of_unanswered hunanswered, afterAnswer_mgmt,
    mgmt_of_beside (closeWindow_beside w .controller s), closeWindow_window w .controller s h]
  refine ⟨rfl, rfl, rfl, rfl, fun r hr => ?_, fun r hr => ?_, rfl⟩
  · rw [closeWindow_robot w .controller s h r, if_pos hr]
    exact ⟨rfl, rfl⟩
  · rw [closeWindow_robot w .controller s h r, if_neg (ne_true_of_eq_false hr)]

end Sys2Proof.Machine
end

section
/-! NOTICE SEND ATTEMPT: the first records leave in a frame, or stay while their port is DOWN (R178,
R179). -/

namespace Sys2Proof.Machine

/-! ## A count that crosses no point of R181 -/

theorem Quiet.bump_notices {s t : State} {c : CounterRef} (h : Quiet s [c] 0)
    (hc : t.counter c = s.counter c) : (bump c t).notices = t.notices := by
  have hu := h c (.inl (List.mem_singleton_self c))
  rw [List.count_singleton_self, ← hc] at hu
  exact (bumpWith_quiet raise c 1 t hu).1

/-! ## When an attempt is made (R178) -/

theorem attemptIfDue_due {s : State} {d : Dest} (hd : s.device.noticeDest = some d)
    (hsome : s.notices.records ≠ [] ∨ 0 < s.notices.overflow)
    (hpaced : ∀ t, s.notices.lastAttempt = some t → t + s.device.pacing * 1000 ≤ s.clock.run) :
    attemptIfDue s = sendNotices d s := by
  have hdue : s.attemptDue = true := by
    have hwaits : (!s.notices.records.isEmpty || decide (0 < s.notices.overflow)) = true := by
      simpa using hsome
    rw [State.attemptDue, hd, hwaits]
    split
    · rfl
    · next t ht => exact decide_eq_true (hpaced t ht)
  rw [attemptIfDue, hdue, hd]

theorem attemptIfDue_idle {s : State}
    (h : s.device.noticeDest = none ∨ s.notices.records = [] ∧ s.notices.overflow = 0) :
    attemptIfDue s = s := by
  have hdue : s.attemptDue = false := by
    obtain hd | ⟨hr, ho⟩ := h
    · rw [State.attemptDue, hd]; rfl
    · rw [State.attemptDue, hr, ho, List.isEmpty_nil]; simp
  rw [attemptIfDue, hdue]

/-! ## What an attempt comes to (R34, R179) -/

/-- A state whose last send attempt is now. -/
def State.attempted (s : State) : State :=
  { s with notices := { s.notices with lastAttempt := some s.clock.run } }

/-- The frame of a send attempt to a destination (R179). -/
def State.noticeFrame (s : State) (d : Dest) : Octets :=
  formFrame d.mac s.station d.vlan etherNotice
    (noticePayload s.notices (s.notices.records.take Config.noticesPerFrame))

theorem buildFrame_down (k : GenKind) (kind : FrameKind) (p : PortId) (octets : Octets) (s : State)
    (hl : s.ports[p].link = false) :
    buildFrame k kind [p] octets s = (bump (.device (.generationDrops k)) s, none) := by
  simp only [Fin.getElem_fin] at hl
  have hu : [p].filter (fun p => s.ports[p].link) = [] := by simp [hl]
  unfold buildFrame
  simp only [hu]

section
variable {s u : State} {d : Dest}

theorem cellsFor_noticeFrame_pos : 0 < cellsFor (s.noticeFrame d).length := by
  have := formFrame_length_pos d.mac s.station d.vlan etherNotice
    (noticePayload s.notices (s.notices.records.take Config.noticesPerFrame))
  unfold cellsFor State.noticeFrame
  omega

theorem sendNotices_of_drop
    (h : buildFrame .notice .notice [d.port] (s.noticeFrame d) s.attempted = (u, none)) :
    sendNotices d s = u := by
  rw [State.noticeFrame, State.attempted] at h
  unfold sendNotices
  dsimp only
  rw [h]

theorem sendNotices_of_build {h : CellId}
    (hb : buildFrame .notice .notice [d.port] (s.noticeFrame d) s.attempted = (u, some h)) :
    sendNotices d s = bump (.device .noticeFramesBuilt)
      { u with notices := u.notices.sent (s.notices.records.take Config.noticesPerFrame).length
                            s.notices.overflow } := by
  rw [State.noticeFrame, State.attempted] at hb
  unfold sendNotices
  dsimp only
  rw [hb]

/-- With its port DOWN an attempt is counted as a drop, and the records stay. -/
theorem sendNotices_down (hl : s.ports[d.port].link = false) :
    sendNotices d s = bump (.device (.generationDrops .notice)) s.attempted :=
  sendNotices_of_drop (buildFrame_down _ _ _ _ s.attempted hl)

/-- The first 16 records and the whole overflow count have left with a frame (R179). -/
theorem sent_attempted : s.attempted.notices.sent
      (s.notices.records.take Config.noticesPerFrame).length s.notices.overflow =
    { records := s.notices.records.drop 16, overflow := 0, lastAttempt := some s.clock.run,
      frameSeq := (s.notices.frameSeq + 1) % 65536 } := by
  have hdrop : s.notices.records.drop (s.notices.records.take 16).length =
      s.notices.records.drop 16 := by
    rw [List.length_take, ← List.drop_eq_drop_min]
  simp only [NoticeBlock.sent, State.attempted, Config.noticesPerFrame, hdrop, Nat.sub_self]

/-- With room for it the frame joins the tail of Q2 of its port, and the notice block is the one that
remains after it. -/
theorem sendNotices_room (hl : s.ports[d.port].link = true)
    (hf : s.fitsLimit 2 (cellsFor (s.noticeFrame d).length) d.port = true)
    (hn : cellsFor (s.noticeFrame d).length ≤ s.mem.free.length)
    (hq : Quiet s [.device .noticeFramesBuilt] 0) :
    (sendNotices d s).notices =
        { records := s.notices.records.drop 16, overflow := 0, lastAttempt := some s.clock.run,
          frameSeq := (s.notices.frameSeq + 1) % 65536 } ∧
      (sendNotices d s).unanswered = s.unanswered ∧
      ∃ x f, (sendNotices d s).egress[d.port].queues[(2 : QueueId)].getLast? = some x ∧
        (sendNotices d s).mem.frames[x.frame] = some f ∧ f.octets = s.noticeFrame d ∧
        f.kind = .notice := by
  obtain ⟨h, rest, mem, -, hframes, hb⟩ := buildFrame_room .notice .notice d.port (s.noticeFrame d)
    s.attempted hl hf hn cellsFor_noticeFrame_pos
  rw [sendNotices_of_build hb]
  refine ⟨?_, ?_, newEntry h .normal,
    { cells := h :: rest, octets := s.noticeFrame d, refs := 1, kind := .notice }, ?_, ?_, rfl, rfl⟩
  · rw [hq.bump_notices (counter_congr (by rw [enqueue_frame]; rfl) _), enqueue_frame]
    exact sent_attempted
  · rw [bump_unanswered]
    exact enqueue_unanswered d.port 2 _ _
  · rw [bump_egress]
    change (enqueue _ _ _ _).egress[d.port].queues[(2 : QueueId)].getLast? = _
    rw [enqueue_queues, if_pos ⟨rfl, rfl⟩]
    exact List.getLast?_concat
  · rw [bump_mem]
    change (enqueue _ _ _ _).mem.frames[h] = _
    rw [enqueue_mem]
    change mem.frames[h] = _
    rw [hframes]
    exact Vector.getElem_set_self ..

end

/-! ## The statement -/

/-- Settles O38: a due attempt by the link of its port, and an attempt that is not made by what it
lacks. -/
theorem noticeAttemptSends : Obligations.NoticeAttemptSends := by
  refine fun s => ⟨fun d frame hd hsome hpaced hframe => ?_,
    fun h => congrArg Host.Outcome.next (attemptIfDue_idle h)⟩
  subst hframe
  have hx : exec .noticeSendAttempt s = .next (sendNotices d s) :=
    congrArg Host.Outcome.next (attemptIfDue_due hd hsome hpaced)
  refine ⟨fun hl hf hn hq => ?_, fun hl => ?_⟩
  · obtain ⟨hnotices, hunanswered, hsent⟩ := sendNotices_room hl hf hn hq
    exact ⟨_, hx, hnotices, hunanswered, sendNotices_mgmt d s, hsent⟩
  · rw [sendNotices_down hl] at hx
    exact ⟨_, hx, bump_uncounted _ s.attempted, fun hq => hq.bump_notices rfl⟩

end Sys2Proof.Machine
end

section
/-! A RESTART that is carried out: the frame path that it frees, and the rest that it keeps (R40, R78, R84,
R149, R152, R192, R193). -/

namespace Sys2Proof.Machine

/-! ## The frame path freed (R40, R84) -/

/-- What a RESTART keeps until its last parts, the disturbed cycles and the ejector at rest. -/
def State.offPath (s : State) : Vector Port 12 × Vector Gate 12 × Vector Stream 256 × Clock × Tracker ×
    Vector Camera 4 × Reject × Hold × Mgmt × DeviceCfg :=
  (s.ports, s.gates, s.streams, s.clock, s.tracker, s.cameras, s.reject, s.hold, s.mgmt, s.device)

theorem offPath_of_uncounted {s t : State} (h : t.uncounted = s.uncounted) : t.offPath = s.offPath :=
  (congrArg State.offPath h :)

/-- Nothing is stored, queued, on the wire, held, or under reception (R40, R193 part 2). -/
structure State.PathFree (s : State) : Prop where
  mem : s.mem = CellMem.reset
  rx : ∀ p : PortId, s.rx[p] = Rx.reset
  tx : ∀ p : PortId, s.egress[p].tx = none
  remainder : ∀ p : PortId, s.egress[p].remainder = none
  queues : ∀ (p : PortId) (q : QueueId), s.egress[p].queues[q] = []
  slot : ∀ r : RobotId, s.robots[r].slot = none
  store : ∀ r : RobotId, s.robots[r].store = none

theorem Egress.restarted_path (p : PortId) (now : Nat) (e : Egress) : (e.restarted p now).tx = none ∧
    (e.restarted p now).remainder = none ∧ ∀ q : QueueId, (e.restarted p now).queues[q] = [] := by
  unfold Egress.restarted
  split <;> simp [Egress.reset]

theorem freeFramePath_pathFree (s : State) : (freeFramePath s).PathFree := by
  unfold freeFramePath
  generalize forEach _ abortReception s = u
  have hegress (p : PortId) := Egress.restarted_path p u.clock.ticks u.egress[p]
  constructor
  case mem => rfl
  case rx => exact fun p => by simp
  case tx => exact fun p => by simpa using (hegress p).1
  case remainder => exact fun p => by simpa using (hegress p).2.1
  case queues => exact fun p q => by simpa using (hegress p).2.2 q
  case slot => exact fun r => by simp
  case store => exact fun r => by simp

theorem abortReception_offPath (p : PortId) (s : State) : (abortReception p s).offPath = s.offPath :=
  (offPath_of_uncounted (abortReception_frame p s) :)

theorem freeFramePath_offPath (s : State) : (freeFramePath s).offPath = s.offPath := by
  have h := forEach_keeps State.offPath (List.finRange 12) abortReception_offPath s
  unfold freeFramePath
  generalize forEach _ abortReception s = u at h ⊢
  exact h

/-! ## The windows closed (R152, R157) -/

section
variable (w : WindowId) (cause : CloseCause) (s : State)

theorem closeWindow_closed (h : s.windows[w].state = .closed) : closeWindow w cause s = s := if_pos h

theorem closeWindow_offPath : (closeWindow w cause s).offPath = s.offPath := by
  by_cases h : s.windows[w].state = .closed
  · rw [closeWindow_closed w cause s h]
  · obtain ⟨u, e, rfl⟩ := closeWindow_open w cause s h
    rw [e, dropMirrors_frame, releaseRobots_frame]
    exact (congrArg State.offPath (raise_uncounted ..) :)

theorem closeWindow_rx : (closeWindow w cause s).rx = s.rx := by
  by_cases h : s.windows[w].state = .closed
  · rw [closeWindow_closed w cause s h]
  · obtain ⟨u, e, rfl⟩ := closeWindow_open w cause s h
    rw [e, dropMirrors_frame, releaseRobots_frame]
    exact raise_rx ..

/-- The window is closed, and the other as it was. -/
theorem closeWindow_state (v : WindowId) : (closeWindow w cause s).windows[v].state =
    if v = w then .closed else s.windows[v].state := by
  by_cases h : s.windows[w].state = .closed
  · rw [closeWindow_closed w cause s h]
    split
    · next e => rw [e, h]
    · rfl
  · by_cases hv : v = w
    · rw [if_pos hv, hv, closeWindow_window w cause s h]
    · obtain ⟨u, e, rfl⟩ := closeWindow_open w cause s h
      obtain ⟨held, hrest⟩ := giveBackAll_window (members s.windows[w].heldSet) s v
      rw [if_neg hv, e, dropMirrors_frame]
      simp only [State.modWindow_windows, raise_windows, releaseRobots, Fin.getElem_fin, upd_get, hv, if_false]
        at hrest ⊢
      rw [hrest]

/-- With no mirror copy waiting no reference is given up. -/
theorem dropMirrors_mem (p : PortId) (h : s.egress[p].queues[(0 : QueueId)] = []) :
    (dropMirrors p s).mem = s.mem := by
  unfold dropMirrors
  rw [h]
  rfl

theorem closeWindow_mem (h : s.egress[windowPort w].queues[(0 : QueueId)] = []) :
    (closeWindow w cause s).mem = s.mem := by
  by_cases hc : s.windows[w].state = .closed
  · rw [closeWindow_closed w cause s hc]
  · obtain ⟨u, e, rfl⟩ := closeWindow_open w cause s hc
    have hempty : (releaseRobots w s).egress[windowPort w].queues[(0 : QueueId)] = [] := by
      rw [releaseRobots_frame]
      exact h
    rw [e, State.modWindow_mem, raise_mem, State.modWindow_mem, dropMirrors_mem _ _ hempty, releaseRobots_frame]

/-- A robot that is given back gains no frame (R101). -/
theorem closeWindow_held (r : RobotId) : (closeWindow w cause s).robots[r].slot = s.robots[r].slot ∧
    (closeWindow w cause s).robots[r].store = s.robots[r].store := by
  by_cases h : s.windows[w].state = .closed
  · rw [closeWindow_closed w cause s h]
    exact ⟨rfl, rfl⟩
  · rw [closeWindow_robot w cause s h]
    split <;> exact ⟨rfl, rfl⟩

theorem closeWindow_path (p : PortId) : (closeWindow w cause s).egress[p].tx = s.egress[p].tx ∧
    (closeWindow w cause s).egress[p].remainder = s.egress[p].remainder ∧
    ∀ q : QueueId, (closeWindow w cause s).egress[p].queues[q] ⊆ s.egress[p].queues[q] := by
  by_cases h : s.windows[w].state = .closed
  · rw [closeWindow_closed w cause s h]
    exact ⟨rfl, rfl, fun q => List.Subset.refl _⟩
  · rw [closeWindow_egress w cause s h, dropMirrors_egress]
    split
    · next e =>
      subst e
      refine ⟨rfl, rfl, fun q => ?_⟩
      simp only [Egress.withoutMirrors, Fin.getElem_fin, upd_get]
      split
      · next e => subst e; exact List.filter_subset_self _
      · exact List.Subset.refl _
    · exact ⟨rfl, rfl, fun q => List.Subset.refl _⟩

theorem closeWindow_pathFree (h : s.PathFree) : (closeWindow w cause s).PathFree where
  mem := (closeWindow_mem w cause s (h.queues ..)).trans h.mem
  rx p := by rw [closeWindow_rx]; exact h.rx p
  tx p := (closeWindow_path w cause s p).1.trans (h.tx p)
  remainder p := (closeWindow_path w cause s p).2.1.trans (h.remainder p)
  queues p q := List.subset_nil.mp (h.queues p q ▸ (closeWindow_path w cause s p).2.2 q)
  slot r := (closeWindow_held w cause s r).1.trans (h.slot r)
  store r := (closeWindow_held w cause s r).2.trans (h.store r)

end

/-! ## The parts of a RESTART (R193) -/

/-- Both windows closed, with no frame anywhere. -/
theorem closeWindows_pathFree {s : State} (h : s.PathFree) :
    (forEach [(0 : WindowId), 1] (closeWindow · .link) s).PathFree :=
  forEach_inv _ (fun w _ u => closeWindow_pathFree w .link u) s h

theorem closeWindows_closed (s : State) (v : WindowId) :
    (forEach [(0 : WindowId), 1] (closeWindow · .link) s).windows[v].state = .closed := by
  rw [forEach_cons, forEach_cons, forEach_nil, closeWindow_state, closeWindow_state]
  fin_cases v <;> rfl

theorem closeWindows_offPath (s : State) :
    (forEach [(0 : WindowId), 1] (closeWindow · .link) s).offPath = s.offPath :=
  forEach_keeps State.offPath _ (fun w => closeWindow_offPath w .link) s

/-- A RESTART carried out comes to a state with the frame path free and both windows closed, and then its
cycles are disturbed and its ejector put at rest. -/
theorem carryOutRestart_stages (s : State) : ∃ u, carryOutRestart s = restartEjector (disturbCycles u) ∧
    u.PathFree ∧ (∀ v : WindowId, u.windows[v].state = .closed) ∧ u.offPath = s.offPath := by
  have hpath := freeFramePath_pathFree (bump (.device .restarts) s)
  have hkept := (freeFramePath_offPath (bump (.device .restarts) s)).trans
    (offPath_of_uncounted (bump_uncounted ..))
  unfold carryOutRestart
  dsimp only
  generalize freeFramePath _ = u at hpath hkept ⊢
  have hfree : ({ u with notices := u.notices.emptied } : State).PathFree := { hpath with }
  exact ⟨_, rfl, closeWindows_pathFree hfree, closeWindows_closed _, (closeWindows_offPath _).trans hkept⟩

/-- The last two parts move no frame. -/
theorem disturbCycles_pathFree {u : State} (h : u.PathFree) : (disturbCycles u).PathFree where
  mem := h.mem
  rx := h.rx
  tx := h.tx
  remainder := h.remainder
  queues := h.queues
  slot r := by
    have := h.slot r
    simp only [disturbCycles, Fin.getElem_fin, Vector.getElem_map] at this ⊢
    split <;> exact this
  store r := by
    have := h.store r
    simp only [disturbCycles, Fin.getElem_fin, Vector.getElem_map] at this ⊢
    split <;> exact this

theorem disturbCycles_gate (u : State) (p : PortId) :
    (disturbCycles u).gates[p] = { u.gates[p] with disturbed := true } := by simp [disturbCycles]

/-! ## The statement -/

theorem restartDue_of {s : State} {w : RestartWait} (hw : s.mgmt.restart = some w)
    (h : w.due = true ∨ w.builtAt + 10000 ≤ s.clock.run) : s.restartDue = true := by
  unfold State.restartDue
  rw [hw]
  exact (Bool.or_eq_true ..).mpr (h.imp_right decide_eq_true)

theorem exec_restartCarriedOut {s : State} (h : s.restartDue = true) : exec .restartCarriedOut s =
    .next ((carryOutRestart s).modMgmt fun m => { m with queue := m.queue.tail, restart := none }) :=
  (rfl : _ = execRestartCarriedOut s).trans (by rw [execRestartCarriedOut, if_pos h])

/-- Settles O39, by the parts of a RESTART. -/
theorem restartCarriedOutFreesTheFramePath : Obligations.RestartCarriedOutFreesTheFramePath := by
  intro s w hw hdue
  obtain ⟨u, hstages, hfree, hclosed, hkept⟩ := carryOutRestart_stages s
  have hpath := disturbCycles_pathFree hfree
  have hcfg (r : RobotId) := (Robot.record_eq_iff.mp (carryOutRestart_record s r)).1
  have haction := action_of_lasting (carryOutRestart_lasting s)
  simp only [State.offPath, Prod.mk.injEq] at hkept
  obtain ⟨hports, hgates, hstreams, hclock, htracker, hcameras, hreject, hhold, hmgmt, hdevice⟩ := hkept
  have hx := exec_restartCarriedOut (restartDue_of hw hdue)
  rw [hstages] at hx hcfg haction
  refine ⟨_, hx, ?_, hpath.mem, fun p => ⟨hpath.rx p, hpath.tx p, hpath.remainder p, hpath.queues p, ?_⟩,
    fun r => ⟨hpath.slot r, hpath.store r, hcfg r⟩, hclosed, rfl, rfl, rfl, ?_, ?_, hports, hstreams, hclock,
    htracker, congrArg Hold.latch hhold, congrArg (·.present.jam) hhold, haction, hdevice, hcameras⟩
  · exact congrArg (fun m : Mgmt => ({ queue := m.queue.tail, restart := none } : Mgmt)) hmgmt
  · exact (disturbCycles_gate u p).trans (by rw [hgates])
  · exact congrArg (fun c : Clock => c.run + 2000) hclock
  · exact (congrArg Reject.cfg hreject :)

end Sys2Proof.Machine
end

section
/-! SUPPORT. A request whose act leaves the state as it was: what its answer counts, and how long it is
(R34, R185, R195). -/

namespace Sys2Proof.Machine

/-! ## What an answer counts (R34, R41) -/

/-- A frame for one port counts nothing as it is built, or its drop, or its refusal and its drop. -/
theorem buildFrame_port_counters (k : GenKind) (kind : FrameKind) (p : PortId) (octets : Octets) (s : State) :
    (buildFrame k kind [p] octets s).1.counters = s.counters ∨
      (buildFrame k kind [p] octets s).1 = bump (.device (.generationDrops k)) s ∨
      (buildFrame k kind [p] octets s).1 =
        bump (.device (.generationDrops k)) (bump (.port p (.refused 2)) s) := by
  cases hl : s.ports[p].link with
  | false => exact .inr (.inl (congrArg Prod.fst (buildFrame_down k kind p octets s hl)))
  | true =>
    simp only [Fin.getElem_fin] at hl
    have hup : [p].filter (fun p => s.ports[p].link) = [p] := by simp [hl]
    cases hf : s.fitsLimit 2 (cellsFor octets.length) p with
    | false =>
      have hyes : [p].filter (s.fitsLimit 2 (cellsFor octets.length)) = [] := by simp [hf]
      have hno : [p].filter (fun p => !s.fitsLimit 2 (cellsFor octets.length) p) = [p] := by simp [hf]
      unfold buildFrame
      simp only [hup, hyes, hno]
      exact .inr (.inr rfl)
    | true =>
      have hyes : [p].filter (s.fitsLimit 2 (cellsFor octets.length)) = [p] := by simp [hf]
      have hno : [p].filter (fun p => !s.fitsLimit 2 (cellsFor octets.length) p) = [] := by simp [hf]
      unfold buildFrame
      simp only [hup, hyes, hno, forEach_nil, forEach_cons]
      split
      · exact .inr (.inl rfl)
      · split
        · exact .inl rfl
        · exact .inl (by rw [enqueue_frame])

/-- An answer that finds no room counts at most its refusal and its drop. -/
theorem sendAnswer_counter (q : Request) (r : Reply) (s : State) (k : CounterRef)
    (h1 : k ≠ .port q.port (.refused 2)) (h2 : k ≠ .device (.generationDrops .answer))
    (hk : k.ofNotices = false) : (sendAnswer q r s).1.counter k = s.counter k := by
  unfold sendAnswer
  obtain h | h | h := buildFrame_port_counters .answer .answer q.port (answerFrame s.station q r) s
  · exact counter_congr h k
  · rw [h, bump_counter_other _ _ _ hk h2]
  · rw [h, bump_counter_other _ _ _ hk h2, bump_counter_other _ _ _ hk h1]

/-- An answer that finds room counts and notices nothing. -/
theorem sendAnswer_effects {q : Request} {r : Reply} {s : State} (h : AnswerRoom s q r) (now : BaseTime) :
    Effects s (sendAnswer q r s).1 now [] [] := by
  obtain ⟨hl, hf, hn⟩ := h
  obtain ⟨c, t, mem, -, -, hb⟩ := buildFrame_room .answer .answer q.port (answerFrame s.station q r) s
    hl hf hn (cellsFor_answer_pos s.station q r)
  have e : (sendAnswer q r s).1 = enqueue q.port 2 (newEntry c .normal) { s with mem := mem } :=
    congrArg Prod.fst hb
  rw [e]
  exact .start _ _ _ (by rw [enqueue_frame]) (by rw [enqueue_frame])

/-- A request that is answered and changes nothing. -/
theorem RunsCounting.of_answer {c : Instr} {s : State} {q : Request} {r : Reply}
    (he : exec c s = .next (s.afterAnswer q r)) : RunsCounting c s s q r [] [] := by
  refine ⟨_, he, afterAnswer_unanswered s q r, afterAnswer_mgmt s q r, fun k h1 h2 hk => ?_, fun h =>
    ⟨afterAnswer_answered s q r h, (sendAnswer_effects h _).congr rfl rfl⟩⟩
  rw [if_neg List.not_mem_nil]
  exact sendAnswer_counter q r s k h1 h2 hk

/-- A request whose act replies and leaves the state as it was. -/
theorem RunsCounting.of_reply {c : Instr} {s : State} {q : Request} {r : Reply} {kind : Nat}
    {k : RequestKind} {act : Act} (hq : LineRequest s q kind) (hk : requestKindOf kind = some k)
    (hx : exec c s = .next (runHead q.row act s)) (hb : fixedOctets k q.body ≤ q.body.length)
    (ha : act q s = (s, r)) (hl : (answerFrame s.station q r).length ≤ Config.maxFrame) :
    RunsCounting c s s q r [] [] := by
  refine .of_answer (hx.trans (congrArg Host.Outcome.next ?_))
  rw [runHead_line hq k hk act hb (by rw [ha]; exact hl), ha]
  rfl

/-! ## The length of an answer (R195, R197) -/

/-- A body that leaves room for the header, the frame's own fields and the FCS. -/
theorem answerFrame_length_le (station : Mac) (q : Request) (r : Reply) (h : r.body.length ≤ 9186) :
    (answerFrame station q r).length ≤ Config.maxFrame := by
  simp only [answerFrame, formFrame, List.length_append, List.length_replicate, beBytes_length, fcsOf,
    checkBytes, macBytes, List.length_cons, List.length_nil, Config.maxFrame]
  split <;> simp only [List.length_append, beBytes_length, List.length_nil] <;> omega

theorem beInt_length (n : Nat) (v : Int) : (beInt n v).length = n := beBytes_length ..

theorem optItem_length {n : Nat} {v : Option Octets} (h : ∀ l ∈ v, l.length = n) :
    (optItem n v).length = n := by
  cases v with
  | none => exact List.length_replicate ..
  | some l => exact h l rfl

theorem optBytes_length (n : Nat) (v : Option Nat) : (optBytes n v).length = n := by
  cases v with
  | none => exact List.length_replicate
  | some v => exact beBytes_length n v

theorem timestampBytes_length (t : HallTime) : (timestampBytes t).length = 12 := by
  simp only [timestampBytes, List.length_append, beBytes_length]

theorem boolBytes_length (b : Bool) : (boolBytes b).length = 1 := rfl

theorem destBytes_length (d : Option Dest) : (destBytes d).length = 9 := by
  cases d <;> simp [destBytes, noneBytes, macBytes, beBytes_length]

/-- Each of a list of things laid out in at most `n` octets. -/
theorem length_flatMap_le {α : Type} {l : List α} {f : α → Octets} {n : Nat}
    (h : ∀ x ∈ l, (f x).length ≤ n) : (l.flatMap f).length ≤ l.length * n := by
  rw [List.length_flatMap]
  simpa using List.sum_le_card_nsmul (l.map fun x => (f x).length) n (by simpa using h)

end Sys2Proof.Machine
end

section
/-! The requests that read: READ TABLE, READ COUNTERS and READ STATE (R186, R189, R190). -/

namespace Sys2Proof.Machine

/-! ## Records as they are laid out (R197) -/

theorem DeviceCfg.bytes_length_le (c : DeviceCfg) : c.bytes.length ≤ 258 := by
  have hport (v : Vector Nat 4) : (v.toList.reverse.flatMap (beBytes 2)).length ≤ 8 :=
    (length_flatMap_le fun x _ => (beBytes_length 2 x).le).trans (by simp)
  have hall : (c.limits.toList.flatMap fun v => v.toList.reverse.flatMap (beBytes 2)).length ≤ 12 * 8 :=
    (length_flatMap_le fun v _ => hport v).trans (by simp)
  simp only [DeviceCfg.bytes, List.length_append, beBytes_length, destBytes_length]
  omega

section
variable {t : TableId} {i : Nat} {s : State}

/-- The record at an index of a table may be read without an error: it holds none, and is not marked
damaged (R18, R19). -/
def State.readsClean (s : State) (t : TableId) (i : Nat) : Prop :=
  (t = .stream → s.streams[Fin.ofNat 256 i].damaged = false ∧ s.streams[Fin.ofNat 256 i].ecc = .clean) ∧
    (t = .robot → s.robots[Fin.ofNat 24 i].damaged = false ∧ s.robots[Fin.ofNat 24 i].ecc = .clean)

/-- Such a read changes nothing. -/
theorem readRecord_state (h : s.readsClean t i) : (readRecord t i s).1 = s := by
  obtain ⟨hstream, hrobot⟩ := h
  cases t with
  | stream => exact checkStream_clean _ _ s (hstream rfl).1 (hstream rfl).2
  | robot => exact checkRobot_clean _ _ s (hrobot rfl).1 (hrobot rfl).2
  | _ => rfl

theorem readRecord_length_le (h : s.readsClean t i)
    (hold : t = .holdFrame → ∀ r : RobotId, s.holdFrames[r].length ≤ 256) :
    (readRecord t i s).2.length ≤ 258 := by
  obtain ⟨hstream, hrobot⟩ := h
  cases t with
  | port => simp [readRecord, Port.bytes, beBytes_length, boolBytes_length]
  | stream =>
    obtain ⟨hd, he⟩ := hstream rfl
    rw [readRecord, checkStream_clean _ _ s hd he]
    simp only [Stream.bytes, hd]
    simp [StreamCfg.bytes, macBytes, beBytes_length, boolBytes_length]
  | robot =>
    obtain ⟨hd, he⟩ := hrobot rfl
    rw [readRecord, checkRobot_clean _ _ s hd he]
    simp only [Robot.bytes, hd]
    simp [Robot.fields, beBytes_length, optBytes_length]
  | holdFrame =>
    have := hold rfl (Fin.ofNat 24 i)
    simp only [readRecord, holdBytes, List.length_append, beBytes_length]
    omega
  | camera =>
    simp [readRecord, CameraCfg.bytes, beBytes_length, boolBytes_length, destBytes_length, optBytes_length]
  | tracking => simp [readRecord, TrackerCfg.bytes, beBytes_length, boolBytes_length]
  | ejector => simp [readRecord, EjectorCfg.bytes, beBytes_length]
  | clock => simp [readRecord, ClockCfg.bytes, beBytes_length, boolBytes_length]
  | device => exact DeviceCfg.bytes_length_le _

/-- Records read one after another without an error (R186). -/
theorem readRecords_clean (t : TableId) (n i : Nat) (s : State) (h : ∀ k < n, s.readsClean t (i + k)) :
    readRecords t n i s = (s, (List.range n).flatMap fun k => (readRecord t (i + k) s).2) := by
  induction n generalizing i with
  | zero => rfl
  | succ n ih =>
    have hhead : readRecord t i s = (s, (readRecord t i s).2) :=
      Prod.ext (readRecord_state (h 0 (Nat.succ_pos n))) rfl
    have htail := ih (i + 1) fun k hk => by
      rw [Nat.add_assoc, Nat.add_comm 1 k]
      exact h (k + 1) (Nat.succ_lt_succ hk)
    unfold readRecords
    rw [hhead]
    dsimp only
    rw [htail, List.range_succ_eq_map, List.flatMap_cons, List.flatMap_map]
    simp only [Nat.add_zero, Nat.add_assoc, Nat.succ_eq_add_one, Nat.add_comm 1]

end

/-! ## READ TABLE (R186) -/

theorem TableId.size_le (t : TableId) : t.size ≤ 256 := by cases t <;> decide

section
variable {s : State} {q : Request} {t : TableId} {code n first : Nat}

theorem LineRequest.row_readTable (hq : LineRequest s q 1) : q.row = .readTable := by
  unfold Request.row
  rw [if_neg (not_not.mpr hq.version), hq.isKind]
  rfl

/-- The records that a READ TABLE names, read without an error. -/
theorem actReadTable_clean (ht : tableOf code = some t) (hc : code < 256) (h1 : 1 ≤ n) (h2 : n ≤ 32)
    (hsize : first + n ≤ t.size) (hb : q.body = beBytes 1 code ++ beBytes 1 n ++ beBytes 2 first)
    (h : ∀ k < n, s.readsClean t (first + k)) :
    actReadTable q s = taken s (q.body ++
      (List.range n).flatMap fun k => (readRecord t (first + k) s).2) := by
  have hle := TableId.size_le t
  have htable : field q.body 0 1 = code := by
    rw [hb, List.append_assoc]
    exact field_head (by omega) _
  have hcount : field q.body 1 1 = n := by
    rw [hb, List.append_assoc]
    exact (field_skip (beBytes 1 code) _ 0 1).trans (field_head (by omega) _)
  have hfirst : field q.body 2 2 = first := by
    rw [hb, ← List.append_nil (beBytes 2 first)]
    exact (field_skip (beBytes 1 code ++ beBytes 1 n) _ 0 2).trans (field_head (by omega) _)
  have hbody : q.body.take 4 = q.body :=
    List.take_of_length_le (by simp only [hb, List.length_append, beBytes_length]; omega)
  have hn : need (decide (1 ≤ n ∧ n ≤ 32)) .badValue = .ok () := if_pos (decide_eq_true ⟨h1, h2⟩)
  have hi : need (decide (first + n ≤ t.size)) .badIndex = .ok () := if_pos (decide_eq_true hsize)
  unfold actReadTable
  rw [htable, hcount, hfirst, ht, hbody]
  change orRefuse s (need _ _ >>= fun _ => need (decide (first + n ≤ t.size)) .badIndex >>= fun _ =>
    pure (taken (readRecords t n first s).1 (q.body ++ (readRecords t n first s).2))) = _
  rw [hn, hi, readRecords_clean t n first s h]
  rfl

end

/-! ## READ COUNTERS (R189) -/

theorem Counters.values_length_le (k : Counters) (x : CounterSubject) : (k.values x).length ≤ 30 := by
  cases x <;> simp [Counters.values]

theorem actReadCounters_kept {s : State} {q : Request} {x : CounterSubject}
    (hx : counterSubject q.body = .ok x) (hf : field q.body 1 1 = 0) :
    actReadCounters false q s = taken s (countersBody q.body (s.counters.values x)) := by
  unfold actReadCounters
  rw [hx, hf]
  rfl

/-! ## READ STATE (R190) -/

theorem stateRecord_state {x : StateSubject} {s : State}
    (h : ∀ r, x = .robot r → s.robots[r].damaged = false ∧ s.robots[r].ecc = .clean) :
    (stateRecord x s).1 = s := by
  cases x with
  | robot r => exact checkRobot_clean r _ s (h r rfl).1 (h r rfl).2
  | _ => rfl

theorem actReadState_clean {s : State} {q : Request} {x : StateSubject} (hx : stateSubject q.body = .ok x)
    (h : ∀ r, x = .robot r → s.robots[r].damaged = false ∧ s.robots[r].ecc = .clean) :
    actReadState q s = taken s (stateRecord x s).2 := by
  have hs := stateRecord_state h
  unfold actReadState
  rw [hx]
  change taken (stateRecord x s).1 (stateRecord x s).2 = _
  rw [hs]

/-- The code of TRACKING LIST names no other subject. -/
theorem stateSubject_list {l : Octets} {x : StateSubject} (hx : stateSubject l = .ok x)
    (h : field l 0 1 = 6) : ∃ first count, x = .trackingList first count := by
  unfold stateSubject at hx
  simp only [h, ownIndex] at hx
  split at hx
  · cases hx
  · split at hx
    · cases hx
      exact ⟨_, _, rfl⟩
    · cases hx

theorem clockState_length_le (c : Clock) : (clockState c).length ≤ 9186 := by
  have ht1 : (optItem 12 ((c.probe.bind Probe.t1).map timestampBytes)).length = 12 := by
    refine optItem_length fun l hl => ?_
    obtain ⟨t, -, rfl⟩ := Option.mem_map.mp hl
    exact timestampBytes_length t
  have hdelay : (optInt 5 c.delay).length = 5 := by
    refine optItem_length fun l hl => ?_
    obtain ⟨v, -, rfl⟩ := Option.mem_map.mp hl
    exact beInt_length 5 v
  simp only [clockState, List.length_append, beBytes_length, beInt_length, optBytes_length, boolBytes_length,
    timestampBytes_length, ht1, hdelay]
  omega

theorem controllerState_length_le (s : State) : (controllerState s).length ≤ 9186 := by
  simp [controllerState, beBytes_length]

/-- READ STATE of a subject whose record is read without an error, and whose answer fits a frame. -/
theorem readState_answers {s : State} {q : Request} {x : StateSubject} (hq : LineRequest s q 4)
    (hb : 3 ≤ q.body.length) (hx : stateSubject q.body = .ok x)
    (hlist : field q.body 0 1 = 6 → 5 ≤ q.body.length)
    (hr : ∀ r, x = .robot r → s.robots[r].damaged = false ∧ s.robots[r].ecc = .clean)
    (hl : (answerFrame s.station q { status := .ok, body := (stateRecord x s).2 }).length ≤ 9216) :
    RunsCounting .readState s s q { status := .ok, body := (stateRecord x s).2 } [] [] := by
  have hrow : q.row = .other .readState := hq.row_other rfl (by decide) (by decide) (by decide)
  refine .of_reply (act := actReadState) hq (k := .readState) rfl (by rw [hrow]; rfl) ?_
    (actReadState_clean hx hr) hl
  unfold fixedOctets
  dsimp only
  split
  · next h => exact hlist h
  · exact hb

/-! ## The statement -/

/-- Settles O40, each read by what its act replies. -/
theorem readsAnswerAndChangeNothing : Obligations.ReadsAnswerAndChangeNothing := by
  refine fun s q => ⟨?_, ?_, fun hq hb => ⟨fun hx => ?_, fun hx => ?_, fun x hx hlist hr hl => ?_⟩⟩
  · intro t code n first hq ht hc h1 h2 hsize hb hstream hrobot hhold
    have hclean (k : Nat) (hk : k < n) : s.readsClean t (first + k) := by
      refine ⟨fun e => ?_, fun e => ?_⟩
      · subst e
        have hv : (Fin.ofNat 256 (first + k)).val = first + k :=
          Nat.mod_eq_of_lt (Nat.lt_of_lt_of_le (by omega) hsize)
        exact hstream rfl _ (by omega) (by omega)
      · subst e
        have hv : (Fin.ofNat 24 (first + k)).val = first + k :=
          Nat.mod_eq_of_lt (Nat.lt_of_lt_of_le (by omega) hsize)
        exact hrobot rfl _ (by omega) (by omega)
    have hbody : q.body.length = 4 := by simp [hb, beBytes_length]
    have hrecords := length_flatMap_le (l := List.range n) (n := 258)
      fun k hk => readRecord_length_le (hclean k (List.mem_range.mp hk)) hhold
    rw [List.length_range] at hrecords
    refine .of_reply (act := actReadTable) hq (k := .readTable) rfl (by rw [hq.row_readTable]; rfl) hbody.ge
      (actReadTable_clean ht hc h1 h2 hsize hb hclean) (answerFrame_length_le _ _ _ ?_)
    rw [List.length_append, hbody]
    omega
  · intro x hq hrow hb hx hf
    have hvalues := length_flatMap_le (l := s.counters.values x) (n := 4)
      fun v _ => (beBytes_length 4 v).le
    have hcount := s.counters.values_length_le x
    refine .of_reply (act := actReadCounters false) hq (k := .readCounters) rfl (by rw [hrow]; rfl) hb
      (actReadCounters_kept hx hf) (answerFrame_length_le _ _ _ ?_)
    simp only [List.length_append, List.length_take, List.length_singleton, slice]
    omega
  · refine readState_answers (x := .clock) hq hb hx (fun h => ?_) (by simp)
      (answerFrame_length_le _ _ _ (clockState_length_le s.clock))
    obtain ⟨_, _, e⟩ := stateSubject_list hx h
    cases e
  · refine readState_answers (x := .controller) hq hb hx (fun h => ?_) (by simp)
      (answerFrame_length_le _ _ _ (controllerState_length_le s))
    obtain ⟨_, _, e⟩ := stateSubject_list hx h
    cases e
  · exact readState_answers hq hb hx hlist hr hl

end Sys2Proof.Machine
end


section
/-! The step, its totality, and what the two resets leave (R108, R172, R191, R194; logs 1, 2 and 4). -/

namespace Sys2Proof.Machine

/-- Settles O1: `step` matches on the queue alone. -/
theorem stepRunsFrontCommand : Obligations.StepRunsFrontCommand := by
  intro c rest s h
  unfold step
  rw [h]

theorem pending_of_lasting {s t : State} (h : t.lasting = s.lasting) : t.pending = s.pending :=
  (Prod.mk.inj (Prod.mk.inj h).2).2

theorem actLossAction_pending (q : Request) (s : State) : (actLossAction q s).1.pending = s.pending := by
  unfold actLossAction
  split
  · rfl
  · dsimp only [taken]
    split
    · exact pending_of_lasting (s := s.modWatch fun w => { w with action := .holdLine }) (joinHold_lasting ..)
    · rfl
  · split <;> rfl

/-- Settles O2: the ordinary commands by what lasts, and the resets and SET LOSS ACTION each by itself. -/
theorem everyCommandCompletes : Obligations.EveryCommandCompletes := by
  intro c s
  by_cases hc : ordinaryCommand c = true
  · obtain ⟨t, e, h⟩ := exec_lasts c s hc
    exact ⟨t, e, pending_of_lasting h⟩
  · cases c with
    | powerOnReset pins => exact ⟨_, rfl, rfl⟩
    | hardReset pins => exact ⟨_, rfl, rfl⟩
    | setLossAction =>
      exact ⟨_, rfl, runHead_keeps (P := fun t => t.pending = s.pending)
        (fun _ _ e h => (pending_of_lasting e).trans h)
        (fun q t h => (actLossAction_pending q t).trans h) rfl _⟩
    | _ => exact absurd rfl hc

theorem afterReset_free (cause : ResetCause) (action : HoldPolicy) (pins : ResetPins) (l : List Instr) :
    (State.afterReset cause action pins l).mem.free = List.finRange 2048 := by
  rw [State.afterReset, CellMem.reset, allCells]

/-- Settles O3: a reset writes every field. -/
theorem resetsWriteCauseAndKeepLossAction : Obligations.ResetsWriteCauseAndKeepLossAction := fun pins s =>
  ⟨⟨State.afterReset .powerOn .report pins s.pending, rfl, rfl, rfl, rfl, rfl, rfl, rfl, rfl,
      afterReset_free .., rfl⟩,
    ⟨State.afterReset .resetPin s.watch.action pins s.pending, rfl, rfl, rfl, rfl, rfl, rfl, rfl, rfl,
      afterReset_free .., rfl⟩⟩

end Sys2Proof.Machine
end

section
/-! Hold sources, raised notices and counters (R170, R171, R176, R177, R181). -/

namespace Sys2Proof.Machine

/-! ## Hold sources (R170, R171) -/

theorem PresentSet.toList_eq_nil (p : PresentSet) : p.toList = [] ↔ ∀ h, p.has h = false := by
  rw [List.eq_nil_iff_forall_not_mem]
  exact forall_congr' fun h => by rw [PresentSet.mem_toList, Bool.not_eq_true]

theorem HoldInv.latched {s : State} {h : HoldSource} (hi : HoldInv s) (hp : s.hold.present.has h = true) :
    s.hold.latch = true :=
  hi fun e => by rw [(PresentSet.toList_eq_nil _).mp e h] at hp; cases hp

theorem joinHold_has (h : HoldSource) (s : State) (x : HoldSource) :
    (joinHold h s).hold.present.has x = (s.hold.present.has x || decide (x = h)) := by
  obtain ⟨hp, e⟩ | ⟨-, -, e⟩ | ⟨-, -, e⟩ := joinHold_cases h s
  · rw [e]
    by_cases hx : x = h
    · simp [hx, hp]
    · simp [hx]
  · rw [e]; exact PresentSet.has_join ..
  · rw [e, bump_hold, raise_hold]; exact PresentSet.has_join ..

theorem joinHold_latch (h : HoldSource) (s : State) (hi : HoldInv s) : (joinHold h s).hold.latch = true := by
  obtain ⟨hp, e⟩ | ⟨-, hl, e⟩ | ⟨-, -, e⟩ := joinHold_cases h s
  · rw [e]; exact hi.latched hp
  · rw [e]; exact hl
  · rw [e, bump_hold, raise_hold]; rfl

/-- The hold block of a state in which a source has set the latch (R171). -/
def State.setBy (s : State) (h : HoldSource) : State :=
  { s with hold := { s.hold with present := s.hold.present.join h, latch := true, cause := .source h,
                                 setTime := some s.clock.run } }

/-- Settles O28, by the cases of a source that joins. -/
theorem joiningSourceSetsLatch : Obligations.JoiningSourceSetsLatch := by
  intro h s
  refine ⟨fun hp => if_pos hp, fun hp hl => ?_, fun hp hl => ?_, rfl, ?_, fun x hx => ⟨?_, ?_⟩, ?_, joinHold_latch h s⟩
  · obtain ⟨hp', -⟩ | ⟨-, -, e⟩ | ⟨-, hl', -⟩ := joinHold_cases h s
    · rw [hp] at hp'; cases hp'
    · exact e
    · rw [hl] at hl'; cases hl'
  · obtain ⟨hp', -⟩ | ⟨-, hl', -⟩ | ⟨-, -, e⟩ := joinHold_cases h s
    · rw [hp] at hp'; cases hp'
    · rw [hl] at hl'; cases hl'
    · replace e : joinHold h s = bump (.device .holdSets) (raise (.holdSet (.source h)) (s.setBy h)) := e
      rw [e]
      exact ⟨(bump_uncounted ..).trans (raise_uncounted ..),
        ((Effects.start s (s.setBy h) _ rfl rfl).raise _ rfl).bump _⟩
  · rw [leaveHold_hold, PresentSet.has_leave]; simp
  · rw [leaveHold_hold, PresentSet.has_leave]; simp [hx]
  · rw [joinHold_has]; simp [hx]
  · rw [joinHold_has]; simp

/-! ## The notice queue (R176, R177) -/

/-- Settles O29, by the cases of a notice that is put. -/
theorem raisedNoticeFoldsOrQueues : Obligations.RaisedNoticeFoldsOrQueues := by
  intro b e now
  have cap : Config.noticeCapacity = 64 := rfl
  refine ⟨fun l l' r hb hr hl => ?_, fun h hn => ?_, fun h hn => ?_⟩
  · have same (k : List NoticeRec) (hk : ∀ x ∈ k, x.event.folds e = false) :
        k.map (fun r => if r.event.folds e then r.fold e now else r) = k :=
      (List.map_congr_left fun x hx => by simp [hk x hx]).trans (List.map_id _)
    have hp : b.records.any (fun r => r.event.folds e) = true := by simp [hb, hr]
    rw [NoticeBlock.put, if_pos hp, hb, List.map_append, List.map_cons, if_pos hr,
      same l fun x hx => hl x (List.mem_append_left _ hx),
      same l' fun x hx => hl x (List.mem_append_right _ hx)]
    rfl
  all_goals
    have ha : b.records.any (fun r => r.event.folds e) = false := by simpa using h
    obtain ⟨ha', -⟩ | ⟨-, hl, e⟩ | ⟨-, hl, e⟩ := b.put_cases e now
    · rw [ha] at ha'; cases ha'
  · rw [e]
  · omega
  · omega
  · rw [e]

/-! ## Counters (R181) -/

/-- The state in which a counter has been written, before its crossings are noticed. -/
def State.written (s : State) (c : CounterRef) (v : Nat) : State :=
  { s with counters := s.counters.put v c }

theorem State.written_counter_notices {s : State} {c d : CounterRef} {v : Nat} (hc : c.ofNotices = false)
    (hd : d.ofNotices = true) : (s.written c v).counter d = s.counter d := by
  refine (State.counter_put s v c d).trans (if_neg ?_)
  rintro rfl
  rw [hc] at hd
  cases hd

/-- A notice raised where no counter of notices crosses a point is put, and nothing more is noticed. -/
theorem raise_notices_of_uncrossed (e : NoticeEvent) (s : State)
    (h : ∀ d, d.ofNotices = true → Uncrossed (s.counter d) 1) :
    (raise e s).notices = (s.notices.put e s.clock.hall.base).1 := (raise_uncrossed e s h).1

section
variable {c : CounterRef} {n : Nat} {s : State}

theorem bumpBy_half (h1 : s.counter c < Config.counterHalf) (h2 : Config.counterHalf ≤ s.counter c + n)
    (h3 : s.counter c + n < Config.counterMax) :
    bumpBy c n s = raise (.counterHalf c (s.counter c + n)) (s.written c (s.counter c + n)) := by
  have e : min (s.counter c + n) Config.counterMax = s.counter c + n := Nat.min_eq_left (by omega)
  unfold bumpBy bumpWith
  dsimp only
  rw [e, if_neg (by omega), if_pos ⟨h1, h2⟩]
  rfl

theorem bumpBy_full (h1 : Config.counterHalf ≤ s.counter c) (h2 : s.counter c < Config.counterMax)
    (h3 : Config.counterMax ≤ s.counter c + n) :
    bumpBy c n s = raise (.counterFull c Config.counterMax) (s.written c Config.counterMax) := by
  have e : min (s.counter c + n) Config.counterMax = Config.counterMax := Nat.min_eq_right h3
  unfold bumpBy bumpWith
  dsimp only
  rw [e, if_pos ⟨h2, le_rfl⟩, if_neg (by omega)]
  rfl

theorem bumpBy_both (h1 : s.counter c < Config.counterHalf) (h2 : Config.counterMax ≤ s.counter c + n) :
    bumpBy c n s = raise (.counterFull c Config.counterMax)
      (raise (.counterHalf c Config.counterMax) (s.written c Config.counterMax)) := by
  have hm : Config.counterHalf ≤ Config.counterMax := by decide
  have e : min (s.counter c + n) Config.counterMax = Config.counterMax := Nat.min_eq_right h2
  unfold bumpBy bumpWith
  dsimp only
  rw [e, if_pos ⟨by omega, le_rfl⟩, if_pos ⟨h1, hm⟩]
  rfl

end

/-- Settles O30, by which of its two points the counter crosses. -/
theorem countersSaturateAndNotice : Obligations.CountersSaturateAndNotice := by
  intro c n s now hc hnow
  subst hnow
  have hmax : Config.counterMax = 4294967295 := rfl
  have hhalf : Config.counterHalf = 2147483648 := rfl
  refine ⟨bumpBy_uncounted c n s, by rw [bumpBy_counter c n s c hc, if_pos rfl, hmax],
    fun d hd h => by rw [bumpBy_counter c n s d h, if_neg hd], fun h => ?_, fun hq => ?_⟩
  · have hu : Uncrossed (s.counter c) n := by unfold Uncrossed; omega
    rw [bumpBy_uncrossed c n s hu]
  have hw (v : Nat) (d : CounterRef) (hd : d.ofNotices = true) : Uncrossed ((s.written c v).counter d) 2 := by
    rw [State.written_counter_notices hc hd]; exact hq d hd
  refine ⟨fun h1 h2 h3 => ?_, fun h1 h2 h3 => ?_, fun h1 h2 => ?_⟩
  · rw [bumpBy_half (by omega) (by omega) (by omega)]
    exact raise_notices_of_uncrossed _ _ fun d hd => (hw _ d hd).mono (by omega)
  · rw [bumpBy_full (by omega) (by omega) (by omega)]
    exact raise_notices_of_uncrossed _ _ fun d hd => (hw _ d hd).mono (by omega)
  · have hh := raise_uncrossed (.counterHalf c Config.counterMax) (s.written c Config.counterMax)
      fun d hd => (hw _ d hd).mono (by omega)
    rw [bumpBy_both (by omega) (by omega), raise_notices_of_uncrossed _ _ fun d hd => ?_, hh.1, raise_clock]
    · rfl
    · have hb := hh.2 d hd
      have hu := hw Config.counterMax d hd
      unfold Uncrossed at *
      omega

end Sys2Proof.Machine
end


section
/-! SUPPORT. The invariants of a safe run, part by part, over a state and what a command has in hand: cells
that it has taken and not yet put anywhere, and references that it has yet to hand on. This part: the
cells (R22, R23, R26). -/

namespace Sys2Proof.Machine

/-! ## Counts over the elements of a vector -/

theorem count_flatMap_set {α β : Type} [DecidableEq β] (f : α → List β) (c : β) (l : List α) (i : Nat) (y : α)
    (h : i < l.length) :
    ((l.set i y).flatMap f).count c + (f l[i]).count c = (l.flatMap f).count c + (f y).count c := by
  induction l generalizing i with
  | nil => exact absurd h (Nat.not_lt_zero i)
  | cons x l ih =>
    cases i with
    | zero => simp only [List.set_cons_zero, List.flatMap_cons, List.count_append, List.getElem_cons_zero]; omega
    | succ i =>
      have := ih i (by simpa using h)
      simp only [List.set_cons_succ, List.flatMap_cons, List.count_append, List.getElem_cons_succ]
      omega

/-- The elements of a vector, each as its list: one that changes takes its own part of the counts along. -/
theorem count_flatMap_upd {α β : Type} [DecidableEq β] {n : Nat} (v : Vector α n) (i : Fin n) (g : α → α)
    (f : α → List β) (c : β) :
    ((upd v i g).toList.flatMap f).count c + (f v[i]).count c =
      (v.toList.flatMap f).count c + (f (g v[i])).count c := by
  have h := count_flatMap_set f c v.toList i (g v[i]) (by simp)
  rwa [← Vector.toList_set, Vector.getElem_toList] at h

theorem count_flatMap_vector_set {α β : Type} [DecidableEq β] {n : Nat} (v : Vector α n) (i : Fin n) (y : α)
    (f : α → List β) (c : β) :
    ((v.set i y).toList.flatMap f).count c + (f v[i]).count c =
      (v.toList.flatMap f).count c + (f y).count c :=
  count_flatMap_upd v i (fun _ => y) f c

/-! ## Where cells and references are -/

/-- The cells of the stored frames. -/
def CellMem.stored (m : CellMem) : List CellId := m.frames.toList.flatMap fun o => (o.map Frame.cells).getD []

/-- The cells of the reception in progress and of the open frame of a port. -/
def Rx.cells (x : Rx) : List CellId := (x.cur.map Reception.cells).getD [] ++ (x.asm.map Assembly.cells).getD []

/-- The references of a robot. -/
def Robot.holds (b : Robot) : List CellId := b.slot.toList ++ b.store.toList

theorem State.count_allCellsOf (s : State) (c : CellId) :
    s.allCellsOf.count c =
      s.mem.free.count c + s.mem.stored.count c + (s.rx.toList.flatMap Rx.cells).count c := by
  simp only [State.allCellsOf, List.count_append]
  rfl

theorem State.count_references (s : State) (h : CellId) :
    s.references.count h =
      (s.egress.toList.flatMap Egress.holders).count h + (s.robots.toList.flatMap Robot.holds).count h := by
  simp only [State.references, List.count_append]
  rfl

/-- What a place of the frame store says of the references that name it, `n` of them. -/
def Frame.countedAs (o : Option Frame) (h : CellId) (n : Nat) : Prop :=
  match o with
  | none => n = 0
  | some f => f.cells.head? = some h ∧ 1 ≤ f.refs ∧ n = f.refs

/-- R22, R23 and R26 in the course of a command: with the cells `a` and the references `o` in hand, every
cell is free, in hand or in exactly one frame, and a stored frame's count is the number of its holders. -/
def CellsIn (a o : List CellId) (s : State) : Prop :=
  (∀ c, a.count c + s.mem.free.count c + s.mem.stored.count c + (s.rx.toList.flatMap Rx.cells).count c = 1) ∧
    (∀ h : CellId, Frame.countedAs s.mem.frames[h] h (o.count h +
      (s.egress.toList.flatMap Egress.holders).count h + (s.robots.toList.flatMap Robot.holds).count h)) ∧
    s.mem.low ≤ s.mem.free.length

theorem cellInv_iff (s : State) : CellInv s ↔ CellsIn [] [] s := by
  have hp : s.allCellsOf.Perm (List.finRange 2048) ↔ ∀ c, s.allCellsOf.count c = 1 := by
    refine List.perm_iff_count.trans (forall_congr' fun c => ?_)
    rw [List.count_eq_one_of_mem (List.nodup_finRange 2048) (List.mem_finRange c)]
  unfold CellInv CellsIn
  simp only [hp, State.count_allCellsOf, State.count_references, List.count_nil, Nat.zero_add]
  refine and_congr_right fun _ => and_congr_left fun _ => forall_congr' fun h => ?_
  unfold Frame.countedAs
  cases s.mem.frames[h] <;> rfl

/-! ## What the operations do to the counts -/

section
variable {a o l : List CellId} {s : State}

theorem CellsIn.perm {a' : List CellId} (hp : a.Perm a') (h : CellsIn a o s) : CellsIn a' o s := by
  obtain ⟨hc, hr, hl⟩ := h
  exact ⟨fun c => hp.count_eq c ▸ hc c, hr, hl⟩

theorem CellsIn.give (h : CellsIn (l ++ a) o s) : CellsIn a o (s.give l) := by
  obtain ⟨hc, hr, hl⟩ := h
  refine ⟨fun c => ?_, hr, hl.trans (by simp [State.give, State.modMem, CellMem.give])⟩
  have := hc c
  simp only [State.give, State.modMem, CellMem.give, CellMem.stored, List.count_append] at this ⊢
  omega

theorem CellsIn.take {n : Nat} {m : CellMem} (e : s.mem.take n = some (l, m)) (h : CellsIn a o s) :
    CellsIn (l ++ a) o { s with mem := m } := by
  obtain ⟨hc, hr, hl⟩ := h
  obtain ⟨hn, rfl, rfl⟩ := (CellMem.take_eq_some ..).mp e
  refine ⟨fun c => ?_, hr, by simp⟩
  have := hc c
  have hsplit : s.mem.free.count c = (s.mem.free.take n).count c + (s.mem.free.drop n).count c := by
    rw [← List.count_append, List.take_append_drop]
  simp only [CellMem.stored, List.count_append] at this ⊢
  omega

theorem CellsIn.modRx {a' : List CellId} {p : PortId} {f : Rx → Rx}
    (hp : ((f s.rx[p]).cells ++ a').Perm (s.rx[p].cells ++ a)) (h : CellsIn a o s) :
    CellsIn a' o (s.modRx p f) := by
  obtain ⟨hc, hr, hl⟩ := h
  refine ⟨fun c => ?_, hr, hl⟩
  have := hc c
  have hq := hp.count_eq c
  have hu := count_flatMap_upd s.rx p f Rx.cells c
  simp only [State.modRx, List.count_append] at *
  omega

theorem CellsIn.modEgress {o' : List CellId} {p : PortId} {f : Egress → Egress}
    (hp : ((f s.egress[p]).holders ++ o').Perm (s.egress[p].holders ++ o)) (h : CellsIn a o s) :
    CellsIn a o' (s.modEgress p f) := by
  obtain ⟨hc, hr, hl⟩ := h
  refine ⟨hc, fun x => ?_, hl⟩
  have hq := hp.count_eq x
  have hu := count_flatMap_upd s.egress p f Egress.holders x
  refine Eq.mpr (congrArg (Frame.countedAs s.mem.frames[x] x) ?_) (hr x)
  simp only [State.modEgress, List.count_append] at hq hu ⊢
  omega

theorem CellsIn.modRobot {o' : List CellId} {r : RobotId} {f : Robot → Robot}
    (hp : ((f s.robots[r]).holds ++ o').Perm (s.robots[r].holds ++ o)) (h : CellsIn a o s) :
    CellsIn a o' (s.modRobot r f) := by
  obtain ⟨hc, hr, hl⟩ := h
  refine ⟨hc, fun x => ?_, hl⟩
  have hq := hp.count_eq x
  have hu := count_flatMap_upd s.robots r f Robot.holds x
  refine Eq.mpr (congrArg (Frame.countedAs s.mem.frames[x] x) ?_) (hr x)
  simp only [State.modRobot, List.count_append] at hq hu ⊢
  omega

/-- The cells of a stored frame count at its place. -/
theorem CellMem.count_stored_set (m : CellMem) (h : CellId) (x : Option Frame) (c : CellId) :
    (({ m with frames := m.frames.set h x } : CellMem).stored).count c +
        ((m.frames[h].map Frame.cells).getD []).count c =
      m.stored.count c + ((x.map Frame.cells).getD []).count c :=
  count_flatMap_vector_set m.frames h x (fun o => (o.map Frame.cells).getD []) c

/-- No frame is stored under a cell that is in hand. -/
theorem CellsIn.unstored {h : CellId} (hi : CellsIn a o s) (hm : h ∈ a) : s.mem.frames[h] = none := by
  obtain ⟨hc, hr, -⟩ := hi
  cases e : s.mem.frames[h] with
  | none => rfl
  | some f =>
    exfalso
    have hf := hr h
    rw [e] at hf
    have hin : h ∈ f.cells := List.mem_of_mem_head? hf.1
    have h1 := List.count_pos_iff.mpr hm
    have h2 := List.count_pos_iff.mpr hin
    have hu := s.mem.count_stored_set h none h
    have := hc h
    simp only [e, Option.map_some, Option.getD_some, Option.map_none, Option.getD_none, List.count_nil] at hu
    omega

theorem CellsIn.store {h : CellId} {octets : Octets} {n : Nat} {kind : FrameKind} (hn : 0 < n)
    (hi : CellsIn (h :: l ++ a) o s) :
    CellsIn a (List.replicate n h ++ o)
      (s.modMem (·.store { cells := h :: l, octets := octets, refs := n, kind := kind })) := by
  have hnone := hi.unstored (h := h) (by simp)
  obtain ⟨hc, hr, hl⟩ := hi
  refine ⟨fun c => ?_, fun x => ?_, hl⟩
  · have := hc c
    have hu := s.mem.count_stored_set h
      (some { cells := h :: l, octets := octets, refs := n, kind := kind }) c
    simp only [hnone, Option.map_some, Option.getD_some, Option.map_none, Option.getD_none,
      List.count_nil] at hu
    simp only [State.modMem, CellMem.store, List.count_append] at *
    omega
  · have := hr x
    have e := s.mem.frames_store { cells := h :: l, octets := octets, refs := n, kind := kind } h l rfl x
    simp only [State.modMem, e, List.count_append]
    by_cases hx : x = h
    · subst hx
      rw [hnone] at this
      simp only [Frame.countedAs] at this
      rw [if_pos rfl]
      exact ⟨rfl, hn, by rw [List.count_replicate_self]; dsimp only; omega⟩
    · rw [if_neg hx, List.count_replicate, if_neg (by simpa using Ne.symm hx), Nat.zero_add]
      exact this

/-- A frame that a reference names, in hand or held, is stored. -/
theorem CellsIn.isStored {h : CellId} (hi : CellsIn a o s) (hm : h ∈ o ++ s.references) :
    ∃ f, s.mem.frames[h] = some f := by
  obtain ⟨-, hr, -⟩ := hi
  cases e : s.mem.frames[h] with
  | some f => exact ⟨f, rfl⟩
  | none =>
    have := hr h
    rw [e, Nat.add_assoc, ← State.count_references, ← List.count_append] at this
    exact absurd (List.count_pos_iff.mpr hm) (by simp only [Frame.countedAs] at this; omega)

theorem CellMem.addRef_eq {m : CellMem} {h : CellId} {f : Frame} (e : m.frames[h] = some f) :
    m.addRef h = { m with frames := m.frames.set h (some { f with refs := f.refs + 1 }) } := by
  unfold CellMem.addRef; rw [e]

theorem CellsIn.addRef {h : CellId} {f : Frame} (e : s.mem.frames[h] = some f) (hi : CellsIn a o s) :
    CellsIn a (h :: o) (s.addRef h) := by
  obtain ⟨hc, hr, hl⟩ := hi
  refine ⟨fun c => ?_, fun x => ?_, by simpa [State.addRef, State.modMem] using hl⟩
  · have := hc c
    have hu := s.mem.count_stored_set h (some { f with refs := f.refs + 1 }) c
    simp only [e, Option.map_some, Option.getD_some] at hu
    simp only [State.addRef, State.modMem, CellMem.addRef_eq e]
    omega
  · have := hr x
    simp only [State.addRef, State.modMem, CellMem.frames_addRef, List.count_cons]
    by_cases hx : x = h
    · subst hx
      rw [e] at this
      obtain ⟨hf, hpos, hrefs⟩ := this
      rw [if_pos rfl, e]
      exact ⟨hf, by simp, by simp only [beq_self_eq_true, if_true]; omega⟩
    · simpa [hx, Ne.symm hx] using this

theorem CellsIn.release {h : CellId} (hi : CellsIn a (h :: o) s) : CellsIn a o (s.release h) := by
  obtain ⟨f, e⟩ := hi.isStored (h := h) (by simp)
  obtain ⟨hc, hr, hl⟩ := hi
  have hh := hr h
  rw [e, List.count_cons_self] at hh
  obtain ⟨-, hpos, hrefs⟩ := hh
  refine ⟨fun c => ?_, fun x => ?_, ?_⟩
  · have := hc c
    have h0 := s.mem.count_stored_set h none c
    have h1 := s.mem.count_stored_set h (some { f with refs := f.refs - 1 }) c
    simp only [e, Option.map_some, Option.getD_some, Option.map_none, Option.getD_none, List.count_nil] at h0 h1
    simp only [State.release, State.modMem, CellMem.release, e]
    split
    · simp only [CellMem.stored, List.count_append] at *
      omega
    · simp only [CellMem.stored] at *
      omega
  · have := hr x
    simp only [State.release, State.modMem, CellMem.frames_release]
    by_cases hx : x = h
    · subst hx
      rw [if_pos rfl, e, Option.bind_some]
      rw [e, List.count_cons_self] at this
      simp only [Frame.countedAs] at this
      split
      · simp only [Frame.countedAs]; omega
      · simp only [Frame.countedAs]; exact ⟨this.1, by omega, by omega⟩
    · rw [if_neg hx]
      rwa [List.count_cons_of_ne (Ne.symm hx)] at this
  · simp only [State.release, State.modMem, CellMem.release_low, CellMem.release_free, e]
    split
    · simp only [List.length_append]; omega
    · exact hl

/-- What changes neither the cells, nor the counts, nor the free list of a frame changes nothing here. -/
theorem CellsIn.mapFrames {g : Frame → Frame} (hcells : ∀ f, (g f).cells = f.cells)
    (hrefs : ∀ f, (g f).refs = f.refs) (h : CellsIn a o s) :
    CellsIn a o (s.modMem fun m => { m with frames := m.frames.map fun f => f.map g }) := by
  obtain ⟨hc, hr, hl⟩ := h
  have e : CellMem.stored { s.mem with frames := s.mem.frames.map fun f => f.map g } = s.mem.stored := by
    simp [CellMem.stored, Vector.toList_map, List.flatMap_map, Function.comp_def, hcells]
  refine ⟨fun c => ?_, fun x => ?_, hl⟩
  · simpa only [State.modMem, e] using hc c
  · have := hr x
    simp only [State.modMem, Fin.getElem_fin, Vector.getElem_map] at this ⊢
    cases e : s.mem.frames[x.val] with
    | none => simpa [e, Frame.countedAs] using this
    | some f => simpa [e, Frame.countedAs, hcells, hrefs] using this

/-- With nothing stored and nothing held, every cell is free. -/
theorem CellsIn.cleared (hm : s.mem = CellMem.reset) (hrx : s.rx = Vector.replicate 12 Rx.reset)
    (he : ∀ p : PortId, s.egress[p].holders = []) (hb : ∀ r : RobotId, s.robots[r].holds = []) :
    CellsIn [] [] s := by
  have hE : s.egress.toList.flatMap Egress.holders = [] := by
    rw [List.flatMap_eq_nil_iff]
    intro e hx
    obtain ⟨i, hi, rfl⟩ := List.getElem_of_mem hx
    simpa using he ⟨i, by simpa using hi⟩
  have hB : s.robots.toList.flatMap Robot.holds = [] := by
    rw [List.flatMap_eq_nil_iff]
    intro b hx
    obtain ⟨i, hi, rfl⟩ := List.getElem_of_mem hx
    simpa using hb ⟨i, by simpa using hi⟩
  have hF : CellMem.reset.free = List.finRange 2048 := by simp only [CellMem.reset, allCells]
  have hN : ∀ h : CellId, CellMem.reset.frames[h] = none := fun h => by
    simp only [CellMem.reset, Fin.getElem_fin, Vector.getElem_replicate]
  have hS : CellMem.reset.stored = [] := by
    unfold CellMem.stored CellMem.reset
    rw [Vector.toList_replicate, List.flatMap_eq_nil_iff]
    intro x hx
    rw [List.eq_of_mem_replicate hx]
    rfl
  have hR : (Vector.replicate 12 Rx.reset).toList.flatMap Rx.cells = [] := by
    rw [Vector.toList_replicate, List.flatMap_eq_nil_iff]
    intro x hx
    rw [List.eq_of_mem_replicate hx]
    rfl
  refine ⟨fun c => ?_, fun h => ?_, ?_⟩
  · rw [hm, hrx, hS, hR, hF]
    simp only [List.count_nil, Nat.zero_add, Nat.add_zero]
    exact List.count_eq_one_of_mem (List.nodup_finRange 2048) (List.mem_finRange c)
  · rw [hE, hB, hm, hN]
    rfl
  · rw [hm, hF, List.length_finRange]
    exact Nat.le_refl 2048

end

/-! ## Cuts (R37, R80) -/

/-- While a piece that may be cut, or is to be cut, is on its wire, a port holds no remainder. -/
def Egress.cutOk (e : Egress) : Prop :=
  ∀ t, e.tx = some t → t.cuttable = true ∨ t.cutAt.isSome = true → e.remainder = none

theorem cutInv_iff (s : State) : CutInv s ↔ ∀ p : PortId, s.egress[p].cutOk := Iff.rfl

theorem CutInv.modEgress {s : State} {p : PortId} {f : Egress → Egress}
    (hf : s.egress[p].cutOk → (f s.egress[p]).cutOk) (h : CutInv s) : CutInv (s.modEgress p f) := by
  rw [cutInv_iff] at h ⊢
  intro x
  simp only [State.modEgress, Fin.getElem_fin, upd_get]
  split
  · next e => subst e; exact hf (h x)
  · exact h x

end Sys2Proof.Machine
end


section
/-! SUPPORT. The invariants of a safe run, continued: the robots, the windows that hold them, the watch and
the hold sources (R89, R91, R101, R106, R107, R162, R170). -/

namespace Sys2Proof.Machine

/-! ## One robot -/

/-- What the invariants say of one robot: the windows hold it as `held` says, and `source` says whether it is
a hold source. -/
structure Robot.Ok (b : Robot) (held : WindowId → Bool) (source : Bool) : Prop where
  held_iff : ∀ w, held w = true ↔ b.state = .service ∧ b.holder = some w
  service_iff : b.state = .service ↔ b.holder.isSome = true
  empty : b.state.armed = false → b.slot = none ∧ b.store = none
  damage : b.damaged = true → b.state = .idle
  port : b.state ≠ .idle → b.port.isSome = true
  lost : source = true → b.state = .lost

/-- The windows that hold a robot. -/
def State.heldBy (s : State) (r : RobotId) (w : WindowId) : Bool := s.windows[w].heldSet.getLsbD r.val

/-- A robot is a hold source. -/
def State.sourceOf (s : State) (r : RobotId) : Bool := s.hold.present.robots.getLsbD r.val

/-- What the invariants say of the robots, the watch and the hold sources, but that half is said of the watch: one
that is IDLE while a robot is armed is shut out, and one that runs while none is armed is not. -/
structure RobotsIn (s : State) : Prop where
  robot : ∀ r : RobotId, s.robots[r].Ok (s.heldBy r) (s.sourceOf r)
  watch : s.watch.state = .idle → s.noneArmed = true
  controller : s.hold.present.controller = true → s.watch.state = .lost

/-- The other half: the watch is IDLE while no robot is armed. -/
def WatchRests (s : State) : Prop := s.noneArmed = true → s.watch.state = .idle

/-- A window that holds a robot is ACTIVE at level MAINTAIN. -/
def HeldOk (s : State) : Prop := ∀ w : WindowId, s.windows[w].heldSet ≠ 0 → s.windows[w].maintains = true

/-- R21, R89, R91, R101, R106, R107, R162 and R170 together. -/
def RobotsInv (s : State) : Prop := (RobotsIn s ∧ WatchRests s) ∧ HeldOk s

theorem robotsInv_iff (s : State) : RobotsInv s ↔ ServiceInv s ∧ SupervisorInv s := by
  constructor
  · rintro ⟨⟨⟨hr, hi, hc⟩, hn⟩, hw⟩
    exact ⟨⟨fun r w => (hr r).held_iff w, fun r => (hr r).service_iff, hw⟩, fun r => (hr r).empty,
      fun r => (hr r).damage, fun r => (hr r).port, ⟨hi, hn⟩, fun r => (hr r).lost, hc⟩
  · rintro ⟨⟨hheld, hserv, hw⟩, hempty, hdam, hport, hidle, hlost, hc⟩
    exact ⟨⟨⟨fun r => ⟨hheld r, hserv r, hempty r, hdam r, hport r, hlost r⟩, hidle.mp, hc⟩, hidle.mpr⟩, hw⟩

theorem noneArmed_iff (s : State) : s.noneArmed = true ↔ ∀ r : RobotId, s.robots[r].state.armed = false := by
  simp [State.noneArmed]

theorem noneArmed_of_armed {s t : State} (h : ∀ r : RobotId, t.robots[r].state.armed = s.robots[r].state.armed) :
    t.noneArmed = s.noneArmed := by
  rw [Bool.eq_iff_iff, noneArmed_iff, noneArmed_iff]
  exact forall_congr' fun r => by rw [h]

theorem RobotsInv.congr {s t : State} (h : RobotsInv s) (hr : t.robots = s.robots) (hw : t.windows = s.windows)
    (ht : t.watch = s.watch) (hh : t.hold = s.hold) : RobotsInv t := by
  obtain ⟨⟨⟨h1, h2, h3⟩, h4⟩, h5⟩ := h
  have hn : t.noneArmed = s.noneArmed := noneArmed_of_armed fun r => by rw [hr]
  refine ⟨⟨⟨fun r => ?_, by rwa [ht, hn], by rwa [hh, ht]⟩, by unfold WatchRests; rwa [hn, ht]⟩,
    by unfold HeldOk; rwa [hw]⟩
  have := h1 r
  unfold State.heldBy State.sourceOf at *
  rwa [hr, hw, hh]

/-! ## A robot's own fields -/

/-- A robot changes without a change of what the invariants say of it: it stays armed or not, in SERVICE or
not, and LOST when it was; it keeps its holder and its port; and it gains a frame only when it is armed. -/
structure Robot.Moves (b b' : Robot) : Prop where
  armed : b'.state.armed = b.state.armed
  service : b'.state = .service ↔ b.state = .service
  lost : b.state = .lost → b'.state = .lost
  holder : b'.holder = b.holder
  port : b'.port = b.port
  damage : b'.damaged = true → b.damaged = true
  frames : b.state.armed = true ∨ (b'.slot = b.slot ∧ b'.store = b.store) ∨ (b'.slot = none ∧ b'.store = none)

theorem RobotState.idle_iff (x : RobotState) : x = .idle ↔ x.armed = false ∧ x ≠ .service := by
  cases x <;> simp [RobotState.armed]

theorem Robot.Moves.idle_iff {b b' : Robot} (h : b.Moves b') : b'.state = .idle ↔ b.state = .idle := by
  rw [RobotState.idle_iff, RobotState.idle_iff, h.armed, Ne, not_congr h.service]

theorem Robot.Moves.ok {b b' : Robot} {held : WindowId → Bool} {source : Bool} (h : b.Moves b')
    (hb : b.Ok held source) : b'.Ok held source where
  held_iff w := by rw [h.service, h.holder]; exact hb.held_iff w
  service_iff := by rw [h.service, h.holder]; exact hb.service_iff
  empty ha := by
    rw [h.armed] at ha
    obtain hf | ⟨h1, h2⟩ | hf := h.frames
    · rw [ha] at hf; cases hf
    · rw [h1, h2]; exact hb.empty ha
    · exact hf
  damage hd := h.idle_iff.mpr (hb.damage (h.damage hd))
  port hn := by rw [h.port]; exact hb.port fun e => hn (h.idle_iff.mpr e)
  lost hs := h.lost (hb.lost hs)

/-- A robot that changes but for the fields that the invariants speak of. -/
theorem Robot.Moves.beside {b b' : Robot} (h1 : b'.state = b.state) (h2 : b'.holder = b.holder)
    (h3 : b'.port = b.port) (h4 : b'.damaged = true → b.damaged = true)
    (h5 : b'.slot = b.slot ∧ b'.store = b.store) : b.Moves b' :=
  ⟨by rw [h1], by rw [h1], by rw [h1]; exact id, h2, h3, h4, .inr (.inl h5)⟩

theorem RobotsInv.robots {s : State} {v : Vector Robot 24} (hv : ∀ r : RobotId, s.robots[r].Moves v[r])
    (h : RobotsInv s) : RobotsInv { s with robots := v } := by
  obtain ⟨⟨⟨h1, h2, h3⟩, h4⟩, h5⟩ := h
  have hn : ({ s with robots := v } : State).noneArmed = s.noneArmed := noneArmed_of_armed fun r => (hv r).armed
  exact ⟨⟨⟨fun r => (hv r).ok (h1 r), by rwa [hn], h3⟩, by unfold WatchRests; rwa [hn]⟩, h5⟩

theorem Robot.Moves.refl (b : Robot) : b.Moves b := .beside rfl rfl rfl id ⟨rfl, rfl⟩

theorem RobotsInv.modRobot {s : State} {r : RobotId} {f : Robot → Robot}
    (hf : s.robots[r].Moves (f s.robots[r])) (h : RobotsInv s) : RobotsInv (s.modRobot r f) := by
  refine h.robots fun x => ?_
  simp only [Fin.getElem_fin, upd_get] at hf ⊢
  split
  · next e => subst e; exact hf
  · exact .refl _

/-! ## Windows -/

/-- The held sets as they were. -/
theorem RobotsIn.modWindow {s : State} {w : WindowId} {f : ServiceWindow → ServiceWindow}
    (hh : (f s.windows[w]).heldSet = s.windows[w].heldSet) (h : RobotsIn s) : RobotsIn (s.modWindow w f) := by
  refine ⟨fun r => ?_, h.watch, h.controller⟩
  have e : (s.modWindow w f).heldBy r = s.heldBy r := funext fun x => by
    simp only [State.heldBy, State.modWindow, Fin.getElem_fin, upd_get] at hh ⊢
    split
    · next e => subst e; rw [hh]
    · rfl
  rw [e]
  exact h.robot r

/-- A window changes and holds the same robots: it goes on maintaining, or it holds none. -/
theorem RobotsInv.modWindow {s : State} {w : WindowId} {f : ServiceWindow → ServiceWindow}
    (hh : (f s.windows[w]).heldSet = s.windows[w].heldSet)
    (hm : s.windows[w].maintains = true → s.windows[w].heldSet = 0 ∨ (f s.windows[w]).maintains = true)
    (h : RobotsInv s) : RobotsInv (s.modWindow w f) := by
  refine ⟨⟨h.1.1.modWindow hh, h.1.2⟩, fun x hx => ?_⟩
  simp only [State.modWindow, Fin.getElem_fin, upd_get] at hh hm hx ⊢
  split at hx
  · next e =>
    subst e
    rw [hh] at hx
    rw [if_pos rfl]
    exact (hm (h.2 x hx)).resolve_left hx
  · next e =>
    rw [if_neg e]
    exact h.2 x hx

/-- A window that does not maintain holds no robot, and may be granted anew. -/
theorem RobotsInv.modWindow_unheld {s : State} {w : WindowId} {f : ServiceWindow → ServiceWindow}
    (hm : s.windows[w].maintains = false)
    (hf : (f s.windows[w]).heldSet = s.windows[w].heldSet ∨ (f s.windows[w]).heldSet = 0)
    (h : RobotsInv s) : RobotsInv (s.modWindow w f) := by
  have h0 : s.windows[w].heldSet = 0 := by
    by_contra hne
    exact Bool.false_ne_true (hm.symm.trans (h.2 w hne))
  exact h.modWindow (hf.elim id fun e => e.trans h0.symm) fun _ => .inl h0

/-! ## All robots but one -/

/-- The invariants but for what they say of one robot. -/
structure RobotsBut (r : RobotId) (s : State) : Prop where
  robot : ∀ x : RobotId, x ≠ r → s.robots[x].Ok (s.heldBy x) (s.sourceOf x)
  watch : s.watch.state = .idle → s.noneArmed = true
  controller : s.hold.present.controller = true → s.watch.state = .lost

theorem RobotsIn.but {s : State} (r : RobotId) (h : RobotsIn s) : RobotsBut r s :=
  ⟨fun x _ => h.robot x, h.watch, h.controller⟩

section
variable {r : RobotId} {s : State}

theorem RobotsBut.robotsIn (h : RobotsBut r s) (hr : s.robots[r].Ok (s.heldBy r) (s.sourceOf r)) : RobotsIn s :=
  ⟨fun x => if hx : x = r then hx ▸ hr else h.robot x hx, h.watch, h.controller⟩

/-- The robot set aside may change as it will, but that it is armed only if it was. -/
theorem RobotsBut.modRobot {f : Robot → Robot}
    (ha : (f s.robots[r]).state.armed = true → s.robots[r].state.armed = true) (h : RobotsBut r s) :
    RobotsBut r (s.modRobot r f) := by
  refine ⟨fun x hx => ?_, fun hi => ?_, h.controller⟩
  · have e : (s.modRobot r f).robots[x] = s.robots[x] := upd_other _ _ _ _ hx
    rw [e]
    exact h.robot x hx
  · have hn := (noneArmed_iff s).mp (h.watch hi)
    rw [noneArmed_iff]
    intro x
    simp only [State.modRobot, Fin.getElem_fin, upd_get] at ha ⊢
    split
    · rw [Bool.eq_false_iff]
      exact fun e => Bool.false_ne_true ((hn r).symm.trans (ha e))
    · exact hn x

/-- What speaks of other robots is as it was. -/
theorem RobotsBut.congr {t : State} (h : RobotsBut r s) (hr : t.robots = s.robots) (ht : t.watch = s.watch)
    (hh : ∀ x : RobotId, x ≠ r → t.heldBy x = s.heldBy x)
    (hs : ∀ x : RobotId, x ≠ r → t.sourceOf x = s.sourceOf x)
    (hc : t.hold.present.controller = s.hold.present.controller) : RobotsBut r t := by
  refine ⟨fun x hx => ?_, ?_, ?_⟩
  · rw [hr, hh x hx, hs x hx]
    exact h.robot x hx
  · rw [ht, noneArmed_of_armed (t := t) (s := s) fun x => by rw [hr]]
    exact h.watch
  · rw [hc, ht]
    exact h.controller

theorem leaveHold_sourceOf (r x : RobotId) (s : State) :
    (leaveHold (.robot r) s).sourceOf x = (s.sourceOf x && !decide (x = r)) := getLsbD_without ..

theorem RobotsBut.leaveHold (h : RobotsBut r s) : RobotsBut r (leaveHold (.robot r) s) :=
  h.congr rfl rfl (fun _ _ => rfl)
    (fun x hx => by rw [leaveHold_sourceOf, decide_eq_false hx, Bool.not_false, Bool.and_true]) rfl

theorem leaveHeld_windows (r : RobotId) (s : State) (w : WindowId) :
    (leaveHeld r s).windows[w] = { s.windows[w] with heldSet := without s.windows[w].heldSet r } := by
  simp only [leaveHeld, forEach_cons, forEach_nil, State.modWindow_windows, Fin.getElem_fin, upd_get]
  fin_cases w <;> rfl

theorem leaveHeld_heldBy (r x : RobotId) (s : State) (w : WindowId) :
    (leaveHeld r s).heldBy x w = (s.heldBy x w && !decide (x = r)) := by
  rw [State.heldBy, leaveHeld_windows]
  exact getLsbD_without ..

theorem RobotsBut.leaveHeld (h : RobotsBut r s) : RobotsBut r (leaveHeld r s) :=
  h.congr rfl rfl (fun x hx => funext fun w => by
    rw [leaveHeld_heldBy, decide_eq_false hx, Bool.not_false, Bool.and_true]) (fun _ _ => rfl) rfl

theorem leavePending_windows (r : RobotId) (s : State) (w : WindowId) :
    (leavePending r s).windows[w] = { s.windows[w] with pendingSet := without s.windows[w].pendingSet r } := by
  simp only [leavePending, forEach_cons, forEach_nil, State.modWindow_windows, Fin.getElem_fin, upd_get]
  fin_cases w <;> rfl

theorem leavePending_heldBy (r x : RobotId) (s : State) : (leavePending r s).heldBy x = s.heldBy x :=
  funext fun w => by rw [State.heldBy, leavePending_windows]; rfl

theorem RobotsBut.leavePending (h : RobotsBut r s) : RobotsBut r (leavePending r s) :=
  h.congr rfl rfl (fun x _ => leavePending_heldBy r x s) (fun _ _ => rfl) rfl

theorem without_ne_zero {n : Nat} {b : BitVec n} {i : Fin n} (h : without b i ≠ 0) : b ≠ 0 := by
  rintro rfl
  exact h (by simp [without])

theorem HeldOk.leaveHeld (h : HeldOk s) : HeldOk (leaveHeld r s) := fun w hw => by
  rw [leaveHeld_windows] at hw ⊢
  exact h w (without_ne_zero hw)

theorem HeldOk.leavePending (h : HeldOk s) : HeldOk (leavePending r s) := fun w hw => by
  rw [leavePending_windows] at hw ⊢
  exact h w hw

theorem HeldOk.of_windows {t : State} (h : HeldOk s) (e : t.windows = s.windows) : HeldOk t := by
  unfold HeldOk
  rwa [e]

/-- The watch follows a robot that left (R107). -/
theorem watchIdleIfNone_cases (s : State) :
    (watchIdleIfNone s = s ∧ WatchRests s) ∨
      (watchIdleIfNone s = leaveHold .controller (s.modWatch fun w => { w with state := .idle }) ∧
        s.noneArmed = true) := by
  unfold watchIdleIfNone
  split
  · next hn => exact .inr ⟨rfl, hn.1⟩
  · next hn => exact .inl ⟨rfl, fun ha => by_contra fun hne => hn ⟨ha, hne⟩⟩

theorem watchIdleIfNone_rests (s : State) : WatchRests (watchIdleIfNone s) := by
  obtain ⟨e, h⟩ | ⟨e, -⟩ := watchIdleIfNone_cases s
  · rwa [e]
  · rw [e]
    exact fun _ => rfl

theorem RobotsBut.watchIdleIfNone (h : RobotsBut r s) : RobotsBut r (watchIdleIfNone s) := by
  obtain ⟨e, -⟩ | ⟨e, hn⟩ := watchIdleIfNone_cases s
  · rwa [e]
  · rw [e]
    exact ⟨h.robot, fun _ => hn, fun hc => by cases hc⟩

theorem RobotsIn.watchIdleIfNone (h : RobotsIn s) : RobotsIn (watchIdleIfNone s) := by
  obtain ⟨e, -⟩ | ⟨e, hn⟩ := watchIdleIfNone_cases s
  · rwa [e]
  · rw [e]
    exact ⟨h.robot, fun _ => hn, fun hc => by cases hc⟩

theorem watchIdleIfNone_keeps (s : State) : (Machine.watchIdleIfNone s).robots = s.robots ∧
    (Machine.watchIdleIfNone s).windows = s.windows ∧
    (Machine.watchIdleIfNone s).hold.present.robots = s.hold.present.robots := by
  obtain ⟨e, -⟩ | ⟨e, -⟩ := watchIdleIfNone_cases s <;> rw [e] <;> exact ⟨rfl, rfl, rfl⟩

/-! ## To IDLE (R21, R91) -/

/-- A robot in IDLE, held by no window, is as the invariants say. -/
theorem Robot.Ok.idle {b : Robot} {held : WindowId → Bool} {source : Bool} (hs : b.state = .idle)
    (hh : b.holder = none) (hf : b.slot = none ∧ b.store = none) (hw : ∀ w, held w = false)
    (hn : source = false) : b.Ok held source :=
  ⟨fun w => by simp [hw, hs], by simp [hs, hh], fun _ => hf, fun _ => hs, fun hne => absurd hs hne,
    fun e => by rw [hn] at e; cases e⟩

/-- A robot goes to IDLE, its slot and store empty (R91). -/
def idleRobot (r : RobotId) (s : State) : State :=
  leavePending r (leaveHold (.robot r) (s.modRobot r fun b =>
    { b with state := .idle, missCount := 0, repeatsUsed := 0, probation := 0, armingCount := 0, holder := none }))

theorem toIdle_eq (r : RobotId) (s : State) : toIdle r s = watchIdleIfNone (idleRobot r (emptySlots r s)) := rfl

theorem idleRobot_robot (r : RobotId) (s : State) : (idleRobot r s).robots[r] =
    { s.robots[r] with state := .idle, missCount := 0, repeatsUsed := 0, probation := 0, armingCount := 0,
                       holder := none } := upd_same ..

theorem idleRobot_heldBy (r x : RobotId) (s : State) : (idleRobot r s).heldBy x = s.heldBy x :=
  leavePending_heldBy ..

theorem idleRobot_sourceOf (r x : RobotId) (s : State) :
    (idleRobot r s).sourceOf x = (s.sourceOf x && !decide (x = r)) := leaveHold_sourceOf r x _

theorem HeldOk.idleRobot (h : HeldOk s) : HeldOk (idleRobot r s) := by
  unfold Machine.idleRobot
  exact HeldOk.leavePending (by exact h)

theorem RobotsBut.idleRobot (h : RobotsBut r s) : RobotsBut r (idleRobot r s) :=
  ((h.modRobot fun e => by cases e).leaveHold).leavePending

/-- A robot that is not in SERVICE goes to IDLE with no frame. -/
theorem RobotsInv.toIdle (h : RobotsInv s) (hs : s.robots[r].state ≠ .service)
    (hf : s.robots[r].slot = none ∧ s.robots[r].store = none) :
    RobotsInv (Machine.watchIdleIfNone (Machine.idleRobot r s)) := by
  have hb := (h.1.1.but r).idleRobot
  have hi : RobotsIn (Machine.idleRobot r s) := by
    refine hb.robotsIn (.idle ?_ ?_ ?_ (fun w => ?_) ?_)
    · rw [idleRobot_robot]
    · rw [idleRobot_robot]
    · rw [idleRobot_robot]; exact hf
    · rw [idleRobot_heldBy, Bool.eq_false_iff]
      exact fun e => hs (((h.1.1.robot r).held_iff w).mp e).1
    · rw [idleRobot_sourceOf, decide_eq_true rfl, Bool.not_true, Bool.and_false]
  exact ⟨⟨hi.watchIdleIfNone, watchIdleIfNone_rests _⟩,
    h.2.idleRobot.of_windows (watchIdleIfNone_keeps _).2.1⟩

/-- A robot found damaged goes to IDLE whatever its state, and no window holds it (R21). -/
theorem RobotsInv.damaged (hb : RobotsBut r s) (hw : HeldOk s)
    (hf : s.robots[r].slot = none ∧ s.robots[r].store = none) :
    RobotsInv (Machine.leaveHeld r (Machine.watchIdleIfNone (Machine.idleRobot r s))) := by
  have hk := watchIdleIfNone_keeps (Machine.idleRobot r s)
  have hi := hb.idleRobot.watchIdleIfNone.leaveHeld.robotsIn (.idle ?_ ?_ ?_ (fun w => ?_) ?_)
  · exact ⟨⟨hi, watchIdleIfNone_rests (Machine.idleRobot r s)⟩, (hw.idleRobot.of_windows hk.2.1).leaveHeld⟩
  · show (Machine.watchIdleIfNone (Machine.idleRobot r s)).robots[r].state = .idle
    rw [hk.1, idleRobot_robot]
  · show (Machine.watchIdleIfNone (Machine.idleRobot r s)).robots[r].holder = none
    rw [hk.1, idleRobot_robot]
  · show (Machine.watchIdleIfNone (Machine.idleRobot r s)).robots[r].slot = none ∧
      (Machine.watchIdleIfNone (Machine.idleRobot r s)).robots[r].store = none
    rw [hk.1, idleRobot_robot]
    exact hf
  · rw [leaveHeld_heldBy, decide_eq_true rfl, Bool.not_true, Bool.and_false]
  · show (Machine.watchIdleIfNone (Machine.idleRobot r s)).sourceOf r = false
    unfold State.sourceOf
    rw [hk.2.2]
    exact (idleRobot_sourceOf r r s).trans (by simp)

/-! ## Into SERVICE (R101, R162) -/

/-- A robot that was in SERVICE of no window joins the one that takes it, which maintains. -/
theorem RobotsInv.intoService {w : WindowId} (h : RobotsInv s) (ha : s.robots[r].state.armed = true)
    (hl : s.robots[r].state ≠ .lost) (hm : s.windows[w].maintains = true)
    (hf : s.robots[r].slot = none ∧ s.robots[r].store = none) :
    RobotsInv (Machine.watchIdleIfNone ((s.modRobot r fun b =>
      { b.withoutPeriod with state := .service, holder := some w, missCount := 0, repeatsUsed := 0,
                             armingCount := 0 }).modWindow w fun x =>
      { x with pendingSet := without x.pendingSet r, heldSet := withMember x.heldSet r })) := by
  have hr := h.1.1.robot r
  have hns : s.robots[r].state ≠ .service := fun e => by rw [e] at ha; cases ha
  have hni : s.robots[r].state ≠ .idle := fun e => by rw [e] at ha; cases ha
  set u := (s.modRobot r fun b =>
      { b.withoutPeriod with state := .service, holder := some w, missCount := 0, repeatsUsed := 0,
                             armingCount := 0 }).modWindow w fun x =>
      { x with pendingSet := without x.pendingSet r, heldSet := withMember x.heldSet r } with hu
  have hheld : ∀ x y, u.heldBy x y = (s.heldBy x y || (decide (y = w) && decide (x = r))) := fun x y => by
    simp only [hu, State.heldBy, State.modWindow, State.modRobot, Fin.getElem_fin, upd_get]
    split
    · next e =>
      subst e
      rw [getLsbD_withMember, decide_eq_true rfl, Bool.true_and]
    · next e => simp [e]
  have hrob : u.robots[r] = { s.robots[r].withoutPeriod with
      state := .service, holder := some w, missCount := 0, repeatsUsed := 0, armingCount := 0 } := upd_same ..
  have hb : RobotsBut r u :=
    ((h.1.1.but r).modRobot (f := fun b =>
      { b.withoutPeriod with state := .service, holder := some w, missCount := 0, repeatsUsed := 0,
                             armingCount := 0 }) nofun).congr rfl rfl
      (fun x hx => funext fun y => by rw [hheld, decide_eq_false hx, Bool.and_false, Bool.or_false]; rfl)
      (fun _ _ => rfl) rfl
  have hi : RobotsIn u := by
    refine hb.robotsIn ⟨fun y => ?_, ?_, fun e => ?_, fun e => ?_, fun _ => ?_, fun e => ?_⟩
    · rw [hheld, hrob]
      have : s.heldBy r y = false := by
        rw [Bool.eq_false_iff]
        exact fun e => hns ((hr.held_iff y).mp e).1
      simp [this, eq_comm]
    · rw [hrob]; simp
    · rw [hrob]; exact hf
    · rw [hrob] at e ⊢; exact absurd (hr.damage e) hni
    · rw [hrob]; exact hr.port hni
    · exact absurd (hr.lost e) hl
  refine ⟨⟨hi.watchIdleIfNone, watchIdleIfNone_rests _⟩, fun y hy => ?_⟩
  rw [(watchIdleIfNone_keeps u).2.1] at hy ⊢
  simp only [hu, State.modWindow, State.modRobot, Fin.getElem_fin, upd_get] at hy hm ⊢
  split
  · exact hm
  · next e =>
    rw [if_neg e] at hy
    exact h.2 y hy

/-! ## Into ARMING (R90, R101) -/

/-- A robot with a port, whose record is good, that no window holds and that is no hold source is armed. -/
theorem RobotsBut.enterArming (hb : RobotsBut r s) (hn : WatchRests s) (hp : s.robots[r].port.isSome = true)
    (hd : s.robots[r].damaged = false) (hw : ∀ w, s.heldBy r w = false) (hs : s.sourceOf r = false) :
    RobotsIn (enterArming r s) ∧ WatchRests (enterArming r s) := by
  have hrob : (Machine.enterArming r s).robots = upd s.robots r fun b => b.armedAt s.clock.hall := by
    unfold Machine.enterArming
    dsimp only
    split <;> rfl
  have hwin : (Machine.enterArming r s).windows = s.windows ∧ (Machine.enterArming r s).hold = s.hold := by
    unfold Machine.enterArming
    dsimp only
    split <;> exact ⟨rfl, rfl⟩
  have hown : (Machine.enterArming r s).robots[r] = s.robots[r].armedAt s.clock.hall := by
    rw [hrob]; exact upd_same ..
  have harmed : (Machine.enterArming r s).noneArmed = false := by
    rw [Bool.eq_false_iff, Ne, noneArmed_iff]
    intro hall
    have := hall r
    rw [hown] at this
    cases this
  have hwatch : (Machine.enterArming r s).watch.state ≠ .idle ∧
      (s.hold.present.controller = true → (Machine.enterArming r s).watch.state = .lost) := by
    unfold Machine.enterArming
    dsimp only
    split
    · next hfirst =>
      refine ⟨nofun, fun hc => ?_⟩
      have h1 := hb.controller hc
      rw [hn hfirst] at h1
      cases h1
    · next hfirst => exact ⟨fun e => hfirst (hb.watch e), hb.controller⟩
  refine ⟨⟨fun x => ?_, fun e => absurd e hwatch.1, ?_⟩, fun e => by rw [harmed] at e; cases e⟩
  · have e1 : (Machine.enterArming r s).heldBy x = s.heldBy x := by unfold State.heldBy; rw [hwin.1]
    have e2 : (Machine.enterArming r s).sourceOf x = s.sourceOf x := by unfold State.sourceOf; rw [hwin.2]
    rw [e1, e2]
    by_cases hx : x = r
    · subst hx
      rw [hown]
      exact ⟨fun w => by simp [hw, Robot.armedAt], by simp [Robot.armedAt], nofun,
        fun e => absurd (hd.symm.trans e) Bool.false_ne_true, fun _ => hp,
        fun e => absurd (hs.symm.trans e) Bool.false_ne_true⟩
    · have e3 : (Machine.enterArming r s).robots[x] = s.robots[x] := by
        rw [hrob]; exact upd_other _ _ _ _ hx
      rw [e3]
      exact hb.robot x hx
  · rw [hwin.2]; exact hwatch.2

/-- A robot that is neither IDLE nor LOST is given back (R101). -/
theorem RobotsIn.giveBack (h : RobotsIn s ∧ WatchRests s) (hi : s.robots[r].state ≠ .idle)
    (hl : s.robots[r].state ≠ .lost) : RobotsIn (giveBack r s) ∧ WatchRests (giveBack r s) := by
  have hr := h.1.robot r
  refine (h.1.but r).leaveHeld.enterArming h.2 (hr.port hi) ?_ (fun w => ?_) ?_
  · show s.robots[r].damaged = false
    rw [Bool.eq_false_iff]
    exact fun e => hi (hr.damage e)
  · rw [leaveHeld_heldBy, decide_eq_true rfl, Bool.not_true, Bool.and_false]
  · show s.sourceOf r = false
    rw [Bool.eq_false_iff]
    exact fun e => hl (hr.lost e)

/-- Each of a list of robots that are neither IDLE nor LOST is given back. -/
theorem RobotsIn.giveBackAll (l : List RobotId) (h : RobotsIn s ∧ WatchRests s)
    (hl : ∀ r ∈ l, s.robots[r].state ≠ .idle ∧ s.robots[r].state ≠ .lost) :
    RobotsIn (forEach l Machine.giveBack s) ∧ WatchRests (forEach l Machine.giveBack s) := by
  induction l generalizing s with
  | nil => exact h
  | cons r l ih =>
    obtain ⟨hi, hn⟩ := hl r List.mem_cons_self
    refine ih (RobotsIn.giveBack h hi hn) fun x hx => ?_
    rw [giveBack_robots]
    simp only [Fin.getElem_fin, upd_get]
    split
    · exact ⟨nofun, nofun⟩
    · exact hl x (List.mem_cons_of_mem r hx)

/-- The robots that a window holds are given back, and it holds none (R157, R161). -/
theorem RobotsIn.releaseRobots {w : WindowId} (h : RobotsIn s ∧ WatchRests s) :
    RobotsIn (releaseRobots w s) ∧ WatchRests (releaseRobots w s) := by
  have hg := RobotsIn.giveBackAll (members s.windows[w].heldSet) h fun r hr => by
    have hs := (((h.1.robot r).held_iff w).mp ((mem_members ..).mp hr)).1
    rw [hs]
    exact ⟨nofun, nofun⟩
  have hfree : ∀ r : RobotId, (forEach (members s.windows[w].heldSet) Machine.giveBack s).heldBy r w = false := by
    intro r
    rw [Bool.eq_false_iff]
    intro e
    have hs := ((hg.1.robot r).held_iff w).mp e
    have hb := giveBackAll_robot (members s.windows[w].heldSet) s r
    by_cases hm : r ∈ members s.windows[w].heldSet
    · rw [if_pos hm] at hb
      rw [hb] at hs
      cases hs.1
    · rw [if_neg hm] at hb
      rw [hb] at hs
      exact hm ((mem_members ..).mpr (((h.1.robot r).held_iff w).mpr hs))
  have hz : (forEach (members s.windows[w].heldSet) Machine.giveBack s).windows[w].heldSet = 0 :=
    BitVec.eq_of_getLsbD_eq fun i hi => by
      exact (hfree ⟨i, hi⟩).trans BitVec.getLsbD_zero.symm
  exact ⟨hg.1.modWindow hz.symm, hg.2⟩

end

end Sys2Proof.Machine
end


section
/-! SUPPORT. The invariants of a safe run, continued: the parts, and what the shared operations keep of
each. -/

namespace Sys2Proof.Machine

/-! ## The notice queue (R176, R177) -/

/-- A notice raised keeps the bounds of the queue: it folds into the one record of its kind and subject, or
it finds none and joins while there is room. -/
theorem NoticeBlock.put_inv {s t : State} (e : NoticeEvent) (now : BaseTime)
    (ht : t.notices = (s.notices.put e now).1) (h : NoticeInv s) : NoticeInv t := by
  obtain ⟨hl, hp, hr, ho⟩ := h
  unfold NoticeInv
  rw [ht]
  obtain ⟨-, hput⟩ | ⟨hnone, hroom, hput⟩ | ⟨-, -, hput⟩ := s.notices.put_cases e now
  · rw [hput]
    refine ⟨by simpa using hl, ?_, ?_, ho⟩
    · simp only [List.pairwise_map]
      refine hp.imp fun {a b} hab => ?_
      have fold_eq : ∀ r : NoticeRec,
          (if r.event.folds e = true then r.fold e now else r).event.kind = r.event.kind ∧
            (if r.event.folds e = true then r.fold e now else r).event.subject = r.event.subject := by
        intro r
        split
        · next hf =>
          simp only [NoticeEvent.folds, Bool.and_eq_true, beq_iff_eq] at hf
          exact ⟨hf.1.symm, hf.2.symm⟩
        · exact ⟨rfl, rfl⟩
      rw [NoticeEvent.folds, (fold_eq a).1, (fold_eq a).2, (fold_eq b).1, (fold_eq b).2]
      exact hab
    · intro r hm
      obtain ⟨x, hx, rfl⟩ := List.mem_map.mp hm
      have := hr x hx
      split
      · simp only [NoticeRec.fold]; omega
      · exact this
  · rw [hput]
    refine ⟨by simpa using hroom, ?_, ?_, ho⟩
    · refine List.pairwise_append.mpr ⟨hp, List.pairwise_singleton .., fun a ha b hb => ?_⟩
      rw [List.mem_singleton.mp hb]
      simp only [List.any_eq_false] at hnone
      simpa using hnone a ha
    · intro r hm
      obtain hm | hm := List.mem_append.mp hm
      · exact hr r hm
      · rw [List.mem_singleton.mp hm]; simp
  · rw [hput]
    exact ⟨hl, hp, hr, by dsimp only; omega⟩

theorem bumpWith_notice {f : NoticeEvent → State → State} (hf : ∀ e s, NoticeInv s → NoticeInv (f e s))
    (c : CounterRef) (n : Nat) {s : State} (h : NoticeInv s) : NoticeInv (bumpWith f c n s) := by
  unfold bumpWith
  dsimp only
  split <;> split
  · exact hf _ _ (hf _ _ h)
  · exact hf _ _ h
  · exact hf _ _ h
  · exact h

theorem raiseDepth_notice (n : Nat) (e : NoticeEvent) {s : State} (h : NoticeInv s) :
    NoticeInv (raiseDepth n e s) := by
  induction n generalizing e s with
  | zero => exact NoticeBlock.put_inv e _ rfl h
  | succ n ih =>
    have hput : NoticeInv { s with notices := (s.notices.put e s.clock.hall.base).1 } :=
      NoticeBlock.put_inv e _ rfl h
    unfold raiseDepth
    dsimp only
    split
    · exact bumpWith_notice (fun e s => ih e) _ _ hput
    · exact bumpWith_notice (fun e s => ih e) _ _ (bumpWith_notice (fun e s => ih e) _ _ hput)
    · exact bumpWith_notice (fun e s => ih e) _ _ (bumpWith_notice (fun e s => ih e) _ _ hput)

/-! ## The parts -/

/-- EJECT_A is asserted only when the inhibit, and in EXTENDING the non-overlap time, has passed (R148). -/
def State.clearA (s : State) : Prop :=
  s.ejectA = true → s.reject.inhibitEnd ≤ s.clock.run ∧
    (s.reject.state = .extending →
      ∀ b, s.reject.releaseB = some b → b + s.reject.cfg.nonOverlap ≤ s.clock.run)

/-- EJECT_B is asserted only when the inhibit and the non-overlap time have passed (R148). -/
def State.clearB (s : State) : Prop :=
  s.ejectB = true → s.reject.inhibitEnd ≤ s.clock.run ∧
    ∀ a, s.reject.releaseA = some a → a + s.reject.cfg.nonOverlap ≤ s.clock.run

/-- What the commands are shown to keep, each part by itself: the invariants of a safe run, that no RESTART
waits, that the latch is SET, and that the outputs of the ejector keep apart. -/
inductive Part where
  | notice | clock | request | unwaiting | track | hold | latch | outputA | outputB | robots | cells

/-- A part holds of a state, with the cells `a` and the references `o` in hand. -/
def Part.Holds (x : Part) (a o : List CellId) (s : State) : Prop :=
  match x with
  | .notice => NoticeInv s
  | .clock => ClockInv s
  | .request => RequestInv s
  | .unwaiting => s.mgmt.restart = none
  | .track => TrackInv s
  | .hold => HoldInv s
  | .latch => s.hold.latch = true
  | .outputA => s.clearA
  | .outputB => s.clearB
  | .robots => RobotsInv s
  | .cells => CellsIn a o s ∧ CutInv s

section
variable {x : Part} {a o a' o' : List CellId} {s : State}

/-! ## Parts of the state that one part of these reads -/

/-- The cells, the egress side and the receive side matter to the cells alone. -/
theorem cells_safe {m : CellMem} {e : Vector Egress 12} {r : Vector Rx 12}
    (hc : CellsIn a o s ∧ CutInv s → CellsIn a' o' { s with mem := m, egress := e, rx := r } ∧
      CutInv { s with mem := m, egress := e, rx := r })
    (h : x.Holds a o s) : x.Holds a' o' { s with mem := m, egress := e, rx := r } := by
  cases x
  case cells => exact hc h
  case robots => exact RobotsInv.congr h rfl rfl rfl rfl
  all_goals exact h

/-- The robots, the windows, the watch and the sources that left: the robots' part, and the frames held. -/
theorem robots_safe {v : Vector Robot 24} {w : Vector ServiceWindow 2} {k : Watch} {b : Hold}
    (hl : b.latch = s.hold.latch) (hp : b.present.toList ≠ [] → s.hold.present.toList ≠ [])
    (hr : RobotsInv s → RobotsInv { s with robots := v, windows := w, watch := k, hold := b })
    (hc : CellsIn a o s → CellsIn a o' { s with robots := v, windows := w, watch := k, hold := b })
    (h : x.Holds a o s) : x.Holds a o' { s with robots := v, windows := w, watch := k, hold := b } := by
  cases x
  case robots => exact hr h
  case cells => exact ⟨hc h.1, h.2⟩
  case hold => exact fun hne => hl.trans (h (hp hne))
  case latch => exact hl.trans h
  all_goals exact h

/-- What no part reads. -/
theorem beside_safe {straps : Straps} {ports : Vector Port 12} {gates : Vector Gate 12}
    {streams : Vector Stream 256} {scrub : Fin 280} {holdFrames : Vector Octets 24} {cameras : Vector Camera 4}
    {device : DeviceCfg} {counters : Counters} {pending : List Instr} (h : x.Holds a o s) :
    x.Holds a o { s with straps, ports, gates, streams, scrub, holdFrames, cameras, device, counters, pending } := by
  cases x
  case robots => exact RobotsInv.congr h rfl rfl rfl rfl
  all_goals exact h

theorem notices_safe {b : NoticeBlock} (hb : NoticeInv s → NoticeInv { s with notices := b })
    (h : x.Holds a o s) : x.Holds a o { s with notices := b } := by
  cases x
  case notice => exact hb h
  case robots => exact RobotsInv.congr h rfl rfl rfl rfl
  all_goals exact h

/-- A change that counts and notices alone. -/
theorem counted_safe {t : State} (e : s.uncounted = t.uncounted) (hn : NoticeInv s → NoticeInv t)
    (h : x.Holds a o s) : x.Holds a o t := by
  rw [eq_recounted e] at hn ⊢
  exact beside_safe (notices_safe (b := t.notices) hn h)

theorem raise_safe {e : NoticeEvent} (h : x.Holds a o s) : x.Holds a o (raise e s) :=
  counted_safe (raise_uncounted e s).symm (raiseDepth_notice 7 e) h

theorem bumpBy_safe {c : CounterRef} {n : Nat} (h : x.Holds a o s) : x.Holds a o (bumpBy c n s) :=
  counted_safe (bumpBy_uncounted c n s).symm (bumpWith_notice (fun e _ => raiseDepth_notice 7 e) c n) h

theorem bump_safe {c : CounterRef} (h : x.Holds a o s) : x.Holds a o (bump c s) := bumpBy_safe h

theorem forEach_safe {α : Type} {f : α → State → State} {l : List α}
    (hf : ∀ b s, x.Holds a o s → x.Holds a o (f b s)) (h : x.Holds a o s) : x.Holds a o (forEach l f s) :=
  forEach_inv (P := fun t => x.Holds a o t) l (fun b _ t => hf b t) s h

theorem ite_safe {p : Prop} [Decidable p] {t : State} (hs : p → x.Holds a o s) (ht : ¬p → x.Holds a o t) :
    x.Holds a o (if p then s else t) := by
  split
  · next h => exact hs h
  · next h => exact ht h

theorem modPort_safe {p : PortId} {f : Port → Port} (h : x.Holds a o s) : x.Holds a o (s.modPort p f) :=
  beside_safe h
theorem modGate_safe {p : PortId} {f : Gate → Gate} (h : x.Holds a o s) : x.Holds a o (s.modGate p f) :=
  beside_safe h
theorem modStream_safe {i : StreamId} {f : Stream → Stream} (h : x.Holds a o s) :
    x.Holds a o (s.modStream i f) := beside_safe h
theorem modCamera_safe {c : CameraId} {f : Camera → Camera} (h : x.Holds a o s) :
    x.Holds a o (s.modCamera c f) := beside_safe h

/-- The hall clock, with run time as it was. -/
theorem modClock_safe {f : Clock → Clock} (hr : (f s.clock).run = s.clock.run)
    (hc : ClockInv s → ClockInv (s.modClock f)) (h : x.Holds a o s) : x.Holds a o (s.modClock f) := by
  cases x
  case clock => exact hc h
  case outputA =>
    unfold Part.Holds State.clearA at h ⊢
    simp only [State.modClock, hr]
    exact h
  case outputB =>
    unfold Part.Holds State.clearB at h ⊢
    simp only [State.modClock, hr]
    exact h
  case robots => exact RobotsInv.congr h rfl rfl rfl rfl
  all_goals exact h

theorem modTracker_safe {f : Tracker → Tracker} (ht : TrackInv s → TrackInv (s.modTracker f))
    (h : x.Holds a o s) : x.Holds a o (s.modTracker f) := by
  cases x
  case track => exact ht h
  case robots => exact RobotsInv.congr h rfl rfl rfl rfl
  all_goals exact h

theorem modReject_safe {f : Reject → Reject} (ha : s.clearA → (s.modReject f).clearA)
    (hb : s.clearB → (s.modReject f).clearB) (h : x.Holds a o s) : x.Holds a o (s.modReject f) := by
  cases x
  case outputA => exact ha h
  case outputB => exact hb h
  case robots => exact RobotsInv.congr h rfl rfl rfl rfl
  all_goals exact h

theorem modMgmt_safe {f : Mgmt → Mgmt} (hq : RequestInv s → RequestInv (s.modMgmt f))
    (hn : s.mgmt.restart = none → (f s.mgmt).restart = none) (h : x.Holds a o s) : x.Holds a o (s.modMgmt f) := by
  cases x
  case request => exact hq h
  case unwaiting => exact hn h
  case robots => exact RobotsInv.congr h rfl rfl rfl rfl
  all_goals exact h

/-! ## Robots, windows and the watch -/

/-- A robot changes; the frames it holds are those it held and those in hand. -/
theorem modRobot_safe {r : RobotId} {f : Robot → Robot} (hm : s.robots[r].Moves (f s.robots[r]))
    (hp : ((f s.robots[r]).holds ++ o').Perm (s.robots[r].holds ++ o)) (h : x.Holds a o s) :
    x.Holds a o' (s.modRobot r f) :=
  robots_safe (w := s.windows) (k := s.watch) (b := s.hold) rfl id (fun h => h.modRobot hm)
    (fun h => h.modRobot hp) h

theorem mapRobots_safe {f : Robot → Robot} (hm : ∀ b : Robot, b.Moves (f b))
    (hh : ∀ b : Robot, (f b).holds = b.holds) (h : x.Holds a o s) :
    x.Holds a o { s with robots := s.robots.map f } :=
  robots_safe (w := s.windows) (k := s.watch) (b := s.hold) rfl id
    (fun h => h.robots fun r => by simpa using hm _)
    (fun h => ⟨h.1, fun i => by
      have := h.2.1 i
      simpa [Vector.toList_map, List.flatMap_map, Function.comp_def, hh] using this, h.2.2⟩) h

theorem modWindow_safe {w : WindowId} {f : ServiceWindow → ServiceWindow}
    (hh : (f s.windows[w]).heldSet = s.windows[w].heldSet)
    (hm : s.windows[w].maintains = true → s.windows[w].heldSet = 0 ∨ (f s.windows[w]).maintains = true)
    (h : x.Holds a o s) : x.Holds a o (s.modWindow w f) :=
  robots_safe (v := s.robots) (k := s.watch) (b := s.hold) rfl id (fun h => h.modWindow hh hm) id h

theorem modWindow_unheld_safe {w : WindowId} {f : ServiceWindow → ServiceWindow}
    (hm : s.windows[w].maintains = false)
    (hf : (f s.windows[w]).heldSet = s.windows[w].heldSet ∨ (f s.windows[w]).heldSet = 0)
    (h : x.Holds a o s) : x.Holds a o (s.modWindow w f) :=
  robots_safe (v := s.robots) (k := s.watch) (b := s.hold) rfl id (fun h => h.modWindow_unheld hm hf) id h

theorem PresentSet.leave_nonempty {p : PresentSet} {y : HoldSource} (h : (p.leave y).toList ≠ []) :
    p.toList ≠ [] := by
  obtain ⟨z, hz⟩ := List.exists_mem_of_ne_nil _ h
  refine List.ne_nil_of_mem ((p.mem_toList z).mpr ?_)
  rw [PresentSet.mem_toList, PresentSet.has_leave, Bool.and_eq_true] at hz
  exact hz.1

theorem RobotsInv.leaveHold (y : HoldSource) (h : RobotsInv s) : RobotsInv (leaveHold y s) := by
  obtain ⟨⟨⟨h1, h2, h3⟩, h4⟩, h5⟩ := h
  refine ⟨⟨⟨fun r => ?_, h2, ?_⟩, h4⟩, h5⟩
  · have hr := h1 r
    refine ⟨hr.held_iff, hr.service_iff, hr.empty, hr.damage, hr.port, fun hs => hr.lost ?_⟩
    have := s.hold.present.has_leave y (.robot r)
    exact (Bool.and_eq_true_iff.mp (this.symm.trans hs)).1
  · intro hc
    have := s.hold.present.has_leave y .controller
    exact h3 (Bool.and_eq_true_iff.mp (this.symm.trans hc)).1

theorem leaveHold_safe {y : HoldSource} (h : x.Holds a o s) : x.Holds a o (leaveHold y s) :=
  robots_safe (v := s.robots) (w := s.windows) (k := s.watch) rfl PresentSet.leave_nonempty
    (fun h => h.leaveHold y) id h

/-- A robot or the controller may become a hold source while it is LOST. -/
def HoldSource.mayJoin (s : State) : HoldSource → Prop
  | .robot r => s.robots[r].state = .lost
  | .controller => s.watch.state = .lost
  | .trackFull | .jam => True

theorem RobotsInv.joinHold {y : HoldSource} {b : Hold} (hb : b.present = s.hold.present.join y)
    (hy : y.mayJoin s) (h : RobotsInv s) : RobotsInv { s with hold := b } := by
  obtain ⟨⟨⟨h1, h2, h3⟩, h4⟩, h5⟩ := h
  refine ⟨⟨⟨fun r => ?_, h2, ?_⟩, h4⟩, h5⟩
  · have hr := h1 r
    refine ⟨hr.held_iff, hr.service_iff, hr.empty, hr.damage, hr.port, fun hs => ?_⟩
    have hj := s.hold.present.has_join y (.robot r)
    unfold State.sourceOf at hs
    rw [hb] at hs
    obtain hs | hs := Bool.or_eq_true_iff.mp (hj.symm.trans hs)
    · exact hr.lost hs
    · rw [← of_decide_eq_true hs] at hy
      exact hy
  · intro hc
    have hj := s.hold.present.has_join y .controller
    dsimp only at hc
    rw [hb] at hc
    obtain hc | hc := Bool.or_eq_true_iff.mp (hj.symm.trans hc)
    · exact h3 hc
    · rw [← of_decide_eq_true hc] at hy
      exact hy

theorem joined_safe {y : HoldSource} {b : Hold} (hb : b.present = s.hold.present.join y)
    (hl : b.latch = true) (hy : y.mayJoin s) (h : x.Holds a o s) : x.Holds a o { s with hold := b } := by
  cases x
  case hold => exact fun _ => hl
  case latch => exact hl
  case robots => exact RobotsInv.joinHold hb hy h
  all_goals exact h

theorem joinHold_safe {y : HoldSource} (hy : y.mayJoin s) (h : x.Holds a o s) : x.Holds a o (joinHold y s) := by
  obtain ⟨-, e⟩ | ⟨-, hl, e⟩ | ⟨-, -, e⟩ := joinHold_cases y s
  · rwa [e]
  · rw [e]
    exact joined_safe rfl hl hy h
  · rw [e]
    exact bump_safe (raise_safe (joined_safe rfl rfl hy h))

/-! ## The watch (R106, R107) -/

theorem modWatch_safe {f : Watch → Watch} (hf : (f s.watch).state = s.watch.state) (h : x.Holds a o s) :
    x.Holds a o (s.modWatch f) := by
  refine robots_safe (v := s.robots) (w := s.windows) (b := s.hold) rfl id (fun h => ?_) id h
  obtain ⟨⟨⟨h1, h2, h3⟩, h4⟩, h5⟩ := h
  exact ⟨⟨⟨h1, fun e => h2 (hf ▸ e), fun e => hf.trans (h3 e)⟩, fun e => hf.trans (h4 e)⟩, h5⟩

/-- A watch that runs is lost, before the controller is a hold source. -/
theorem loseWatch_safe {f : Watch → Watch} (hw : s.watch.state = .watching) (hf : (f s.watch).state = .lost)
    (h : x.Holds a o s) : x.Holds a o (s.modWatch f) := by
  refine robots_safe (v := s.robots) (w := s.windows) (b := s.hold) rfl id (fun h => ?_) id h
  obtain ⟨⟨⟨h1, h2, h3⟩, h4⟩, h5⟩ := h
  refine ⟨⟨⟨h1, fun e => ?_, fun _ => hf⟩, fun e => ?_⟩, h5⟩
  · dsimp only at e
    rw [hf] at e
    cases e
  · have := h4 e
    rw [hw] at this
    cases this

theorem acceptedCommand_safe (h : x.Holds a o s) : x.Holds a o (acceptedCommand s) := by
  unfold acceptedCommand
  split
  · exact h
  · exact modWatch_safe rfl h
  · next hw =>
    cases x
    case robots =>
      obtain ⟨⟨⟨h1, h2, h3⟩, h4⟩, h5⟩ := h
      have hs : RobotsInv (leaveHold .controller (startWatch s)) := by
        refine ⟨⟨⟨h1, nofun, nofun⟩, fun e => ?_⟩, h5⟩
        have := h4 e
        rw [hw] at this
        cases this
      exact hs.congr (by simp [leaveHold, State.modHold]) (by simp [leaveHold, State.modHold])
        (by simp [leaveHold, State.modHold]) (by simp [leaveHold, State.modHold])
    all_goals exact leaveHold_safe (raise_safe (show Part.Holds _ a o (startWatch s) from h))

end

end Sys2Proof.Machine
end


section
/-! SUPPORT. The invariants of a safe run, continued: cell memory, the queues and the frames that the switch
stores (R22 to R35). -/

namespace Sys2Proof.Machine

/-! ## The holders on a port -/

theorem Egress.count_holders (e : Egress) (c : CellId) :
    e.holders.count c = (e.queues.toList.flatMap fun l => l.map QEntry.frame).count c +
      (e.tx.map Tx.frame).toList.count c + (e.remainder.map Remainder.frame).toList.count c := by
  simp only [Egress.holders, List.count_append]

/-- A queue changes by the references that come to it or go. -/
theorem Egress.holders_queue {e : Egress} {q : QueueId} {g : List QEntry → List QEntry} {l l' : List CellId}
    (h : ((g e.queues[q]).map QEntry.frame ++ l').Perm (e.queues[q].map QEntry.frame ++ l)) :
    (({ e with queues := upd e.queues q g } : Egress).holders ++ l').Perm (e.holders ++ l) := by
  rw [List.perm_iff_count] at h ⊢
  intro c
  have := h c
  have hu := count_flatMap_upd e.queues q g (fun l => l.map QEntry.frame) c
  simp only [List.count_append, Egress.count_holders] at *
  omega

section
variable {x : Part} {a o a' o' : List CellId} {s : State}

/-! ## Cells and references -/

theorem hand_perm (hp : a.Perm a') (h : x.Holds a o s) : x.Holds a' o s := by
  cases x
  case cells => exact ⟨h.1.perm hp, h.2⟩
  all_goals exact h

theorem give_safe {l : List CellId} (h : x.Holds (l ++ a) o s) : x.Holds a o (s.give l) :=
  cells_safe (e := s.egress) (r := s.rx) (fun h => ⟨h.1.give, h.2⟩) h

theorem take_safe {n : Nat} {l : List CellId} {m : CellMem} (e : s.mem.take n = some (l, m))
    (h : x.Holds a o s) : x.Holds (l ++ a) o { s with mem := m } :=
  cells_safe (e := s.egress) (r := s.rx) (fun h => ⟨h.1.take e, h.2⟩) h

theorem modRx_safe {p : PortId} {f : Rx → Rx} (hp : ((f s.rx[p]).cells ++ a').Perm (s.rx[p].cells ++ a))
    (h : x.Holds a o s) : x.Holds a' o (s.modRx p f) :=
  cells_safe (m := s.mem) (e := s.egress) (fun h => ⟨h.1.modRx hp, h.2⟩) h

theorem modEgress_safe {p : PortId} {f : Egress → Egress}
    (hp : ((f s.egress[p]).holders ++ o').Perm (s.egress[p].holders ++ o))
    (hc : s.egress[p].cutOk → (f s.egress[p]).cutOk) (h : x.Holds a o s) : x.Holds a o' (s.modEgress p f) :=
  cells_safe (m := s.mem) (r := s.rx) (fun h => ⟨h.1.modEgress hp, h.2.modEgress hc⟩) h

theorem store_safe {c : CellId} {l : List CellId} {octets : Octets} {n : Nat} {kind : FrameKind} (hn : 0 < n)
    (h : x.Holds (c :: l ++ a) o s) : x.Holds a (List.replicate n c ++ o)
      (s.modMem (·.store { cells := c :: l, octets := octets, refs := n, kind := kind })) :=
  cells_safe (e := s.egress) (r := s.rx) (fun h => ⟨h.1.store hn, h.2⟩) h

/-- A frame is stored, so that a reference to it may be gained. -/
def State.stores (s : State) (c : CellId) : Prop := (∃ f, s.mem.frames[c] = some f) ∨ c ∈ s.references

theorem addRef_safe {c : CellId} (hs : s.stores c) (h : x.Holds a o s) : x.Holds a (c :: o) (s.addRef c) := by
  refine cells_safe (e := s.egress) (r := s.rx) (fun h => ?_) h
  obtain ⟨f, e⟩ | hm := hs
  · exact ⟨h.1.addRef e, h.2⟩
  · obtain ⟨f, e⟩ := h.1.isStored (List.mem_append_right o hm)
    exact ⟨h.1.addRef e, h.2⟩

theorem release_safe {c : CellId} (h : x.Holds a (c :: o) s) : x.Holds a o (s.release c) :=
  cells_safe (e := s.egress) (r := s.rx) (fun h => ⟨h.1.release, h.2⟩) h

theorem releaseOpt_safe {c : Option CellId} (h : x.Holds a (c.toList ++ o) s) : x.Holds a o (s.releaseOpt c) := by
  cases c with
  | none => exact h
  | some c => exact release_safe h

theorem releaseEntries_safe {l : List QEntry} (h : x.Holds a (l.map QEntry.frame ++ o) s) :
    x.Holds a o (releaseEntries l s) := by
  induction l generalizing s with
  | nil => exact h
  | cons y l ih => exact ih (release_safe h)

/-! ## Queues -/

theorem noteCut_safe {p : PortId} (h : x.Holds a o s) : x.Holds a o (noteCut p s) := by
  unfold noteCut
  split
  · exact h
  · next t ht =>
    split
    · next hcond =>
      dsimp only
      split
      · refine modEgress_safe ?_ (fun hc u hu _ => ?_) h
        · simp only [Egress.holders, ht, Option.map_some]
          exact .refl _
        · simp only [Bool.and_eq_true] at hcond
          exact hc t ht (.inl hcond.1.1)
      · exact h
    · exact h

theorem modQueue_safe {p : PortId} {q : QueueId} {g : List QEntry → List QEntry}
    (hp : ((g s.egress[p].queues[q]).map QEntry.frame ++ o').Perm (s.egress[p].queues[q].map QEntry.frame ++ o))
    (h : x.Holds a o s) :
    x.Holds a o' (s.modEgress p fun e => { e with queues := upd e.queues q g }) :=
  modEgress_safe (Egress.holders_queue hp) id h

theorem enqueue_safe {p : PortId} {q : QueueId} {y : QEntry} (h : x.Holds a (y.frame :: o) s) :
    x.Holds a o (enqueue p q y s) :=
  noteCut_safe (modQueue_safe (by simp) h)

theorem enqueueSend_safe {p : PortId} {r : RobotId} {c : CellId} (h : x.Holds a (c :: o) s) :
    x.Holds a o (enqueueSend p r c s) := by
  refine bump_safe (noteCut_safe (modQueue_safe ?_ h))
  rw [insertSend, List.map_append, List.map_cons]
  conv => rhs; rw [← List.takeWhile_append_dropWhile (p := QEntry.isRobotSend) (l := s.egress[p].queues[(3 : QueueId)])]
  simp only [List.map_append, List.append_assoc, List.cons_append]
  exact List.Perm.append_left _ (List.perm_middle.symm)

/-! ## Admission and frames built (R29 to R35) -/

/-- Entries for a frame in hand join the queues of a list of ports. -/
theorem enqueueEach_safe {l : List PortId} {q : QueueId} {c : CellId} {k : EntryKind}
    {g : PortId → State → State} (hg : ∀ p {o} s, x.Holds a o s → x.Holds a o (g p s))
    (h : x.Holds a (List.replicate l.length c ++ o) s) :
    x.Holds a o (forEach l (fun p s => g p (enqueue p q (newEntry c k) s)) s) := by
  induction l generalizing s with
  | nil => exact h
  | cons p l ih => exact ih (hg p _ (enqueue_safe h))

theorem admitReceived_safe {ports : List PortId} {q : QueueId} {cells : List CellId} {octets : Octets}
    {owner : CounterRef} (h : x.Holds (cells ++ a) o s) :
    x.Holds a o (admitReceived ports q cells octets owner s).1 := by
  unfold admitReceived
  dsimp only
  have hno : ∀ l : List PortId, x.Holds (cells ++ a) o
      (forEach l (fun p s => bump owner (bump (.port p (.refused q)) s)) s) := fun l =>
    forEach_safe (fun p s h => bump_safe (bump_safe h)) h
  split
  · exact give_safe (hno _)
  · exact give_safe (hno _)
  · next hne =>
    exact enqueueEach_safe (fun p _ s h => bump_safe h) (store_safe (List.length_pos_iff.mpr hne) (hno _))

theorem buildFrame_safe {k : GenKind} {kind : FrameKind} {ports : List PortId} {octets : Octets}
    (h : x.Holds a o s) : x.Holds a o (buildFrame k kind ports octets s).1 := by
  unfold buildFrame
  dsimp only
  split
  · exact bump_safe h
  · have hno : ∀ l : List PortId, x.Holds a o
        (forEach l (fun p s => bump (.device (.generationDrops k)) (bump (.port p (.refused 2)) s)) s) := fun l =>
      forEach_safe (fun p s h => bump_safe (bump_safe h)) h
    split
    · exact hno _
    · next hyes =>
      split
      · exact bump_safe (hno _)
      · next htake =>
        have ht := take_safe htake (hno _)
        split
        · exact hno _
        · exact enqueueEach_safe (g := fun _ s => s) (fun _ _ _ h => h)
            (store_safe (by rw [hyes]; exact Nat.succ_pos _) ht)

end

end Sys2Proof.Machine
end


section
/-! SUPPORT. The invariants of a safe run, continued: the robot supervisor (R89 to R107). -/

namespace Sys2Proof.Machine

section
variable {x : Part} {a o a' o' : List CellId} {s : State} {r : RobotId} {p : PortId} {w : WindowId}

/-- Robots, windows, the watch and the hold sources change, and the robots hold the frames they held. -/
theorem supervised_safe {t : State}
    (e : t = { s with robots := t.robots, windows := t.windows, watch := t.watch, hold := t.hold })
    (hl : t.hold.latch = s.hold.latch) (hp : t.hold.present.toList ≠ [] → s.hold.present.toList ≠ [])
    (hh : ∀ r : RobotId, t.robots[r].holds = s.robots[r].holds)
    (hr : x = .robots → RobotsInv s → RobotsInv t) (h : x.Holds a o s) : x.Holds a o t := by
  have hm : t.robots.map Robot.holds = s.robots.map Robot.holds := by
    refine Vector.ext fun i hi => ?_
    simp only [Vector.getElem_map]
    exact hh ⟨i, hi⟩
  have hc : t.robots.toList.flatMap Robot.holds = s.robots.toList.flatMap Robot.holds := by
    simpa only [Vector.toList_map, List.flatMap_map, List.flatMap_def] using
      congrArg (fun v : Vector (List CellId) 24 => v.toList.flatten) hm
  cases x
  case robots => exact hr rfl h
  case hold => exact fun hne => hl.trans (h (hp hne))
  case latch => exact hl.trans h
  case cells =>
    obtain ⟨⟨h1, h2, h3⟩, h4⟩ := h
    rw [e]
    exact ⟨⟨h1, fun c => by dsimp only; rw [hc]; exact h2 c, h3⟩, h4⟩
  all_goals rw [e]; exact h

theorem modRobot_other (hx : x ≠ .robots) {f : Robot → Robot}
    (hp : ((f s.robots[r]).holds ++ o').Perm (s.robots[r].holds ++ o)) (h : x.Holds a o s) :
    x.Holds a o' (s.modRobot r f) := by
  cases x
  case robots => exact absurd rfl hx
  case cells => exact ⟨h.1.modRobot hp, h.2⟩
  all_goals exact h

/-- A robot's fields beside those that the invariants speak of. -/
theorem modRobot_beside_safe {f : Robot → Robot} (h1 : (f s.robots[r]).state = s.robots[r].state)
    (h2 : (f s.robots[r]).holder = s.robots[r].holder) (h3 : (f s.robots[r]).port = s.robots[r].port)
    (h4 : (f s.robots[r]).damaged = true → s.robots[r].damaged = true)
    (h5 : (f s.robots[r]).slot = s.robots[r].slot ∧ (f s.robots[r]).store = s.robots[r].store)
    (h : x.Holds a o s) : x.Holds a o (s.modRobot r f) :=
  modRobot_safe (.beside h1 h2 h3 h4 h5) (by rw [Robot.holds, h5.1, h5.2]; exact .refl _) h

/-! ## Slots and stores (R32) -/

theorem emptySlots_eq (r : RobotId) (s : State) : emptySlots r s =
    ((s.modRobot r fun b => { b with slot := none, store := none }).releaseOpt s.robots[r].slot).releaseOpt
      s.robots[r].store := by
  unfold emptySlots
  dsimp only
  cases s.robots[r].slot <;> cases s.robots[r].store <;> rfl

theorem emptySlots_frame (r : RobotId) (s : State) : emptySlots r s =
    { s.modRobot r fun b => { b with slot := none, store := none } with mem := (emptySlots r s).mem } := by
  rw [emptySlots_eq, releaseOpt_frame, releaseOpt_frame s.robots[r].slot]

theorem emptySlots_robot (r : RobotId) (s : State) :
    (emptySlots r s).robots[r] = { s.robots[r] with slot := none, store := none } := by
  rw [emptySlots_frame]
  exact upd_same ..

theorem emptied_perm (b : Robot) (o : List CellId) :
    (({ b with slot := none, store := none } : Robot).holds ++ (b.slot.toList ++ (b.store.toList ++ o))).Perm
      (b.holds ++ o) := by
  simp [Robot.holds]

theorem emptySlots_other (hx : x ≠ .robots) (h : x.Holds a o s) : x.Holds a o (emptySlots r s) := by
  rw [emptySlots_eq]
  exact releaseOpt_safe (releaseOpt_safe (modRobot_other hx (emptied_perm _ _) h))

theorem emptySlots_safe (h : x.Holds a o s) : x.Holds a o (emptySlots r s) := by
  rw [emptySlots_eq]
  exact releaseOpt_safe (releaseOpt_safe
    (modRobot_safe ⟨rfl, .rfl, id, rfl, rfl, id, .inr (.inr ⟨rfl, rfl⟩)⟩ (emptied_perm _ _) h))

/-! ## To IDLE and damage (R18 to R21, R91) -/

theorem upd_holds {v : Vector Robot 24} {f : Robot → Robot} (hf : (f v[r]).holds = v[r].holds) (y : RobotId) :
    (upd v r f)[y].holds = v[y].holds := by
  simp only [Fin.getElem_fin, upd_get] at hf ⊢
  split
  · next e => subst e; exact hf
  · rfl

theorem modWindow_other (hx : x ≠ .robots) {f : ServiceWindow → ServiceWindow} (h : x.Holds a o s) :
    x.Holds a o (s.modWindow w f) := by
  cases x
  case robots => exact absurd rfl hx
  all_goals exact h

theorem leavePending_other (hx : x ≠ .robots) (h : x.Holds a o s) : x.Holds a o (leavePending r s) :=
  forEach_safe (fun _ _ => modWindow_other hx) h

theorem leaveHeld_other (hx : x ≠ .robots) (h : x.Holds a o s) : x.Holds a o (leaveHeld r s) :=
  forEach_safe (fun _ _ => modWindow_other hx) h

theorem watchIdleIfNone_other (hx : x ≠ .robots) (h : x.Holds a o s) : x.Holds a o (watchIdleIfNone s) := by
  obtain ⟨e, -⟩ | ⟨e, -⟩ := watchIdleIfNone_cases s <;> rw [e]
  · exact h
  · refine leaveHold_safe ?_
    cases x
    case robots => exact absurd rfl hx
    all_goals exact h

theorem idled_safe (hr : x = .robots → RobotsInv s → RobotsInv (watchIdleIfNone (idleRobot r s)))
    (h : x.Holds a o s) : x.Holds a o (watchIdleIfNone (idleRobot r s)) := by
  by_cases hx : x = .robots
  · subst hx; exact hr rfl h
  · exact watchIdleIfNone_other hx (leavePending_other hx (leaveHold_safe (modRobot_other hx (.refl _) h)))

theorem toIdle_safe (hs : s.robots[r].state ≠ .service) (h : x.Holds a o s) : x.Holds a o (toIdle r s) := by
  rw [toIdle_eq]
  refine idled_safe (fun _ h => h.toIdle ?_ ?_) (emptySlots_safe h)
  · rwa [emptySlots_robot]
  · rw [emptySlots_robot]
    exact ⟨rfl, rfl⟩

/-- What follows a record found damaged: all robots but its own are as the invariants say (R21). -/
theorem damageRobot_safe (hb : x = .robots → RobotsBut r s ∧ HeldOk s) (h : x ≠ .robots → x.Holds a o s) :
    x.Holds a o (damageRobot r s) := by
  unfold damageRobot
  rw [toIdle_eq]
  by_cases hx : x = .robots
  · subst hx
    obtain ⟨hbut, hheld⟩ := hb rfl
    refine RobotsInv.damaged ?_ ?_ ?_
    · rw [emptySlots_frame]
      exact (hbut.modRobot (f := fun b => { b with slot := none, store := none }) id).congr rfl rfl
        (fun _ _ => rfl) (fun _ _ => rfl) rfl
    · rw [emptySlots_frame]
      exact hheld
    · rw [emptySlots_robot]
      exact ⟨rfl, rfl⟩
  · exact leaveHeld_other hx (idled_safe (fun e => absurd e hx) (emptySlots_other hx (h hx)))

theorem checkRobot_safe {k : ReadKind} (h : x.Holds a o s) : x.Holds a o (checkRobot r k s) := by
  unfold checkRobot
  split
  · exact bump_safe h
  · split
    · exact h
    · exact bump_safe (modRobot_beside_safe rfl rfl rfl id ⟨rfl, rfl⟩ h)
    · refine damageRobot_safe (fun e => ?_) fun hx => raise_safe (bump_safe (modRobot_other hx (.refl _) h))
      subst e
      have hm := (RobotsIn.but r h.1.1).modRobot (f := fun b => { b with damaged := true }) id
      exact ⟨hm.congr (by simp) (by simp) (fun y _ => funext fun v => by simp [State.heldBy])
        (fun y _ => by simp [State.sourceOf]) (by simp), h.2.of_windows (by simp)⟩

theorem checkStream_safe {i : StreamId} {k : ReadKind} (h : x.Holds a o s) :
    x.Holds a o (checkStream i k s) := by
  unfold checkStream
  split
  · exact bump_safe h
  · split
    · exact h
    · exact bump_safe (modStream_safe h)
    · exact raise_safe (bump_safe (modStream_safe h))

/-! ## Into SERVICE and back (R101, R162, R164) -/

theorem intoService_safe (ha : s.robots[r].state.armed = true) (hl : s.robots[r].state ≠ .lost)
    (hm : s.windows[w].maintains = true) (h : x.Holds a o s) : x.Holds a o (intoService r w s) := by
  have hs := emptySlots_safe (r := r) h
  by_cases hx : x = .robots
  · subst hx
    refine RobotsInv.intoService hs ?_ ?_ ?_ ?_
    · rwa [emptySlots_robot]
    · rwa [emptySlots_robot]
    · rwa [emptySlots_frame]
    · rw [emptySlots_robot]; exact ⟨rfl, rfl⟩
  · exact watchIdleIfNone_other hx (modWindow_other hx (modRobot_other hx (.refl _) hs))

theorem reportParked_safe (ha : s.robots[r].state = .parked) (h : x.Holds a o s) :
    x.Holds a o (reportParked r s) := by
  unfold reportParked
  split
  · next w hw =>
    have hm := List.find?_some hw
    rw [Bool.and_eq_true] at hm
    exact intoService_safe (by rw [ha]; rfl) (by rw [ha]; nofun) hm.1 h
  · exact h

theorem enterArming_cases (r : RobotId) (s : State) :
    (enterArming r s).robots = (upd s.robots r fun b => b.armedAt s.clock.hall) ∧
      enterArming r s = { s with robots := (enterArming r s).robots, watch := (enterArming r s).watch } := by
  unfold enterArming
  dsimp only
  split <;> exact ⟨rfl, rfl⟩

/-- A robot in IDLE is armed on a port (R90). -/
theorem arm_safe (hi : s.robots[r].state = .idle) (hd : s.robots[r].damaged = false) (h : x.Holds a o s) :
    x.Holds a o (enterArming r (s.modRobot r fun b => { b with port := some p })) := by
  obtain ⟨hrob, e⟩ := enterArming_cases r (s.modRobot r fun b => { b with port := some p })
  have hown : (s.modRobot r fun b => { b with port := some p }).robots[r] = { s.robots[r] with port := some p } :=
    upd_same ..
  refine supervised_safe (s := s) (by rw [e]; rfl) (by rw [e]; rfl) (by rw [e]; exact id) (fun y => ?_) (fun _ h => ?_) h
  · rw [hrob]
    exact (upd_holds rfl y).trans (upd_holds rfl y)
  · have hr := h.1.1.robot r
    refine ⟨((h.1.1.but r).modRobot (f := fun b => { b with port := some p }) id).enterArming
      (fun hn => h.1.2 ?_) ?_ ?_ (fun w => ?_) ?_, h.2.of_windows (by rw [e]; rfl)⟩
    · rw [← hn]
      refine (noneArmed_of_armed fun y => ?_).symm
      simp only [State.modRobot, Fin.getElem_fin, upd_get]
      split
      · next hy => subst hy; rfl
      · rfl
    · rw [hown]; rfl
    · rw [hown]; exact hd
    · rw [Bool.eq_false_iff]
      intro e
      have := ((hr.held_iff w).mp e).1
      rw [hi] at this
      cases this
    · rw [Bool.eq_false_iff]
      intro e
      have := hr.lost e
      rw [hi] at this
      cases this

theorem releaseRobots_other_window {v : WindowId} (hv : v ≠ w) : ∃ held,
    (releaseRobots w s).windows[v] = { s.windows[v] with heldSet := held } ∧
      (held ≠ 0 → s.windows[v].heldSet ≠ 0) := by
  have hl : ∀ (l : List RobotId) (s : State), ∃ held,
      (forEach l giveBack s).windows[v] = { s.windows[v] with heldSet := held } ∧
        (held ≠ 0 → s.windows[v].heldSet ≠ 0) := by
    intro l
    induction l with
    | nil => exact fun s => ⟨_, rfl, id⟩
    | cons r l ih =>
      intro s
      obtain ⟨held, e, hh⟩ := ih (giveBack r s)
      have hg : (giveBack r s).windows[v] = { s.windows[v] with heldSet := without s.windows[v].heldSet r } := by
        rw [← leaveHeld_windows, giveBack, (enterArming_cases r (leaveHeld r s)).2]
      rw [hg] at e hh
      exact ⟨held, e, fun hne => without_ne_zero (hh hne)⟩
  obtain ⟨held, e, hh⟩ := hl (members s.windows[w].heldSet) s
  refine ⟨held, ?_, hh⟩
  rw [← e]
  exact upd_other _ _ _ _ hv

/-- The robots of a window are given back, at a level that it keeps or has lowered (R157, R161). -/
theorem released_safe {f : ServiceWindow → ServiceWindow} (hf : (f s.windows[w]).heldSet = s.windows[w].heldSet)
    (h : x.Holds a o s) : x.Holds a o (releaseRobots w (s.modWindow w f)) := by
  have e := releaseRobots_frame w (s.modWindow w f)
  refine supervised_safe (s := s) (by rw [e]; rfl) (by rw [e]; rfl) (by rw [e]; exact id) (fun y => ?_) (fun _ h => ?_) h
  · rw [releaseRobots_robot]
    split <;> rfl
  · refine ⟨RobotsIn.releaseRobots ⟨h.1.1.modWindow hf, h.1.2⟩, fun v hv => ?_⟩
    by_cases hvw : v = w
    · subst hvw
      rw [releaseRobots_window] at hv
      exact absurd rfl hv
    · obtain ⟨held, eh, hh⟩ := releaseRobots_other_window (s := s.modWindow w f) hvw
      have eo : (s.modWindow w f).windows[v] = s.windows[v] := upd_other _ _ _ _ hvw
      rw [eh] at hv ⊢
      rw [eo] at hh ⊢
      exact h.2 v (hh hv)

theorem modWindow_self (w : WindowId) (s : State) : s.modWindow w id = s := by
  unfold State.modWindow
  rw [upd_fixed _ _ _ rfl]

theorem releaseRobots_safe (h : x.Holds a o s) : x.Holds a o (releaseRobots w s) := by
  have := released_safe (w := w) (f := id) rfl h
  rwa [modWindow_self] at this

theorem lowerWindow_safe {level : ServiceLevel} (h : x.Holds a o s) : x.Holds a o (lowerWindow w level s) := by
  unfold lowerWindow
  dsimp only
  split
  · exact released_safe rfl h
  · next hl =>
    refine modWindow_safe rfl (fun hm => ?_) h
    simp only [ServiceWindow.maintains, Bool.and_eq_true, decide_eq_true_eq] at hm
    exact absurd hm.2 hl

end

end Sys2Proof.Machine
end


section
/-! SUPPORT. The invariants of a safe run, continued: periods, openings, status and command frames
(R92 to R107). -/

namespace Sys2Proof.Machine

theorem RobotState.not_service {y : RobotState} (h : y.armed = true) : y ≠ .service := by
  rintro rfl; cases h

/-- An armed robot stays armed, and LOST when it was. -/
theorem Robot.Moves.rearmed {b b' : Robot} (ha : b.state.armed = true) (ha' : b'.state.armed = true)
    (hl : b.state = .lost → b'.state = .lost) (hh : b'.holder = b.holder) (hp : b'.port = b.port)
    (hd : b'.damaged = b.damaged) : b.Moves b' :=
  ⟨ha'.trans ha.symm, iff_of_false (RobotState.not_service ha') (RobotState.not_service ha), hl, hh, hp, fun e => hd ▸ e, .inl ha⟩

section
variable {x : Part} {a o a' o' : List CellId} {s : State} {r : RobotId} {p : PortId} {w : WindowId}

/-- An armed robot that was not LOST, or stays so, changes its state among those of an armed robot. -/
theorem rearm_safe {f : Robot → Robot} (ha : s.robots[r].state.armed = true)
    (ha' : (f s.robots[r]).state.armed = true)
    (hl : s.robots[r].state = .lost → (f s.robots[r]).state = .lost)
    (hf : (f s.robots[r]).holder = s.robots[r].holder ∧ (f s.robots[r]).port = s.robots[r].port ∧
      (f s.robots[r]).damaged = s.robots[r].damaged ∧ (f s.robots[r]).holds = s.robots[r].holds)
    (h : x.Holds a o s) : x.Holds a o (s.modRobot r f) := by
  obtain ⟨hh, hp, hd, he⟩ := hf
  exact modRobot_safe (.rearmed ha ha' hl hh hp hd) (by rw [he]) h

theorem loseRobot_safe (ha : s.robots[r].state.armed = true) (h : x.Holds a o s) :
    x.Holds a o (loseRobot r s) := by
  have hm : x.Holds a o (s.modRobot r fun b => { b with state := .lost }) :=
    rearm_safe ha rfl (fun _ => rfl) ⟨rfl, rfl, rfl, rfl⟩ h
  unfold loseRobot
  dsimp only
  split
  · split
    · exact joinHold_safe (by simp [HoldSource.mayJoin])
        (raise_safe (modRobot_beside_safe rfl rfl rfl id ⟨rfl, rfl⟩ (raise_safe (bump_safe hm))))
    · exact raise_safe (modRobot_beside_safe rfl rfl rfl id ⟨rfl, rfl⟩ (raise_safe (bump_safe hm)))
  · split
    · exact joinHold_safe (by simp [HoldSource.mayJoin]) (raise_safe (bump_safe hm))
    · exact raise_safe (bump_safe hm)

theorem hitRobot_safe {parked : Bool} (ha : s.robots[r].state.armed = true) (hl : s.robots[r].state ≠ .lost)
    (h : x.Holds a o s) : x.Holds a o (hitRobot r parked s) := by
  have hm : x.Holds a o (s.modRobot r fun b =>
      { b with state := if parked then .parked else .running, missCount := 0 }) :=
    rearm_safe ha (by cases parked <;> rfl) (fun e => absurd e hl) ⟨rfl, rfl, rfl, rfl⟩ h
  cases parked with
  | true => exact reportParked_safe (by simp) hm
  | false => exact hm

theorem missRobot_safe (ha : s.robots[r].state.armed = true) (h : x.Holds a o s) :
    x.Holds a o (missRobot r s) := by
  have hm : ∀ n, x.Holds a o (bump (.robot r .misses) (s.modRobot r fun b => { b with missCount := n })) :=
    fun n => bump_safe (modRobot_beside_safe rfl rfl rfl id ⟨rfl, rfl⟩ h)
  unfold missRobot
  dsimp only
  generalize (if s.robots[r].state = .running then 1 else min (s.robots[r].missCount + 1) 15) = n
  refine ite_safe (fun _ => loseRobot_safe (by simpa using ha) (hm n)) fun _ => ite_safe (fun hr => ?_) fun _ => hm n
  have hk : (bump (.robot r .misses) (s.modRobot r fun b => { b with missCount := n })).robots[r].state =
      s.robots[r].state := by simp
  exact rearm_safe (by rw [hk, hr]; rfl) rfl (fun e => by rw [hk, hr] at e; cases e) ⟨rfl, rfl, rfl, rfl⟩ (hm n)

theorem stallRobot_safe (h : x.Holds a o s) : x.Holds a o (stallRobot r s) := by
  unfold stallRobot
  dsimp only
  split
  · exact raise_safe (modRobot_beside_safe rfl rfl rfl id ⟨rfl, rfl⟩ h)
  · exact modRobot_beside_safe rfl rfl rfl id ⟨rfl, rfl⟩ h

/-- A LOST robot is back, and no hold source (R99). -/
theorem back_safe {f : Robot → Robot} {e : NoticeEvent} (hs : s.robots[r].state = .lost)
    (ha : (f s.robots[r]).state.armed = true) (hl : (f s.robots[r]).state ≠ .lost)
    (hf : (f s.robots[r]).holder = s.robots[r].holder ∧ (f s.robots[r]).port = s.robots[r].port ∧
      (f s.robots[r]).damaged = s.robots[r].damaged ∧ (f s.robots[r]).holds = s.robots[r].holds)
    (h : x.Holds a o s) : x.Holds a o (leaveHold (.robot r) (raise e (s.modRobot r f))) := by
  obtain ⟨hh, hp, hd, he⟩ := hf
  by_cases hx : x = .robots
  · subst hx
    have hr := h.1.1.robot r
    have harmed : s.robots[r].state.armed = true := by rw [hs]; rfl
    have hown : (s.modRobot r f).robots[r] = f s.robots[r] := upd_same ..
    have hn : (s.modRobot r f).noneArmed = s.noneArmed := noneArmed_of_armed fun y => by
      simp only [State.modRobot, Fin.getElem_fin, upd_get] at ha harmed ⊢
      split
      · next e => subst e; rw [ha, harmed]
      · rfl
    have hi : RobotsIn (leaveHold (.robot r) (s.modRobot r f)) := by
      refine ((h.1.1.but r).modRobot (f := f) fun _ => harmed).leaveHold.robotsIn
        ⟨fun w => ?_, ?_, fun e => ?_, fun e => ?_, fun _ => ?_, fun e => ?_⟩
      · show s.heldBy r w = true ↔ (s.modRobot r f).robots[r].state = .service ∧ _
        rw [hr.held_iff, hown]
        exact iff_of_false (fun e => RobotState.not_service harmed e.1) fun e => RobotState.not_service ha e.1
      · show (s.modRobot r f).robots[r].state = .service ↔ (s.modRobot r f).robots[r].holder.isSome = true
        rw [hown, hh, ← hr.service_iff]
        exact iff_of_false (RobotState.not_service ha) (RobotState.not_service harmed)
      · rw [show (leaveHold (.robot r) (s.modRobot r f)).robots[r] = f s.robots[r] from hown, ha] at e
        cases e
      · rw [show (leaveHold (.robot r) (s.modRobot r f)).robots[r] = f s.robots[r] from hown, hd] at e
        have := hr.damage e
        rw [hs] at this
        cases this
      · rw [show (leaveHold (.robot r) (s.modRobot r f)).robots[r] = f s.robots[r] from hown, hp]
        exact hr.port (by rw [hs]; nofun)
      · rw [leaveHold_sourceOf, decide_eq_true rfl, Bool.not_true, Bool.and_false] at e
        cases e
    have hinv : RobotsInv (leaveHold (.robot r) (s.modRobot r f)) :=
      ⟨⟨hi, fun e => h.1.2 (hn ▸ e)⟩, h.2⟩
    exact hinv.congr (by simp [leaveHold, State.modHold]) (by simp [leaveHold, State.modHold])
      (by simp [leaveHold, State.modHold]) (by simp [leaveHold, State.modHold])
  · exact leaveHold_safe (raise_safe (modRobot_other hx (by rw [he]) h))

theorem returnRobot_safe {parked : Bool} (hs : s.robots[r].state = .lost) (h : x.Holds a o s) :
    x.Holds a o (returnRobot r parked s) := by
  have hb := back_safe (f := fun b =>
      { b with state := if parked then .parked else .running, missCount := 0,
               probation := Config.probationPeriods })
    (e := .robotBack r (if parked then .parked else .running)) hs (by cases parked <;> rfl)
    (by cases parked <;> nofun) ⟨rfl, rfl, rfl, rfl⟩ h
  cases parked with
  | true => exact reportParked_safe (by simp [leaveHold, State.modHold]) hb
  | false => exact hb

theorem judgePeriod_safe (h : x.Holds a o s) : x.Holds a o (judgePeriod r s) := by
  unfold judgePeriod
  dsimp only
  split
  · next e _ => exact hitRobot_safe (by rw [e]; rfl) (by rw [e]; nofun) h
  · exact stallRobot_safe h
  · next e _ => exact hitRobot_safe (by rw [e]; rfl) (by rw [e]; nofun) h
  · next e _ => exact hitRobot_safe (by rw [e]; rfl) (by rw [e]; nofun) h
  · next e _ => exact hitRobot_safe (by rw [e]; rfl) (by rw [e]; nofun) h
  · next e _ => exact missRobot_safe (by rw [e]; rfl) h
  · next e _ => exact missRobot_safe (by rw [e]; rfl) h
  · next e _ => exact missRobot_safe (by rw [e]; rfl) h
  · next e _ =>
    split
    · exact h
    · exact returnRobot_safe e h
  · exact bump_safe h
  · exact h
  · exact h

theorem periodEnd_safe {boundary : HallTime} (h : x.Holds a o s) : x.Holds a o (periodEnd r boundary s) := by
  have next : ∀ t : State, x.Holds a o t → x.Holds a o (t.modRobot r fun b => b.nextPeriod boundary) := by
    intro t ht
    have hn : ∀ b : Robot, (b.nextPeriod boundary).state = b.state ∧ (b.nextPeriod boundary).holder = b.holder ∧
        (b.nextPeriod boundary).port = b.port ∧ (b.nextPeriod boundary).damaged = b.damaged ∧
        (b.nextPeriod boundary).slot = b.slot ∧ (b.nextPeriod boundary).store = b.store := by
      intro b
      unfold Robot.nextPeriod
      split <;> exact ⟨rfl, rfl, rfl, rfl, rfl, rfl⟩
    obtain ⟨h1, h2, h3, h4, h5⟩ := hn t.robots[r]
    exact modRobot_beside_safe h1 h2 h3 (fun e => h4 ▸ e) h5 ht
  have hp : x.Holds a o (s.modRobot r fun b => { b with probation := b.probation - 1 }) :=
    modRobot_beside_safe rfl rfl rfl id ⟨rfl, rfl⟩ h
  unfold periodEnd
  dsimp only
  have hj := fun p : Prop => fun [Decidable p] =>
    ite_safe (p := p) (fun _ => judgePeriod_safe (r := r) hp) fun _ => hp
  exact next _ (ite_safe (fun _ => bump_safe (hj _)) fun _ => hj _)

theorem boundaryFor_safe {index : Int} {disturbed : Bool} {boundary : HallTime} (h : x.Holds a o s) :
    x.Holds a o (boundaryFor p index disturbed boundary r s) := by
  have hc := checkRobot_safe (r := r) (k := .supervision) h
  have hd : x.Holds a o (if disturbed = true
      then (checkRobot r .supervision s).modRobot r fun b => { b with disturbed := true }
      else checkRobot r .supervision s) := by
    split
    · exact modRobot_beside_safe rfl rfl rfl id ⟨rfl, rfl⟩ hc
    · exact hc
  exact ite_safe (fun _ => ite_safe (fun _ => ite_safe (fun _ => periodEnd_safe hd) fun _ => hd) fun _ => hc)
    fun _ => h

theorem signalBoundary_safe {index : Int} {disturbed : Bool} {boundary : HallTime} (h : x.Holds a o s) :
    x.Holds a o (signalBoundary p index disturbed boundary s) :=
  forEach_safe (fun _ _ h => boundaryFor_safe h) h

/-! ## Openings (R103, R104) -/

theorem countDelayed_safe (h : x.Holds a o s) : x.Holds a o (countDelayed p s) := by
  unfold countDelayed
  dsimp only
  refine modQueue_safe ?_ (forEach_safe (fun y s h => ?_) h)
  · rw [List.map_map]
    refine .of_eq (congrArg (· ++ o) (List.map_congr_left fun y _ => ?_))
    simp only [Function.comp]
    split <;> rfl
  · split
    · split
      · exact h
      · exact bump_safe h
    · exact h

theorem sendHoldFrame_safe (h : x.Holds a o s) : x.Holds a o (sendHoldFrame r p s) := by
  unfold sendHoldFrame
  split
  · next c rest m e =>
    exact bump_safe (enqueueSend_safe (store_safe (n := 1) Nat.one_pos (take_safe e h)))
  · exact bump_safe (bump_safe h)

theorem mem_references_robot {c : CellId} (h : c ∈ s.robots[r].holds) : c ∈ s.references := by
  refine List.mem_append_right _ (List.mem_flatMap.mpr ⟨s.robots[r], ?_, h⟩)
  exact Vector.mem_toList_iff.mpr (Vector.getElem_mem ..)

theorem sendSlot_safe {c : CellId} (hs : s.robots[r].slot = some c) (ha : s.robots[r].state.armed = true)
    (h : x.Holds a o s) : x.Holds a o (sendSlot r p c s) := by
  have hm : x.Holds a (s.robots[r].store.toList ++ o)
      (s.modRobot r fun b => { b with slot := none, store := some c, repeatsUsed := 0 }) :=
    modRobot_safe ⟨rfl, .rfl, id, rfl, rfl, id, .inl ha⟩ (by rw [Robot.holds, Robot.holds, hs]; simp) h
  have hown : c ∈ (((s.modRobot r fun b => { b with slot := none, store := some c, repeatsUsed := 0 }).releaseOpt
      s.robots[r].store).robots[r]).holds := by
    rw [releaseOpt_frame]
    simp [Robot.holds]
  have he := enqueueSend_safe (p := p) (r := r)
    (addRef_safe (.inr (mem_references_robot hown)) (releaseOpt_safe hm))
  unfold sendSlot
  refine bump_safe ?_
  cases hc : s.robots[r].store <;> rw [hc] at he <;> exact he

theorem sendRepeat_safe {c : CellId} (hs : s.robots[r].store = some c) (h : x.Holds a o s) :
    x.Holds a o (sendRepeat r p c s) := by
  have hr := addRef_safe (.inr (mem_references_robot (r := r) (c := c) (by simpa [Robot.holds] using .inr hs))) h
  unfold sendRepeat
  exact bump_safe (enqueueSend_safe (modRobot_beside_safe rfl rfl rfl id ⟨rfl, rfl⟩ hr))

theorem opening_safe (ha : s.robots[r].state.armed = true) (h : x.Holds a o s) : x.Holds a o (opening r p s) := by
  have ht : x.Holds a o (s.modRobot r fun b => { b with openingTaken := true }) :=
    modRobot_beside_safe rfl rfl rfl id ⟨rfl, rfl⟩ h
  unfold opening
  dsimp only
  split
  · exact bump_safe ht
  · split
    · next hs => exact sendSlot_safe hs (by simpa using ha) ht
    · split
      · next hs =>
        split
        · exact sendRepeat_safe hs ht
        · split
          · exact bump_safe ht
          · exact sendHoldFrame_safe ht
      · split
        · exact bump_safe ht
        · exact sendHoldFrame_safe ht

theorem openingFor_safe {n : Nat} (h : x.Holds a o s) : x.Holds a o (openingFor p n r s) := by
  have hc := checkRobot_safe (r := r) (k := .supervision) h
  unfold openingFor
  dsimp only
  split
  · split
    · next hb => exact opening_safe hb.1 hc
    · exact hc
  · exact h

theorem signalWindow_safe {n : Nat} (h : x.Holds a o s) : x.Holds a o (signalWindow p n s) :=
  forEach_safe (fun _ _ h => openingFor_safe h) (countDelayed_safe h)

/-! ## Status and command frames (R95, R102) -/

theorem recordHit_safe {octets : Octets} (h : x.Holds a o s) : x.Holds a o (recordHit r octets s) := by
  unfold recordHit
  dsimp only
  split
  · exact bump_safe h
  · exact bump_safe (modRobot_beside_safe rfl rfl rfl id ⟨rfl, rfl⟩ h)

theorem noteLate_safe {i : StreamId} {past : Option Nat} (h : x.Holds a o s) : x.Holds a o (noteLate r i past s) :=
  raise_safe (bump_safe (bump_safe h))

theorem statusFrame_safe {i : StreamId} {octets : Octets} {recv : HallTime} (h : x.Holds a o s) :
    x.Holds a o (statusFrame r i octets recv s) := by
  have hc := checkRobot_safe (r := r) (k := .supervision) h
  unfold statusFrame
  dsimp only
  split
  · exact h
  · split
    · exact hc
    · split
      · exact noteLate_safe hc
      · split
        · exact recordHit_safe hc
        · exact noteLate_safe (recordHit_safe hc)

/-- An update of a robot's slot and store alone. -/
def FrameUpdate (f : Robot → Robot) : Prop :=
  ∀ b, (f b).state = b.state ∧ (f b).holder = b.holder ∧ (f b).port = b.port ∧ (f b).damaged = b.damaged

theorem FrameUpdate.moves {f : Robot → Robot} (hf : FrameUpdate f) {b : Robot} (ha : b.state.armed = true) :
    b.Moves (f b) := by
  obtain ⟨h1, h2, h3, h4⟩ := hf b
  exact .rearmed ha (by rw [h1, ha]) (fun e => by rw [h1, e]) h2 h3 h4

/-- A frame in hand takes a place on an armed robot, `f`, from which the old one has gone, `g` (R32). -/
theorem putFrame_safe {old : Option CellId} {c : CellId} {l : List CellId} {octets : Octets} {g f : Robot → Robot}
    (ha : s.robots[r].state.armed = true) (hg : FrameUpdate g) (hf : FrameUpdate f) (hfg : ∀ b, f (g b) = f b)
    (hp : ((g s.robots[r]).holds ++ (old.toList ++ o)).Perm (s.robots[r].holds ++ o))
    (hq : ((f (g s.robots[r])).holds).Perm (c :: (g s.robots[r]).holds)) (h : x.Holds (c :: l ++ a) o s) :
    x.Holds a o ((storeFrame (c :: l) octets (s.releaseOpt old)).modRobot r f) := by
  have h1 : x.Holds (c :: l ++ a) (old.toList ++ o) (s.modRobot r g) := modRobot_safe (hg.moves ha) hp h
  have h2 : x.Holds a (c :: o) (storeFrame (c :: l) octets ((s.modRobot r g).releaseOpt old)) :=
    store_safe (n := 1) Nat.one_pos (releaseOpt_safe h1)
  have hown : (storeFrame (c :: l) octets ((s.modRobot r g).releaseOpt old)).robots[r] = g s.robots[r] := by
    rw [releaseOpt_frame]
    exact upd_same ..
  have ha' : (g s.robots[r]).state.armed = true := by rw [(hg s.robots[r]).1, ha]
  have h3 : x.Holds a o ((storeFrame (c :: l) octets ((s.modRobot r g).releaseOpt old)).modRobot r f) := by
    refine modRobot_safe ?_ ?_ h2
    · rw [hown]
      exact hf.moves ha'
    · rw [hown]
      exact (hq.append_right o).trans List.perm_middle.symm
  have e : (storeFrame (c :: l) octets ((s.modRobot r g).releaseOpt old)).modRobot r f =
      (storeFrame (c :: l) octets (s.releaseOpt old)).modRobot r f := by
    have hu : upd (upd s.robots r g) r f = upd s.robots r f := by
      rw [upd_upd]
      exact congrArg (upd s.robots r) (funext hfg)
    cases old <;> simp only [storeFrame, State.modMem, State.modRobot, State.releaseOpt, State.release, hu]
  rwa [e] at h3

theorem placeCommand_safe {i : StreamId} {cells : List CellId} {octets : Octets}
    (ha : s.robots[r].state.armed = true) (h : x.Holds (cells ++ a) o s) (hne : cells ≠ []) :
    x.Holds a o (placeCommand r i cells octets s) := by
  obtain ⟨c, l, rfl⟩ := List.exists_cons_of_ne_nil hne
  have hstore : x.Holds a o ((storeFrame (c :: l) octets (s.releaseOpt s.robots[r].store)).modRobot r fun b =>
      { b with store := some c, repeatsUsed := 0 }) :=
    putFrame_safe (g := fun b => { b with store := none }) ha (fun _ => ⟨rfl, rfl, rfl, rfl⟩)
      (fun _ => ⟨rfl, rfl, rfl, rfl⟩) (fun _ => rfl) (by simp [Robot.holds])
      (by simp [Robot.holds]) h
  have hslot : x.Holds a o ((storeFrame (c :: l) octets (s.releaseOpt s.robots[r].slot)).modRobot r fun b =>
      { b with slot := some c }) := by
    refine putFrame_safe (g := fun b => { b with slot := none }) ha (fun _ => ⟨rfl, rfl, rfl, rfl⟩)
      (fun _ => ⟨rfl, rfl, rfl, rfl⟩) (fun _ => rfl) ?_ (.refl _) h
    simp only [Robot.holds, Option.toList_none, List.nil_append, List.append_assoc]
    exact List.perm_append_comm_assoc ..
  exact ite_safe (fun _ => bump_safe (bump_safe hstore))
    fun _ => ite_safe (fun _ => bump_safe hslot) fun _ => hslot

theorem loseController_safe (hw : s.watch.state = .watching) (h : x.Holds a o s) :
    x.Holds a o (loseController s) := by
  have hl : x.Holds a o (s.modWatch fun w => { w with state := .lost, lostAt := s.clock.run }) :=
    loseWatch_safe hw rfl h
  unfold loseController
  dsimp only
  split
  · exact joinHold_safe (by simp [HoldSource.mayJoin]) (raise_safe (bump_safe hl))
  · exact raise_safe (bump_safe hl)

end

end Sys2Proof.Machine
end


section
/-! SUPPORT. The invariants of a safe run, continued: the gate engines, the hall clock and the service
windows (R42 to R78, R153 to R167). -/

namespace Sys2Proof.Machine

/-! ## Hall time in its ranges (R42) -/

theorem HallTime.wf_iff (t : HallTime) : t.wf = true ↔ t.sec < secWrap ∧ t.ns < nsPerSec ∧ t.frac < fracPerNs := by
  simp [HallTime.wf, and_assoc]

theorem HallTime.ofUnits_wf (u : Nat) : (HallTime.ofUnits u).wf = true :=
  (HallTime.wf_iff _).mpr ⟨Nat.mod_lt _ (by decide), Nat.mod_lt _ (by decide), Nat.mod_lt _ (by decide)⟩

theorem HallTime.stepBy_wf {t : HallTime} (d : Int) (h : t.wf = true) : (t.stepBy d).wf = true := by
  obtain ⟨-, -, hf⟩ := (HallTime.wf_iff t).mp h
  have hpos : (0 : Int) < nsWrap := by decide
  have h0 : 0 ≤ (((t.sec * nsPerSec + t.ns : Nat) : Int) + d).emod nsWrap := Int.emod_nonneg _ hpos.ne'
  have hlt : (((t.sec * nsPerSec + t.ns : Nat) : Int) + d).emod nsWrap < nsWrap := Int.emod_lt_of_pos _ hpos
  refine (HallTime.wf_iff _).mpr ⟨Nat.div_lt_of_lt_mul ?_, Nat.mod_lt _ (by decide), hf⟩
  rw [Nat.mul_comm nsPerSec secWrap]
  exact (Int.toNat_lt h0).mpr hlt

theorem natAbs_clampAbs (m : Nat) (v : Int) : (clampAbs m v).natAbs ≤ m := by
  unfold clampAbs
  split
  · omega
  · split <;> omega

section
variable {x : Part} {a o a' o' : List CellId} {s : State} {r : RobotId} {p : PortId} {w : WindowId}

/-! ## Gate engines -/

theorem clearHolds_safe {q : QueueId} (h : x.Holds a o s) : x.Holds a o (clearHolds p q s) :=
  modQueue_safe (by rw [List.map_map]; exact .refl _) h

theorem changeGate_safe {f : Gate → Gate} (h : x.Holds a o s) : x.Holds a o (changeGate p f s) :=
  noteCut_safe (forEach_safe (fun _ _ h => ite_safe (fun _ => clearHolds_safe h) fun _ => h) (modGate_safe h))

theorem takeBoundary_safe (h : x.Holds a o s) : x.Holds a o (takeBoundary p s) := by
  unfold takeBoundary
  dsimp only
  split
  · exact signalWindow_safe (raise_safe (changeGate_safe (signalBoundary_safe h)))
  · exact ite_safe (fun _ => changeGate_safe (signalBoundary_safe h))
      fun _ => signalWindow_safe (changeGate_safe (signalBoundary_safe h))

theorem takeTarget_safe {l : GateList} (h : x.Holds a o s) : x.Holds a o (takeTarget p l s) :=
  signalWindow_safe (raise_safe (changeGate_safe (signalBoundary_safe h)))

theorem takeWindow_safe (h : x.Holds a o s) : x.Holds a o (takeWindow p s) :=
  signalWindow_safe (changeGate_safe h)

theorem reportStep_safe (h : x.Holds a o s) : x.Holds a o (reportStep s) :=
  forEach_safe (fun _ _ h => changeGate_safe h) h

/-! ## The hall clock (R42 to R62) -/

theorem setTrim_safe {trim : Int} (ht : ClockInv s → trim.natAbs ≤ 200000) (h : x.Holds a o s) :
    x.Holds a o (setTrim trim s) :=
  modClock_safe rfl (fun hc => ⟨hc.1, ht hc, hc.2.2.1, rfl⟩) h

theorem mapFrames_safe {g : Frame → Frame} (hcells : ∀ f, (g f).cells = f.cells)
    (hrefs : ∀ f, (g f).refs = f.refs) (h : x.Holds a o s) :
    x.Holds a o (s.modMem fun m => { m with frames := m.frames.map fun f => f.map g }) :=
  cells_safe (e := s.egress) (r := s.rx) (fun h => ⟨h.1.mapFrames hcells hrefs, h.2⟩) h

theorem Frame.voided_keeps (f : Frame) : f.voided.cells = f.cells ∧ f.voided.refs = f.refs := by
  unfold Frame.voided
  split <;> exact ⟨rfl, rfl⟩

theorem stepTo_safe {hall : HallTime} (hw : s.clock.hall.wf = true → hall.wf = true) (h : x.Holds a o s) :
    x.Holds a o (stepTo hall s) :=
  bump_safe (mapFrames_safe (fun f => f.voided_keeps.1) (fun f => f.voided_keeps.2)
    (reportStep_safe (modClock_safe rfl (fun hc => ⟨hw hc.1, hc.2⟩) h)))

theorem enterHoldover_safe (h : x.Holds a o s) : x.Holds a o (enterHoldover s) :=
  raise_safe (setTrim_safe (fun hc => hc.2.2.1) (modClock_safe rfl id h))

theorem servoUpdate_safe {offset : Int} (h : x.Holds a o s) : x.Holds a o (servoUpdate offset s) := by
  have hi : x.Holds a o (s.modClock fun c =>
      { c with integral := (servoGains s.clock offset).1, servo := (servoMove s.clock offset).1,
               goodMarks := (servoMove s.clock offset).2 }) :=
    modClock_safe rfl (fun hc => ⟨hc.1, hc.2.1, natAbs_clampAbs 200000 _, hc.2.2.2⟩) h
  have ht := setTrim_safe (trim := (servoGains s.clock offset).2) (fun _ => natAbs_clampAbs 200000 _) hi
  exact ite_safe (fun _ => raise_safe ht) fun _ => ht

theorem markStep_safe {offset : Int} (h : x.Holds a o s) : x.Holds a o (markStep offset s) :=
  raise_safe (stepTo_safe (HallTime.stepBy_wf _) (modClock_safe rfl id h))

theorem relayMark_safe {m : Mark} {t : HallTime} (h : x.Holds a o s) : x.Holds a o (relayMark m t s) := by
  unfold relayMark
  split
  · exact h
  · exact buildFrame_safe h

theorem readMark_safe {m : Mark} (h : x.Holds a o s) : x.Holds a o (readMark m s) := by
  have hm : x.Holds a o ((bump (.clock .marksAccepted) s).modClock fun c => { c with lastMark := some m.recvRun }) :=
    modClock_safe rfl id (bump_safe h)
  have hstep := fun (p : Prop) [Decidable p] (offset : Int) =>
    ite_safe (p := p) (fun _ => markStep_safe (offset := offset) hm) fun _ => servoUpdate_safe (offset := offset) hm
  exact ite_safe (fun _ => bump_safe h) fun _ => ite_safe (fun _ => bump_safe h) fun _ =>
    ite_safe (fun _ => relayMark_safe (hstep _ _)) fun _ => hstep _ _

theorem clockRequest_safe (h : x.Holds a o s) : x.Holds a o (clockRequest s) := by
  unfold clockRequest
  split <;> exact modClock_safe rfl id h

theorem clockRequest_hall (s : State) : (clockRequest s).clock.hall = s.clock.hall := by
  unfold clockRequest
  split <;> rfl

theorem requestStep_safe {cause : StepCause} {hall : HallTime} {offset : Int}
    (hw : s.clock.hall.wf = true → hall.wf = true) (h : x.Holds a o s) :
    x.Holds a o (requestStep cause hall offset s) :=
  raise_safe (stepTo_safe (fun e => hw (clockRequest_hall s ▸ e)) (clockRequest_safe h))

theorem loseProbe_safe (h : x.Holds a o s) : x.Holds a o (loseProbe s) := by
  unfold loseProbe
  split
  · exact h
  · have hl : x.Holds a o ((bump (.clock .probesLost) s).modClock fun c =>
        { c with lostProbes := c.lostProbes + 1, probe := none }) := modClock_safe rfl id (bump_safe h)
    exact ite_safe (fun _ => raise_safe (modClock_safe rfl id hl)) fun _ => hl

theorem newProbe_safe (h : x.Holds a o s) : x.Holds a o (newProbe s) := by
  unfold newProbe
  split
  · exact h
  · exact ite_safe (fun _ => buildFrame_safe (modClock_safe rfl id h)) fun _ => h

theorem takeProbeDue_safe {due : Nat} (h : x.Holds a o s) : x.Holds a o (takeProbeDue due s) :=
  newProbe_safe (modClock_safe rfl id (loseProbe_safe h))

theorem takeSample_safe {sample : Int} (h : x.Holds a o s) : x.Holds a o (takeSample sample s) :=
  ite_safe (fun _ => bump_safe h) fun _ => bump_safe (modClock_safe rfl id h)

theorem readReply_safe {octets : Octets} {t4 : HallTime} (h : x.Holds a o s) :
    x.Holds a o (readReply octets t4 s) := by
  refine ite_safe (fun _ => bump_safe h) fun _ => ?_
  split
  · exact ite_safe (fun _ => takeSample_safe (modClock_safe rfl id h)) fun _ => bump_safe h
  · exact bump_safe h

theorem answerProbe_safe {octets : Octets} {t2 : HallTime} (h : x.Holds a o s) :
    x.Holds a o (answerProbe p octets t2 s) := buildFrame_safe h

/-! ## Service windows (R153 to R167) -/

theorem map_filter_perm (l : List QEntry) (f : QEntry → Bool) (o : List CellId) :
    ((l.filter fun y => !f y).map QEntry.frame ++ ((l.filter f).map QEntry.frame ++ o)).Perm
      (l.map QEntry.frame ++ o) := by
  rw [← List.append_assoc, ← List.map_append]
  exact ((List.perm_append_comm.trans (List.filter_append_perm f l)).map _).append_right o

theorem dropMirrors_safe (h : x.Holds a o s) : x.Holds a o (dropMirrors p s) := by
  have hq : x.Holds a ((s.egress[p].queues[(0 : QueueId)].filter fun y => decide (y.kind = .mirror)).map QEntry.frame ++ o)
      (s.modEgress p fun e => { e with queues := upd e.queues 0 fun l => l.filter fun y => decide (y.kind ≠ .mirror) }) := by
    refine modQueue_safe ?_ h
    simpa only [decide_not] using map_filter_perm s.egress[p].queues[(0 : QueueId)] (fun y => decide (y.kind = .mirror)) o
  have hr := releaseEntries_safe hq
  have e : ∀ (l : List QEntry) (t : State) (f : Egress → Egress),
      (releaseEntries l t).modEgress p f = releaseEntries l (t.modEgress p f) := by
    intro l
    induction l with
    | nil => exact fun _ _ => rfl
    | cons y l ih => exact fun t f => ih (t.release y.frame) f
  rw [← e] at hr
  exact hr

theorem closeWindow_safe {cause : CloseCause} (h : x.Holds a o s) : x.Holds a o (closeWindow w cause s) := by
  refine ite_safe (fun _ => h) fun _ => ?_
  have h0 : (dropMirrors (windowPort w) (releaseRobots w s)).windows[w].heldSet = 0 := by
    rw [dropMirrors_frame]
    dsimp only
    rw [releaseRobots_window]
  have h1 := dropMirrors_safe (p := windowPort w) (releaseRobots_safe (w := w) h)
  generalize dropMirrors (windowPort w) (releaseRobots w s) = u at h0 h1 ⊢
  exact modWindow_safe rfl (fun _ => .inl (by simpa using h0))
    (raise_safe (modWindow_safe rfl (fun _ => .inl h0) h1))

theorem warnWindow_safe (h : x.Holds a o s) : x.Holds a o (warnWindow w s) :=
  raise_safe (modWindow_safe rfl .inr h)

theorem trap_safe {reason : TrapReason} {src : Mac} (h : x.Holds a o s) : x.Holds a o (trap w reason src s) := by
  have ht : x.Holds a o (raise (.serviceTrap w reason src) ((bump (.service w .traps) s).modWindow w fun x =>
      { x with sessionTraps := min (x.sessionTraps + 1) 65535 })) :=
    raise_safe (modWindow_safe rfl .inr (bump_safe h))
  exact ite_safe (fun _ => closeWindow_safe ht) fun _ => ht

theorem claimRobot_safe (hm : s.windows[w].maintains = true) (h : x.Holds a o s) :
    x.Holds a o (claimRobot w r s) := by
  unfold claimRobot
  split
  · next e => exact intoService_safe (by rw [e]; rfl) (by rw [e]; nofun) hm h
  · exact h
  all_goals exact modWindow_safe rfl .inr h

theorem claimRobot_maintains (r : RobotId) (hm : s.windows[w].maintains = true) :
    (claimRobot w r s).windows[w].maintains = true := by
  unfold claimRobot
  split
  · unfold intoService
    dsimp only
    rw [(watchIdleIfNone_keeps _).2.1, emptySlots_frame]
    simpa [ServiceWindow.maintains] using hm
  · exact hm
  all_goals simpa [ServiceWindow.maintains] using hm

theorem ServiceWindow.maintains_of_not_active {y : ServiceWindow} (h : y.state ≠ .active) : y.maintains = false := by
  simp [ServiceWindow.maintains, h]

theorem activateWindow_safe (hs : s.windows[w].maintains = false) (h : x.Holds a o s) :
    x.Holds a o (activateWindow w s) := by
  have ha : x.Holds a o (s.modWindow w fun x => { x with state := .active }) :=
    modWindow_unheld_safe hs (.inl rfl) h
  refine ite_safe (fun hl => ?_) fun _ => ha
  refine (forEach_inv (P := fun t => x.Holds a o t ∧ t.windows[w].maintains = true) _
    (fun r _ t ht => ⟨claimRobot_safe ht.2 ht.1, claimRobot_maintains r ht.2⟩) _ ⟨ha, ?_⟩).1
  simp only [Fin.getElem_fin, State.modWindow_windows, upd_same] at hl ⊢
  simp [ServiceWindow.maintains, hl]

theorem judgeArrival_safe {src : Mac} (h : x.Holds a o s) : x.Holds a o (judgeArrival w src s).1 := by
  unfold judgeArrival
  dsimp only
  split
  · exact trap_safe h
  · next e _ =>
    have hm : s.windows[w].maintains = false := ServiceWindow.maintains_of_not_active (by rw [e]; nofun)
    split
    · exact trap_safe h
    · exact activateWindow_safe (by simpa [ServiceWindow.maintains] using hm)
        (modWindow_unheld_safe hm (.inl rfl) h)
  · next e _ =>
    split
    · exact activateWindow_safe (ServiceWindow.maintains_of_not_active (by rw [e]; nofun)) h
    · exact trap_safe h
  · split
    · exact h
    · exact trap_safe h

theorem grantWindow_safe {g : Grant} (hc : s.windows[w].state = .closed) (h : x.Holds a o s) :
    x.Holds a o (grantWindow w g s) := by
  have hg : x.Holds a o (raise (.serviceOpened w g.level g.seconds) (s.modWindow w fun x =>
      { x with
        state := .granted, level := g.level, robots := g.robots, cameras := g.cameras
        mirror := g.mirror, technician := g.technician, learned := false
        endTime := s.clock.run + g.seconds * 1000000, warned := false, trapCloses := g.trapCloses
        pendingSet := 0, heldSet := 0, sessionTraps := 0 })) :=
    raise_safe (modWindow_unheld_safe (ServiceWindow.maintains_of_not_active (by rw [hc]; nofun)) (.inr rfl) h)
  exact ite_safe (fun _ => warnWindow_safe hg) fun _ => hg

theorem extendWindow_safe {remaining : Nat} (h : x.Holds a o s) : x.Holds a o (extendWindow w remaining s) := by
  have he : x.Holds a o (s.modWindow w fun x => { x with endTime := s.clock.run + remaining * 1000 }) :=
    modWindow_safe rfl .inr h
  exact ite_safe (fun _ => modWindow_safe rfl .inr he) fun _ => ite_safe (fun _ => he) fun _ => warnWindow_safe he

end

end Sys2Proof.Machine
end


section
/-! SUPPORT. The invariants of a safe run, continued: the reject station and the tracker (R111 to R149). -/

namespace Sys2Proof.Machine

section
variable {x : Part} {a o a' o' : List CellId} {s : State} {c : CameraId}

/-! ## The ejector (R145 to R149) -/

/-- Neither output is asserted after a change. -/
theorem undriven_safe {f : Reject → Reject} (ha : (f s.reject).state.drivesA = false)
    (hb : (f s.reject).state.drivesB = false) (h : x.Holds a o s) : x.Holds a o (s.modReject f) :=
  modReject_safe (fun _ e => absurd (ha.symm.trans e) Bool.false_ne_true)
    (fun _ e => absurd (hb.symm.trans e) Bool.false_ne_true) h

/-- The ejector goes on in its state, under its times. -/
theorem sameDrive_safe {f : Reject → Reject} (hs : (f s.reject).state = s.reject.state)
    (hi : (f s.reject).inhibitEnd = s.reject.inhibitEnd) (ha : (f s.reject).releaseA = s.reject.releaseA)
    (hb : (f s.reject).releaseB = s.reject.releaseB)
    (hn : (f s.reject).cfg.nonOverlap = s.reject.cfg.nonOverlap) (h : x.Holds a o s) :
    x.Holds a o (s.modReject f) := by
  refine modReject_safe (fun h => ?_) (fun h => ?_) h
  · unfold State.clearA State.ejectA at h ⊢
    simp only [State.modReject, hs, hi, hb, hn]
    exact h
  · unfold State.clearB State.ejectB at h ⊢
    simp only [State.modReject, hs, hi, ha, hn]
    exact h

theorem recomputeLead_safe (h : x.Holds a o s) : x.Holds a o (recomputeLead s) :=
  sameDrive_safe rfl rfl rfl rfl rfl h

theorem startBlast_safe (hi : s.reject.inhibitEnd ≤ s.clock.run) (h : x.Holds a o s) :
    x.Holds a o (startBlast s) :=
  bump_safe (modReject_safe (fun _ _ => ⟨hi, nofun⟩) (fun _ => nofun) h)

theorem releasePassed_iff (t : Option Nat) (n now : Nat) :
    releasePassed t n now = true ↔ ∀ b, t = some b → b + n ≤ now := by
  cases t <;> simp [releasePassed]

theorem startExtend_safe (hm : s.mayExtend = true) (h : x.Holds a o s) : x.Holds a o (startExtend s) := by
  obtain ⟨hi, hr⟩ := (mayExtend_iff s).mp hm
  exact bump_safe (modReject_safe (fun _ _ => ⟨hi, fun _ => hr⟩) (fun _ => nofun) h)

theorem startRetract_safe (hm : s.mayRetract = true) (h : x.Holds a o s) : x.Holds a o (startRetract s) :=
  bump_safe (modReject_safe (fun _ => nofun) (fun _ _ => (mayRetract_iff s).mp hm) h)

theorem leaveWaits_safe (h : x.Holds a o s) : x.Holds a o (leaveWaits s) := by
  unfold leaveWaits
  split
  · exact ite_safe (fun hm => startExtend_safe hm h) fun _ => h
  · exact ite_safe (fun hm => startRetract_safe hm h) fun _ => h
  · exact h

theorem dwellTest_safe (h : x.Holds a o s) : x.Holds a o (dwellTest s) := by
  unfold dwellTest
  split
  · exact ite_safe (fun _ => leaveWaits_safe (undriven_safe rfl rfl h)) fun _ => h
  · exact h

theorem firePulse_safe (h : x.Holds a o s) : x.Holds a o (firePulse s) := by
  unfold firePulse
  split
  · exact bump_safe (sameDrive_safe rfl rfl rfl rfl rfl h)
  · exact ite_safe (fun _ => bump_safe h) fun _ => ite_safe (fun hi => startBlast_safe hi h)
      fun _ => bump_safe (sameDrive_safe rfl rfl rfl rfl rfl h)

theorem fireDiverter_safe (h : x.Holds a o s) : x.Holds a o (fireDiverter s) := by
  have hd : x.Holds a o (s.modReject fun x => { x with dwellStart := some s.tracker.position }) :=
    sameDrive_safe rfl rfl rfl rfl rfl h
  unfold fireDiverter
  dsimp only
  split
  · exact ite_safe (fun hm => startExtend_safe hm hd) fun _ => bump_safe (undriven_safe rfl rfl hd)
  · exact ite_safe (fun hm => startExtend_safe hm hd) fun _ => bump_safe (undriven_safe rfl rfl hd)
  · exact bump_safe hd
  · exact bump_safe hd
  · exact hd
  · exact bump_safe (undriven_safe rfl rfl hd)
  · exact ite_safe (fun _ => bump_safe hd) fun _ => sameDrive_safe rfl rfl rfl rfl rfl hd

theorem fireEjector_safe (h : x.Holds a o s) : x.Holds a o (fireEjector s) := by
  unfold fireEjector
  dsimp only
  split
  · exact firePulse_safe (bump_safe h)
  · exact fireDiverter_safe (bump_safe h)

theorem restartEjector_safe (h : x.Holds a o s) : x.Holds a o (restartEjector s) := undriven_safe rfl rfl h

/-! ## The tracking list (R121) -/

/-- The list is in order when its sequence numbers run without a gap up to the next one. -/
def Tracker.inOrder (t : Tracker) : Prop :=
  t.records.length ≤ Config.trackingCapacity ∧
    ∀ i (h : i < t.records.length), (t.records[i]).seq + BitVec.ofNat 32 (t.records.length - i) = t.nextSeq

theorem Tracker.inOrder_tail {t : Tracker} (h : t.inOrder) : ({ t with records := t.records.tail } : Tracker).inOrder := by
  obtain ⟨hl, hs⟩ := h
  refine ⟨by rw [List.length_tail]; omega, fun i hi => ?_⟩
  rw [List.length_tail] at hi
  have := hs (i + 1) (by omega)
  rw [← this, List.getElem_tail]
  dsimp only
  rw [List.length_tail]
  congr 2
  omega

theorem Tracker.inOrder_map {t : Tracker} {f : TrackRec → TrackRec} (hf : ∀ r, (f r).seq = r.seq) (h : t.inOrder) :
    ({ t with records := t.records.map f } : Tracker).inOrder := by
  obtain ⟨hl, hs⟩ := h
  refine ⟨by simpa using hl, fun i hi => ?_⟩
  simpa [hf] using hs i (by simpa using hi)

theorem Tracker.inOrder_append {t : Tracker} {r : TrackRec} (hr : r.seq = t.nextSeq)
    (hl : t.records.length < Config.trackingCapacity) (h : t.inOrder) :
    ({ t with records := t.records ++ [r], nextSeq := t.nextSeq + 1 } : Tracker).inOrder := by
  refine ⟨by simpa using hl, fun i hi => ?_⟩
  simp only [List.length_append, List.length_singleton] at hi ⊢
  by_cases hlt : i < t.records.length
  · rw [List.getElem_append_left hlt, ← h.2 i hlt,
      show t.records.length + 1 - i = (t.records.length - i) + 1 by omega, BitVec.ofNat_add, BitVec.add_assoc]
    rfl
  · have hi' : i = t.records.length := by omega
    subst hi'
    rw [List.getElem_append_right (Nat.le_refl _)]
    simp [hr]

theorem modTracker_list_safe {f : Tracker → Tracker} (hf : s.tracker.inOrder → (f s.tracker).inOrder)
    (h : x.Holds a o s) : x.Holds a o (s.modTracker f) := modTracker_safe hf h

theorem modRecord_safe {q : BitVec 32} {f : TrackRec → TrackRec} (hf : ∀ r, (f r).seq = r.seq)
    (h : x.Holds a o s) : x.Holds a o (s.modRecord q f) :=
  modTracker_list_safe (Tracker.inOrder_map fun r => by split <;> simp [hf]) h

/-! ## The decision (R142, R143) -/

theorem movePointers_safe {gone : BitVec 32} (h : x.Holds a o s) : x.Holds a o (movePointers gone s) :=
  beside_safe h

theorem decideHead_safe {r : TrackRec} (h : x.Holds a o s) : x.Holds a o (decideHead r s) := by
  have hd : ∀ y : Reject → Reject, y = (fun z => { z with last := (y z).last }) →
      x.Holds a o (movePointers r.seq (leaveHold .trackFull
        (((bump (.reject (outcomeCounter (decideRecord r))) s).modReject y).modTracker
          fun t => { t with records := t.records.tail }))) := fun y hy => by
    refine movePointers_safe (leaveHold_safe (modTracker_list_safe Tracker.inOrder_tail ?_))
    rw [hy]
    exact sameDrive_safe rfl rfl rfl rfl rfl (bump_safe h)
  unfold decideHead
  dsimp only
  split
  · exact hd _ rfl
  · exact fireEjector_safe (hd _ rfl)

theorem decideDue_safe {l : List TrackRec} (h : x.Holds a o s) : x.Holds a o (decideDue l s) := by
  induction l generalizing s with
  | nil => exact h
  | cons r l ih => exact ite_safe (fun _ => ih (decideHead_safe h)) fun _ => h

/-! ## Occlusions (R117 to R124) -/

theorem qualify_safe (h : x.Holds a o s) : x.Holds a o (qualify s) :=
  ite_safe (fun hl => bump_safe (modTracker_list_safe (fun h => Tracker.inOrder_append rfl hl h) h))
    fun _ => joinHold_safe trivial (raise_safe (bump_safe (modTracker_list_safe id h)))

theorem jamFound_safe (h : x.Holds a o s) : x.Holds a o (jamFound s) := by
  have hj := modTracker_list_safe (f := fun t => { t with sensor := .jammed }) id h
  have hend : ∀ {t : State} {e : NoticeEvent}, x.Holds a o t → x.Holds a o
      (if (raise e (bump (.tracker .jams) t)).tracker.cfg.jamPolicy = .holdLine
        then joinHold .jam (raise e (bump (.tracker .jams) t)) else raise e (bump (.tracker .jams) t)) := fun ht =>
    ite_safe (fun _ => joinHold_safe trivial (raise_safe (bump_safe ht))) fun _ => raise_safe (bump_safe ht)
  unfold jamFound
  dsimp only
  split
  · exact hend (modRecord_safe (fun _ => rfl) hj)
  · exact hend hj

theorem occlusionTests_safe (h : x.Holds a o s) : x.Holds a o (occlusionTests s) := by
  have hq := fun (p : Prop) [Decidable p] => ite_safe (p := p) (fun _ => qualify_safe h) fun _ => h
  exact ite_safe (fun _ => jamFound_safe (hq _)) fun _ => hq _

theorem beginExcursion_safe (h : x.Holds a o s) : x.Holds a o (beginExcursion s) := by
  have he : x.Holds a o (bump (.tracker .excursions) (s.modTracker fun t => { t with excursion := true })) :=
    bump_safe (modTracker_list_safe id h)
  unfold beginExcursion
  dsimp only
  split
  · exact bump_safe (modTracker_list_safe id he)
  · exact modTracker_list_safe id he
  · exact he

theorem afterCount_safe (h : x.Holds a o s) : x.Holds a o (afterCount s) :=
  ite_safe (fun _ => beginExcursion_safe h)
    fun _ => occlusionTests_safe (ite_safe (fun _ => modTracker_list_safe id h) fun _ => h)

theorem leadingEdge_safe (h : x.Holds a o s) : x.Holds a o (leadingEdge s) :=
  ite_safe (fun _ => ite_safe (fun _ => bump_safe (modTracker_list_safe id h)) fun _ => modTracker_list_safe id h)
    fun _ => h

theorem trailingEdge_safe (h : x.Holds a o s) : x.Holds a o (trailingEdge s) := by
  have ht : x.Holds a o (s.modTracker fun t => { t with sensor := .clear, leading := none, link := none }) :=
    modTracker_list_safe id h
  unfold trailingEdge
  dsimp only
  split
  · exact bump_safe ht
  · exact leaveHold_safe ht
  · exact ht

theorem sensorEnds_safe (h : x.Holds a o s) : x.Holds a o (sensorEnds s) :=
  ite_safe (fun _ => h) fun _ => trailingEdge_safe h

theorem endSpeedWindow_safe (h : x.Holds a o s) : x.Holds a o (endSpeedWindow s) :=
  recomputeLead_safe (modTracker_list_safe id h)

/-! ## Triggers and verdicts (R132 to R139) -/

theorem triggerNote_safe {q : BitVec 32} {d : Dest} (h : x.Holds a o s) : x.Holds a o (triggerNote c q d s) :=
  buildFrame_safe h

theorem fireTrigger_safe {q : BitVec 32} (h : x.Holds a o s) : x.Holds a o (fireTrigger c q s) := by
  have hf : x.Holds a o (bump (.camera c .triggersFired) ((s.modCamera c fun k =>
      { k with pulseEnd := some (s.clock.run + k.cfg.pulseWidth) }).modRecord q fun r =>
      { r with triggered := r.triggered.set c true })) :=
    bump_safe (modRecord_safe (fun _ => rfl) (modCamera_safe h))
  unfold fireTrigger
  dsimp only
  split
  · exact triggerNote_safe hf
  · exact hf

theorem skipTrigger_safe {q : BitVec 32} (h : x.Holds a o s) : x.Holds a o (skipTrigger c q s) :=
  raise_safe (bump_safe (modRecord_safe (fun _ => rfl) h))

theorem triggerScan_safe {l : List TrackRec} (h : x.Holds a o s) : x.Holds a o (triggerScan c l s) := by
  induction l generalizing s with
  | nil => exact h
  | cons r l ih =>
    exact ite_safe (fun _ => h) fun _ => ih (modCamera_safe (ite_safe
      (fun _ => ite_safe (fun _ => skipTrigger_safe h) fun _ => fireTrigger_safe h) fun _ => h))

theorem testTrigger_safe (h : x.Holds a o s) : x.Holds a o (testTrigger c s) := triggerScan_safe h

theorem applyCount_safe {count : Int} (h : x.Holds a o s) : x.Holds a o (applyCount count s) := by
  have ht : x.Holds a o (forEach (List.finRange 4) testTrigger (afterCount (s.modTracker fun t =>
      { t with position := t.position + BitVec.ofInt 32 count }))) :=
    forEach_safe (fun _ _ h => testTrigger_safe h) (afterCount_safe (modTracker_list_safe id h))
  exact dwellTest_safe (ite_safe (fun _ => decideDue_safe ht) fun _ => ht)

theorem applyInList_safe {i : StreamId} {e : VerdictEntry} (h : x.Holds a o s) :
    x.Holds a o (applyInList i c e s) := by
  have hw : x.Holds a o (bump (.camera c .verdictsApplied)
      (s.modRecord e.seq fun r => { r with verdicts := r.verdicts.set c e.state })) :=
    bump_safe (modRecord_safe (fun _ => rfl) h)
  unfold applyInList
  dsimp only
  refine ite_safe (fun _ => bump_safe h) fun _ => ?_
  split
  · exact hw
  · exact ite_safe (fun _ => hw) fun _ => bump_safe h
  · exact bump_safe h

theorem applyVerdict_safe {i : StreamId} {e : VerdictEntry} (h : x.Holds a o s) :
    x.Holds a o (applyVerdict i e s) := by
  unfold applyVerdict
  dsimp only
  split
  · exact raise_safe (bump_safe h)
  · exact bump_safe h
  · exact applyInList_safe h

theorem readVerdicts_safe {i : StreamId} {frame : Octets} (h : x.Holds a o s) :
    x.Holds a o (readVerdicts i frame s) := by
  unfold readVerdicts
  split
  · exact bump_safe h
  · exact forEach_safe (fun _ _ h => applyVerdict_safe h) h

theorem clearList_safe (h : x.Holds a o s) : x.Holds a o (clearList s) :=
  bump_safe (leaveHold_safe (beside_safe (modTracker_list_safe
    (fun _ => ⟨Nat.zero_le _, fun i hi => absurd hi (Nat.not_lt_zero i)⟩) h)))

end

end Sys2Proof.Machine
end


section
/-! SUPPORT. The invariants of a safe run, continued: the transmitter, and work cut short (R36 to R40,
R79 to R81, R179, R193). -/

namespace Sys2Proof.Machine

section
variable {x : Part} {a o a' o' : List CellId} {s : State} {p : PortId} {q : QueueId}

/-! ## What is picked (R37) -/

/-- An item of R37 is what it says: a head that may start, or the remainder. -/
def Pick.fits (s : State) (p : PortId) : Pick → Prop
  | .head q x => (∃ rest, s.egress[p].queues[q] = x :: rest) ∧ (q.val < 2 → s.egress[p].remainder = none)
  | .remainder r => s.egress[p].remainder = some r

theorem readyHead_fits {y : Pick} (h : s.readyHead p q = some y) : y.fits s p := by
  unfold State.readyHead at h
  cases hx : s.egress[p].queues[q] with
  | nil => rw [hx] at h; cases h
  | cons e rest =>
    rw [hx] at h
    dsimp only at h
    split at h
    · next hm =>
      cases h
      exact ⟨⟨rest, hx⟩, fun hq => ((headMayStart_iff s p q e).mp hm).2.1 hq⟩
    · cases h

theorem readyRemainder_fits {y : Pick} (h : s.readyRemainder p = some y) : y.fits s p := by
  unfold State.readyRemainder at h
  cases hr : s.egress[p].remainder with
  | none => rw [hr] at h; cases h
  | some r =>
    rw [hr] at h
    dsimp only at h
    split at h
    · cases h; exact hr
    · cases h

theorem pick_fits {y : Pick} (h : s.pick p = some y) : y.fits s p := by
  simp only [State.pick, Option.orElse_eq_some] at h
  obtain h | ⟨-, h | ⟨-, h | ⟨-, h | ⟨-, h⟩⟩⟩⟩ := h
  · exact readyHead_fits h
  · exact readyHead_fits h
  · exact readyRemainder_fits h
  · exact readyHead_fits h
  · exact readyHead_fits h

/-! ## A choice (R37, R75, R79, R81) -/

theorem countHold_safe (h : x.Holds a o s) : x.Holds a o (countHold p q s) := by
  unfold countHold
  split
  · next y rest hx => exact ite_safe (fun _ => bump_safe (modQueue_safe (by rw [hx]; exact .refl _) h)) fun _ => h
  · exact h

theorem countHolds_safe (h : x.Holds a o s) : x.Holds a o (countHolds p s) :=
  ite_safe (fun _ => h) fun _ => ite_safe (fun _ => countHold_safe h) fun _ => countHold_safe (countHold_safe h)

theorem countHold_tx : (countHold p q s).egress[p].tx = s.egress[p].tx := by
  unfold countHold
  split
  · split <;> simp
  · rfl

theorem countHolds_tx : (countHolds p s).egress[p].tx = s.egress[p].tx := by
  unfold countHolds
  dsimp only
  split
  · rfl
  · split
    · exact countHold_tx
    · exact countHold_tx.trans countHold_tx

theorem dropHead_safe {y : QEntry} {rest : List QEntry} (hx : s.egress[p].queues[q] = y :: rest)
    (h : x.Holds a o s) : x.Holds a (y.frame :: o) (dropHead p q s) :=
  modQueue_safe (by rw [hx]; exact List.perm_middle) h

/-- A piece goes on the wire of a port that has none there. -/
theorem startPiece_safe {t : Tx} (hn : s.egress[p].tx = none)
    (hc : t.cuttable = true → s.egress[p].remainder = none) (ht : t.cutAt = none)
    (h : x.Holds a (t.frame :: o) s) : x.Holds a o (s.modEgress p fun e => { e with tx := some t }) := by
  refine modEgress_safe ?_ (fun _ u hu hcut => ?_) h
  · rw [List.perm_iff_count]
    intro c
    simp only [List.count_append, Egress.count_holders, hn, List.count_cons, Option.map_some,
      Option.map_none, Option.toList_some, Option.toList_none, List.count_nil]
    omega
  · cases hu
    rw [ht] at hcut
    exact hc (by simpa using hcut)

theorem startHead_safe {y : QEntry} (hn : s.egress[p].tx = none) (hf : (Pick.head q y).fits s p)
    (h : x.Holds a o s) : x.Holds a o (startHead p q y s) := by
  obtain ⟨⟨rest, hx⟩, hr⟩ := hf
  refine noteCut_safe (startPiece_safe ?_ (fun hc => ?_) rfl (dropHead_safe hx h))
  · simpa [dropHead] using hn
  · have hq : q.val < 2 := by
      by_contra hq
      simp [startMarker, hq] at hc
    simpa [dropHead] using hr hq

theorem startRemainder_safe {r : Remainder} (hn : s.egress[p].tx = none)
    (hr : s.egress[p].remainder = some r) (h : x.Holds a o s) : x.Holds a o (startRemainder p r s) := by
  refine noteCut_safe (modEgress_safe ?_ (fun _ u hu hcut => rfl) h)
  rw [List.perm_iff_count]
  intro c
  simp only [List.count_append, Egress.count_holders, hn, hr, Option.map_some, Option.map_none,
    Option.toList_some, Option.toList_none, List.count_nil]
  omega

theorem chooseLoop_safe {n : Nat} (hn : s.egress[p].tx = none) (h : x.Holds a o s) :
    x.Holds a o (chooseLoop p n s) := by
  induction n generalizing s with
  | zero => exact h
  | succ n ih =>
    have hc := countHolds_safe (p := p) h
    have ht := countHolds_tx.trans hn
    unfold chooseLoop
    dsimp only
    generalize countHolds p s = t at hc ht ⊢
    split
    · exact hc
    · next r hp => exact startRemainder_safe ht (pick_fits hp) hc
    · next q y hp =>
      split
      · next c _ =>
        obtain ⟨⟨rest, hx⟩, -⟩ := pick_fits hp
        refine ih ?_ (bump_safe (release_safe (dropHead_safe hx hc)))
        simpa [dropHead, State.release, State.modMem] using ht
      · exact startHead_safe ht (pick_fits hp) hc

theorem chooseNext_safe (hn : s.egress[p].tx = none) (h : x.Holds a o s) : x.Holds a o (chooseNext p s) :=
  chooseLoop_safe hn h

/-! ## Its octets and its end (R8, R38, R80) -/

theorem stampSent_safe (h : x.Holds a o s) : x.Holds a o (stampSent p s) := by
  unfold stampSent
  split
  · next t ht =>
    refine ite_safe (fun _ => ?_) fun _ => h
    unfold stampFrame
    split
    · exact modClock_safe rfl id h
    · refine modEgress_safe ?_ (fun hc u hu hcut => ?_) h
      · simp only [Egress.holders, ht, Option.map_some]
        exact .refl _
      · cases hu
        exact hc t ht hcut
    all_goals exact h
  · exact h

/-- A piece that is to be cut finds no remainder held. -/
theorem cutPiece_safe {t : Tx} {c : Nat} (ht : s.egress[p].tx = some t) (hcut : t.cutAt = some c)
    (h : x.Holds a o s) : x.Holds a o (cutPiece p t c s) := by
  refine bump_safe (bump_safe (cells_safe (m := s.mem) (r := s.rx) (fun h => ?_) h))
  have hnone := h.2 p t ht (.inr (by rw [hcut]; rfl))
  refine ⟨h.1.modEgress ?_, h.2.modEgress fun _ u hu => nomatch hu⟩
  rw [List.perm_iff_count]
  intro d
  simp only [List.count_append, Egress.count_holders, ht, hnone, Option.map_some, Option.map_none,
    Option.toList_some, Option.toList_none, List.count_nil]
  omega

theorem answerGone_safe {c : CellId} (h : x.Holds a o s) : x.Holds a o (answerGone c s) := by
  refine modMgmt_safe (fun hq => ?_) (fun hn => by rw [hn]; exact hn) h
  unfold RequestInv State.modMgmt
  dsimp only
  split
  · next w e => split <;> exact ⟨hq.1, fun _ => hq.2 (by rw [e]; rfl)⟩
  · exact hq

theorem completePiece_safe {t : Tx} (ht : s.egress[p].tx = some t) (h : x.Holds a o s) :
    x.Holds a o (completePiece p t s) := by
  have h1 : x.Holds a (t.frame :: o) (s.modEgress p fun e =>
      { e with
        tx := none
        idleUntil := gapEnd p (t.lastEnd p)
        lastSent := some { marker := t.marker, octets := t.octets.drop t.offset, ending := .complete } }) := by
    refine modEgress_safe ?_ (fun _ u hu => nomatch hu) h
    rw [List.perm_iff_count]
    intro c
    simp only [List.count_append, Egress.count_holders, ht, List.count_cons, Option.map_some,
      Option.map_none, Option.toList_some, Option.toList_none, List.count_nil]
    omega
  have h2 := ite_safe (p := t.marker = .whole) (fun _ => h1) fun _ => bump_safe (c := .port p .piecesSent) h1
  have h3 := bumpBy_safe (c := .port p .octetsTransmitted) (n := t.octets.length)
    (bump_safe (c := .port p .framesTransmitted) h2)
  unfold completePiece
  refine answerGone_safe (release_safe ?_)
  split
  · exact bump_safe h3
  · exact h3

/-! ## A port whose link is lost (R6, R39) -/

theorem flushFrame_safe {c : CellId} (h : x.Holds a (c :: o) s) : x.Holds a o (flushFrame c s) :=
  answerGone_safe (release_safe h)

theorem flushFrames_safe {l : List QEntry} (h : x.Holds a (l.map QEntry.frame ++ o) s) :
    x.Holds a o (forEach l (fun y => flushFrame y.frame) s) := by
  induction l generalizing s with
  | nil => exact h
  | cons y l ih => exact ih (flushFrame_safe h)

theorem queues_toList (v : Vector (List QEntry) 4) :
    v.toList = [v[(0 : QueueId)], v[(1 : QueueId)], v[(2 : QueueId)], v[(3 : QueueId)]] :=
  List.ext_getElem (by simp) fun i h _ => by
    have hi : i < 4 := by simpa using h
    match i, hi with
    | 0, _ | 1, _ | 2, _ | 3, _ => simp

theorem flushPort_safe (h : x.Holds a o s) : x.Holds a o (flushPort p s) := by
  have h1 : x.Holds a ((s.egress[p].queues[(3 : QueueId)] ++ s.egress[p].queues[(2 : QueueId)] ++
      s.egress[p].queues[(1 : QueueId)] ++ s.egress[p].queues[(0 : QueueId)]).map QEntry.frame ++
      ((s.egress[p].tx.map Tx.frame).toList ++ ((s.egress[p].remainder.map Remainder.frame).toList ++ o)))
      (s.modEgress p (Egress.flushed p s.clock.ticks)) := by
    refine modEgress_safe ?_ (fun _ u hu => nomatch hu) h
    rw [List.perm_iff_count]
    intro c
    simp only [List.count_append, Egress.count_holders, queues_toList, List.flatMap_cons, List.flatMap_nil,
      List.map_append, Egress.flushed]
    simp
    omega
  have h2 := flushFrames_safe h1
  unfold flushPort
  dsimp only
  cases htx : s.egress[p].tx <;> cases hr : s.egress[p].remainder <;> rw [htx, hr] at h2
  · exact h2
  · exact release_safe h2
  · exact flushFrame_safe h2
  · exact release_safe (flushFrame_safe h2)

theorem endReception_safe (h : x.Holds a o s) :
    x.Holds ((s.rx[p].cur.map Reception.cells).getD [] ++ a) o (endReception p s) := by
  refine modRx_safe ?_ h
  simp only [Rx.cells, Option.map_none, Option.getD_none, List.nil_append, List.append_assoc]
  exact List.perm_append_comm_assoc ..

theorem abortReception_safe (h : x.Holds a o s) : x.Holds a o (abortReception p s) := by
  unfold abortReception
  split
  · exact h
  · next r hr =>
    have := endReception_safe (p := p) h
    rw [hr] at this
    exact bump_safe (give_safe this)

theorem openTaken_safe (h : x.Holds a o s) :
    x.Holds ((s.rx[p].asm.map Assembly.cells).getD [] ++ a) o (s.modRx p fun y => { y with asm := none }) := by
  refine modRx_safe ?_ h
  simp only [Rx.cells, Option.map_none, Option.getD_none, List.append_nil, List.append_assoc]
  exact .refl _

theorem discardOpen_safe (h : x.Holds a o s) : x.Holds a o (discardOpen p s) := by
  unfold discardOpen
  split
  · exact h
  · next y hy =>
    have := openTaken_safe (p := p) h
    rw [hy] at this
    exact give_safe this

theorem failOpen_safe (h : x.Holds a o s) : x.Holds a o (failOpen p s) := by
  unfold failOpen
  split
  · exact h
  · exact bump_safe (discardOpen_safe h)

/-! ## The frame path freed (R40, R193) -/

theorem PathFree.holders (h : s.PathFree) (p : PortId) : s.egress[p].holders = [] := by
  rw [Egress.holders, queues_toList, h.tx, h.remainder]
  simp only [h.queues]
  rfl

theorem freeFramePath_safe (h : x.Holds [] [] s) : x.Holds [] [] (freeFramePath s) := by
  have hf := freeFramePath_pathFree s
  have ha : x.Holds [] [] (forEach (List.finRange 12) abortReception s) :=
    forEach_safe (fun _ _ h => abortReception_safe h) h
  by_cases hx : x = .cells
  · subst hx
    refine ⟨CellsIn.cleared hf.mem rfl (fun p => PathFree.holders hf p) fun r => ?_, fun p t ht => ?_⟩
    · rw [Robot.holds, hf.slot, hf.store]; rfl
    · rw [hf.tx] at ht; cases ht
  · unfold freeFramePath
    dsimp only
    generalize forEach (List.finRange 12) abortReception s = u at ha ⊢
    cases x
    case cells => exact absurd rfl hx
    case robots =>
      refine (RobotsInv.robots (v := u.robots.map fun r => { r with slot := none, store := none })
        (fun r => ?_) ha).congr
        rfl rfl rfl rfl
      simp only [Fin.getElem_fin, Vector.getElem_map]
      exact ⟨rfl, .rfl, id, rfl, rfl, id, .inr (.inr ⟨rfl, rfl⟩)⟩
    all_goals exact ha

/-! ## The notice queue sent and emptied (R179, R180) -/

theorem NoticeInv.sent {n k : Nat} (h : NoticeInv s) : NoticeInv { s with notices := s.notices.sent n k } := by
  obtain ⟨hl, hp, hr, ho⟩ := h
  refine ⟨?_, hp.sublist (List.drop_sublist ..), fun r hm => hr r (List.mem_of_mem_drop hm), ?_⟩
  · exact (List.drop_sublist ..).length_le.trans hl
  · exact (Nat.sub_le ..).trans ho

theorem sendNotices_safe {d : Dest} (h : x.Holds a o s) : x.Holds a o (sendNotices d s) := by
  have hb := buildFrame_safe (k := .notice) (kind := .notice) (ports := [d.port])
    (octets := formFrame d.mac s.station d.vlan etherNotice
      (noticePayload s.notices (s.notices.records.take Config.noticesPerFrame)))
    (notices_safe (b := { s.notices with lastAttempt := some s.clock.run }) id h)
  unfold sendNotices
  dsimp only
  split
  · next e => rw [e] at hb; exact hb
  · next e =>
    rw [e] at hb
    exact bump_safe (notices_safe NoticeInv.sent hb)

theorem attemptIfDue_safe (h : x.Holds a o s) : x.Holds a o (attemptIfDue s) := by
  unfold attemptIfDue
  split
  · exact sendNotices_safe h
  · exact h

theorem emptied_safe (h : x.Holds a o s) : x.Holds a o { s with notices := s.notices.emptied } :=
  notices_safe (fun _ => ⟨Nat.zero_le _, .nil, nofun, Nat.min_le_right ..⟩) h

theorem disturbCycles_safe (h : x.Holds a o s) : x.Holds a o (disturbCycles s) := by
  refine mapRobots_safe (s := { s with gates := s.gates.map fun g => { g with disturbed := true } })
    (fun b => ?_) (fun b => ?_) (beside_safe h)
  · split <;> exact .beside rfl rfl rfl id ⟨rfl, rfl⟩
  · split <;> rfl

/-- The parts of a RESTART (R193). -/
theorem carryOutRestart_safe (h : x.Holds [] [] s) : x.Holds [] [] (carryOutRestart s) :=
  restartEjector_safe (disturbCycles_safe (forEach_safe (fun _ _ h => closeWindow_safe h)
    (emptied_safe (freeFramePath_safe (bump_safe h)))))

end

end Sys2Proof.Machine
end


section
/-! SUPPORT. The invariants of a safe run, continued: what becomes of an arriving frame (R7 to R17, R24,
R25, R82, R158 to R168). -/

namespace Sys2Proof.Machine

section
variable {x : Part} {a o a' o' : List CellId} {s : State} {p : PortId} {q : QueueId} {r : RobotId}
  {w : WindowId} {i : StreamId} {f : Arrival}

/-! ## Forwarding (R16, R17, R30, R35, R168) -/

/-- A frame is stored under its first cell. -/
def CellMem.has (m : CellMem) (c : CellId) : Prop := ∃ g, m.frames[c] = some g

theorem admitReceived_has {ports : List PortId} {cells : List CellId} {octets : Octets} {owner : CounterRef}
    {c : CellId} {t : State} (e : admitReceived ports q cells octets owner s = (t, some c)) : t.mem.has c := by
  unfold admitReceived at e
  dsimp only at e
  split at e
  · cases e
  · cases e
  · obtain ⟨rfl, hc⟩ := Prod.mk.inj e
    cases hc
    rw [forEach_keeps State.mem _ fun p t => (bump_mem ..).trans (enqueue_mem ..)]
    exact ⟨_, Vector.getElem_set_self ..⟩

theorem mirrorTo_safe {c : CellId} (hs : s.mem.has c) (h : x.Holds a o s) :
    x.Holds a o (mirrorTo w c s) :=
  ite_safe (fun _ => bump_safe (enqueue_safe (addRef_safe (.inl hs) h))) fun _ => bump_safe (bump_safe h)

theorem mirrorTo_has {c : CellId} (hs : s.mem.has c) :
    (mirrorTo w c s).mem.has c := by
  unfold mirrorTo
  dsimp only
  split
  · rw [bump_mem, enqueue_mem]
    obtain ⟨g, hg⟩ := hs
    refine ⟨{ g with refs := g.refs + 1 }, ?_⟩
    simp only [State.addRef, State.modMem]
    rw [CellMem.frames_addRef, if_pos rfl, hg]
    rfl
  · rw [bump_mem, bump_mem]
    exact hs

theorem mirrorFrame_safe {c : CellId} (hs : s.mem.has c) (h : x.Holds a o s) :
    x.Holds a o (mirrorFrame i c s) :=
  (forEach_inv (P := fun t => x.Holds a o t ∧ t.mem.has c) _
    (fun w _ t ht => by
      split
      · exact ⟨mirrorTo_safe ht.2 ht.1, mirrorTo_has ht.2⟩
      · exact ht) _ ⟨h, hs⟩).1

theorem forward_safe {ports : List PortId} (h : x.Holds (f.cells ++ a) o s) : x.Holds a o (forward f i ports q s) := by
  unfold forward
  split
  · exact give_safe (bump_safe h)
  · next p ps =>
    have ha := admitReceived_safe (ports := p :: ps) (q := q) (octets := f.octets)
      (owner := .stream i .cellDrops) h
    split
    · next e => rw [e] at ha; exact mirrorFrame_safe (admitReceived_has e) ha
    · next e => rw [e] at ha; exact ha

theorem classify_safe {octets : Octets} (h : x.Holds a o s) : x.Holds a o (classify p octets s).1 := by
  unfold classify
  split
  · exact h
  · dsimp only
    split <;> exact checkStream_safe h

theorem commandRobot_safe (h : x.Holds a o s) : x.Holds a o (commandRobot i s).1 := by
  unfold commandRobot
  split
  · split
    · exact checkRobot_safe h
    · exact h
  · exact h

theorem commandRobot_armed {t : State} (e : commandRobot i s = (t, some r)) : t.robots[r].state.armed = true := by
  unfold commandRobot at e
  split at e
  · split at e
    · obtain ⟨rfl, hr⟩ := Prod.mk.inj e
      split at hr
      · next h => cases hr; exact h
      · cases hr
    · cases e
  · cases e

theorem acceptedCommand_robots (s : State) : (acceptedCommand s).robots = s.robots := by
  unfold acceptedCommand
  split
  · rfl
  · rfl
  · exact raise_robots ..

theorem takeCommand_safe {ports : List PortId} (ha : s.robots[r].state.armed = true) (hne : f.cells ≠ [])
    (h : x.Holds (f.cells ++ a) o s) : x.Holds a o (takeCommand f i r ports s) := by
  unfold takeCommand
  dsimp only
  split
  · exact give_safe (bump_safe (acceptedCommand_safe h))
  · exact placeCommand_safe (by rw [acceptedCommand_robots]; exact ha) (acceptedCommand_safe h) hne

theorem readByRole_safe (h : x.Holds a o s) : x.Holds a o (readByRole f i s) := by
  unfold readByRole
  split
  · exact ite_safe (fun _ => statusFrame_safe h) fun _ => h
  · exact readVerdicts_safe h
  · exact h

theorem matchedFrame_safe (hne : f.cells ≠ []) (h : x.Holds (f.cells ++ a) o s) :
    x.Holds a o (matchedFrame f i s) := by
  refine ite_safe (fun _ => give_safe (bump_safe h)) fun _ => ?_
  have hc := commandRobot_safe (i := i) (bumpBy_safe (c := .stream i .octets) (n := f.octets.length)
    (bump_safe (c := .stream i .frames) h))
  unfold countStream
  split
  · next e => rw [e] at hc; exact takeCommand_safe (commandRobot_armed e) hne hc
  · next e => rw [e] at hc; exact forward_safe (readByRole_safe hc)

theorem unmatchedFrame_safe (h : x.Holds (f.cells ++ a) o s) : x.Holds a o (unmatchedFrame f s) := by
  unfold unmatchedFrame
  dsimp only
  split
  · exact give_safe (bump_safe h)
  · split
    · exact give_safe (bump_safe h)
    · exact admitReceived_safe h

/-! ## The service ports and management (R10, R11, R158 to R166, R183) -/

theorem offerRequest_safe {y : Request} (h : x.Holds a o s) : x.Holds a o (offerRequest y s) := by
  refine ite_safe (fun _ => bump_safe h) fun _ => ite_safe (fun hl => ?_)
    fun _ => bump_safe (buildFrame_safe h)
  refine bump_safe (modMgmt_safe (fun _ => ?_) id h)
  exact ⟨by simpa using hl, fun _ => List.append_ne_nil_of_right_ne_nil _ (List.cons_ne_nil y [])⟩

theorem injectFrame_safe (h : x.Holds (f.cells ++ a) o s) : x.Holds a o (injectFrame f w i s) :=
  forward_safe (bump_safe (bumpBy_safe (bump_safe h)))

theorem injectionFault_none {octets : Octets} : injectionFault w none octets s ≠ none := nofun

theorem serviceFrame_safe (h : x.Holds (f.cells ++ a) o s) : x.Holds a o (serviceFrame f w s) := by
  have hc := classify_safe (p := f.port) (octets := f.octets) h
  unfold serviceFrame
  dsimp only
  generalize classify f.port f.octets s = y at hc ⊢
  obtain ⟨t, i⟩ := y
  have hj := judgeArrival_safe (w := w) (src := frameSrc f.octets) hc
  dsimp only at hj ⊢
  split
  · exact judgeArrival_safe (give_safe hc)
  · next e =>
    rw [e] at hj
    split
    · exact trap_safe (give_safe hj)
    · exact injectFrame_safe hj
    · next hn => exact absurd hn injectionFault_none

theorem serviceRequest_safe (h : x.Holds (f.cells ++ a) o s) : x.Holds a o (serviceRequest f w s) := by
  have hj := judgeArrival_safe (w := w) (src := frameSrc f.octets) h
  unfold serviceRequest
  dsimp only
  split
  · exact judgeArrival_safe (give_safe h)
  · next e =>
    rw [e] at hj
    exact ite_safe (fun _ => give_safe (offerRequest_safe hj)) fun _ => trap_safe (give_safe hj)

theorem lineRequest_safe (h : x.Holds (f.cells ++ a) o s) : x.Holds a o (lineRequest f s) :=
  ite_safe (fun _ => give_safe (offerRequest_safe h)) fun _ => bump_safe (give_safe h)

theorem markFrame_safe (h : x.Holds (f.cells ++ a) o s) : x.Holds a o (markFrame f s) :=
  ite_safe (fun _ => modClock_safe rfl id (give_safe h)) fun _ => bump_safe (give_safe h)

theorem probeFrame_safe (h : x.Holds (f.cells ++ a) o s) : x.Holds a o (probeFrame f s) :=
  ite_safe (fun _ => answerProbe_safe (give_safe h)) fun _ => bump_safe (give_safe h)

theorem replyFrame_safe (h : x.Holds (f.cells ++ a) o s) : x.Holds a o (replyFrame f s) :=
  ite_safe (fun _ => readReply_safe (give_safe h)) fun _ => bump_safe (give_safe h)

theorem goodFrame_safe (hne : f.cells ≠ []) (h : x.Holds (f.cells ++ a) o s) : x.Holds a o (goodFrame f s) := by
  have hg := bumpBy_safe (c := .port f.port .octetsReceived) (n := f.octets.length)
    (bump_safe (c := .port f.port .framesReceived) h)
  refine ite_safe (fun _ => markFrame_safe hg) fun _ => ite_safe (fun _ => probeFrame_safe hg) fun _ =>
    ite_safe (fun _ => replyFrame_safe hg) fun _ => ?_
  split
  · exact ite_safe (fun _ => serviceRequest_safe hg) fun _ => serviceFrame_safe hg
  · refine ite_safe (fun _ => lineRequest_safe hg) fun _ => ?_
    have hc := classify_safe (p := f.port) (octets := f.octets) hg
    split
    · next e => rw [e] at hc; exact matchedFrame_safe hne hc
    · next e => rw [e] at hc; exact unmatchedFrame_safe hc

/-! ## Cells of a reception (R24, R25) -/

theorem storedCells_pos {n : Nat} (h : Config.minFrame ≤ n) : 0 < storedCells n := by
  have : 64 ≤ n := h
  simp only [storedCells, cellsFor, Config.maxFrame]
  omega

theorem receiveChecks_safe (hl : f.cells.length = storedCells f.octets.length)
    (h : x.Holds (f.cells ++ a) o s) : x.Holds a o (receiveChecks f s) := by
  unfold receiveChecks
  split
  · exact give_safe (bump_safe h)
  · next hf =>
    refine goodFrame_safe (fun e => ?_) h
    have hmin : Config.minFrame ≤ f.octets.length := by
      by_contra hlt
      rw [receiveFault, if_pos (Nat.lt_of_not_le hlt)] at hf
      cases hf
    have := storedCells_pos hmin
    rw [e] at hl
    exact absurd hl (Nat.ne_of_lt this)

/-- What a reception's cells come to: gone, or in hand and as many as its length needs. -/
theorem settleCells_safe {n : Nat} {cells : List CellId} {overrun : Bool} {t : State} {l : Option (List CellId)}
    (e : settleCells n cells overrun s = (t, l)) (h : x.Holds (cells ++ a) o s) :
    t.rx = s.rx ∧ match l with
      | none => x.Holds a o t
      | some l => x.Holds (l ++ a) o t ∧ l.length = n := by
  unfold settleCells at e
  split at e
  · cases e
    exact ⟨rfl, give_safe h⟩
  · split at e
    · next hn =>
      cases e
      refine ⟨rfl, give_safe (hand_perm ?_ h), List.length_take_of_le hn⟩
      rw [← List.append_assoc]
      exact ((List.take_append_drop n cells).symm ▸ List.perm_append_comm).append_right a
    · next hn =>
      split at e
      · next htake =>
        cases e
        refine ⟨rfl, hand_perm ?_ (take_safe htake h), ?_⟩
        · rw [← List.append_assoc]
          exact List.perm_append_comm.append_right a
        · obtain ⟨hle, rfl, -⟩ := (CellMem.take_eq_some ..).mp htake
          rw [List.length_append, List.length_take_of_le hle]
          omega
      · cases e
        exact ⟨rfl, give_safe h⟩

theorem reception_cells (p : PortId) (s : State) :
    (s.reception p).cells = (s.rx[p].cur.map Reception.cells).getD [] := by
  unfold State.reception
  cases s.rx[p].cur <;> rfl

/-- A reception that is over has its cells in hand. -/
theorem ended_safe (h : x.Holds a o s) : x.Holds ((s.reception p).cells ++ a) o (endReception p s) := by
  rw [reception_cells]
  exact endReception_safe h

theorem wholeFrame_safe {octets : Octets} (h : x.Holds a o s) : x.Holds a o (wholeFrame p octets s) := by
  unfold wholeFrame
  dsimp only
  split
  · next e => exact bump_safe (settleCells_safe e (ended_safe h)).2
  · next e =>
    obtain ⟨-, hs, hl⟩ := settleCells_safe e (ended_safe h)
    exact receiveChecks_safe hl hs

/-! ## Pieces (R82) -/

theorem joinPiece_safe {y : Assembly} {rec : Reception} {last : Bool} {l : List CellId}
    (hy : y.cells = (s.rx[p].asm.map Assembly.cells).getD [] ++ l) (h : x.Holds (l ++ a) o s) :
    x.Holds a o (joinPiece p y rec last s) := by
  have ho : x.Holds (y.cells ++ a) o (s.modRx p fun y => { y with asm := none }) := by
    rw [hy, List.append_assoc]
    exact openTaken_safe h
  have hnone : (s.modRx p fun y => { y with asm := none }).rx[p].asm = none := by simp
  unfold joinPiece
  dsimp only
  split
  · next e => exact bump_safe (settleCells_safe e ho).2
  · next t cells e =>
    obtain ⟨hrx, hs, hl⟩ := settleCells_safe e ho
    rw [← hrx] at hnone
    refine ite_safe (fun _ => receiveChecks_safe hl (bump_safe hs)) fun _ => modRx_safe ?_ hs
    simp only [Rx.cells, hnone, Option.map_none, Option.map_some, Option.getD_none, Option.getD_some,
      List.append_nil, List.append_assoc]
    exact .refl _

theorem failOpen_asm (p : PortId) (s : State) : (failOpen p s).rx[p].asm = none := by
  unfold failOpen
  split
  · assumption
  · rw [bump_rx, discardOpen_frame]
    simp

theorem markedPiece_safe {marker : PieceMarker} {octets : Octets} (h : x.Holds a o s) :
    x.Holds a o (markedPiece p marker octets s) := by
  have he := bump_safe (c := .port p .piecesReceived) (ended_safe (p := p) h)
  have hasm : (bump (.port p .piecesReceived) (endReception p s)).rx[p].asm = s.rx[p].asm := by
    rw [bump_rx]; simp [endReception]
  have hd := give_safe he
  unfold markedPiece
  dsimp only
  refine ite_safe (fun _ => ?_) fun _ => ?_
  · split
    · exact failOpen_safe hd
    · exact bump_safe hd
  · split
    · exact joinPiece_safe (by rw [failOpen_asm]; rfl) (failOpen_safe he)
    · exact bump_safe hd
    · next y hy => exact ite_safe (fun _ => joinPiece_safe (by rw [hy]; rfl) he) fun _ => failOpen_safe hd

/-! ## An octet (R24) -/

theorem modRx_cur_safe {r : Reception} {l : List CellId} (hr : r.cells = (s.reception p).cells ++ l)
    (h : x.Holds (l ++ a) o s) : x.Holds a o (s.modRx p fun y => { y with cur := some r }) := by
  refine modRx_safe ?_ h
  simp only [Rx.cells, Option.map_some, Option.getD_some, hr, reception_cells, List.append_assoc]
  refine List.Perm.append_left _ ?_
  exact List.perm_append_comm_assoc ..

theorem execReceptionCellTake_safe {y : ArrivingOctet} (h : x.Holds a o s) :
    ∃ t, execReceptionCellTake y s = .next t ∧ x.Holds a o t := by
  refine ⟨_, rfl, ite_safe (fun _ => ?_) fun _ => h⟩
  dsimp only
  split
  · cases e : s.mem.take 1 with
    | none =>
      simp only [takeCell, e]
      exact modRx_cur_safe (r := { s.reception y.port with overrun := true }) (l := []) (List.append_nil _).symm h
    | some v =>
      obtain ⟨l, m⟩ := v
      simp only [takeCell, e]
      exact modRx_cur_safe (s := { s with mem := m }) rfl (take_safe e h)
  · exact modRx_cur_safe (l := []) (List.append_nil _).symm h

end

end Sys2Proof.Machine
end


section
/-! SUPPORT. The invariants of a safe run, continued: tables, requests and resets (R3, R13, R45, R87, R114,
R144, R184 to R194). -/

namespace Sys2Proof.Machine

/-- A condition of a check chain holds in what follows it. -/
theorem Yields.need {β : Type} {P : β → Prop} {c : Bool} {y : Status} {f : Unit → Except Status β}
    (h : c = true → Yields P (f ())) : Yields P (need c y >>= f) := by
  intro b e
  obtain ⟨u, hu, e⟩ := bind_eq_ok e
  unfold Machine.need at hu
  split at hu
  · next hc => exact h hc b e
  · cases hu

theorem foldl_octets_lt (l : Octets) (v n : Nat) (h : v < 256 ^ n) :
    l.foldl (fun a b => a * 256 + b.toNat) v < 256 ^ (n + l.length) := by
  induction l generalizing v n with
  | nil => exact h
  | cons b l ih =>
    have hb := b.isLt
    have := ih (v * 256 + b.toNat) (n + 1) (by rw [pow_succ]; omega)
    simpa [Nat.add_assoc, Nat.add_comm 1] using this

theorem field_lt (l : Octets) (off n : Nat) : field l off n < 256 ^ n := by
  have h := foldl_octets_lt (slice l off n) 0 0 (by decide)
  rw [Nat.zero_add] at h
  exact h.trans_le (Nat.pow_le_pow_right (by decide) (List.length_take_le ..))

section
variable {x : Part} {a o a' o' : List CellId} {s : State} {p : PortId} {r : RobotId} {w : WindowId} {t : TableId}
  {act : Act} {row : RequestRow}

/-! ## Records stored (R3, R84, R80, R114, R45, R188, R144) -/

theorem disableReceive_safe (h : x.Holds a o s) : x.Holds a o (disableReceive p s) := by
  refine modRx_safe ?_ (failOpen_safe h)
  simp only [Rx.cells, Option.map_map]
  exact .of_eq (by cases (failOpen p s).rx[p].cur <;> rfl)

theorem Egress.cutOk_uncut {e : Egress} {now : Nat} (h : e.cutOk) :
    ({ e with tx := e.tx.map fun t => t.uncut p now } : Egress).cutOk := by
  intro u hu hcut
  obtain ⟨t, ht, rfl⟩ := Option.map_eq_some_iff.mp hu
  refine h t ht (.inr ?_)
  obtain hcut | hcut := hcut
  · cases hcut
  · obtain ⟨c, hc⟩ := Option.isSome_iff_exists.mp hcut
    rw [Tx.uncut, Option.filter_eq_some_iff] at hc
    exact Option.isSome_iff_exists.mpr ⟨c, hc.1⟩

theorem storePort_safe {c : PortCfg} (h : x.Holds a o s) : x.Holds a o (storePort p c s) := by
  have hr := ite_safe (p := c.rxPreempt = true) (fun _ => modPort_safe (p := p) (f := fun y => { y with cfg := c }) h)
    fun _ => disableReceive_safe (p := p) (modPort_safe (p := p) (f := fun y => { y with cfg := c }) h)
  refine ite_safe (fun _ => hr) fun _ => modEgress_safe ?_ Egress.cutOk_uncut hr
  simp only [Egress.holders, Option.map_map]
  exact .refl _

theorem rereadSensor_safe {before : Bool} (h : x.Holds a o s) : x.Holds a o (rereadSensor before s) :=
  ite_safe (fun _ => h) fun _ => ite_safe (fun _ => sensorEnds_safe h) fun _ => leadingEdge_safe h

theorem applyJamPolicy_safe (h : x.Holds a o s) : x.Holds a o (applyJamPolicy s) := by
  unfold applyJamPolicy
  split
  · exact leaveHold_safe h
  · exact ite_safe (fun _ => joinHold_safe trivial h) fun _ => h

theorem storeTracking_safe {c : TrackerCfg} (h : x.Holds a o s) : x.Holds a o (storeTracking c s) :=
  applyJamPolicy_safe (occlusionTests_safe (rereadSensor_safe (modTracker_list_safe id h)))

/-- A new record of the ejector may move what the times of R148 say of an output that is asserted. -/
theorem storeEjector_safe {c : EjectorCfg} (ha : x = .outputA → s.ejectA = false)
    (hb : x = .outputB → s.ejectB = false) (h : x.Holds a o s) : x.Holds a o (storeEjector c s) := by
  refine leaveWaits_safe (recomputeLead_safe ?_)
  cases x
  case outputA => exact fun e => absurd ((ha rfl).symm.trans e) Bool.false_ne_true
  case outputB => exact fun e => absurd ((hb rfl).symm.trans e) Bool.false_ne_true
  case robots => exact RobotsInv.congr h rfl rfl rfl rfl
  all_goals exact h

theorem storeClock_safe {c : ClockCfg} (h : x.Holds a o s) : x.Holds a o (storeClock c s) := by
  have hc : x.Holds a o (s.modClock fun k => { k with cfg := c }) := modClock_safe rfl id h
  have hm := fun (p : Prop) [Decidable p] => ite_safe (p := p) (fun _ => enterHoldover_safe hc) fun _ => hc
  exact ite_safe (fun _ => takeProbeDue_safe (hm _)) fun _ => hm _

theorem storeDevice_safe {c : DeviceCfg} (h : x.Holds a o s) : x.Holds a o (storeDevice c s) := by
  have hd : x.Holds a o { s with device := c } := beside_safe h
  exact attemptIfDue_safe (ite_safe (fun hdue => loseController_safe (by
    simp only [State.controllerDue, Bool.and_eq_true, decide_eq_true_eq] at hdue
    exact hdue.1) hd) fun _ => hd)

/-- A record of any table but the ejector's is stored; that one, when neither output is asserted. -/
theorem writeRecord_safe {i : Nat} {l : Octets} (ha : x = .outputA → t = .ejector → s.ejectA = false)
    (hb : x = .outputB → t = .ejector → s.ejectB = false) (h : x.Holds a o s) :
    Yields (x.Holds a o ·) (writeRecord t i l s) := by
  cases t with
  | port => exact .bind fun _ => .bind fun _ => .bind fun _ => .bind fun _ => .bind fun _ => .pure (storePort_safe h)
  | stream => exact .bind fun _ => .bind fun _ => .bind fun _ => .bind fun _ => .bind fun _ => .pure (modStream_safe h)
  | robot =>
    exact .bind fun _ => .bind fun _ => .bind fun _ => .pure (modRobot_beside_safe rfl rfl rfl nofun ⟨rfl, rfl⟩ h)
  | holdFrame => exact .bind fun _ => .bind fun _ => .pure (beside_safe h)
  | camera => exact .bind fun _ => .bind fun _ => .pure (modCamera_safe h)
  | tracking => exact .bind fun _ => .bind fun _ => .pure (storeTracking_safe h)
  | ejector =>
    exact .bind fun _ => .bind fun _ => .bind fun _ =>
      .pure (storeEjector_safe (fun e => ha e rfl) (fun e => hb e rfl) h)
  | clock => exact .bind fun _ => .bind fun _ => .pure (storeClock_safe h)
  | device => exact .bind fun _ => .bind fun _ => .pure (storeDevice_safe h)

theorem writeRecords_safe {records : List Octets} {i n : Nat}
    (ht : t = .ejector → x ≠ .outputA ∧ x ≠ .outputB) (h : x.Holds a o s) :
    x.Holds a o (writeRecords t records i n s).state := by
  induction records generalizing i n s with
  | nil => exact h
  | cons l ls ih =>
    unfold writeRecords
    split
    · next e =>
      exact ih (writeRecord_safe (fun hx e => absurd hx (ht e).1) (fun hx e => absurd hx (ht e).2) h _ e)
    · exact h

/-- The ejector's table has one record, so one record is stored at most. -/
theorem writeRecords_ejector_safe {records : List Octets} {i n : Nat} (ha : x = .outputA → s.ejectA = false)
    (hb : x = .outputB → s.ejectB = false) (h : x.Holds a o s) :
    x.Holds a o (writeRecords .ejector records i n s).state := by
  cases records with
  | nil => exact h
  | cons l ls =>
    unfold writeRecords
    split
    · next u e =>
      have hu := writeRecord_safe (t := .ejector) (fun hx _ => ha hx) (fun hx _ => hb hx) h _ e
      cases ls with
      | nil => exact hu
      | cons k ks => exact hu
    · exact h

theorem readRecord_safe {i : Nat} (h : x.Holds a o s) : x.Holds a o (readRecord t i s).1 := by
  cases t with
  | stream => exact checkStream_safe h
  | robot => exact checkRobot_safe h
  | _ => exact h

theorem readRecords_safe {n i : Nat} (h : x.Holds a o s) : x.Holds a o (readRecords t n i s).1 := by
  induction n generalizing i s with
  | zero => exact h
  | succ n ih => exact ih (readRecord_safe h)

theorem stateRecord_safe {y : StateSubject} (h : x.Holds a o s) : x.Holds a o (stateRecord y s).1 := by
  cases y with
  | robot r => exact checkRobot_safe h
  | _ => exact h

theorem clearCounters_safe {y : CounterSubject} (h : x.Holds a o s) : x.Holds a o (clearCounters y s) := by
  have hc : x.Holds a o { s with counters := s.counters.clear y } := beside_safe h
  cases y with
  | device =>
    exact cells_safe (e := s.egress) (r := s.rx) (fun h => ⟨⟨h.1.1, h.1.2.1, Nat.le_refl _⟩, h.2⟩) hc
  | _ => exact hc

/-! ## The run of a request (R184, R185) -/

theorem sendAnswer_safe {q : Request} {y : Reply} (h : x.Holds a o s) : x.Holds a o (sendAnswer q y s).1 :=
  buildFrame_safe h

theorem leaveQueue_safe (hn : s.mgmt.restart = none) (h : x.Holds a o s) : x.Holds a o (leaveQueue s) := by
  refine modMgmt_safe (fun hq => ⟨?_, fun e => ?_⟩) id h
  · exact (List.length_tail ▸ Nat.sub_le ..).trans hq.1
  · exact absurd (hn ▸ e : (none : Option RestartWait).isSome = true) nofun

section
variable {P Q : State → Prop} (hPQ : ∀ s, P s → Q s) (hc : ∀ c s, P s → P (bump c s))
  {q : Request} (ha : ∀ s, P s → Q (act q s).1) (h : P s)
include hPQ hc ha h

theorem perform_takes : Q (perform act q s).1 := by
  have hj : ∀ w, P (judgeTechnician w q s).1 := fun w => by
    unfold judgeTechnician
    dsimp only
    repeat' split
    all_goals first | exact h | exact hc _ _ h
  unfold perform
  split
  · exact hPQ _ h
  · split
    · exact hPQ _ h
    · split
      · next w _ =>
        have := hj w
        split
        · next e => rw [e] at this; exact hPQ _ this
        · next e => rw [e] at this; exact ha _ this
      · split
        · exact hPQ _ h
        · split
          · exact hPQ _ h
          · exact ha _ h

/-- A request takes a state of one kind, which counting keeps, to what its act does with one. -/
theorem performFitted_takes : Q (performFitted act q s).1 := by
  have ht : P (countTechnician q s) := by
    unfold countTechnician
    split
    · exact hc _ _ h
    · exact h
  unfold performFitted
  dsimp only
  split
  · exact hPQ _ ht
  · exact perform_takes hPQ hc ha ht

end

/-- A state of the invariant in which no RESTART waits. -/
def Part.Runs (x : Part) (s : State) : Prop := x.Holds [] [] s ∧ Part.unwaiting.Holds [] [] s

/-- An act keeps a part, and no RESTART waiting. -/
def Act.Keeps (x : Part) (row : RequestRow) (act : Act) : Prop :=
  ∀ (y : Part) (q : Request) (s : State), y = x ∨ y = .unwaiting → q.row = row → y.Holds [] [] s →
    y.Holds [] [] (act q s).1

theorem Act.Keeps.runs (ha : act.Keeps x row) {q : Request} (hq : q.row = row) (h : x.Runs s) :
    x.Runs (act q s).1 := ⟨ha x q s (.inl rfl) hq h.1, ha .unwaiting q s (.inr rfl) hq h.2⟩

theorem Part.Runs.bump {c : CounterRef} (h : x.Runs s) : x.Runs (bump c s) := ⟨bump_safe h.1, bump_safe h.2⟩

theorem Part.Runs.answered {q : Request} {y : Reply} (h : x.Runs s) : x.Runs (leaveQueue (sendAnswer q y s).1) :=
  have h1 := sendAnswer_safe (q := q) (y := y) h.1
  have h2 := sendAnswer_safe (q := q) (y := y) h.2
  ⟨leaveQueue_safe h2 h1, leaveQueue_safe h2 h2⟩

theorem headRequest_some {q : Request} (e : s.headRequest row = some q) :
    (∃ l, s.mgmt.queue = q :: l) ∧ s.mgmt.restart = none ∧ q.row = row := by
  unfold State.headRequest at e
  split at e
  · next hq hr =>
    split at e
    · next hrow => cases e; exact ⟨⟨_, hq⟩, hr, hrow⟩
    · cases e
  · cases e

/-- The head request of a row takes a state of one kind to what its act does with one. -/
theorem runHead_takes {P : State → Prop} (hPx : ∀ s, P s → x.Runs s) (hc : ∀ c s, P s → P (bump c s))
    (ha : ∀ q s, q.row = row → P s → x.Runs (act q s).1) (h : s.mgmt.restart = none → P s)
    (hs : x.Holds [] [] s) : x.Holds [] [] (runHead row act s) := by
  unfold runHead
  split
  · next q e =>
    obtain ⟨-, hr, hrow⟩ := headRequest_some e
    exact (performFitted_takes (P := P) (Q := x.Runs) (act := act) hPx hc (fun s => ha q s hrow) (h hr)).answered.1
  · exact hs

theorem runHead_safe (ha : act.Keeps x row) (h : x.Holds [] [] s) : x.Holds [] [] (runHead row act s) :=
  runHead_takes (P := x.Runs) (fun _ => id) (fun _ _ h => h.bump) (fun _ _ hq h => ha.runs hq h)
    (fun hr => ⟨h, hr⟩) h

theorem orRefuse_safe {y : Except Status (State × Reply)} (h : x.Holds a o s)
    (hy : Yields (fun v => x.Holds a o v.1) y) : x.Holds a o (orRefuse s y).1 := by
  unfold orRefuse
  split
  · exact hy _ rfl
  · exact h

/-! ## Each request -/

theorem actReadTable_keeps : actReadTable.Keeps x row := fun _ _ _ _ _ h =>
  orRefuse_safe h (.bind fun _ => .bind fun _ => .bind fun _ => .pure (readRecords_safe h))

theorem row_table {q : Request} {t' : TableId} (hq : q.row = .write t)
    (ht : tableOf (field q.body 0 1) = some t') : t' = t := by
  unfold Request.row at hq
  split at hq
  · cases hq
  · split at hq
    · cases hq
    · cases hq
    · split at hq
      · next e =>
        cases hq
        rw [e] at ht
        exact (Option.some.inj ht).symm
      · next b l e =>
        cases hq
        have hb : field q.body 0 1 = b.toNat := by rw [e]; simp [field, slice, beNat]
        rw [hb] at ht
        rw [ht]
        rfl
    · split at hq <;> cases hq
    · cases hq

/-- What a WRITE TABLE does to a state is what the writing of its records does. -/
theorem actWriteTable_takes {P : State → Prop} {q : Request} (hq : q.row = .write t) (h : P s)
    (hw : ∀ records i, P (writeRecords t records i 0 s).state) : P (actWriteTable q s).1 := by
  unfold actWriteTable
  dsimp only
  split
  · exact h
  · next t' ht =>
    rw [row_table hq ht]
    split
    · exact h
    · split
      · exact h
      · exact hw _ _

theorem actWriteTable_keeps (ht : t = .ejector → x ≠ .outputA ∧ x ≠ .outputB) :
    actWriteTable.Keeps x (.write t) := fun y q s hy hq h =>
  actWriteTable_takes (P := y.Holds [] []) hq h fun _ _ => writeRecords_safe (fun e => by
    obtain rfl | rfl := hy
    · exact ht e
    · exact ⟨nofun, nofun⟩) h

theorem actReadCounters_keeps (clear : Bool) : (actReadCounters clear).Keeps x row := fun _ _ _ _ _ h =>
  orRefuse_safe h (.bind fun y => .bind fun _ => .pure (by cases clear; exacts [h, clearCounters_safe h]))

theorem actReadState_keeps : actReadState.Keeps x row := fun _ _ _ _ _ h =>
  orRefuse_safe h (.bind fun _ => .pure (stateRecord_safe h))

theorem checkRobot_idle {k : ReadKind} (h : s.robots[r].state = .idle) :
    (checkRobot r k s).robots[r].state = .idle := by
  unfold checkRobot
  split
  · simpa only [bump_robots] using h
  · split
    · exact h
    · simpa using h
    · simp only [(damageRobot_robots ..).1, Fin.getElem_fin, upd_same]
      rfl

theorem checkStream_robots {i : StreamId} {k : ReadKind} : (checkStream i k s).robots = s.robots := by
  unfold checkStream
  split
  · simp
  · split <;> simp

theorem armReads_idle (h : s.robots[r].state = .idle) : (armReads r s).robots[r].state = .idle := by
  unfold armReads
  dsimp only
  rw [checkStream_robots, checkStream_robots]
  exact checkRobot_idle h

theorem armReads_safe (h : x.Holds a o s) : x.Holds a o (armReads r s) :=
  checkStream_safe (checkStream_safe (checkRobot_safe h))

theorem joinPending_safe (h : x.Holds a o s) : x.Holds a o (joinPending r s) :=
  forEach_safe (fun w s h => by
    refine modWindow_safe ?_ (fun hm => .inr ?_) h
    · split <;> rfl
    · split
      · exact hm
      · exact hm) h

theorem armable_undamaged (h : s.armable r = some p) : s.robots[r].damaged = false := by
  unfold State.armable at h
  dsimp only at h
  split at h
  · next hc =>
    simp only [Bool.and_eq_true, Bool.not_eq_true'] at hc
    exact hc.1.1.1.1
  · cases h

theorem actArm_keeps : actArm.Keeps x row := fun y q s _ _ h => by
  unfold actArm
  split
  · exact h
  · next r _ =>
    split
    · exact h
    · next hi =>
      dsimp only
      split
      · exact armReads_safe h
      · next p hp =>
        exact joinPending_safe (arm_safe (armReads_idle (not_not.mp hi)) (armable_undamaged hp) (armReads_safe h))

theorem actDisarm_keeps : actDisarm.Keeps x row := fun y q s _ _ h => by
  unfold actDisarm
  split
  · exact h
  · split
    · exact h
    · next hs =>
      split
      · exact h
      · exact toIdle_safe hs h

theorem actLossAction_keeps_part : actLossAction.Keeps x row := fun y q s _ _ h => by
  unfold actLossAction
  split
  · exact h
  · exact ite_safe (fun hw => joinHold_safe hw (modWatch_safe rfl h)) fun _ => modWatch_safe rfl h
  · split <;> exact h

theorem baseTimeOf_sec_lt (l : Octets) : (baseTimeOf l).sec < secWrap := field_lt l 0 6

theorem setClock_wf {l : Octets} {hall : HallTime} (hns : ¬999999999 < (baseTimeOf l).ns) (hw : hall.wf = true) :
    ({ sec := (baseTimeOf l).sec, ns := (baseTimeOf l).ns, frac := hall.frac } : HallTime).wf = true :=
  (HallTime.wf_iff _).mpr
    ⟨baseTimeOf_sec_lt l, Nat.lt_succ_of_le (Nat.le_of_not_lt hns), ((HallTime.wf_iff _).mp hw).2.2⟩

theorem actSetClock_keeps : actSetClock.Keeps x row := fun y q s _ _ h => by
  unfold actSetClock
  dsimp only
  split
  · exact h
  · next hns =>
    have := requestStep_safe (cause := .set) (offset := setOffset s.clock.hall (baseTimeOf q.body))
      (setClock_wf (l := q.body) hns) h
    simpa only [taken] using this

theorem actAdjustClock_keeps : actAdjustClock.Keeps x row := fun y q s _ _ h => by
  unfold actAdjustClock
  dsimp only
  split
  · exact h
  · have := requestStep_safe (cause := .adjust) (offset := -signedOf (slice q.body 0 6))
      (HallTime.stepBy_wf (t := s.clock.hall) (signedOf (slice q.body 0 6))) h
    simpa only [taken] using this

theorem actLoadSchedule_keeps : actLoadSchedule.Keeps x row := fun _ _ _ _ _ h =>
  orRefuse_safe h (.bind fun _ => .bind fun _ => .bind fun _ => .pure (modGate_safe h))

theorem actCommitSchedule_keeps : actCommitSchedule.Keeps x row := fun y q s _ _ h => by
  unfold actCommitSchedule
  dsimp only
  repeat' split
  all_goals first | exact h | exact forEach_safe (fun _ _ h => modGate_safe h) h

theorem actClearTracking_keeps : actClearTracking.Keeps x row := fun y q s _ _ h => by
  unfold actClearTracking
  split
  · exact clearList_safe h
  · exact h

theorem actOpenWindow_keeps : actOpenWindow.Keeps x row := fun _ _ _ _ _ h =>
  orRefuse_safe h (.bind fun _ => .bind fun _ => .need fun hc => .pure (by
    simp only [Bool.and_eq_true, decide_eq_true_eq] at hc
    exact grantWindow_safe hc.1 h))

theorem actExtendWindow_keeps : actExtendWindow.Keeps x row := fun _ _ _ _ _ h =>
  orRefuse_safe h (.bind fun _ => .bind fun _ => .pure (extendWindow_safe h))

theorem actCloseWindow_keeps : actCloseWindow.Keeps x row := fun y q s _ _ h => by
  unfold actCloseWindow
  split
  · exact h
  · exact orRefuse_safe h (.bind fun _ => .bind fun _ => .pure (closeWindow_safe h))

theorem closeAfter_safe {q : Request} {y : Reply} (h : x.Holds a o s) : x.Holds a o (closeAfter q y s) := by
  unfold closeAfter
  split
  · exact ite_safe (fun _ => closeWindow_safe h) fun _ => h
  · exact h

theorem actLowerLevel_keeps : actLowerLevel.Keeps x row := fun y q s _ _ h => by
  unfold actLowerLevel
  split
  · exact lowerWindow_safe h
  · exact h

theorem releaseLatch_safe (hx : x ≠ .latch) (hp : s.hold.present.toList = []) (h : x.Holds a o s) :
    x.Holds a o (releaseLatch s) := by
  refine bump_safe (raise_safe ?_)
  cases x
  case latch => exact absurd rfl hx
  case hold => exact fun hne => absurd hp hne
  case robots =>
    obtain ⟨⟨⟨h1, h2, h3⟩, h4⟩, h5⟩ := h
    exact ⟨⟨⟨h1, h2, h3⟩, h4⟩, h5⟩
  all_goals exact h

theorem actReleaseHold_keeps (hx : x ≠ .latch) : actReleaseHold.Keeps x row := fun y q s hy _ h => by
  have hy' : y ≠ .latch := by
    obtain rfl | rfl := hy
    · exact hx
    · nofun
  unfold actReleaseHold
  split
  · exact bump_safe h
  · next hp => exact ite_safe (fun _ => releaseLatch_safe hy' hp h) fun _ => h

/-! ## RESTART (R192) -/

theorem runRestart_safe {q : Request} (hx : x ≠ .unwaiting) (hq : s.mgmt.queue ≠ []) (h : x.Runs s) :
    x.Holds [] [] (runRestart q s) := by
  have hf : (fun t : State => x.Runs t ∧ t.mgmt.queue ≠ []) (performFitted (fun _ s => taken s []) q s).1 :=
    performFitted_takes (P := fun t => x.Runs t ∧ t.mgmt.queue ≠ []) (fun _ => id)
      (fun c t ht => ⟨ht.1.bump, by rw [bump_mgmt]; exact ht.2⟩) (fun _ => id) ⟨h, hq⟩
  unfold runRestart
  generalize performFitted (fun _ s => taken s []) q s = v at hf ⊢
  obtain ⟨u, y⟩ := v
  have h1 := sendAnswer_safe (q := q) (y := y) hf.1.1
  have h2 := sendAnswer_safe (q := q) (y := y) hf.1.2
  have hm : (sendAnswer q y u).1.mgmt.queue ≠ [] := by
    rw [sendAnswer_mgmt]
    exact hf.2
  refine ite_safe (fun _ => ?_) fun _ => leaveQueue_safe h2 h1
  cases x
  case unwaiting => exact absurd rfl hx
  case request => exact ⟨h1.1, fun _ => hm⟩
  case robots => exact RobotsInv.congr h1 rfl rfl rfl rfl
  all_goals exact h1

/-! ## The resets (R194) -/

theorem afterReset_safe {cause : ResetCause} {action : HoldPolicy} {pins : ResetPins} {l : List Instr} :
    x.Holds [] [] (State.afterReset cause action pins l) := by
  have hheld : ∀ (r : RobotId) (w : WindowId),
      (State.afterReset cause action pins l).heldBy r w = false := fun r w => by
    simp [State.heldBy, State.afterReset, ServiceWindow.reset]
  cases x
  case notice =>
    refine ⟨(by decide : 1 ≤ 64), List.pairwise_singleton .., fun r hr => ?_, (by decide : 0 ≤ 65535)⟩
    rw [List.mem_singleton.mp hr]
    exact ⟨Nat.le_refl 1, by decide⟩
  case clock => exact (by decide : Clock.reset.hall.wf = true ∧ Clock.reset.trim.natAbs ≤ 200000 ∧
    Clock.reset.integral.natAbs ≤ 200000 ∧ Clock.reset.increment = incrementOf Clock.reset.trim)
  case request => exact ⟨Nat.zero_le _, nofun⟩
  case unwaiting => rfl
  case track => exact ⟨Nat.zero_le _, fun i hi => absurd hi (Nat.not_lt_zero i)⟩
  case hold => exact fun _ => rfl
  case latch => rfl
  case outputA => exact nofun
  case outputB => exact nofun
  case robots =>
    refine ⟨⟨⟨fun r => ?_, fun _ => (by simp [State.noneArmed, State.afterReset, Robot.reset, RobotState.armed]), nofun⟩, fun _ => rfl⟩, fun w hw => ?_⟩
    · have hb : (State.afterReset cause action pins l).robots[r] = Robot.reset := by simp [State.afterReset]
      rw [hb]
      refine ⟨fun w => ?_, ⟨nofun, nofun⟩, fun _ => ⟨rfl, rfl⟩, nofun, nofun, fun e => ?_⟩
      · rw [hheld]
        exact ⟨nofun, fun e => nomatch e.1⟩
      · simp [State.sourceOf, State.afterReset, Hold.reset, PresentSet.empty] at e
    · simp [State.afterReset, ServiceWindow.reset] at hw
  case cells =>
    refine ⟨CellsIn.cleared rfl rfl (fun p => ?_) fun r => ?_, fun p t ht => ?_⟩
    · simp [State.afterReset, Egress.reset, Egress.holders]
    · simp [State.afterReset, Robot.reset, Robot.holds]
    · simp [State.afterReset, Egress.reset] at ht

end

end Sys2Proof.Machine
end


section
/-! The invariants of a safe run, kept by every command: notices, the clock, the tracking list, the request
queue, the latch, the robots, the cells and the ejector's outputs. -/

namespace Sys2Proof.Machine

section
variable {x : Part} {a o : List CellId} {s t : State} {c : Instr}

/-! ## Commands of their own -/

theorem takeHit_safe {struck : EccRecord} {error : EccError} (h : x.Holds a o s) :
    x.Holds a o (takeHit struck error s) := by
  cases struck with
  | stream => exact modStream_safe h
  | robot => exact modRobot_beside_safe rfl rfl rfl id ⟨rfl, rfl⟩ h

theorem scrubNext_safe (h : x.Holds a o s) : x.Holds a o (scrubNext s) := by
  have hs : x.Holds a o { s with scrub := s.scrub + 1 } := beside_safe h
  unfold scrubNext
  dsimp only
  split
  · exact checkStream_safe hs
  · exact checkRobot_safe hs

theorem linkLost_safe {p : PortId} (h : x.Holds a o s) :
    x.Holds a o (let s := raise (.linkChange p false) (s.modPort p fun x => { x with link := false })
      let s := discardOpen p (flushPort p (abortReception p s))
      match portWindow p with
      | some w => closeWindow w .link s
      | none => s) := by
  have hd := discardOpen_safe (p := p) (flushPort_safe (p := p) (abortReception_safe (p := p)
    (raise_safe (e := .linkChange p false) (modPort_safe (p := p) (f := fun x => { x with link := false }) h))))
  dsimp only
  split
  · exact closeWindow_safe hd
  · exact hd

theorem runTimeAdvance_safe {n : Nat} (hx : x ≠ .outputA ∧ x ≠ .outputB) (h : x.Holds a o s) :
    x.Holds a o (s.modClock fun c => { c with run := n }) := by
  cases x
  case outputA => exact absurd rfl hx.1
  case outputB => exact absurd rfl hx.2
  case robots => exact RobotsInv.congr h rfl rfl rfl rfl
  all_goals exact h

theorem HallTime.advance_wf (u : HallTime) (n : Nat) : (u.advance n).wf = true := HallTime.ofUnits_wf _

theorem ClockInv.withHall {hall : HallTime} {n : Nat} (hw : hall.wf = true) (h : ClockInv s) :
    ClockInv { s with clock := { s.clock with hall := hall, ticks := n } } := ⟨hw, h.2⟩

theorem hallTimeAdvance_safe (h : x.Holds a o s) :
    x.Holds a o (forEach (List.finRange 12) stampSent (s.modClock fun c =>
      { c with hall := c.hall.advance c.increment, ticks := c.ticks + 1 })) :=
  forEach_safe (fun _ _ h => stampSent_safe h) (modClock_safe rfl (ClockInv.withHall (HallTime.advance_wf ..)) h)

/-- A RESTART that is carried out leaves the queue. -/
theorem restartLeaves_safe (h : x.Holds a o s) :
    x.Holds a o (s.modMgmt fun m => { m with queue := m.queue.tail, restart := none }) :=
  modMgmt_safe (fun hq => ⟨(List.length_tail ▸ Nat.sub_le ..).trans hq.1, nofun⟩) (fun _ => rfl) h

theorem encoderTransition_safe {l m : Bool} (h : x.Holds a o s) :
    ∃ t, exec (.encoderTransition l m) s = .next t ∧ x.Holds a o t := by
  have hp : x.Holds a o (s.modTracker fun t => { t with phaseA := l, phaseB := m }) := modTracker_list_safe id h
  exact ⟨_, rfl, ite_safe (fun _ => h) fun _ => ite_safe (fun _ => raise_safe (bump_safe hp)) fun _ =>
    ite_safe (fun _ => hp) fun _ => applyCount_safe hp⟩

theorem transmitterChoice_safe {p : PortId} (h : x.Holds a o s) :
    x.Holds a o (if s.transmitterIdle p then chooseNext p s else s) :=
  ite_safe (fun hi => chooseNext_safe (by
    simp only [State.transmitterIdle, Bool.and_eq_true, Option.isNone_iff_eq_none] at hi
    exact hi.1.2) h) fun _ => h

theorem pieceCut_safe {p : PortId} (h : x.Holds a o s) : ∃ t, exec (.pieceCut p) s = .next t ∧ x.Holds a o t := by
  refine ⟨_, rfl, ?_⟩
  split
  · next ht =>
    split
    · next hc => exact ite_safe (fun _ => cutPiece_safe ht hc h) fun _ => h
    · exact h
  · exact h

theorem transmissionComplete_safe {p : PortId} (h : x.Holds a o s) :
    ∃ t, exec (.transmissionComplete p) s = .next t ∧ x.Holds a o t := by
  refine ⟨_, rfl, ?_⟩
  split
  · next ht => exact ite_safe (fun _ => completePiece_safe ht h) fun _ => h
  · exact h

theorem timeMark_safe (h : x.Holds a o s) : ∃ t, exec .timeMark s = .next t ∧ x.Holds a o t := by
  refine ⟨_, rfl, ?_⟩
  split
  · exact h
  · exact readMark_safe (modClock_safe rfl id h)

theorem resyncTargetBoundary_safe {p : PortId} (h : x.Holds a o s) :
    ∃ t, exec (.resyncTargetBoundary p) s = .next t ∧ x.Holds a o t := by
  refine ⟨_, rfl, ?_⟩
  split
  · exact ite_safe (fun _ => takeTarget_safe h) fun _ => h
  · exact h

theorem controllerTimeout_safe (h : x.Holds a o s) :
    x.Holds a o (if s.controllerDue then loseController s else s) :=
  ite_safe (fun hdue => loseController_safe (by
    simp only [State.controllerDue, Bool.and_eq_true, decide_eq_true_eq] at hdue
    exact hdue.1) h) fun _ => h

theorem closeServiceWindow_safe (h : x.Holds [] [] s) :
    ∃ t, exec .closeServiceWindow s = .next t ∧ x.Holds [] [] t := by
  refine ⟨_, rfl, ?_⟩
  split
  · next q e =>
    obtain ⟨-, hr, hrow⟩ := headRequest_some e
    exact closeAfter_safe (performFitted_takes (P := x.Runs) (Q := x.Runs) (fun _ => id) (fun _ _ h => h.bump)
      (fun _ h => actCloseWindow_keeps.runs hrow h) ⟨h, hr⟩).answered.1
  · exact h

theorem restart_safe (hx : x ≠ .unwaiting) (h : x.Holds [] [] s) :
    ∃ t, exec .restart s = .next t ∧ x.Holds [] [] t := by
  refine ⟨_, rfl, ?_⟩
  split
  · next q e =>
    obtain ⟨⟨l, hq⟩, hr, -⟩ := headRequest_some e
    exact runRestart_safe hx (by rw [hq]; exact List.cons_ne_nil q l) ⟨h, hr⟩
  · exact h

/-! ## Every command -/

/-- Every command keeps every part, but a RELEASE HOLD the latch, and run time and an ejector record what
they may move under an output that is asserted. -/
theorem exec_safe (hu : x ≠ .unwaiting) (hl : c = .releaseHold → x ≠ .latch)
    (ho : c = .runTimeAdvance ∨ c = .writeEjectorRecord → x ≠ .outputA ∧ x ≠ .outputB) (h : x.Holds [] [] s) :
    ∃ t, exec c s = .next t ∧ x.Holds [] [] t := by
  cases c with
  | powerOnReset pins => exact ⟨_, rfl, afterReset_safe⟩
  | hardReset pins => exact ⟨_, rfl, afterReset_safe⟩
  | linkGained p => exact ⟨_, rfl, ite_safe (fun _ => h) fun _ => raise_safe (modPort_safe h)⟩
  | linkLost p => exact ⟨_, rfl, ite_safe (fun _ => linkLost_safe h) fun _ => h⟩
  | receptionCellTake y => exact execReceptionCellTake_safe h
  | pieceReceived p marker octets =>
    exact ⟨_, rfl, ite_safe (fun _ => ite_safe (fun _ => markedPiece_safe h) fun _ => wholeFrame_safe h)
      fun _ => h⟩
  | frameReceptionEnd p octets => exact ⟨_, rfl, ite_safe (fun _ => wholeFrame_safe h) fun _ => h⟩
  | timeMark => exact timeMark_safe h
  | hallTimeAdvance => exact ⟨_, rfl, hallTimeAdvance_safe h⟩
  | runTimeAdvance => exact ⟨_, rfl, runTimeAdvance_safe (ho (.inl rfl)) h⟩
  | markTimeout => exact ⟨_, rfl, ite_safe (fun _ => enterHoldover_safe h) fun _ => h⟩
  | probeDue => exact ⟨_, rfl, ite_safe (fun _ => takeProbeDue_safe h) fun _ => h⟩
  | transmitterChoice p => exact ⟨_, rfl, transmitterChoice_safe h⟩
  | pieceCut p => exact pieceCut_safe h
  | transmissionComplete p => exact transmissionComplete_safe h
  | openGridBoundary p => exact ⟨_, rfl, ite_safe (fun _ => takeBoundary_safe h) fun _ => h⟩
  | cycleBoundary p => exact ⟨_, rfl, ite_safe (fun _ => takeBoundary_safe h) fun _ => h⟩
  | windowStart p => exact ⟨_, rfl, ite_safe (fun _ => takeWindow_safe h) fun _ => h⟩
  | resyncTargetBoundary p => exact resyncTargetBoundary_safe h
  | controllerTimeout => exact ⟨_, rfl, controllerTimeout_safe h⟩
  | encoderTransition l m => exact encoderTransition_safe h
  | sensorLeadingEdge =>
    exact ⟨_, rfl, ite_safe (fun _ => h) fun _ => leadingEdge_safe (modTracker_list_safe id h)⟩
  | sensorTrailingEdge =>
    exact ⟨_, rfl, ite_safe (fun _ => sensorEnds_safe (modTracker_list_safe id h)) fun _ => h⟩
  | speedWindowEnd => exact ⟨_, rfl, ite_safe (fun _ => endSpeedWindow_safe h) fun _ => h⟩
  | triggerPulseEnd k => exact ⟨_, rfl, ite_safe (fun _ => modCamera_safe h) fun _ => h⟩
  | blastEnd => exact ⟨_, rfl, ite_safe (fun _ => undriven_safe rfl rfl h) fun _ => h⟩
  | extendTimeEnd => exact ⟨_, rfl, ite_safe (fun _ => dwellTest_safe (undriven_safe rfl rfl h)) fun _ => h⟩
  | retractTimeEnd =>
    exact ⟨_, rfl, ite_safe (fun _ => leaveWaits_safe (undriven_safe (by dsimp only; split <;> rfl)
      (by dsimp only; split <;> rfl) h)) fun _ => h⟩
  | nonOverlapEnd => exact ⟨_, rfl, leaveWaits_safe h⟩
  | inhibitEnd =>
    exact ⟨_, rfl, ite_safe (fun hi => ite_safe (fun _ => startBlast_safe hi h) fun _ => leaveWaits_safe h)
      fun _ => h⟩
  | scrubRead struck error => exact ⟨_, rfl, scrubNext_safe (takeHit_safe h)⟩
  | serviceExpiryWarning w => exact ⟨_, rfl, ite_safe (fun _ => warnWindow_safe h) fun _ => h⟩
  | serviceWindowExpiry w => exact ⟨_, rfl, ite_safe (fun _ => closeWindow_safe h) fun _ => h⟩
  | noticeSendAttempt => exact ⟨_, rfl, attemptIfDue_safe h⟩
  | restartCarriedOut => exact ⟨_, rfl, ite_safe (fun _ => restartLeaves_safe (carryOutRestart_safe h)) fun _ => h⟩
  | readTable => exact ⟨_, rfl, runHead_safe actReadTable_keeps h⟩
  | writePortRecord => exact ⟨_, rfl, runHead_safe (actWriteTable_keeps nofun) h⟩
  | writeStreamRecord => exact ⟨_, rfl, runHead_safe (actWriteTable_keeps nofun) h⟩
  | writeRobotRecord => exact ⟨_, rfl, runHead_safe (actWriteTable_keeps nofun) h⟩
  | writeHoldFrame => exact ⟨_, rfl, runHead_safe (actWriteTable_keeps nofun) h⟩
  | writeCameraRecord => exact ⟨_, rfl, runHead_safe (actWriteTable_keeps nofun) h⟩
  | writeTrackingRecord => exact ⟨_, rfl, runHead_safe (actWriteTable_keeps nofun) h⟩
  | writeEjectorRecord => exact ⟨_, rfl, runHead_safe (actWriteTable_keeps fun _ => ho (.inr rfl)) h⟩
  | writeClockRecord => exact ⟨_, rfl, runHead_safe (actWriteTable_keeps nofun) h⟩
  | writeDeviceRecord => exact ⟨_, rfl, runHead_safe (actWriteTable_keeps nofun) h⟩
  | readCounters => exact ⟨_, rfl, runHead_safe (actReadCounters_keeps false) h⟩
  | readAndClearCounters => exact ⟨_, rfl, runHead_safe (actReadCounters_keeps true) h⟩
  | readState => exact ⟨_, rfl, runHead_safe actReadState_keeps h⟩
  | restart => exact restart_safe hu h
  | armRobot => exact ⟨_, rfl, runHead_safe actArm_keeps h⟩
  | disarmRobot => exact ⟨_, rfl, runHead_safe actDisarm_keeps h⟩
  | setLossAction => exact ⟨_, rfl, runHead_safe actLossAction_keeps_part h⟩
  | setClock => exact ⟨_, rfl, runHead_safe actSetClock_keeps h⟩
  | adjustClock => exact ⟨_, rfl, runHead_safe actAdjustClock_keeps h⟩
  | loadSchedule => exact ⟨_, rfl, runHead_safe actLoadSchedule_keeps h⟩
  | commitSchedule => exact ⟨_, rfl, runHead_safe actCommitSchedule_keeps h⟩
  | clearTracking => exact ⟨_, rfl, runHead_safe actClearTracking_keeps h⟩
  | openServiceWindow => exact ⟨_, rfl, runHead_safe actOpenWindow_keeps h⟩
  | extendServiceWindow => exact ⟨_, rfl, runHead_safe actExtendWindow_keeps h⟩
  | closeServiceWindow => exact closeServiceWindow_safe h
  | lowerLevel => exact ⟨_, rfl, runHead_safe actLowerLevel_keeps h⟩
  | releaseHold => exact ⟨_, rfl, runHead_safe (actReleaseHold_keeps (hl rfl)) h⟩
  | unknownRequest => exact ⟨_, rfl, runHead_safe (fun _ _ _ _ _ h => h) h⟩

/-- A step runs the command at the front of the queue, or none. -/
theorem step_cases (e : step s = .next t) :
    (s.pending = [] ∧ t = s) ∨ ∃ c rest, s.pending = c :: rest ∧ exec c { s with pending := rest } = .next t := by
  unfold step at e
  split at e
  · next hp => cases e; exact .inl ⟨hp, rfl⟩
  · next c rest hp => exact .inr ⟨c, rest, hp, e⟩

/-- What every command keeps, a step keeps. -/
theorem step_safe (hu : x ≠ .unwaiting) (hl : x ≠ .latch) (ho : x ≠ .outputA ∧ x ≠ .outputB)
    (e : step s = .next t) (h : x.Holds [] [] s) : x.Holds [] [] t := by
  obtain ⟨-, rfl⟩ | ⟨c, rest, -, e⟩ := step_cases e
  · exact h
  · obtain ⟨u, hu, ht⟩ := exec_safe (c := c) hu (fun _ => hl) (fun _ => ho)
      (beside_safe (pending := rest) h)
    rwa [← Host.Outcome.next.inj (hu.symm.trans e)]

end

/-! ## The obligations -/

/-- Settles O56. -/
theorem stepsKeepNoticeInvariant : Obligations.StepsKeepNoticeInvariant := fun _ _ h e =>
  step_safe (x := .notice) nofun nofun ⟨nofun, nofun⟩ e h

/-- Settles O57. -/
theorem stepsKeepClockListAndHoldInvariants : Obligations.StepsKeepClockListAndHoldInvariants :=
  fun _ _ hc hq ht hh e =>
    ⟨step_safe (x := .clock) nofun nofun ⟨nofun, nofun⟩ e hc,
      step_safe (x := .request) nofun nofun ⟨nofun, nofun⟩ e hq,
      step_safe (x := .track) nofun nofun ⟨nofun, nofun⟩ e ht,
      step_safe (x := .hold) nofun nofun ⟨nofun, nofun⟩ e hh⟩

/-- Settles O58. -/
theorem stepsKeepRobotAndServiceInvariants : Obligations.StepsKeepRobotAndServiceInvariants :=
  fun s t hs hv e => (robotsInv_iff t).mp
    (step_safe (x := .robots) nofun nofun ⟨nofun, nofun⟩ e ((robotsInv_iff s).mpr ⟨hs, hv⟩))

/-- Settles O59: with no cell and no reference in hand between two commands. -/
theorem stepsConserveCells : Obligations.StepsConserveCells := fun s t hc hcut e => by
  have h := step_safe (x := .cells) nofun nofun ⟨nofun, nofun⟩ e ⟨(cellInv_iff s).mp hc, hcut⟩
  exact ⟨(cellInv_iff t).mpr h.1, h.2⟩

/-- Settles O55. -/
theorem invariantsHoldAtReset : Obligations.InvariantsHoldAtReset := by
  have hsafe : ∀ (cause : ResetCause) (action : HoldPolicy) (pins : ResetPins) (l : List Instr),
      Safe (State.afterReset cause action pins l) := fun cause action pins l => by
    have h := fun x : Part => afterReset_safe (x := x) (cause := cause) (action := action) (pins := pins) (l := l)
    obtain ⟨hserv, hsup⟩ := (robotsInv_iff _).mp (h .robots)
    exact ⟨h .notice, h .clock, h .request, h .track, h .hold, hserv, hsup,
      (cellInv_iff _).mpr (h .cells).1, (h .cells).2⟩
  exact ⟨hsafe .powerOn .report pinsLow [], hsafe⟩

/-- With a source present a RELEASE HOLD releases nothing. -/
theorem releaseHold_latch {s : State} (hp : s.hold.present.toList ≠ []) (h : s.hold.latch = true) :
    (runHead (.other .releaseHold) actReleaseHold s).hold.latch = true := by
  refine runHead_takes (x := .latch)
    (P := fun t => Part.latch.Runs t ∧ t.hold.present.toList ≠ []) (fun _ => And.left)
    (fun c t ht => ⟨ht.1.bump, by rw [bump_hold]; exact ht.2⟩) (fun q t _ ht => ?_) (fun hr => ⟨⟨h, hr⟩, hp⟩) h
  unfold actReleaseHold
  split
  · exact ht.1.bump
  · next e => exact absurd e ht.2

/-- Settles O60: every other command keeps the latch SET. -/
theorem onlyReleaseHoldReleasesTheLine : Obligations.OnlyReleaseHoldReleasesTheLine := fun s t e hs ht => by
  obtain ⟨-, rfl⟩ | ⟨c, rest, hp, e⟩ := step_cases e
  · exact absurd (hs.symm.trans ht) nofun
  · have hr : c = .releaseHold := by
      by_contra hc
      obtain ⟨u, hu, hl⟩ := exec_safe (x := .latch) (c := c) (s := { s with pending := rest }) nofun
        (fun e => absurd e hc) (fun _ => ⟨nofun, nofun⟩) hs
      rw [Host.Outcome.next.inj (hu.symm.trans e)] at hl
      exact absurd (hl.symm.trans ht) nofun
    subst hr
    refine ⟨by rw [hp]; rfl, ?_⟩
    by_contra hne
    have hl := releaseHold_latch (s := { s with pending := rest }) hne hs
    rw [← Host.Outcome.next.inj e] at ht
    exact absurd (hl.symm.trans ht) nofun

/-- The state before an ejector record is stored drives an output only as it did. -/
theorem writeEjector_safe {x : Part} {s : State} (ha : x = .outputA → s.ejectA = false) (hb : x = .outputB → s.ejectB = false) (h : x.Holds [] [] s) :
    x.Holds [] [] (runHead (.write .ejector) actWriteTable s) := by
  refine runHead_takes (x := x) (P := fun t => x.Runs t ∧ (x = .outputA → t.ejectA = false) ∧
      (x = .outputB → t.ejectB = false)) (fun _ => And.left) (fun c t ht => ?_) (fun q t hq ht => ?_)
    (fun hr => ⟨⟨h, hr⟩, ha, hb⟩) h
  · refine ⟨ht.1.bump, fun e => ?_, fun e => ?_⟩
    · rw [State.ejectA, bump_reject]; exact ht.2.1 e
    · rw [State.ejectB, bump_reject]; exact ht.2.2 e
  · exact actWriteTable_takes (P := x.Runs) hq ht.1 fun records i =>
      ⟨writeRecords_ejector_safe ht.2.1 ht.2.2 ht.1.1, writeRecords_ejector_safe nofun nofun ht.1.2⟩

/-- An output that a step asserts, it asserts under the times of R148. -/
theorem step_asserts {s t : State} {x : Part} (hx : x = .outputA ∨ x = .outputB)
    (ha : x = .outputA → s.ejectA = false) (hb : x = .outputB → s.ejectB = false) (e : step s = .next t) :
    x.Holds [] [] t := by
  have h : x.Holds [] [] s := by
    obtain rfl | rfl := hx
    · exact fun e => absurd ((ha rfl).symm.trans e) Bool.false_ne_true
    · exact fun e => absurd ((hb rfl).symm.trans e) Bool.false_ne_true
  obtain ⟨-, rfl⟩ | ⟨c, rest, -, e⟩ := step_cases e
  · exact h
  · have hu : x ≠ .unwaiting := by obtain rfl | rfl := hx <;> nofun
    have hl : x ≠ .latch := by obtain rfl | rfl := hx <;> nofun
    have hr : x.Holds [] [] { s with pending := rest } := beside_safe h
    by_cases hrun : c = .runTimeAdvance
    · subst hrun
      rw [← Host.Outcome.next.inj e]
      obtain rfl | rfl := hx
      · exact fun e => absurd ((ha rfl).symm.trans e) Bool.false_ne_true
      · exact fun e => absurd ((hb rfl).symm.trans e) Bool.false_ne_true
    · by_cases hw : c = .writeEjectorRecord
      · subst hw
        rw [← Host.Outcome.next.inj e]
        exact writeEjector_safe ha hb hr
      · obtain ⟨u, e', ht⟩ := exec_safe (c := c) hu (fun _ => hl)
          (fun hc => absurd hc (not_or.mpr ⟨hrun, hw⟩)) hr
        rwa [← Host.Outcome.next.inj (e'.symm.trans e)]

/-- Settles O25. -/
theorem outputsKeepApart : Obligations.OutputsKeepApart := fun _ _ e =>
  ⟨fun ha => step_asserts (x := .outputA) (.inl rfl) (fun _ => ha) nofun e,
    fun hb => step_asserts (x := .outputB) (.inr rfl) nofun (fun _ => hb) e⟩

end Sys2Proof.Machine
end


section
/-! The encoder's fault, an occlusion that qualifies, and the waits of the ejector (R112, R120 to R122, R145,
R146, R148). -/

namespace Sys2Proof.Machine

/-- Settles O18: a transition in which both phases change is no count of the table. -/
theorem illegalTransitionIsFault : Obligations.IllegalTransitionIsFault := by
  intro a b s ha hb
  have hill : illegalTransition s.tracker.phaseA s.tracker.phaseB a b = true := by
    simp [illegalTransition, ha, hb]
  have hexec : exec (.encoderTransition a b) s = .next (raise (.encoderFault s.tracker.position s.tracker.phaseA
      s.tracker.phaseB a b) (bump (.tracker .encoderFaults)
        (s.modTracker fun t => { t with phaseA := a, phaseB := b }))) := by
    show Host.Outcome.next (ite _ _ _) = _
    rw [if_neg fun h => ha h.1, if_pos hill]
  refine ⟨_, hexec, by rw [raise_uncounted, bump_uncounted], ?_⟩
  exact ((Effects.start s (s.modTracker fun t => { t with phaseA := a, phaseB := b }) _ rfl rfl).bump
    (.tracker .encoderFaults)).raise _ (by rw [bump_clock]; rfl)

/-! ## An occlusion qualifies (R120 to R122) -/

section
variable {s : State}

theorem PresentSet.join_trackFull (p : PresentSet) : p.join .trackFull = { p with trackFull := true } := rfl

theorem joinHold_trackFull_present (s : State) :
    (joinHold .trackFull s).hold.present = { s.hold.present with trackFull := true } := by
  obtain ⟨hp, e⟩ | ⟨-, -, e⟩ | ⟨-, -, e⟩ := joinHold_cases .trackFull s
  · have ht : s.hold.present.trackFull = true := hp
    rw [e, ← ht]
  · rw [e]; rfl
  · rw [e, bump_hold, raise_hold]; rfl

theorem newRecord_verdict (c : CameraId) : s.newRecord.verdicts[c] =
    if s.cameras[c].cfg.enabled = true ∧ s.cameras[c].cfg.required = true then .pending else .notRequired := by
  simp [State.newRecord, firstVerdict]

theorem qualify_room_effects (h : s.tracker.records.length < 256) :
    Effects s (qualify s) s.clock.hall.base [.tracker .bottlesTracked] [] := by
  rw [qualify_room h]
  refine Effects.bump (l := []) ?_ (.tracker .bottlesTracked)
  exact Effects.start s _ _ rfl rfl

theorem qualify_full_hold (h : 256 ≤ s.tracker.records.length) :
    (qualify s).hold.present = { s.hold.present with trackFull := true } ∧
      (HoldInv s → (qualify s).hold.latch = true) := by
  obtain ⟨e, he⟩ := qualify_full h
  rw [he]
  refine ⟨?_, fun hi => joinHold_latch _ _ ?_⟩
  · rw [joinHold_trackFull_present, raise_hold, bump_hold]
    rfl
  · unfold HoldInv at hi ⊢
    simp only [raise_hold, bump_hold]
    exact hi

end

/-- Settles O22: with room or without. -/
theorem qualifyAppendsOrGoesUntracked : Obligations.QualifyAppendsOrGoesUntracked := by
  intro s lead hlead
  refine ⟨fun h => ⟨⟨s.newRecord, ?_, rfl, ?_, rfl, fun c => ⟨?_, newRecord_verdict c⟩⟩,
    qualify_room_effects h⟩, fun h => ⟨qualify_full_tracker h, (qualify_full_hold h).1, (qualify_full_hold h).2, ?_⟩⟩
  · rw [qualify_room h, bump_uncounted]
  · rw [State.newRecord, hlead]
    rfl
  · simp [State.newRecord]
  · rw [qualify_counter s rfl, if_neg (Nat.not_lt.mpr h), if_pos rfl]

/-! ## The ejector's waits (R145, R146, R148) -/

section
variable {s : State} {c : Instr}

/-- A wait that a command may end is tested by it. -/
theorem exec_leaveWaits (hc : c = .nonOverlapEnd ∨ c = .inhibitEnd ∧ s.reject.heldFire = false)
    (hi : s.reject.inhibitEnd ≤ s.clock.run) : exec c s = .next (leaveWaits s) := by
  obtain rfl | ⟨rfl, hf⟩ := hc
  · rfl
  · show Host.Outcome.next (ite _ (ite _ _ _) _) = _
    rw [if_pos hi, hf, if_neg Bool.false_ne_true]

theorem leaveWaits_inhibited (hi : s.clock.run < s.reject.inhibitEnd) : leaveWaits s = s := by
  have he : s.mayExtend ≠ true := fun h => Nat.not_lt.mpr ((mayExtend_iff s).mp h).1 hi
  have hr : s.mayRetract ≠ true := fun h => Nat.not_lt.mpr ((mayRetract_iff s).mp h).1 hi
  unfold leaveWaits
  split
  · exact if_neg he
  · exact if_neg hr
  · rfl

/-- A gate that its test leaves as it was stays so, within the inhibit or after it. -/
theorem exec_waits (hc : c = .nonOverlapEnd ∨ c = .inhibitEnd ∧ s.reject.heldFire = false)
    (h : leaveWaits s = s) : exec c s = .next s := by
  by_cases hi : s.reject.inhibitEnd ≤ s.clock.run
  · rw [exec_leaveWaits hc hi, h]
  · obtain rfl | ⟨rfl, -⟩ := hc
    · exact congrArg Host.Outcome.next h
    · exact congrArg Host.Outcome.next (if_neg hi)

theorem extendWait_ends (hc : c = .nonOverlapEnd ∨ c = .inhibitEnd ∧ s.reject.heldFire = false)
    (hx : s.reject.state = .extendWait) (hi : s.reject.inhibitEnd ≤ s.clock.run)
    (hb : ∀ b, s.reject.releaseB = some b → b + s.reject.cfg.nonOverlap ≤ s.clock.run) :
    Completes c s (s.modReject fun x =>
      { x with state := .extending, extendPending := false,
               phaseEnd := s.clock.run + x.cfg.extendTime * 1000 }) [.reject .extendsMade] [] := by
  refine completes_of_counts [.reject .extendsMade] ?_ rfl rfl (by simp [CounterRef.ofNotices])
  rw [exec_leaveWaits hc hi, leaveWaits, hx]
  exact congrArg Host.Outcome.next (if_pos ((mayExtend_iff s).mpr ⟨hi, hb⟩))

theorem retractWait_ends (hc : c = .nonOverlapEnd ∨ c = .inhibitEnd ∧ s.reject.heldFire = false)
    (hx : s.reject.state = .retractWait) (hi : s.reject.inhibitEnd ≤ s.clock.run)
    (ha : ∀ a, s.reject.releaseA = some a → a + s.reject.cfg.nonOverlap ≤ s.clock.run) :
    Completes c s (s.modReject fun x =>
      { x with state := .retracting, phaseEnd := s.clock.run + x.cfg.retractTime * 1000 })
      [.reject .retractsMade] [] := by
  refine completes_of_counts [.reject .retractsMade] ?_ rfl rfl (by simp [CounterRef.ofNotices])
  rw [exec_leaveWaits hc hi, leaveWaits, hx]
  exact congrArg Host.Outcome.next (if_pos ((mayRetract_iff s).mpr ⟨hi, ha⟩))

theorem extendWait_stays (hx : s.reject.state = .extendWait) (h : s.clock.run < s.reject.inhibitEnd ∨
    ∃ b, s.reject.releaseB = some b ∧ s.clock.run < b + s.reject.cfg.nonOverlap) : leaveWaits s = s := by
  unfold leaveWaits
  rw [hx]
  refine if_neg fun hm => ?_
  obtain ⟨hi, hb⟩ := (mayExtend_iff s).mp hm
  obtain h | ⟨b, e, h⟩ := h
  · omega
  · have := hb b e
    omega

theorem retractWait_stays (hx : s.reject.state = .retractWait) (h : s.clock.run < s.reject.inhibitEnd ∨
    ∃ a, s.reject.releaseA = some a ∧ s.clock.run < a + s.reject.cfg.nonOverlap) : leaveWaits s = s := by
  unfold leaveWaits
  rw [hx]
  refine if_neg fun hm => ?_
  obtain ⟨hi, ha⟩ := (mayRetract_iff s).mp hm
  obtain h | ⟨a, e, h⟩ := h
  · omega
  · have := ha a e
    omega

theorem leaveWaits_idle (he : s.reject.state ≠ .extendWait) (hr : s.reject.state ≠ .retractWait) :
    leaveWaits s = s := by
  unfold leaveWaits
  split
  · next e => exact absurd e he
  · next e => exact absurd e hr
  · rfl

end

/-- Settles O24: each wait on both sides of its end, and the fire that is held. -/
theorem ejectorWaitsEnd : Obligations.EjectorWaitsEnd := by
  refine ⟨fun s c hc => ⟨fun hx => ⟨extendWait_ends hc hx, fun h => exec_waits hc (extendWait_stays hx h)⟩,
    fun hx => ⟨retractWait_ends hc hx, fun h => exec_waits hc (retractWait_stays hx h)⟩,
    fun he hr => exec_waits hc (leaveWaits_idle he hr)⟩, fun s hf => ⟨fun hi => ?_, fun hi => ?_⟩⟩
  · refine completes_of_counts [.reject .blasts] ?_ rfl rfl (by simp [CounterRef.ofNotices])
    show Host.Outcome.next (ite _ (ite _ _ _) _) = _
    rw [if_pos hi, if_pos hf]
    rfl
  · exact congrArg Host.Outcome.next (if_neg (Nat.not_le.mpr hi))

end Sys2Proof.Machine
end


section
/-! SUPPORT. What a request's act counts and notices, with its answer's part (R34, R181, R184, R185). -/

namespace Sys2Proof.Machine

section
variable {s u v : State} {q : Request} {r : Reply} {c : Instr} {l : List CounterRef} {es : List NoticeEvent}

/-- An answer that finds room leaves the counters and the notices as they were. -/
theorem sendAnswer_uncounting (h : AnswerRoom s q r) :
    (sendAnswer q r s).1.counters = s.counters ∧ (sendAnswer q r s).1.notices = s.notices := by
  obtain ⟨hl, hf, hn⟩ := h
  obtain ⟨c, t, mem, -, -, hb⟩ := buildFrame_room .answer .answer q.port (answerFrame s.station q r) s
    hl hf hn (cellsFor_answer_pos s.station q r)
  have e : (sendAnswer q r s).1 = enqueue q.port 2 (newEntry c .normal) { s with mem := mem } :=
    congrArg Prod.fst hb
  rw [e, enqueue_frame]
  exact ⟨rfl, rfl⟩

/-- A request whose act has effects, and is answered. -/
theorem RunsCounting.of_effects (he : exec c s = .next (u.afterAnswer q r)) (hu : u.unanswered = v.unanswered)
    (hm : u.mgmt = s.mgmt) (hroom : AnswerRoom s q r → AnswerRoom u q r)
    (h : Effects s u s.clock.hall.base l es) : RunsCounting c s v q r l es := by
  refine ⟨_, he, (afterAnswer_unanswered u q r).trans hu, by rw [afterAnswer_mgmt, hm], fun k h1 h2 hk => ?_,
    fun hr => ⟨afterAnswer_answered u q r (hroom hr), h.congr ?_ ?_⟩⟩
  · exact (sendAnswer_counter q r u k h1 h2 hk).trans (h.counters k hk)
  · exact (sendAnswer_uncounting (hroom hr)).1
  · exact (sendAnswer_uncounting (hroom hr)).2

/-- The head request of a line port is acted on and answered, and leaves the queue. -/
theorem runHead_answered {kind : Nat} {k : RequestKind} {act : Act} (hq : LineRequest s q kind)
    (hk : requestKindOf kind = some k) (hb : fixedOctets k q.body ≤ q.body.length) (ha : act q s = (u, r))
    (hl : r.body.length ≤ 9186) : runHead q.row act s = u.afterAnswer q r := by
  rw [runHead_line hq k hk act hb (by rw [ha]; exact answerFrame_length_le _ _ _ hl), ha]
  rfl

theorem RunsCounting.answered (h : RunsCounting c s u q r l es) : RunsAnswered c s u q r := by
  obtain ⟨t, he, hu, hm, -, ha⟩ := h
  exact ⟨t, he, hu, hm, fun hr => (ha hr).1⟩

/-- The one counter of the effects, where no answer grows it. -/
theorem RunsCounting.counted {k : CounterRef} {t : State} (h : RunsCounting c s u q r [k] es)
    (h1 : k ≠ .port q.port (.refused 2)) (h2 : k ≠ .device (.generationDrops .answer)) (hk : k.ofNotices = false)
    (he : exec c s = .next t) : t.counter k = min (s.counter k + 1) Config.counterMax := by
  obtain ⟨t', he', -, -, hc, -⟩ := h
  rw [Host.Outcome.next.inj (he.symm.trans he'), hc k h1 h2 hk, if_pos List.mem_cons_self, List.count_singleton_self]

end

/-! ## A notice in the queue (R176) -/

/-- A record of the queue carries a notice. -/
def NoticeBlock.carries (b : NoticeBlock) (e : NoticeEvent) : Prop := ∃ r ∈ b.records, r.event = e

section
variable {b : NoticeBlock} {e f : NoticeEvent} {now : BaseTime} {s : State}

theorem NoticeBlock.put_carries (h : b.records.length < Config.noticeCapacity) : (b.put e now).1.carries e := by
  obtain ⟨hany, hput⟩ | ⟨-, -, hput⟩ | ⟨-, hfull, -⟩ := b.put_cases e now
  · obtain ⟨r, hr, hf⟩ := List.any_eq_true.mp hany
    rw [hput]
    exact ⟨r.fold e now, List.mem_map.mpr ⟨r, hr, if_pos hf⟩, rfl⟩
  · rw [hput]
    exact ⟨_, List.mem_append_right _ (List.mem_singleton.mpr rfl), rfl⟩
  · omega

/-- A notice of another kind leaves a carried one. -/
theorem NoticeBlock.put_keeps (hk : e.kind ≠ f.kind) (h : b.carries e) : (b.put f now).1.carries e := by
  obtain ⟨r, hr, he⟩ := h
  obtain ⟨-, hput⟩ | ⟨-, -, hput⟩ | ⟨-, -, hput⟩ := b.put_cases f now <;> rw [hput]
  · refine ⟨r, List.mem_map.mpr ⟨r, hr, if_neg ?_⟩, he⟩
    rw [he, NoticeEvent.folds, Bool.and_eq_true, beq_iff_eq]
    exact fun h => hk h.1
  · exact ⟨r, List.mem_append_left _ hr, he⟩
  · exact ⟨r, hr, he⟩

theorem bumpWith_carries {g : NoticeEvent → State → State} {c : CounterRef} {n : Nat}
    (hg : ∀ k v s, s.notices.carries e → (g (.counterHalf k v) s).notices.carries e ∧
      (g (.counterFull k v) s).notices.carries e)
    (h : s.notices.carries e) : (bumpWith g c n s).notices.carries e := by
  have h' : ({ s with counters := s.counters.put (min (s.counter c + n) Config.counterMax) c } :
    State).notices.carries e := h
  unfold bumpWith
  dsimp only
  split <;> split
  · exact (hg _ _ _ (hg _ _ _ h').1).2
  · exact (hg _ _ _ h').2
  · exact (hg _ _ _ h').1
  · exact h'

theorem raiseDepth_carries (n : Nat) (h1 : e.kind ≠ 26) (h2 : e.kind ≠ 27)
    (h : (s.notices.put f s.clock.hall.base).1.carries e) : (raiseDepth n f s).notices.carries e := by
  induction n generalizing f s with
  | zero => exact h
  | succ n ih =>
    have hg : ∀ k v (s : State), s.notices.carries e → (raiseDepth n (.counterHalf k v) s).notices.carries e ∧
        (raiseDepth n (.counterFull k v) s).notices.carries e := fun k v s hs =>
      ⟨ih (NoticeBlock.put_keeps h1 hs), ih (NoticeBlock.put_keeps h2 hs)⟩
    unfold raiseDepth
    dsimp only
    split
    · exact bumpWith_carries hg h
    · exact bumpWith_carries hg (bumpWith_carries hg h)
    · exact bumpWith_carries hg (bumpWith_carries hg h)

theorem raise_carries (h1 : e.kind ≠ 26) (h2 : e.kind ≠ 27)
    (h : s.notices.records.length < Config.noticeCapacity) : (raise e s).notices.carries e :=
  raiseDepth_carries 7 h1 h2 (NoticeBlock.put_carries h)

theorem raise_keeps_carried (h1 : e.kind ≠ 26) (h2 : e.kind ≠ 27) (hk : e.kind ≠ f.kind)
    (h : s.notices.carries e) : (raise f s).notices.carries e :=
  raiseDepth_carries 7 h1 h2 (NoticeBlock.put_keeps hk h)

theorem bump_carries {c : CounterRef} (h1 : e.kind ≠ 26) (h2 : e.kind ≠ 27) (h : s.notices.carries e) :
    (bump c s).notices.carries e :=
  bumpWith_carries (fun _ _ _ h => ⟨raise_keeps_carried h1 h2 h1 h, raise_keeps_carried h1 h2 h2 h⟩) h

theorem sendAnswer_carries {q : Request} {r : Reply} (h1 : e.kind ≠ 26) (h2 : e.kind ≠ 27)
    (h : s.notices.carries e) : (sendAnswer q r s).1.notices.carries e := by
  have hbump : ∀ (c : CounterRef) (t : State), t.notices.carries e → (bump c t).notices.carries e :=
    fun _ _ => bump_carries h1 h2
  unfold sendAnswer buildFrame
  dsimp only
  split
  · exact hbump _ _ h
  · have hno : ∀ l : List PortId, (forEach l (fun p s =>
        bump (.device (.generationDrops .answer)) (bump (.port p (.refused 2)) s)) s).notices.carries e := fun l =>
      forEach_inv (P := fun t => t.notices.carries e) l (fun p _ t ht => hbump _ _ (hbump _ _ ht)) s h
    split
    · exact hno _
    · split
      · exact hbump _ _ (hno _)
      · split
        · exact hno _
        · refine forEach_inv (P := fun t => t.notices.carries e) _ (fun p _ t ht => ?_) _ (hno _)
          rwa [enqueue_frame]

end

end Sys2Proof.Machine
end

section
/-! CLEAR TRACKING, RELEASE HOLD, RESTART and the requests of no known kind (R116, R126, R136, R173, R185,
R192). -/

namespace Sys2Proof.Machine

section
variable {s : State} {q : Request}

/-! ## CLEAR TRACKING (R126) -/

theorem exec_clearTracking {u : State} {r : Reply} (hq : LineRequest s q 13) (ha : actClearTracking q s = (u, r))
    (hl : r.body.length ≤ 9186) : exec .clearTracking s = .next (u.afterAnswer q r) := by
  rw [← runHead_answered hq rfl (Nat.zero_le _) ha hl, hq.row_other rfl nofun nofun nofun]
  rfl

theorem atRest_iff (s : State) :
    s.atRest = true ↔ s.tracker.still = true ∧ s.tracker.position = s.tracker.windowPosition := by
  rw [State.atRest, Bool.and_eq_true, beq_iff_eq]

theorem clearTracking_atRest (hq : LineRequest s q 13) (h : s.atRest = true) : RunsCounting .clearTracking s
    { s with
      tracker := { s.tracker with records := [], highWater := s.tracker.position, excursion := false }
      cameras := s.cameras.map fun c => { c with pointer := s.tracker.nextSeq }
      hold := { s.hold with present := { s.hold.present with trackFull := false } } } q
    { status := .ok, body := beBytes 2 s.tracker.records.length } [.tracker .clears] [] := by
  refine RunsCounting.of_effects (u := clearList s) (exec_clearTracking hq (if_pos h) ?_) ?_ ?_ ?_ ?_
  · show (beBytes 2 _).length ≤ 9186
    rw [beBytes_length]
    decide
  · exact unanswered_of_uncounted (bump_uncounted ..)
  · exact bump_mgmt ..
  · intro ⟨h1, h2, h3⟩
    unfold clearList
    exact (answerRoom_of_uncounted (bump_uncounted ..)).mpr ⟨h1, h2, h3⟩
  · refine Effects.bump (l := []) ?_ (.tracker .clears)
    exact Effects.start s _ _ rfl rfl

/-- Settles O49: at rest and away from it. -/
theorem clearTrackingEmptiesAtRest : Obligations.ClearTrackingEmptiesAtRest := by
  refine fun s q hq => ⟨fun h1 h2 => clearTracking_atRest hq ((atRest_iff s).mpr ⟨h1, h2⟩), fun h => ?_⟩
  have hn : s.atRest ≠ true := fun e => by
    obtain ⟨h1, h2⟩ := (atRest_iff s).mp e
    obtain h | h := h
    · rw [h1] at h; cases h
    · exact h h2
  exact .of_answer (exec_clearTracking hq (if_neg hn) (Nat.zero_le _))

/-! ## RELEASE HOLD (R173) -/

theorem exec_releaseHold {u : State} {r : Reply} (hq : LineRequest s q 18) (ha : actReleaseHold q s = (u, r))
    (hl : r.body.length ≤ 9186) : exec .releaseHold s = .next (u.afterAnswer q r) := by
  rw [← runHead_answered hq rfl (Nat.zero_le _) ha hl, hq.row_other rfl nofun nofun nofun]
  rfl

theorem actReleaseHold_free (h : s.hold.present.toList = []) :
    actReleaseHold q s = (if s.hold.latch then releaseLatch s else s, .bare .ok) := by
  simp only [actReleaseHold, h]
  rfl

theorem actReleaseHold_held (h : s.hold.present.toList ≠ []) : actReleaseHold q s =
    (bump (.device .releaseRefusals) s, { status := .wrongState, body := presentBytes s.hold.present }) := by
  unfold actReleaseHold
  cases e : s.hold.present.toList with
  | nil => exact absurd e h
  | cons x l => rfl

theorem PresentSet.length_toList_le (p : PresentSet) : p.toList.length ≤ 27 := by
  have h : (members p.robots).length ≤ 24 :=
    (List.length_filter_le ..).trans (List.length_finRange ..).le
  simp only [PresentSet.toList, List.length_append, List.length_map]
  split <;> split <;> split <;> simp <;> omega

theorem presentBytes_length_le (p : PresentSet) : (presentBytes p).length ≤ 9186 := by
  have h := p.length_toList_le
  simp only [presentBytes, List.length_append, beBytes_length, List.length_flatMap, List.map_const', List.sum_replicate]
  simp
  omega

/-- The latch as a release leaves it, with its notice and its count to come. -/
def State.unlatched (s : State) : State :=
  { s with hold := { s.hold with latch := false, releaseTime := some s.clock.run } }

theorem releaseLatch_eq (s : State) :
    releaseLatch s = bump (.device .releases) (raise (.holdReleased (heldMs s)) s.unlatched) := rfl

theorem releaseHold_released (hq : LineRequest s q 18) (hp : s.hold.present.toList = []) (hl : s.hold.latch = true) :
    exec .releaseHold s = .next ((releaseLatch s).afterAnswer q (.bare .ok)) :=
  exec_releaseHold hq (by rw [actReleaseHold_free hp, if_pos hl]) (Nat.zero_le _)

theorem releaseHold_counts (hq : LineRequest s q 18) (hp : s.hold.present.toList = []) (hl : s.hold.latch = true) :
    RunsCounting .releaseHold s s.unlatched q { status := .ok, body := [] } [.device .releases]
      [.holdReleased (heldMs s)] := by
  have hu : (releaseLatch s).uncounted = s.unlatched.uncounted := by
    rw [releaseLatch_eq, bump_uncounted, raise_uncounted]
  refine RunsCounting.of_effects (releaseHold_released hq hp hl) (unanswered_of_uncounted hu)
    (mgmt_of_uncounted hu :) (fun h => (answerRoom_of_uncounted hu).mpr h) ?_
  have h0 := Effects.start s s.unlatched s.clock.hall.base rfl rfl
  exact (h0.raise (.holdReleased (heldMs s)) rfl).bump (.device .releases)

theorem heldMs_eq {t0 : Nat} (h : s.hold.setTime = some t0) :
    heldMs s = min ((s.clock.run - t0) / 1000) 4294967295 := by
  rw [heldMs, h]
  rfl

end

/-- Settles O53: the latch SET, RELEASED, and held by a source. -/
theorem releaseHoldJudgesPresentSet : Obligations.ReleaseHoldJudgesPresentSet := by
  refine fun s q hq => ⟨fun t0 hp hl ht => ?_, fun hp hl => ?_, fun hp => ?_⟩
  · have hc := releaseHold_counts hq hp hl
    refine ⟨hc.answered, _, releaseHold_released hq hp hl, ?_,
      hc.counted nofun nofun rfl (releaseHold_released hq hp hl), fun hn => ?_⟩
    · rw [State.lineHold, hold_of_unanswered (afterAnswer_unanswered ..), releaseLatch_eq, bump_hold, raise_hold]
      rfl
    · rw [← heldMs_eq ht]
      exact sendAnswer_carries nofun nofun (bump_carries nofun nofun
        (raise_carries nofun nofun (lt_of_le_of_lt hn (by decide))))
  · refine .of_answer (exec_releaseHold hq ?_ (Nat.zero_le _))
    rw [actReleaseHold_free hp, hl, if_neg Bool.false_ne_true]
    rfl
  · have hx := exec_releaseHold hq (actReleaseHold_held hp) (presentBytes_length_le _)
    have hu := bump_uncounted (.device .releaseRefusals) s
    have hc : RunsCounting .releaseHold s s q
        { status := .wrongState, body := presentBytes s.hold.present } [.device .releaseRefusals] [] :=
      .of_effects hx (unanswered_of_uncounted hu) (mgmt_of_uncounted hu)
        (fun h => (answerRoom_of_uncounted hu).mpr h) ((Effects.refl s _).bump (.device .releaseRefusals))
    exact ⟨hc.answered, _, hx, hc.counted nofun nofun rfl hx⟩

/-! ## Unknown requests and RESTART (R185, R192) -/

section
variable {s : State} {q : Request}

theorem headRequest_of_head {row : RequestRow} (hh : s.mgmt.queue.head? = some q) (hi : s.mgmt.restart = none)
    (hr : q.row = row) : s.headRequest row = some q := by
  obtain ⟨l, hl⟩ := List.head?_eq_some_iff.mp hh
  simp only [State.headRequest, hl, hi, if_pos hr]

theorem row_unknown (h : q.version ≠ 1 ∨ q.bodyFits = true ∧ requestKindOf q.kind = none) : q.row = .unknown := by
  unfold Request.row
  split
  · rfl
  · next hv =>
    obtain h | ⟨-, h⟩ := h
    · exact absurd h hv
    · rw [h]

theorem perform_unknown (act : Act) (hp : q.port.val < 10)
    (h : q.version ≠ 1 ∨ q.bodyFits = true ∧ requestKindOf q.kind = none) :
    perform act q s = (s, .bare .unknownRequest) := by
  unfold perform
  split
  · rfl
  · next hv =>
    obtain h | ⟨hf, h⟩ := h
    · exact absurd h hv
    · rw [hf, if_neg (by decide), portWindow_line hp, h]

theorem exec_unknownRequest (hh : s.mgmt.queue.head? = some q) (hi : s.mgmt.restart = none) (hp : q.port.val < 10)
    (h : q.version ≠ 1 ∨ q.bodyFits = true ∧ requestKindOf q.kind = none) :
    exec .unknownRequest s = .next (s.afterAnswer q (.bare .unknownRequest)) := by
  show Host.Outcome.next (runHead .unknown _ s) = _
  unfold runHead
  rw [headRequest_of_head hh hi (row_unknown h)]
  dsimp only
  unfold runRequest performFitted
  rw [countTechnician_line hp]
  dsimp only
  rw [perform_unknown _ hp h, if_neg (Nat.not_lt.mpr (answerFrame_bare_length ..))]
  rfl

/-- A RESTART of a line port waits for its answer. -/
theorem exec_restart (hq : LineRequest s q 5) : exec .restart s =
    .next ((sendAnswer q (.bare .ok) s).1.modMgmt fun m => { m with
      restart := some { answer := (sendAnswer q (.bare .ok) s).2, builtAt := s.clock.run,
                        due := (sendAnswer q (.bare .ok) s).2.isNone } }) := by
  have hrow : q.row = .other .restart := hq.row_other rfl nofun nofun nofun
  have hperf : performFitted (fun _ s => taken s []) q s = (s, .bare .ok) := by
    unfold performFitted
    rw [countTechnician_line hq.line]
    have hp : perform (fun _ s => taken s []) q s = (s, .bare .ok) := by
      simp [perform, hq.version, hq.fits, portWindow_line hq.line, hq.isKind, requestKindOf, fixedOctets, taken,
        Reply.bare]
    dsimp only
    rw [hp, if_neg (Nat.not_lt.mpr (answerFrame_bare_length ..))]
  have hclock : (sendAnswer q (.bare .ok) s).1.clock = s.clock := clock_of_unanswered (sendAnswer_unanswered ..)
  show Host.Outcome.next (match s.headRequest (.other .restart) with
    | some q => runRestart q s
    | none => s) = _
  rw [headRequest_of_head hq.head hq.idle hrow]
  dsimp only
  unfold runRestart
  rw [hperf]
  dsimp only
  rw [if_pos (show (Reply.bare .ok).status = .ok from rfl), hclock]

end

/-- Settles O54: the answer of a RESTART that has room, and one of a port that is DOWN. -/
theorem unknownAndRestartAreAnswered : Obligations.UnknownAndRestartAreAnswered := by
  refine fun s q hh hi hp => ⟨fun h => RunsAnswered.of_act (exec_unknownRequest hh hi hp h) rfl, fun hv hk hf => ?_⟩
  refine ⟨_, exec_restart ⟨hh, hi, hv, hk, hf, hp⟩, ?_, ?_, fun hr => ⟨?_, ?_⟩, fun hd => ?_⟩
  · exact sendAnswer_unanswered ..
  · rw [← sendAnswer_mgmt q (.bare .ok) s]
    rfl
  · exact sendAnswer_answered q _ s hr
  · obtain ⟨hl, hfit, hn⟩ := hr
    obtain ⟨c, t, mem, -, -, hb⟩ := buildFrame_room .answer .answer q.port (answerFrame s.station q (.bare .ok)) s
      hl hfit hn (cellsFor_answer_pos s.station q (.bare .ok))
    have e : (sendAnswer q (.bare .ok) s).2 = some c := congrArg Prod.snd hb
    exact ⟨c, by rw [e]; rfl⟩
  · have e : (sendAnswer q (.bare .ok) s).2 = none := congrArg Prod.snd
      (buildFrame_down .answer .answer q.port (answerFrame s.station q (.bare .ok)) s hd)
    rw [e]
    rfl

end Sys2Proof.Machine
end


section
/-! READ COUNTERS with clear, and the ends of a service window's time (R156, R157, R189). -/

namespace Sys2Proof.Machine

/-! ## READ COUNTERS with clear (R189) -/

/-- A counter after its subject's counters are zeroed. -/
theorem Counters.get_clear (k : Counters) (x : CounterSubject) (c : CounterRef) :
    (k.clear x).get c = if c.belongsTo x then 0 else k.get c := by
  cases c with
  | port p c =>
    cases x with
    | port y => by_cases h : p = y <;> simp [Counters.get, Counters.clear, CounterRef.belongsTo, h, Fin.val_inj, eq_comm (a := y)]
    | _ => rfl
  | stream i c =>
    cases x with
    | stream y => by_cases h : i = y <;> simp [Counters.get, Counters.clear, CounterRef.belongsTo, h, Fin.val_inj, eq_comm (a := y)]
    | _ => rfl
  | robot r c =>
    cases x with
    | robot y => by_cases h : r = y <;> simp [Counters.get, Counters.clear, CounterRef.belongsTo, h, Fin.val_inj, eq_comm (a := y)]
    | _ => rfl
  | controllerLosses => cases x <;> rfl
  | camera m c =>
    cases x with
    | camera y => by_cases h : m = y <;> simp [Counters.get, Counters.clear, CounterRef.belongsTo, h, Fin.val_inj, eq_comm (a := y)]
    | _ => rfl
  | service w c =>
    cases x with
    | service y => by_cases h : w = y <;> simp [Counters.get, Counters.clear, CounterRef.belongsTo, h, Fin.val_inj, eq_comm (a := y)]
    | _ => rfl
  | clock c => cases x <;> simp [Counters.get, Counters.clear, CounterRef.belongsTo]
  | tracker c => cases x <;> simp [Counters.get, Counters.clear, CounterRef.belongsTo]
  | reject c => cases x <;> simp [Counters.get, Counters.clear, CounterRef.belongsTo]
  | device c => cases x <;> simp [Counters.get, Counters.clear, CounterRef.belongsTo]

section
variable {s : State} {q : Request} {x : CounterSubject}

/-- The row of a read with clear is taken where the clear flag is 1. -/
theorem LineRequest.clearFlag (hq : LineRequest s q 3) (hrow : q.row = .readAndClearCounters) :
    field q.body 1 1 = 1 := by
  unfold Request.row at hrow
  rw [if_neg (not_not.mpr hq.version), hq.isKind] at hrow
  change (if q.body[1]? = some 1#8 then RequestRow.readAndClearCounters else .readCounters) = _ at hrow
  split at hrow
  · next h =>
    obtain ⟨hl, hv⟩ := List.getElem?_eq_some_iff.mp h
    have e : slice q.body 1 1 = [1#8] := by
      rw [slice, List.drop_eq_getElem_cons hl, hv]
      rfl
    rw [field, e]
    rfl
  · cases hrow

theorem clearCounters_eq (h : x ≠ .device) :
    clearCounters x s = { s with counters := s.counters.clear x } := by
  cases x with
  | device => exact absurd rfl h
  | _ => rfl

theorem actReadCounters_clear (hx : counterSubject q.body = .ok x) (hf : field q.body 1 1 = 1) (hd : x ≠ .device) :
    actReadCounters true q s =
      ({ s with counters := s.counters.clear x }, .mk .ok (countersBody q.body (s.counters.values x))) := by
  rw [← clearCounters_eq hd]
  unfold actReadCounters
  rw [hx, hf]
  rfl

theorem countersBody_length_le (l : Octets) (k : Counters) (x : CounterSubject) :
    (countersBody l (k.values x)).length ≤ 9186 := by
  have hvalues := length_flatMap_le (l := k.values x) (n := 4) fun v _ => (beBytes_length 4 v).le
  have hcount := k.values_length_le x
  simp only [countersBody, List.length_append, List.length_take, List.length_singleton, slice]
  omega

end

/-- Settles O41: the counters are zeroed as the answer is laid out, and the answer is counted after. -/
theorem readAndClearZeroesSubject : Obligations.ReadAndClearZeroesSubject := by
  intro s q x hq hrow hb hx hd
  have hrun := runHead_answered hq (k := .readCounters) rfl hb (actReadCounters_clear hx (hq.clearFlag hrow) hd)
    (countersBody_length_le ..)
  rw [hrow] at hrun
  refine ⟨_, congrArg Host.Outcome.next hrun, ?_, afterAnswer_mgmt .., fun h => ?_, fun c h1 h2 hc => ?_⟩
  · rw [afterAnswer_unanswered]
    rfl
  · exact afterAnswer_answered _ q _ h
  · exact (sendAnswer_counter q _ _ c h1 h2 hc).trans (s.counters.get_clear x c)

/-! ## The end of a window's time (R156, R157) -/

section
variable {s : State} {w : WindowId}

theorem warningDue_iff (h : s.windows[w].state ≠ .closed) : s.warningDue w = true ↔
    s.windows[w].warned = false ∧ (s.windows[w].endTime - s.clock.run) / 1000 ≤ 60000 := by
  rw [State.warningDue, ServiceWindow.isOpen, decide_eq_true h, Bool.true_and, Bool.and_eq_true,
    Bool.not_eq_true', decide_eq_true_eq]
  rfl

theorem expiryDue_iff (h : s.windows[w].state ≠ .closed) :
    s.expiryDue w = true ↔ s.windows[w].endTime ≤ s.clock.run := by
  rw [State.expiryDue, ServiceWindow.isOpen, decide_eq_true h, Bool.true_and, decide_eq_true_eq]

theorem expiryWarning_warns (h : s.warningDue w = true) : Completes (.serviceExpiryWarning w) s
    (s.modWindow w fun x => { x with warned := true }) [] [.serviceExpiring w (s.remainingMs w)] := by
  have h0 := Effects.start s (s.modWindow w fun x => { x with warned := true }) s.clock.hall.base rfl rfl
  exact ⟨_, congrArg Host.Outcome.next (if_pos h), raise_uncounted .., h0.raise (.serviceExpiring w (s.remainingMs w)) rfl⟩

end

/-- Settles O37: a warning and an expiry, each on both sides of its instant. -/
theorem windowTimesPass : Obligations.WindowTimesPass := by
  refine fun w s ho => ⟨fun hw hr => ?_, fun h => ?_, fun he => ?_, fun he => ?_⟩
  · exact expiryWarning_warns ((warningDue_iff ho).mpr ⟨hw, hr⟩)
  · refine congrArg Host.Outcome.next (if_neg fun hd => ?_)
    obtain ⟨hw, hr⟩ := (warningDue_iff ho).mp hd
    obtain h | h := h
    · rw [hw] at h; cases h
    · omega
  · have hoff := closeWindow_offPath w .expired s
    refine ⟨_, congrArg Host.Outcome.next (if_pos ((expiryDue_iff ho).mpr he)), closeWindow_window _ _ _ ho,
      fun r hr => ?_, fun r hr => ?_, fun x hx => ?_, congrArg Prod.fst hoff, congrArg (·.2.1) hoff,
      closeWindow_hold _ _ _ ho, congrArg (·.2.2.2.2.2.2.2.2.1) hoff⟩
    · rw [closeWindow_robot _ _ _ ho, if_pos hr]
      exact ⟨rfl, rfl, rfl⟩
    · rw [closeWindow_robot _ _ _ ho, if_neg (by rw [hr]; decide)]
    · rw [closeWindow_egress _ _ _ ho, dropMirrors_egress, if_pos rfl, Egress.withoutMirrors] at hx
      have hm : x ∈ List.filter (fun x : QEntry => decide (x.kind ≠ .mirror)) _ := upd_same .. ▸ hx
      exact of_decide_eq_true (List.mem_filter.mp hm).2
  · exact congrArg Host.Outcome.next (if_neg fun hd => Nat.not_le.mpr he ((expiryDue_iff ho).mp hd))

end Sys2Proof.Machine
end


section
/-! SUPPORT. The outcome of a record, and a fire of the ejector as one row of its tables (R143, R145 to
R147). -/

namespace Sys2Proof.Machine

/-! ## The outcome of a record (R143) -/

section
variable {r : TrackRec}

theorem decideRecord_jam (h : r.jam = true) : decideRecord r = some .jam := by
  rw [decideRecord, if_pos h]

theorem rejectOf_eq_none {c : CameraId} : rejectOf r c = none ↔ ∀ x, r.verdicts[c] ≠ .reject x := by
  unfold rejectOf
  cases r.verdicts[c] <;> simp

/-- A camera's reject is the first where no camera before it rejects. -/
theorem findSome_reject {c : CameraId} {reason : Nat} (hc : r.verdicts[c] = .reject reason)
    (hmin : ∀ d : CameraId, d < c → ∀ x, r.verdicts[d] ≠ .reject x) :
    (List.finRange 4).findSome? (rejectOf r) = some (.camera c reason) := by
  have hfind : rejectOf r c = some (.camera c reason) := by rw [rejectOf, hc]
  have hbefore (d : CameraId) (hd : d < c) : rejectOf r d = none := rejectOf_eq_none.mpr (hmin d hd)
  fin_cases c <;> simp_all [List.finRange_succ]

theorem decideRecord_camera {c : CameraId} {reason : Nat} (hj : r.jam = false)
    (hc : r.verdicts[c] = .reject reason) (hmin : ∀ d : CameraId, d < c → ∀ x, r.verdicts[d] ≠ .reject x) :
    decideRecord r = some (.camera c reason) := by
  rw [decideRecord, hj, findSome_reject hc hmin]
  rfl

/-- With no jam and no reject, a missing image comes before a missing verdict. -/
theorem decideRecord_unrejected (hj : r.jam = false) (hn : ∀ (c : CameraId) (x : Nat), r.verdicts[c] ≠ .reject x) :
    decideRecord r = if ∃ c : CameraId, r.verdicts[c] = .noImage then some .noImage
      else if ∃ c : CameraId, r.verdicts[c] = .pending then some .noVerdict else none := by
  have hnone : (List.finRange 4).findSome? (rejectOf r) = none :=
    List.findSome?_eq_none_iff.mpr fun c _ => rejectOf_eq_none.mpr (hn c)
  rw [decideRecord, hj, hnone]
  simp only [List.any_eq_true, List.mem_finRange, true_and, decide_eq_true_eq, Bool.false_eq_true, if_false]

end

/-! ## A fire (R145 to R147) -/

/-- The times of R148 allow EJECT_A (`State.mayExtend`). -/
def Reject.mayExtend (x : Reject) (now : Nat) : Bool :=
  decide (x.inhibitEnd ≤ now) && releasePassed x.releaseB x.cfg.nonOverlap now

/-- What a fire in PULSE mode does to the ejector, and what it counts beside fires (R145). -/
def pulseRow (x : Reject) (now : Nat) : (Reject → Reject) × List RejectCounter :=
  match x.state with
  | .blasting => (fun x => { x with phaseEnd := now + x.cfg.blastTime }, [.blastRestarts])
  | _ =>
    if x.heldFire then (id, [.absorbedFires])
    else if x.inhibitEnd ≤ now then
      (fun x => { x with state := .blasting, heldFire := false, phaseEnd := now + x.cfg.blastTime }, [.blasts])
    else (fun x => { x with heldFire := true }, [.deferredFires])

/-- What a fire in DIVERTER mode does beside setting the dwell start (R146, R147). -/
def diverterRow (x : Reject) (now : Nat) : (Reject → Reject) × List RejectCounter :=
  match x.state with
  | .rest | .blasting =>
    if x.mayExtend now then
      (fun x => { x with state := .extending, extendPending := false, phaseEnd := now + x.cfg.extendTime * 1000 },
        [.extendsMade])
    else (fun x => { x with state := .extendWait }, [.deferredFires])
  | .extending | .extendWait => (id, [.absorbedFires])
  | .diverted => (id, [])
  | .retractWait => (fun x => { x with state := .diverted }, [.retractsCancelled])
  | .retracting =>
    if x.extendPending then (id, [.absorbedFires]) else (fun x => { x with extendPending := true }, [])

/-- What a fire does to the ejector, and what it counts beside fires. -/
def fireRow (x : Reject) (now : Nat) (pos : Position) : (Reject → Reject) × List RejectCounter :=
  match x.cfg.mode with
  | .pulse => pulseRow x now
  | .diverter =>
    ((diverterRow x now).1 ∘ fun x => { x with dwellStart := some pos }, (diverterRow x now).2)

/-- A row taken: its change, and its counts. -/
def State.takeRow (s : State) (row : (Reject → Reject) × List RejectCounter) : State :=
  forEach (row.2.map .reject) bump (s.modReject row.1)

theorem firePulse_row (s : State) : firePulse s = s.takeRow (pulseRow s.reject s.clock.run) := by
  unfold firePulse pulseRow
  cases s.reject.state with
  | blasting => rfl
  | _ =>
    dsimp only
    split_ifs <;> rfl

theorem fireDiverter_row (s : State) : fireDiverter s =
    (s.modReject fun x => { x with dwellStart := some s.tracker.position }).takeRow
      (diverterRow s.reject s.clock.run) := by
  unfold fireDiverter diverterRow
  cases s.reject.state with
  | rest | blasting =>
    change (if s.reject.mayExtend s.clock.run = true then _ else _) = _
    dsimp only
    split_ifs <;> rfl
  | retracting =>
    dsimp only
    split_ifs <;> rfl
  | _ => rfl

/-- A fire is counted, and takes its row. -/
theorem fireEjector_row (s : State) : fireEjector s =
    (bump (.reject .fires) s).takeRow (fireRow s.reject s.clock.run s.tracker.position) := by
  unfold fireEjector fireRow
  dsimp only
  rw [bump_reject]
  cases s.reject.cfg.mode with
  | pulse => rw [firePulse_row, bump_reject, bump_clock]
  | diverter =>
    rw [fireDiverter_row, bump_reject, bump_clock, bump_tracker]
    rfl

theorem Reject.mayExtend_iff {x : Reject} {now : Nat} : x.mayExtend now = true ↔
    x.inhibitEnd ≤ now ∧ ∀ b, x.releaseB = some b → b + x.cfg.nonOverlap ≤ now := by
  rw [Reject.mayExtend, Bool.and_eq_true, decide_eq_true_eq, releasePassed_iff]

/-- A table of the statement names what its row of a fire does and counts. -/
theorem fireRow_of_table {x y : Reject} {now : Nat} {pos : Position} {l : List RejectCounter}
    (h : FireTable x y now pos l) : (fireRow x now pos).1 x = y ∧ (fireRow x now pos).2 = l := by
  unfold fireRow
  obtain ⟨hm, h⟩ | ⟨hm, h⟩ := h <;> rw [hm]
  · obtain ⟨hs, hf, hi, rfl, rfl⟩ | ⟨hs, hf, hi, rfl, rfl⟩ | ⟨hs, hf, rfl, rfl⟩ | ⟨hs, rfl, rfl⟩ := h <;>
      simp only [pulseRow]
    · simp [hs, hf, hi]
    · simp [hs, hf, Nat.not_le.mpr hi]
    · simp [hs, hf]
    · simp [hs]
  · obtain ⟨hs, hi, hb, rfl, rfl⟩ | ⟨hs, hw, rfl, rfl⟩ | ⟨hs, rfl, rfl⟩ | ⟨hs, rfl, rfl⟩ | ⟨hs, rfl, rfl⟩ |
      ⟨hs, hp, rfl, rfl⟩ | ⟨hs, hp, rfl, rfl⟩ := h
    · simp [diverterRow, hs, Reject.mayExtend_iff.mpr ⟨hi, hb⟩]
    · have hno : ¬x.mayExtend now = true := by
        rw [Reject.mayExtend_iff]
        rintro ⟨hi, hb⟩
        obtain hw | ⟨b, hb', hw⟩ := hw
        · omega
        · exact Nat.not_le.mpr hw (hb b hb')
      simp [diverterRow, hs, hno]
    · obtain hs | hs := hs <;> simp [diverterRow, hs]
    · simp [diverterRow, hs]
    · simp [diverterRow, hs]
    · simp [diverterRow, hs, hp]
    · simp [diverterRow, hs, hp]

end Sys2Proof.Machine
end


section
/-! The decisions of due records and the fires they make (R136, R142, R143, R145 to R147). -/

namespace Sys2Proof.Machine

section
variable {s u : State} {r : TrackRec}

/-! ## What a fire leaves and counts -/

theorem takeRow_uncounted (s : State) (row : (Reject → Reject) × List RejectCounter) :
    (s.takeRow row).uncounted = (s.modReject row.1).uncounted :=
  forEach_keeps State.uncounted _ bump_uncounted _

theorem fireEjector_uncounted (s : State) : (fireEjector s).uncounted =
    (s.modReject (fireRow s.reject s.clock.run s.tracker.position).1).uncounted := by
  have h := bump_uncounted (.reject .fires) s
  rw [fireEjector_row, takeRow_uncounted]
  exact congrArg (State.modReject _) h

theorem fireEjector_reject (s : State) : (fireEjector s).reject =
    (fireRow s.reject s.clock.run s.tracker.position).1 s.reject :=
  (congrArg State.reject (fireEjector_uncounted s) :)

theorem Effects.bumps {t : State} {now : BaseTime} {l : List CounterRef} {es : List NoticeEvent}
    (ks : List RejectCounter) (h : Effects s t now l es) :
    Effects s (Machine.forEach (ks.map .reject) Machine.bump t) now (l ++ ks.map .reject) es := by
  induction ks generalizing t l with
  | nil => rwa [List.map_nil, List.append_nil]
  | cons k ks ih =>
    rw [List.map_cons, forEach_cons, List.append_cons]
    exact ih (h.bump (.reject k))

theorem fireEjector_effects {now : BaseTime} {o : RejectCounter} (h : Effects s u now [.reject o] []) :
    Effects s (fireEjector u) now
      ((o :: .fires :: (fireRow u.reject u.clock.run u.tracker.position).2).map .reject) [] := by
  rw [fireEjector_row]
  exact ((h.bump (.reject .fires)).congr rfl rfl : Effects s
    ((Machine.bump (.reject .fires) u).modReject (fireRow u.reject u.clock.run u.tracker.position).1) now _ _).bumps _

/-- The counters that grow once each. -/
theorem Effects.counted_once {t : State} {now : BaseTime} {ks : List RejectCounter} {es : List NoticeEvent}
    (h : Effects s t now (ks.map .reject) es) (hn : ks.Nodup) (k : RejectCounter) : t.counter (.reject k) =
      if k ∈ ks then min (s.counter (.reject k) + 1) Config.counterMax else s.counter (.reject k) := by
  have hinj : Function.Injective CounterRef.reject := fun _ _ => CounterRef.reject.inj
  have hc := h.counters (.reject k) rfl
  rw [List.count_map_of_injective _ _ hinj] at hc
  simp only [List.mem_map_of_injective hinj] at hc
  rw [hc]
  split
  · next hk => rw [List.count_eq_one_of_mem hn hk]
  · rfl

/-- No row counts fires or an outcome. -/
theorem fireRow_nodup (x : Reject) (now : Nat) (pos : Position) (o : Option RejectReason) :
    (outcomeCounter o :: .fires :: (fireRow x now pos).2).Nodup := by
  have hrow : (fireRow x now pos).2 ∈ [[], [.blastRestarts], [.absorbedFires], [.blasts], [.deferredFires],
      [.extendsMade], [.retractsCancelled]] := by
    unfold fireRow
    split
    · unfold pulseRow
      split
      · simp
      · split_ifs <;> simp
    · unfold diverterRow
      dsimp only
      split
      iterate 2
        split_ifs <;> simp
      iterate 4 simp
      · split_ifs <;> simp
  have ho : outcomeCounter o ∈ [.decisionsPass, .rejectJam, .rejectNoImage, .rejectNoVerdict] ∨
      ∃ c, outcomeCounter o = .rejectCamera c := by
    rcases o with _ | _ | ⟨c, n⟩ | _ | _ <;> simp [outcomeCounter]
  generalize (fireRow x now pos).2 = l at hrow ⊢
  generalize outcomeCounter o = c at ho ⊢
  simp only [List.mem_cons, List.not_mem_nil, or_false] at hrow ho
  obtain (rfl | rfl | rfl | rfl) | ⟨c, rfl⟩ := ho <;>
    obtain rfl | rfl | rfl | rfl | rfl | rfl | rfl := hrow <;> simp

/-! ## A decided record -/

/-- The sequence number of the head that is left, or the next one (R136). -/
def headSeq (l : List TrackRec) (nextSeq : BitVec 32) : BitVec 32 :=
  match l with
  | [] => nextSeq
  | x :: _ => x.seq

theorem decided_uncounted {rest : List TrackRec} (h : s.tracker.records = r :: rest) :
    (s.decided r).uncounted = ({ s with
      tracker := { s.tracker with records := rest }
      cameras := s.cameras.map fun k =>
        if k.pointer = r.seq then { k with pointer := headSeq rest s.tracker.nextSeq } else k
      reject := { s.reject with
        last := some { seq := r.seq, reason := decideRecord r, position := s.tracker.position } }
      hold := { s.hold with present := { s.hold.present with trackFull := false } } } : State).uncounted := by
  rw [State.decided, eq_recounted (bump_uncounted (.reject (outcomeCounter (decideRecord r))) s).symm]
  cases rest <;> simp [movePointers, headSeq, leaveHold, PresentSet.leave, State.modReject, State.modTracker, h, State.uncounted]

theorem decided_effects (s : State) (r : TrackRec) : Effects s (s.decided r) s.clock.hall.base
    [.reject (outcomeCounter (decideRecord r))] [] := by
  have h := (Effects.refl s s.clock.hall.base).bump (.reject (outcomeCounter (decideRecord r)))
  exact h.congr (by simp [State.decided, movePointers, leaveHold]) (by simp [State.decided, movePointers, leaveHold])

theorem outcomeCounter_of {x : RejectReason} {o : RejectCounter}
    (h : x = .jam ∧ o = .rejectJam ∨ (∃ c n, x = .camera c n ∧ o = .rejectCamera c) ∨
      x = .noImage ∧ o = .rejectNoImage ∨ x = .noVerdict ∧ o = .rejectNoVerdict) :
    outcomeCounter (some x) = o := by
  obtain ⟨rfl, rfl⟩ | ⟨c, n, rfl, rfl⟩ | ⟨rfl, rfl⟩ | ⟨rfl, rfl⟩ := h <;> rfl

end

/-- Settles O26: the outcomes, the due test, and the fire of a rejected record. -/
theorem decisionTakesFirstReason : Obligations.DecisionTakesFirstReason := by
  refine ⟨fun r => ⟨decideRecord_jam, fun c n => decideRecord_camera, fun hj hn => ?_⟩,
    fun s u r rest next hr hnext hu => ⟨fun hd => ?_, fun hd => ?_, fun hp => ?_, fun x hx => ?_⟩⟩
  · rw [decideRecord_unrejected hj hn]
    refine ⟨fun h => if_pos h, fun h => ?_⟩
    rw [if_neg fun ⟨c, hc⟩ => h c hc]
    exact ⟨fun h => if_pos h, fun h => if_neg fun ⟨c, hc⟩ => h c hc⟩
  · rw [decideDue, (isDue_eq_false_iff s r).mpr hd]
    rfl
  · have hdue : s.isDue r = true := decide_eq_true hd
    rw [decideDue, if_pos hdue]
  · rw [decideHead_eq, if_pos hp]
    refine ⟨?_, ?_⟩
    · rw [hu, show next = headSeq rest _ from hnext]
      exact decided_uncounted hr
    · have h := decided_effects s r
      rwa [hp] at h
  · have hdu : (s.decided r).uncounted = u.uncounted := by
      rw [hu, show next = headSeq rest _ from hnext]
      exact decided_uncounted hr
    have hrej : (s.decided r).reject = u.reject := (congrArg State.reject hdu :)
    have hclock : (s.decided r).clock = u.clock := (congrArg State.clock hdu :)
    have htrack : (s.decided r).tracker = u.tracker := (congrArg State.tracker hdu :)
    have hrun : u.clock = s.clock := by rw [hu]
    have hpos : u.tracker.position = s.tracker.position := by rw [hu]
    have he := fireEjector_effects (decided_effects s r)
    have hn := fireRow_nodup u.reject u.clock.run u.tracker.position (some x)
    rw [hrej, hclock, htrack, hx] at he
    rw [decideHead_eq, if_neg (by rw [hx]; nofun)]
    refine ⟨?_, ?_, fun o ho => ⟨?_, fun y l ht => ?_⟩⟩
    · rw [fireEjector_uncounted, fireEjector_reject, hrej, hclock, htrack]
      exact congrArg (State.modReject _) hdu
    · rw [he.counted_once hn, if_pos (by simp)]
    · rw [he.counted_once hn, if_pos (by simp [outcomeCounter_of ho])]
    · obtain ⟨hy, hl⟩ := fireRow_of_table ht
      rw [hrun, hpos] at he hn
      rw [outcomeCounter_of ho, hl] at he hn
      exact ⟨by rw [fireEjector_reject, hrej, hclock, htrack, hrun, hpos, hy], he.counted_once hn⟩

end Sys2Proof.Machine
end


section
/-! A verdict frame and its entries (R137 to R139). -/

namespace Sys2Proof.Machine

section
variable {s : State} {i : StreamId} {c : CameraId} {e : VerdictEntry}

theorem VerdictEntry.malformed_iff (e : VerdictEntry) : e.malformed = true ↔
    3 < e.camera ∨ 1 < e.result ∨ e.result = 1 ∧ (e.reason = 0 ∨ 15 < e.reason) := by
  simp only [VerdictEntry.malformed, Bool.or_eq_true, Bool.and_eq_true, decide_eq_true_eq, or_assoc]

/-- The entries of a frame, or none. -/
theorem verdictEntries_eq (frame : Octets) : verdictEntries frame =
    if (field (framePayload frame) 1 1 = 0 ∨ 16 < field (framePayload frame) 1 1 ∨
        (framePayload frame).length < 2 + 8 * field (framePayload frame) 1 1) ∨
      ∃ k, k < field (framePayload frame) 1 1 ∧ (verdictEntry (framePayload frame) k).malformed = true then none
    else some ((List.range (field (framePayload frame) 1 1)).map (verdictEntry (framePayload frame))) := by
  unfold verdictEntries
  generalize framePayload frame = l
  dsimp only
  generalize field l 1 1 = n
  have hany : ((List.range n).map (verdictEntry l)).any VerdictEntry.malformed = true ↔
      ∃ k, k < n ∧ (verdictEntry l k).malformed = true := by
    simp
  by_cases h : n = 0 ∨ 16 < n ∨ l.length < 2 + 8 * n
  · rw [if_pos h, if_pos (.inl h)]
  · rw [if_neg h]
    by_cases hm : ∃ k, k < n ∧ (verdictEntry l k).malformed = true
    · rw [if_pos (hany.mpr hm), if_pos (.inr hm)]
    · rw [if_neg (hany.not.mpr hm), if_neg (not_or.mpr ⟨h, hm⟩)]

theorem readVerdicts_none {octets : Octets} (h : verdictEntries octets = none) :
    readVerdicts i octets s = bump (.reject .malformedVerdicts) s := by
  rw [readVerdicts, h]

theorem readVerdicts_some {octets : Octets} {es : List VerdictEntry} (h : verdictEntries octets = some es) :
    readVerdicts i octets s = es.foldl (fun u e => applyVerdict i e u) s := by
  rw [readVerdicts, h]
  rfl

/-! ## Where an entry lies (R138) -/

/-- The number that an entry's place is counted from: the head's, or the next one. -/
theorem place_from {t : Tracker} {first seq : BitVec 32}
    (h : t.records = [] ∧ first = t.nextSeq ∨ ∃ r, t.records.head? = some r ∧ first = r.seq) :
    t.place seq = if (seq - first).toNat < t.records.length then .inList
      else if (seq - first).toInt < 0 then .older else .newer := by
  unfold Tracker.place
  obtain ⟨hr, rfl⟩ | ⟨r, hr, rfl⟩ := h
  · rw [hr]
    rfl
  · obtain ⟨l, hl⟩ := List.head?_eq_some_iff.mp hr
    rw [hl]

theorem camera_ofNat (h : e.camera = c.val) : Fin.ofNat 4 e.camera = c := by
  rw [h]
  exact Fin.ext (Nat.mod_eq_of_lt c.isLt)

theorem applyVerdict_older (hc : e.camera = c.val) (h : s.tracker.place e.seq = .older) :
    applyVerdict i e s = raise (.verdictLate c e.seq) (bump (.camera c .lateVerdicts) s) := by
  rw [applyVerdict, h, camera_ofNat hc]

theorem applyVerdict_newer (hc : e.camera = c.val) (h : s.tracker.place e.seq = .newer) :
    applyVerdict i e s = bump (.camera c .unknownVerdicts) s := by
  rw [applyVerdict, h, camera_ofNat hc]

theorem applyVerdict_inList (hc : e.camera = c.val) (h : s.tracker.place e.seq = .inList) :
    applyVerdict i e s = applyInList i c e s := by
  rw [applyVerdict, h, camera_ofNat hc]

/-! ## An entry that names a record (R139) -/

variable {r : TrackRec}

theorem applyInList_ignored (hr : s.tracker.find e.seq = some r)
    (h : s.cameras[c].cfg.source ≠ some i ∨ s.cameras[c].cfg.enabled = false ∨
      s.cameras[c].cfg.required = false ∨ r.verdicts[c] = .notRequired) :
    applyInList i c e s = bump (.camera c .ignoredVerdicts) s := by
  unfold applyInList
  dsimp only
  rw [if_pos]
  simp only [hr, Option.map_some, Option.getD_some, Bool.or_eq_true, decide_eq_true_eq, Bool.not_eq_true', or_assoc]
  exact h

/-- A verdict that is not ignored is written or is a duplicate. -/
theorem applyInList_taken (hsrc : s.cameras[c].cfg.source = some i) (hen : s.cameras[c].cfg.enabled = true)
    (hreq : s.cameras[c].cfg.required = true) (hr : s.tracker.find e.seq = some r)
    (hv : r.verdicts[c] ≠ .notRequired) : applyInList i c e s =
      if r.verdicts[c] = .pending ∨ r.verdicts[c] = .pass ∧ e.result = 1 then
        bump (.camera c .verdictsApplied)
          (s.modRecord e.seq fun r => { r with verdicts := r.verdicts.set c e.state })
      else bump (.camera c .duplicateVerdicts) s := by
  unfold applyInList
  dsimp only
  rw [if_neg (by
    simpa only [hr, hsrc, hen, hreq, Option.map_some, Option.getD_some, ne_eq, not_true_eq_false, decide_false,
      Bool.not_true, Bool.false_or, decide_eq_true_eq] using hv)]
  simp only [hr, Option.map_some, Option.getD_some]
  cases hold : r.verdicts[c] with
  | pass => by_cases h1 : e.result = 1 <;> simp [h1]
  | _ => simp

end

/-- Settles O27: the frame, the place of an entry, and what becomes of one in the list. -/
theorem verdictFillsPending : Obligations.VerdictFillsPending := by
  refine ⟨fun i octets l n entry bad s hl hn hentry hbad => ?_, fun i c e s first hc hfirst => ?_,
    fun i c e s r hr h => ?_, fun i c e s r hsrc hen hreq hr hv => ⟨fun h => ?_, fun hp hj => ?_⟩⟩
  · have he : verdictEntry (framePayload octets) = entry := funext fun k => by rw [hentry, hl]; rfl
    have hv := verdictEntries_eq octets
    rw [← hl, ← hn, hl, he] at hv
    simp only [VerdictEntry.malformed_iff, or_assoc] at hv
    rw [← hl] at hv
    refine ⟨fun h => ?_, fun h => ?_⟩
    · rw [if_pos (hbad.mp h)] at hv
      rw [readVerdicts_none hv]
      exact ⟨bump_uncounted .., (Effects.refl s _).bump (.reject .malformedVerdicts)⟩
    · rw [if_neg (hbad.not.mp h)] at hv
      rw [readVerdicts_some hv, List.foldl_map]
  · have hp := place_from (seq := e.seq) hfirst
    refine ⟨fun h => ?_, fun hout hneg => ?_, fun hout hpos => ?_⟩
    · exact applyVerdict_inList hc (hp.trans (if_pos h))
    · rw [applyVerdict_older hc (by rw [hp, if_neg (Nat.not_lt.mpr hout), if_pos hneg])]
      have h0 := (Effects.refl s s.clock.hall.base).bump (.camera c .lateVerdicts)
      exact ⟨by rw [raise_uncounted, bump_uncounted], h0.raise (.verdictLate c e.seq) (by rw [bump_clock])⟩
    · rw [applyVerdict_newer hc (by rw [hp, if_neg (Nat.not_lt.mpr hout), if_neg (Int.not_lt.mpr hpos)])]
      exact ⟨bump_uncounted .., (Effects.refl s _).bump (.camera c .unknownVerdicts)⟩
  · rw [applyInList_ignored hr h]
    exact ⟨bump_uncounted .., (Effects.refl s _).bump (.camera c .ignoredVerdicts)⟩
  · rw [applyInList_taken hsrc hen hreq hr hv, if_pos h]
    have h0 := Effects.start s (s.modRecord e.seq fun r => { r with verdicts := r.verdicts.set c e.state })
      s.clock.hall.base rfl rfl
    exact ⟨bump_uncounted .., h0.bump (.camera c .verdictsApplied)⟩
  · rw [applyInList_taken hsrc hen hreq hr hv, if_neg (not_or.mpr ⟨hp, hj⟩)]
    exact ⟨bump_uncounted .., (Effects.refl s _).bump (.camera c .duplicateVerdicts)⟩

end Sys2Proof.Machine
end


section
/-! The records of the tables, laid out and decoded (R195, R197, R198). -/

namespace Sys2Proof.Machine

/-! ## Fields of octets laid out one after another -/

theorem field_first (n v : Nat) (l : Octets) : field (beBytes n v ++ l) 0 n = v % 256 ^ n := by
  have e : slice (beBytes n v ++ l) 0 n = beBytes n v := by
    rw [slice, List.drop_zero, List.take_left' (beBytes_length n v)]
  rw [field, e, beNat, foldl_beBytes, Nat.zero_mul, Nat.zero_add]

theorem field_only (n v : Nat) : field (beBytes n v) 0 n = v % 256 ^ n := by
  have h := field_first n v []
  rwa [List.append_nil] at h

/-- A field that lies behind the first `n` octets. -/
theorem field_after {a : Octets} {n off : Nat} (ha : a.length = n) (h : n ≤ off) (l : Octets) (k : Nat) :
    field (a ++ l) off k = field l (off - n) k := by
  have e := field_skip a l (off - n) k
  rwa [ha, Nat.add_sub_cancel' h] at e

theorem slice_after {a : Octets} {n off : Nat} (ha : a.length = n) (h : n ≤ off) (l : Octets) (k : Nat) :
    slice (a ++ l) off k = slice l (off - n) k := by
  rw [slice, slice, List.drop_append, List.drop_eq_nil_of_le (by omega), ha, List.nil_append]

theorem slice_first {a : Octets} {n : Nat} (ha : a.length = n) (l : Octets) : slice (a ++ l) 0 n = a := by
  rw [slice, List.drop_zero, List.take_left' ha]

theorem field_beBytes_after {n off : Nat} (h : n ≤ off) (v : Nat) (l : Octets) (k : Nat) :
    field (beBytes n v ++ l) off k = field l (off - n) k := field_after (beBytes_length n v) h l k

theorem slice_beBytes_after {n off : Nat} (h : n ≤ off) (v : Nat) (l : Octets) (k : Nat) :
    slice (beBytes n v ++ l) off k = slice l (off - n) k := slice_after (beBytes_length n v) h l k

theorem boolBytes_eq (b : Bool) : boolBytes b = beBytes 1 b.toNat := by cases b <;> rfl

theorem singleton_eq (b : Byte) : [b] = beBytes 1 b.toNat := by simp [beBytes]

/-- A field of one of the things laid out in `m` octets each. -/
theorem field_flatMap {α : Type} {f : α → Octets} {m : Nat} (hm : ∀ x, (f x).length = m) (l : List α)
    (tail : Octets) {i : Nat} (hi : i < l.length) (off k : Nat) :
    ∃ rest, field (l.flatMap f ++ tail) (m * i + off) k = field (f l[i] ++ rest) off k := by
  induction l generalizing i with
  | nil => exact absurd hi (Nat.not_lt_zero _)
  | cons x l ih =>
    rw [List.flatMap_cons, List.append_assoc]
    cases i with
    | zero => exact ⟨l.flatMap f ++ tail, by rw [Nat.mul_zero, Nat.zero_add, List.getElem_cons_zero]⟩
    | succ i =>
      obtain ⟨rest, h⟩ := ih (Nat.lt_of_succ_lt_succ hi)
      refine ⟨rest, ?_⟩
      rw [List.getElem_cons_succ, ← h, field_after (hm x) (by rw [Nat.mul_succ]; omega)]
      congr 1
      rw [Nat.mul_succ]
      omega

/-! ## Values decoded from their codes -/

section
variable {n lo hi v : Nat}

theorem within_eq (h1 : lo ≤ v) (h2 : v ≤ hi) : within lo hi v = some v := if_pos ⟨h1, h2⟩

theorem yesNoOf_code (b : Bool) : yesNoOf (b.toNat % 256) = some b := by cases b <;> rfl
theorem firstOf_code (b : Bool) : firstOf (firstOfTwo b % 256) = some b := by cases b <;> rfl
theorem roleOf_code (x : PortRole) : roleOf (x.code % 256) = some x := by cases x <;> rfl
theorem timingOf_code (x : Timing) : timingOf (x.code % 256) = some x := by cases x <;> rfl
theorem unmatchedOf_code (r : PortRole) (x : UnmatchedPolicy) : unmatchedOf r (x.code % 256) = some x := by
  cases x <;> rfl
theorem classOf_code (x : StreamClass) : classOf (x.code % 256) = some x := by cases x <;> rfl
theorem streamRoleOf_code (x : StreamRole) : streamRoleOf (x.code % 256) = some x := by cases x <;> rfl
theorem policyOf_code (x : HoldPolicy) : policyOf (x.code % 256) = some x := by cases x <;> rfl
theorem modeOf_code (x : CountMode) : modeOf (x.code % 256) = some x := by cases x <;> rfl
theorem ejectModeOf_code (x : EjectMode) : ejectModeOf (x.code % 256) = some x := by cases x <;> rfl

theorem indexOf_val (i : Fin n) : indexOf n i.val = some i := dif_pos i.isLt

theorem indexOf_code (h : n ≤ 256) (i : Fin n) : indexOf n (i.val % 256) = some i := by
  rw [Nat.mod_eq_of_lt (i.isLt.trans_le h), indexOf_val]

theorem subjectOf_code (x : Subject) : subjectOf (x.code.1 % 256) (x.code.2 % 256) = some x := by
  cases x with
  | robot r => exact congrArg (Option.map Subject.robot) (indexOf_code (by decide) r)
  | camera c => exact congrArg (Option.map Subject.camera) (indexOf_code (by decide) c)
  | _ => rfl

theorem setOf_toNat (x : BitVec n) : setOf n x.toNat = some x := by
  rw [setOf, if_pos x.isLt, BitVec.ofNat_toNat, BitVec.setWidth_eq]

theorem setOf_code (x : PortSet) : setOf 12 (x.toNat % 65536) = some x := by
  rw [Nat.mod_eq_of_lt (x.isLt.trans (by decide)), setOf_toNat]

theorem ofNat_macNat (x : Mac) : BitVec.ofNat 48 (x.toNat % 281474976710656) = x := by
  rw [Nat.mod_eq_of_lt x.isLt, BitVec.ofNat_toNat, BitVec.setWidth_eq]

theorem ofNat_octet (x : Byte) : BitVec.ofNat 8 (x.toNat % 256) = x := by
  rw [Nat.mod_eq_of_lt x.isLt, BitVec.ofNat_toNat, BitVec.setWidth_eq]

theorem ofNat_stream (i : StreamId) : Fin.ofNat 256 (i.val % 256) = i := by
  rw [Nat.mod_eq_of_lt i.isLt]
  exact Fin.ext (Nat.mod_eq_of_lt i.isLt)

end

/-- A destination in its 9 octets is read back (R130, R178). -/
theorem destOf_bytes {top : Nat} {d : Option Dest} (h : ∀ x, d = some x → x.vlan ≤ 4095 ∧ x.port.val ≤ top) :
    destOf top (destBytes d) = some d := by
  cases d with
  | none => rfl
  | some d =>
    obtain ⟨hv, hp⟩ := h d rfl
    have hmac : field (macBytes d.mac ++ beBytes 2 d.vlan ++ beBytes 1 d.port.val) 0 6 = d.mac.toNat := by
      rw [List.append_assoc, macBytes, field_head d.mac.isLt]
    have hvlan : field (macBytes d.mac ++ beBytes 2 d.vlan ++ beBytes 1 d.port.val) 6 2 = d.vlan := by
      rw [List.append_assoc, macBytes, field_beBytes_after (le_refl 6), field_head (by omega)]
    have hport : field (macBytes d.mac ++ beBytes 2 d.vlan ++ beBytes 1 d.port.val) 8 1 = d.port.val := by
      rw [List.append_assoc, macBytes, field_beBytes_after (by decide), field_beBytes_after (by decide), field_only, Nat.mod_eq_of_lt (by omega)]
    have hsome : isNone (destBytes (some d)) = false := by
      refine Bool.eq_false_of_not_eq_true fun hn => ?_
      have e := (isNone_iff _).mp hn
      rw [destBytes_length] at e
      rw [show macBytes d.mac ++ beBytes 2 d.vlan ++ beBytes 1 d.port.val = _ from e] at hvlan
      have h9 : field (List.replicate 9 (0xFF : Byte)) 6 2 = 65535 := by decide
      omega
    rw [destOf, if_neg (by rw [hsome]; decide)]
    simp only [destBytes, hmac, hvlan, hport, within_eq (Nat.zero_le _) hv, indexOf_val, Option.bind_eq_bind,
      Option.bind_some, if_pos hp, BitVec.ofNat_toNat, BitVec.setWidth_eq]

end Sys2Proof.Machine
end


section
/-! The nine records of the tables, laid out and decoded (R195, R198). -/

namespace Sys2Proof.Machine

theorem decodePort_bytes (x : Port) : decodePort x.bytes = some x.cfg := by
  unfold decodePort Port.bytes
  simp (disch := decide) only [boolBytes_eq, List.append_assoc, field_beBytes_after, Nat.reduceSub, field_first,
    Nat.reducePow, roleOf_code, yesNoOf_code, timingOf_code, firstOf_code, unmatchedOf_code, setOf_code,
    Option.bind_eq_bind, Option.bind_some]

theorem decodeStream_fields (c : StreamCfg) (hv : c.vlan ≤ 4095) (h1 : 64 ≤ c.maxLength) (h2 : c.maxLength ≤ 9216) :
    decodeStream (c.bytes ++ [0]) = some c := by
  have hvlan : c.vlan % 65536 = c.vlan := Nat.mod_eq_of_lt (by omega)
  have hmax : c.maxLength % 65536 = c.maxLength := Nat.mod_eq_of_lt (by omega)
  unfold decodeStream StreamCfg.bytes
  simp (disch := decide) only [macBytes, boolBytes_eq, List.append_assoc, field_beBytes_after, Nat.reduceSub,
    field_first, Nat.reducePow, hvlan, hmax, within_eq (Nat.zero_le _) hv, within_eq h1 h2, setOf_code, classOf_code,
    streamRoleOf_code, subjectOf_code, yesNoOf_code, ofNat_macNat, Option.bind_eq_bind, Option.bind_some]

theorem decodeRobot_fields (x : Robot) (hw : x.cfg.window ≤ 15) (hp1 : 1 ≤ x.cfg.period) (hp2 : x.cfg.period ≤ 16)
    (hph : x.cfg.phase < x.cfg.period) (hd : x.cfg.deadline ≤ 160000000) (ho : x.cfg.modeOffset ≤ 255)
    (ht1 : 1 ≤ x.cfg.tolerance) (ht2 : x.cfg.tolerance ≤ 15) (hr : x.cfg.repeatLimit ≤ 15) :
    decodeRobot (x.fields ++ [0, 0, 0, 0]) = some x.cfg := by
  have hwindow : x.cfg.window % 256 = x.cfg.window := Nat.mod_eq_of_lt (by omega)
  have hperiod : x.cfg.period % 256 = x.cfg.period := Nat.mod_eq_of_lt (by omega)
  have hphase : x.cfg.phase % 256 = x.cfg.phase := Nat.mod_eq_of_lt (by omega)
  have hdeadline : x.cfg.deadline % 4294967296 = x.cfg.deadline := Nat.mod_eq_of_lt (by omega)
  have hoffset : x.cfg.modeOffset % 256 = x.cfg.modeOffset := Nat.mod_eq_of_lt (by omega)
  have htol : x.cfg.tolerance % 256 = x.cfg.tolerance := Nat.mod_eq_of_lt (by omega)
  have hrep : x.cfg.repeatLimit % 256 = x.cfg.repeatLimit := Nat.mod_eq_of_lt (by omega)
  have hbelow : x.cfg.phase ≤ x.cfg.period - 1 := by omega
  unfold decodeRobot Robot.fields
  simp (disch := decide) only [singleton_eq, List.append_assoc, field_beBytes_after, Nat.reduceSub, field_first,
    Nat.reducePow, hwindow, hperiod, hphase, hdeadline, hoffset, htol, hrep, within_eq (Nat.zero_le _) hw,
    within_eq hp1 hp2, within_eq (Nat.zero_le _) hbelow, within_eq (Nat.zero_le _) hd, within_eq ht1 ht2,
    within_eq (Nat.zero_le _) hr, policyOf_code, ofNat_stream, ofNat_octet, Option.bind_eq_bind, Option.bind_some]

theorem decodeHold_bytes {l : Octets} (h : l.length = 0 ∨ 64 ≤ l.length ∧ l.length ≤ 256) :
    decodeHold (holdBytes l) = some l := by
  have hdrop : (holdBytes l).drop 2 = l := List.drop_left' (beBytes_length 2 _)
  rw [decodeHold, hdrop]
  exact if_pos h

theorem sourceOf_bytes (i : Option StreamId) : sourceOf (optBytes 2 (i.map Fin.val)) = some i := by
  cases i with
  | none => rfl
  | some i =>
    have hi : i.val < 256 ^ 2 := i.isLt.trans (by decide)
    have hsome : isNone (beBytes 2 i.val) = false := by
      refine Bool.eq_false_of_not_eq_true fun hn => ?_
      have e := (isNone_iff _).mp hn
      have hb := beNat_beBytes hi
      rw [beBytes_length] at e
      rw [e] at hb
      have h2 : beNat (List.replicate 2 (0xFF : Byte)) = 65535 := by decide
      have := i.isLt
      omega
    rw [Option.map_some, optBytes, sourceOf, hsome, beNat_beBytes hi, indexOf_val]
    rfl

theorem decodeCamera_bytes (c : CameraCfg) (ho : c.offset ≤ 1048575) (h1 : 1 ≤ c.pulseWidth)
    (h2 : c.pulseWidth ≤ 1000) (hn : ∀ d, c.note = some d → d.vlan ≤ 4095) : decodeCamera c.bytes = some c := by
  have hoffset : c.offset % 16777216 = c.offset := Nat.mod_eq_of_lt (by omega)
  have hwidth : c.pulseWidth % 65536 = c.pulseWidth := Nat.mod_eq_of_lt (by omega)
  have hnote : destOf 11 (destBytes c.note) = some c.note :=
    destOf_bytes fun d hd => ⟨hn d hd, Nat.le_of_lt_succ d.port.isLt⟩
  have hlen : (optBytes 2 (c.source.map Fin.val)).length = 2 := optBytes_length ..
  have hsource : slice (optBytes 2 (c.source.map Fin.val)) 0 2 = optBytes 2 (c.source.map Fin.val) :=
    List.take_of_length_le hlen.le
  unfold decodeCamera CameraCfg.bytes
  simp (disch := decide) only [boolBytes_eq, List.append_assoc, field_beBytes_after, slice_beBytes_after,
    slice_after (destBytes_length _), slice_first (destBytes_length _), Nat.reduceSub, field_first, Nat.reducePow,
    hoffset, hwidth, within_eq (Nat.zero_le _) ho, within_eq h1 h2, hnote, hsource, sourceOf_bytes, yesNoOf_code,
    Option.bind_eq_bind, Option.bind_some]

theorem decodeTracking_bytes (c : TrackerCfg) (hw1 : 1 ≤ c.speedWindow) (hw2 : c.speedWindow ≤ 100)
    (h1 : 1 ≤ c.minOcclusion) (h2 : c.minOcclusion ≤ 4095) (h3 : 16 ≤ c.maxOcclusion)
    (h4 : c.minOcclusion < c.maxOcclusion) (h5 : c.maxOcclusion ≤ 65535) : decodeTracking c.bytes = some c := by
  have hwindow : c.speedWindow % 256 = c.speedWindow := Nat.mod_eq_of_lt (by omega)
  have hmin : c.minOcclusion % 65536 = c.minOcclusion := Nat.mod_eq_of_lt (by omega)
  have hmax : c.maxOcclusion % 65536 = c.maxOcclusion := Nat.mod_eq_of_lt (by omega)
  unfold decodeTracking TrackerCfg.bytes
  simp (disch := decide) only [boolBytes_eq, List.append_assoc, field_beBytes_after, Nat.reduceSub, field_first,
    field_only, Nat.reducePow, hwindow, hmin, hmax, within_eq hw1 hw2, within_eq h1 h2,
    within_eq (max_le h3 h4) h5, modeOf_code, yesNoOf_code, firstOf_code, policyOf_code, Option.bind_eq_bind,
    Option.bind_some]

theorem decodeEjector_bytes (c : EjectorCfg) (hb1 : 100 ≤ c.blastTime) (hb2 : c.blastTime ≤ 50000)
    (he1 : 1 ≤ c.extendTime) (he2 : c.extendTime ≤ 100) (hd1 : 1 ≤ c.dwell) (hd2 : c.dwell ≤ 1048575)
    (hr1 : 1 ≤ c.retractTime) (hr2 : c.retractTime ≤ 100) (hn1 : 100 ≤ c.nonOverlap) (hn2 : c.nonOverlap ≤ 20000)
    (hx : c.distance ≤ 1048575) (hl : c.latency ≤ 20000) (hlead : c.leadMax < c.distance) :
    decodeEjector c.bytes = some c := by
  have hblast : c.blastTime % 65536 = c.blastTime := Nat.mod_eq_of_lt (by omega)
  have hextend : c.extendTime % 256 = c.extendTime := Nat.mod_eq_of_lt (by omega)
  have hdwell : c.dwell % 16777216 = c.dwell := Nat.mod_eq_of_lt (by omega)
  have hretract : c.retractTime % 256 = c.retractTime := Nat.mod_eq_of_lt (by omega)
  have hgap : c.nonOverlap % 65536 = c.nonOverlap := Nat.mod_eq_of_lt (by omega)
  have hdist : c.distance % 16777216 = c.distance := Nat.mod_eq_of_lt (by omega)
  have hlat : c.latency % 65536 = c.latency := Nat.mod_eq_of_lt (by omega)
  have hmax : c.leadMax % 16777216 = c.leadMax := Nat.mod_eq_of_lt (by omega)
  have hbelow : c.leadMax ≤ c.distance - 1 := by omega
  have hfar : 1 ≤ c.distance := by omega
  unfold decodeEjector EjectorCfg.bytes
  simp (disch := decide) only [List.append_assoc, field_beBytes_after, Nat.reduceSub, field_first, field_only,
    Nat.reducePow, hblast, hextend, hdwell, hretract, hgap, hdist, hlat, hmax, within_eq hb1 hb2, within_eq he1 he2,
    within_eq hd1 hd2, within_eq hr1 hr2, within_eq hn1 hn2, within_eq hfar hx, within_eq (Nat.zero_le _) hl,
    within_eq (Nat.zero_le _) hbelow, ejectModeOf_code, Option.bind_eq_bind, Option.bind_some]

theorem decodeClock_bytes (c : ClockCfg) (hs1 : 10000 ≤ c.stepLimit) (hs2 : c.stepLimit ≤ 100000000)
    (hl1 : 100 ≤ c.lockThreshold) (hl2 : c.lockThreshold ≤ 100000) (hgp : c.gp ≤ 255) (hgi : c.gi ≤ 255)
    (hm1 : 50 ≤ c.markTimeout) (hm2 : c.markTimeout ≤ 5000) (hp1 : 125 ≤ c.probeInterval)
    (hp2 : c.probeInterval ≤ 8000) : decodeClock c.bytes = some c := by
  have hstep : c.stepLimit % 4294967296 = c.stepLimit := Nat.mod_eq_of_lt (by omega)
  have hlock : c.lockThreshold % 16777216 = c.lockThreshold := Nat.mod_eq_of_lt (by omega)
  have hp : c.gp % 256 = c.gp := Nat.mod_eq_of_lt (by omega)
  have hi : c.gi % 256 = c.gi := Nat.mod_eq_of_lt (by omega)
  have hmark : c.markTimeout % 65536 = c.markTimeout := Nat.mod_eq_of_lt (by omega)
  have hprobe : c.probeInterval % 65536 = c.probeInterval := Nat.mod_eq_of_lt (by omega)
  unfold decodeClock ClockCfg.bytes
  simp (disch := decide) only [boolBytes_eq, List.append_assoc, field_beBytes_after, Nat.reduceSub, field_first,
    field_only, Nat.reducePow, hstep, hlock, hp, hi, hmark, hprobe, within_eq hs1 hs2, within_eq hl1 hl2,
    within_eq hm1 hm2, within_eq hp1 hp2, yesNoOf_code, Option.bind_eq_bind, Option.bind_some]

/-! ## DEVICE (R188) -/

/-- The limits of a device record, laid out by port. -/
def limitBytes (v : Vector (Vector Nat 4) 12) : Octets :=
  v.toList.flatMap fun x => x.toList.reverse.flatMap (beBytes 2)

theorem portLimits_length (x : Vector Nat 4) : (x.toList.reverse.flatMap (beBytes 2)).length = 8 := by
  simp [List.length_flatMap, beBytes_length]

theorem limitBytes_length (v : Vector (Vector Nat 4) 12) : (limitBytes v).length = 96 := by
  simp [limitBytes, List.length_flatMap, beBytes_length]

/-- The limit of a queue stands at its place among the octets. -/
theorem limitField_bytes (v : Vector (Vector Nat 4) 12) (tail : Octets) (p : Fin 12) (q : Fin 4) :
    limitField (limitBytes v ++ tail) p.val q.val = v[p][q] % 65536 := by
  have hp : p.val < v.toList.length := by simp
  have hq : 3 - q.val < v[p].toList.reverse.length := by simp; omega
  obtain ⟨rest, h⟩ := field_flatMap portLimits_length v.toList tail hp (2 * (3 - q.val)) 2
  obtain ⟨rest', h'⟩ := field_flatMap (beBytes_length 2) v[p].toList.reverse rest hq 0 2
  have hrow : v.toList[p.val] = v[p] := by simp
  have hcell : v[p].toList.reverse[3 - q.val] = v[p][q] := by
    have e : 4 - 1 - (3 - q.val) = q.val := by omega
    simp [List.getElem_reverse, e]
  rw [limitField, limitBytes, h, hrow]
  rw [Nat.add_zero] at h'
  simp only [h', hcell, field_first, Nat.reducePow]

theorem limitsOf_bytes {v : Vector (Vector Nat 4) 12} (h : limitsOk v = true) (tail : Octets) :
    limitsOf (limitBytes v ++ tail) = v := by
  have hle (p : Fin 12) (q : Fin 4) : v[p][q] ≤ 2048 := by
    simp only [limitsOk, Vector.all_eq_true, decide_eq_true_eq] at h
    exact h p.val p.isLt q.val q.isLt
  refine Vector.ext fun p hp => Vector.ext fun q hq => ?_
  have e := limitField_bytes v tail ⟨p, hp⟩ ⟨q, hq⟩
  rw [Nat.mod_eq_of_lt ((hle _ _).trans_lt (by decide))] at e
  simpa [limitsOf] using e

theorem decodeDevice_bytes (c : DeviceCfg) (hl : limitsOk c.limits = true) (ht1 : 1 ≤ c.controllerTimeout)
    (ht2 : c.controllerTimeout ≤ 1000) (hp1 : 1 ≤ c.pacing) (hp2 : c.pacing ≤ 1000)
    (hd : ∀ d, c.noticeDest = some d → d.vlan ≤ 4095 ∧ d.port.val ≤ 9) : decodeDevice c.bytes = some c := by
  have htime : c.controllerTimeout % 65536 = c.controllerTimeout := Nat.mod_eq_of_lt (by omega)
  have hpace : c.pacing % 65536 = c.pacing := Nat.mod_eq_of_lt (by omega)
  have hbytes : c.bytes = limitBytes c.limits ++ (beBytes 2 c.controllerTimeout ++
      (destBytes c.noticeDest ++ beBytes 2 c.pacing)) := by
    simp only [DeviceCfg.bytes, limitBytes, List.append_assoc]
  unfold decodeDevice
  rw [hbytes, limitsOf_bytes hl, if_pos hl]
  simp (disch := decide) only [field_after (limitBytes_length _), slice_after (limitBytes_length _),
    field_beBytes_after, slice_beBytes_after, slice_first (destBytes_length _), field_after (destBytes_length _),
    Nat.reduceSub, field_first, field_only, Nat.reducePow, htime, hpace, within_eq ht1 ht2, within_eq hp1 hp2,
    destOf_bytes hd, Option.bind_eq_bind, Option.bind_some]

/-- Settles O44, record by record. -/
theorem tableRecordsRoundTrip : Obligations.TableRecordsRoundTrip := by
  refine ⟨decodePort_bytes, fun x hd hv h1 h2 => ?_, fun x hd hw hp1 hp2 hph hdl ho ht1 ht2 hr => ?_,
    fun l h => decodeHold_bytes h, decodeCamera_bytes, decodeTracking_bytes, decodeEjector_bytes, decodeClock_bytes,
    decodeDevice_bytes⟩
  · rw [Stream.bytes, if_neg (by rw [hd]; decide)]
    exact decodeStream_fields x.cfg hv h1 h2
  · rw [Robot.bytes, if_neg (by rw [hd]; decide)]
    exact decodeRobot_fields x hw hp1 hp2 hph hdl ho ht1 ht2 hr

end Sys2Proof.Machine
end


section
/-! SUPPORT. How many records the notice queue gains as notices of a few kinds and subjects are raised (R176,
R181). -/

namespace Sys2Proof.Machine

/-- The kind and the subject of a notice. -/
def NoticeEvent.key (e : NoticeEvent) : Nat × Nat × Nat := (e.kind, e.subject)

/-- The queue has gained records, each of another kind and subject out of `ks`. -/
def NoticeBlock.grown (ks : List (Nat × Nat × Nat)) (a b : NoticeBlock) : Prop :=
  ∃ l : List (Nat × Nat × Nat), (b.records.map fun r => r.event.key) = (a.records.map fun r => r.event.key) ++ l ∧
    l.Nodup ∧ l ⊆ ks

/-- The keys of COUNTER_HALF and COUNTER_FULL of a counter. -/
def CounterRef.keys (c : CounterRef) : List (Nat × Nat × Nat) := [(26, c.subject), (27, c.subject)]

section
variable {ks : List (Nat × Nat × Nat)} {a b : NoticeBlock} {e : NoticeEvent} {s : State} {c : CounterRef}

theorem NoticeBlock.grown_refl : b.grown ks b := ⟨[], (List.append_nil _).symm, List.nodup_nil, List.nil_subset _⟩

theorem NoticeBlock.grown.length_le (h : a.grown ks b) : b.records.length ≤ a.records.length + ks.length := by
  obtain ⟨l, hl, hn, hs⟩ := h
  have hlen := congrArg List.length hl
  rw [List.length_map, List.length_append, List.length_map] at hlen
  have hle := (List.subperm_of_subset hn hs).length_le
  omega

theorem NoticeEvent.folds_iff (e f : NoticeEvent) : e.folds f = true ↔ e.key = f.key := by
  rw [NoticeEvent.folds, Bool.and_eq_true, beq_iff_eq, beq_iff_eq]
  exact (Prod.mk.injEq e.kind e.subject f.kind f.subject).symm.to_iff

theorem NoticeBlock.grown.put {now : BaseTime} (h : a.grown ks b) (hk : e.key ∈ ks) : a.grown ks (b.put e now).1 := by
  obtain ⟨l, hl, hn, hs⟩ := h
  obtain ⟨-, hput⟩ | ⟨hno, -, hput⟩ | ⟨-, -, hput⟩ := b.put_cases e now <;> rw [hput]
  · refine ⟨l, ?_, hn, hs⟩
    rw [← hl, List.map_map]
    refine List.map_congr_left fun r _ => ?_
    rw [Function.comp_apply]
    split
    · next hf => exact ((NoticeEvent.folds_iff _ _).mp hf).symm
    · rfl
  · have hnew : e.key ∉ l := fun hm => by
      have hmem : e.key ∈ b.records.map fun r => r.event.key := hl ▸ List.mem_append_right _ hm
      obtain ⟨r, hr, hre⟩ := List.mem_map.mp hmem
      have := (List.any_eq_true (p := fun r : NoticeRec => r.event.folds e)).mpr
        ⟨r, hr, (NoticeEvent.folds_iff _ _).mpr hre⟩
      rw [hno] at this
      cases this
    refine ⟨l ++ [e.key], ?_, ?_, ?_⟩
    · rw [List.map_append, hl, List.append_assoc]
      rfl
    · exact List.nodup_append.mpr ⟨hn, List.nodup_singleton _, fun x hx y hy => by
        rw [List.mem_singleton.mp hy]
        exact fun h => hnew (h ▸ hx)⟩
    · exact List.append_subset.mpr ⟨hs, fun x hx => List.mem_singleton.mp hx ▸ hk⟩
  · exact ⟨l, hl, hn, hs⟩

theorem bumpWith_grown {g : NoticeEvent → State → State} {n : Nat} (hc : c.keys ⊆ ks)
    (hg : ∀ e s, e.key ∈ ks → a.grown ks s.notices → a.grown ks (g e s).notices) (h : a.grown ks s.notices) :
    a.grown ks (bumpWith g c n s).notices := by
  have h' : a.grown ks ({ s with counters := s.counters.put (min (s.counter c + n) Config.counterMax) c } :
    State).notices := h
  have hhalf : ∀ v, (NoticeEvent.counterHalf c v).key ∈ ks := fun v => hc List.mem_cons_self
  have hfull : ∀ v, (NoticeEvent.counterFull c v).key ∈ ks := fun v => hc (List.mem_cons_of_mem _ List.mem_cons_self)
  unfold bumpWith
  dsimp only
  split <;> split
  · exact hg _ _ (hfull _) (hg _ _ (hhalf _) h')
  · exact hg _ _ (hfull _) h'
  · exact hg _ _ (hhalf _) h'
  · exact h'

variable (hd : CounterRef.keys (.device .noticesRaised) ⊆ ks)
include hd

theorem raiseDepth_grown (n : Nat) (hk : e.key ∈ ks) (h : a.grown ks s.notices) :
    a.grown ks (raiseDepth n e s).notices := by
  induction n generalizing e s with
  | zero => exact h.put hk
  | succ n ih =>
    have hg : ∀ e s, e.key ∈ ks → a.grown ks s.notices → a.grown ks (raiseDepth n e s).notices :=
      fun _ _ hk h => ih hk h
    have hput : a.grown ks (s.notices.put e s.clock.hall.base).1 := h.put hk
    unfold raiseDepth
    dsimp only
    split
    · exact bumpWith_grown hd hg hput
    · exact bumpWith_grown hd hg (bumpWith_grown hd hg hput)
    · exact bumpWith_grown hd hg (bumpWith_grown hd hg hput)

theorem NoticeBlock.grown.raise (h : a.grown ks s.notices) (e : NoticeEvent) (hk : e.key ∈ ks) :
    a.grown ks (Machine.raise e s).notices :=
  raiseDepth_grown hd 7 hk h

theorem NoticeBlock.grown.bump (h : a.grown ks s.notices) (c : CounterRef) (hc : c.keys ⊆ ks) :
    a.grown ks (Machine.bump c s).notices :=
  bumpWith_grown hc (fun e _ hk h => h.raise hd e hk) h

end

/-- A source that joins leaves a carried notice of another kind. -/
theorem joinHold_carries {e : NoticeEvent} {h : HoldSource} {s : State} (h1 : e.kind ≠ 26) (h2 : e.kind ≠ 27)
    (h3 : ∀ x, e.kind ≠ (NoticeEvent.holdSet x).kind) (hc : s.notices.carries e) :
    (joinHold h s).notices.carries e := by
  obtain ⟨-, hj⟩ | ⟨-, -, hj⟩ | ⟨-, -, hj⟩ := joinHold_cases h s <;> rw [hj]
  · exact hc
  · exact hc
  · exact bump_carries h1 h2 (raise_keeps_carried h1 h2 (h3 _) hc)

end Sys2Proof.Machine
end


section
/-! A robot that is lost, and the status frames of one (R95, R97 to R100). -/

namespace Sys2Proof.Machine

section
variable {r : RobotId} {s : State}

/-! ## A robot judged into LOST (R98, R100) -/

/-- The loss of a robot, counted and noticed. -/
def State.lossNoted (s : State) (r : RobotId) : State :=
  raise (.robotLost r s.robots[r].state)
    (bump (.robot r .losses) (s.modRobot r fun b => { b with state := .lost }))

/-- A loss in probation bars the robot, and is noticed. -/
def State.lossJudged (s : State) (r : RobotId) : State :=
  if 0 < s.robots[r].probation then
    raise (.robotBarred r s.robots[r].probation) ((s.lossNoted r).modRobot r fun b => { b with barred := true })
  else s.lossNoted r

theorem lossNoted_robot : (s.lossNoted r).robots[r] = { s.robots[r] with state := .lost } := by
  rw [State.lossNoted, raise_robot, bump_robot, State.modRobot_get]

theorem lossJudged_robot : (s.lossJudged r).robots[r] = { s.robots[r] with
    state := .lost, barred := s.robots[r].barred || decide (0 < s.robots[r].probation) } := by
  unfold State.lossJudged
  split
  · next h => rw [raise_robot, State.modRobot_get, lossNoted_robot, decide_eq_true h, Bool.or_true]
  · next h => rw [lossNoted_robot, decide_eq_false h, Bool.or_false]

/-- A lost robot is a hold source by its policy, or where it is barred. -/
theorem loseRobot_eq (hb : s.robots[r].barred = false) : loseRobot r s =
    if s.robots[r].cfg.lossPolicy = .holdLine ∨ 0 < s.robots[r].probation then joinHold (.robot r) (s.lossJudged r)
    else s.lossJudged r := by
  have hj := lossJudged_robot (s := s) (r := r)
  have hn := lossNoted_robot (s := s) (r := r)
  unfold State.lossJudged at hj ⊢
  have e : loseRobot r s = if (s.lossJudged r).robots[r].cfg.lossPolicy = .holdLine ∨
      (s.lossJudged r).robots[r].barred then joinHold (.robot r) (s.lossJudged r) else s.lossJudged r := by
    unfold State.lossJudged
    rw [show s.robots[r].probation = (s.lossNoted r).robots[r].probation by rw [hn]]
    rfl
  rw [e, lossJudged_robot, hb, Bool.false_or]
  simp only [decide_eq_true_eq]
  rfl

theorem lossNoted_hold : (s.lossNoted r).hold = s.hold := by
  rw [State.lossNoted, raise_hold, bump_hold]
  rfl

theorem lossJudged_hold : (s.lossJudged r).hold = s.hold := by
  unfold State.lossJudged
  split
  · rw [raise_hold]
    exact lossNoted_hold
  · exact lossNoted_hold

theorem lossNoted_losses : (s.lossNoted r).counter (.robot r .losses) =
    min (s.counter (.robot r .losses) + 1) Config.counterMax := by
  rw [State.lossNoted, raise_counter _ _ _ rfl, bump_counter _ _ _ rfl, if_pos rfl]
  rfl

theorem lossJudged_losses : (s.lossJudged r).counter (.robot r .losses) =
    min (s.counter (.robot r .losses) + 1) Config.counterMax := by
  unfold State.lossJudged
  split
  · rw [raise_counter _ _ _ rfl]
    exact lossNoted_losses
  · exact lossNoted_losses

theorem joinHold_losses (h : HoldSource) (s : State) :
    (joinHold h s).counter (.robot r .losses) = s.counter (.robot r .losses) :=
  congrFun (congrArg RobotSide.counts (joinHold_side (x := r) h s)) .losses

theorem loseRobot_losses (hb : s.robots[r].barred = false) : (loseRobot r s).counter (.robot r .losses) =
    min (s.counter (.robot r .losses) + 1) Config.counterMax := by
  rw [loseRobot_eq hb]
  split
  · rw [joinHold_losses, lossJudged_losses]
  · exact lossJudged_losses

theorem loseRobot_source (hb : s.robots[r].barred = false) (hp : s.hold.present.has (.robot r) = false) :
    (loseRobot r s).hold.present.has (.robot r) = true ↔
      s.robots[r].cfg.lossPolicy = .holdLine ∨ 0 < s.robots[r].probation := by
  rw [loseRobot_eq hb]
  split
  · next h => exact iff_of_true (joinHold_present ..) h
  · next h => exact iff_of_false (by rw [lossJudged_hold, hp]; decide) h

/-! ## The notices of a loss -/

/-- The kinds and subjects that the loss of a robot may raise. -/
def lossKeys (r : RobotId) : List (Nat × Nat × Nat) :=
  CounterRef.keys (.device .noticesRaised) ++ CounterRef.keys (.robot r .misses) ++
    [NoticeEvent.key (.robotLost r .running)]

theorem lossKeys_device (r : RobotId) : CounterRef.keys (.device .noticesRaised) ⊆ lossKeys r :=
  List.subset_append_of_subset_left _ (List.subset_append_left ..)

theorem lossKeys_robot (r : RobotId) (k : RobotCounter) : CounterRef.keys (.robot r k) ⊆ lossKeys r :=
  List.subset_append_of_subset_left _ (List.subset_append_right ..)

theorem lossKeys_lost (r : RobotId) (x : RobotState) : NoticeEvent.key (.robotLost r x) ∈ lossKeys r :=
  List.mem_append_right _ (List.mem_singleton.mpr rfl)

variable {a : NoticeBlock} (h : a.grown (lossKeys r) s.notices) (hroom : a.records.length ≤ 32)
include h hroom

theorem lossNoted_notices : (s.lossNoted r).notices.carries (.robotLost r s.robots[r].state) ∧
    a.grown (lossKeys r) (s.lossNoted r).notices := by
  have hb : a.grown (lossKeys r) (bump (.robot r .losses) (s.modRobot r fun b => { b with state := .lost })).notices :=
    h.bump (s := s.modRobot r _) (lossKeys_device r) (.robot r .losses) (lossKeys_robot r _)
  refine ⟨raise_carries nofun nofun ?_, hb.raise (lossKeys_device r) _ (lossKeys_lost r _)⟩
  exact Nat.lt_of_le_of_lt (hb.length_le.trans (Nat.add_le_add_right hroom _)) (show 32 + 5 < 64 by decide)

theorem lossJudged_notices : (s.lossJudged r).notices.carries (.robotLost r s.robots[r].state) ∧
    (0 < s.robots[r].probation → (s.lossJudged r).notices.carries (.robotBarred r s.robots[r].probation)) := by
  obtain ⟨hc, hg⟩ := lossNoted_notices h hroom
  unfold State.lossJudged
  split
  · refine ⟨raise_keeps_carried nofun nofun nofun hc, fun _ => raise_carries nofun nofun ?_⟩
    exact Nat.lt_of_le_of_lt (hg.length_le.trans (Nat.add_le_add_right hroom _)) (show 32 + 5 < 64 by decide)
  · next hp => exact ⟨hc, fun h => absurd h hp⟩

theorem loseRobot_notices (hb : s.robots[r].barred = false) :
    (loseRobot r s).notices.carries (.robotLost r s.robots[r].state) ∧
    (0 < s.robots[r].probation → (loseRobot r s).notices.carries (.robotBarred r s.robots[r].probation)) := by
  obtain ⟨hl, hbar⟩ := lossJudged_notices h hroom
  rw [loseRobot_eq hb]
  split
  · exact ⟨joinHold_carries nofun nofun nofun hl, fun hp => joinHold_carries nofun nofun nofun (hbar hp)⟩
  · exact ⟨hl, hbar⟩

end

/-! ## A judged miss (R97) -/

/-- The robot's miss counted, before the tolerance is tested. -/
def State.missNoted (s : State) (r : RobotId) (n : Nat) : State :=
  bump (.robot r .misses) (s.modRobot r fun b => { b with missCount := n })

theorem judgePeriod_loses {r : RobotId} {s : State} {n : Nat} (hh : s.robots[r].hit = none)
    (hs : s.robots[r].state = .running ∧ n = 1 ∨
      (s.robots[r].state = .late ∨ s.robots[r].state = .parked) ∧ n = s.robots[r].missCount + 1)
    (hn : n ≤ 15) (ht : s.robots[r].cfg.tolerance ≤ n) : judgePeriod r s = loseRobot r (s.missNoted r n) := by
  have hmay : s.robots[r].state.mayMiss := by
    obtain ⟨h, -⟩ | ⟨h | h, -⟩ := hs
    exacts [.inl h, .inr (.inl h), .inr (.inr h)]
  have hcount : (if s.robots[r].state = .running then 1 else min (s.robots[r].missCount + 1) 15) = n := by
    obtain ⟨h, rfl⟩ | ⟨h, rfl⟩ := hs
    · rw [if_pos h]
    · rw [if_neg (by rcases h with h | h <;> rw [h] <;> decide), Nat.min_eq_left hn]
  rw [judgePeriod_missed hmay hh]
  unfold missRobot
  dsimp only
  rw [hcount, if_pos ht]
  rfl

theorem missNoted_robot (r : RobotId) (s : State) (n : Nat) :
    (s.missNoted r n).robots[r] = { s.robots[r] with missCount := n } := by
  rw [State.missNoted, bump_robot, State.modRobot_get]

/-! ## A status frame (R95) -/

section
variable {r : RobotId} {i : StreamId} {octets : Octets} {recv : HallTime} {s : State}

theorem recordHit_uncounted (r : RobotId) (octets : Octets) (s : State) : (recordHit r octets s).uncounted =
    (s.modRobot r fun b => { b with hit := if b.hit.isSome then b.hit else some (readsParked b.cfg octets) }).uncounted := by
  unfold recordHit
  dsimp only
  split
  · next x hh =>
    rw [bump_uncounted]
    refine congrArg (fun v => ({ s with robots := v } : State).uncounted) (upd_fixed _ _ _ ?_).symm
    rw [if_pos (by rw [hh]; rfl)]
  · next hh =>
    rw [bump_uncounted]
    refine congrArg (fun v => ({ s with robots := v } : State).uncounted) (upd_congr _ _ _ _ ?_)
    rw [if_neg (by rw [hh]; decide)]

theorem recordHit_effects (s : State) : Effects s (recordHit r octets s) s.clock.hall.base
    [if s.robots[r].hit.isSome then .robot r .extraStatus else .robot r .statusHits] [] := by
  unfold recordHit
  dsimp only
  cases s.robots[r].hit with
  | some x => exact (Effects.refl s _).bump (.robot r .extraStatus)
  | none =>
    have h0 := Effects.start s (s.modRobot r fun b => { b with hit := some (readsParked b.cfg octets) })
      s.clock.hall.base rfl rfl
    exact h0.bump (.robot r .statusHits)

theorem recordHit_clock (s : State) : (recordHit r octets s).clock = s.clock := by
  unfold recordHit
  dsimp only
  split <;> rw [bump_clock]
  rfl

theorem noteLate_effects {u : State} {now : BaseTime} {l : List CounterRef} (h : Effects s u now l [])
    (hnow : u.clock.hall.base = now) (past : Option Nat) :
    Effects s (noteLate r i past u) now (l ++ [.robot r .lateStatus, .stream i .late]) [.statusLate r past] := by
  have h0 := (h.bump (.robot r .lateStatus)).bump (.stream i .late)
  rw [List.append_assoc] at h0
  exact h0.raise (.statusLate r past) (by rw [bump_clock, bump_clock, hnow])

theorem statusFrame_unarmed (h : s.robots[r].state.armed = false) : statusFrame r i octets recv s = s := by
  rw [statusFrame, h]
  rfl

/-- What a status frame of an armed robot with a sound record comes to. -/
theorem statusFrame_armed (ha : s.robots[r].state.armed = true) (hd : s.robots[r].damaged = false)
    (he : s.robots[r].ecc = .clean) : statusFrame r i octets recv s =
      if HallTime.diff recv s.robots[r].periodStart < 0 then noteLate r i none s
      else if s.robots[r].cfg.deadline = 0 ∨
        HallTime.diff recv s.robots[r].periodStart ≤ (s.robots[r].cfg.deadline * fracPerNs : Nat) then
        recordHit r octets s
      else noteLate r i (some ((HallTime.diff recv s.robots[r].periodStart -
        (s.robots[r].cfg.deadline * fracPerNs : Nat)) / (fracPerNs : Int)).toNat) (recordHit r octets s) := by
  unfold statusFrame
  dsimp only
  rw [checkRobot_clean r .supervision s hd he, ha]
  rfl

end

/-- Settles O15: a loss, and the status frames by their receive time. -/
theorem toleranceReachedLosesRobot : Obligations.ToleranceReachedLosesRobot := by
  refine ⟨fun r s n hh hs hn ht hb => ?_, fun r i octets recv s d past => ⟨statusFrame_unarmed,
    fun ha hd he hdiff hpast => ⟨fun hneg => ?_, fun hpos => ?_⟩⟩⟩
  · have hm := missNoted_robot r s n
    have hmb : (s.missNoted r n).robots[r].barred = false := by rw [hm, hb]
    have hmh : (s.missNoted r n).hold = s.hold := by rw [State.missNoted, bump_hold]; rfl
    have hside (x : RobotId) (hx : x ≠ r) : (judgePeriod r s).robots[x] = s.robots[x] :=
      congrArg RobotSide.robot (judgePeriod_side hx s)
    refine ⟨?_, ?_, ?_, fun hp => ?_, ?_, fun hroom => ?_, hside⟩ <;> rw [judgePeriod_loses hh hs hn ht]
    · rw [loseRobot_robot]
    · rw [loseRobot_robot, hm]
    · rw [loseRobot_robot, hm, hb, Bool.false_or, decide_eq_true_eq]
    · rw [loseRobot_source hmb (by rw [hmh, hp]), hm]
    · rw [loseRobot_losses hmb, State.missNoted, bump_counter_other _ _ _ rfl (by simp)]
      rfl
    · have hg : s.notices.grown (lossKeys r) (s.missNoted r n).notices :=
        NoticeBlock.grown.bump (s := s.modRobot r fun b => { b with missCount := n }) (lossKeys_device r)
          NoticeBlock.grown_refl (.robot r .misses) (lossKeys_robot r _)
      have hl := loseRobot_notices hg hroom hmb
      rwa [hm] at hl
  · rw [statusFrame_armed ha hd he, if_pos (hdiff ▸ hneg)]
    exact ⟨noteLate_uncounted .., noteLate_effects (Effects.refl s _) rfl none⟩
  · rw [statusFrame_armed ha hd he, ← hdiff, if_neg (Int.not_lt.mpr hpos)]
    have hcast : ((s.robots[r].cfg.deadline * fracPerNs : Nat) : Int) = s.robots[r].cfg.deadline * fracPerNs :=
      Nat.cast_mul ..
    have he := recordHit_effects (r := r) (octets := octets) s
    by_cases hlate : s.robots[r].cfg.deadline ≠ 0 ∧ 0 < past
    · rw [if_neg (by rw [hcast]; omega), if_pos hlate, if_pos hlate, hcast, ← hpast]
      refine ⟨(noteLate_uncounted ..).trans (recordHit_uncounted ..), ?_⟩
      exact noteLate_effects he (by rw [recordHit_clock]) _
    · rw [if_pos (by rw [hcast]; omega), if_neg hlate, if_neg hlate]
      exact ⟨recordHit_uncounted .., he⟩

end Sys2Proof.Machine
end


section
/-! The controller watch and the command frames of armed robots (R16, R32, R102, R106 to R108). -/

namespace Sys2Proof.Machine

/-! ## The controller lost (R106) -/

section
variable {s : State}

theorem controllerDue_iff : s.controllerDue = true ↔ s.watch.state = .watching ∧
    s.watch.restartTime + s.device.controllerTimeout * 1000 ≤ s.clock.run := by
  rw [State.controllerDue, Bool.and_eq_true, decide_eq_true_eq, decide_eq_true_eq]

/-- The watch LOST, with the loss counted and noticed. -/
def State.controllerGone (s : State) : State :=
  raise (.controllerLost s.watch.action) (bump .controllerLosses
    (s.modWatch fun w => { w with state := .lost, lostAt := s.clock.run }))

theorem loseController_eq (s : State) : loseController s =
    if s.watch.action = .holdLine then joinHold .controller s.controllerGone else s.controllerGone := by
  have hw : s.controllerGone.watch.action = s.watch.action := by
    rw [State.controllerGone, raise_watch, bump_watch]
    rfl
  have e : loseController s =
      if s.controllerGone.watch.action = .holdLine then joinHold .controller s.controllerGone
      else s.controllerGone := rfl
  rw [e, hw]

theorem controllerGone_uncounted (s : State) : s.controllerGone.uncounted =
    ({ s with watch := { s.watch with state := .lost, lostAt := s.clock.run } } : State).uncounted := by
  rw [State.controllerGone, raise_uncounted, bump_uncounted]
  rfl

theorem controllerGone_hold (s : State) : s.controllerGone.hold = s.hold :=
  (congrArg State.hold (controllerGone_uncounted s) :)

theorem controllerGone_losses (s : State) : s.controllerGone.counter .controllerLosses =
    min (s.counter .controllerLosses + 1) Config.counterMax := by
  rw [State.controllerGone, raise_counter _ _ _ rfl, bump_counter _ _ _ rfl, if_pos rfl]
  rfl

theorem controllerGone_carries (h : s.notices.records.length ≤ 32) :
    s.controllerGone.notices.carries (.controllerLost s.watch.action) := by
  have hg : s.notices.grown (CounterRef.keys (.device .noticesRaised) ++ CounterRef.keys .controllerLosses)
      (bump .controllerLosses (s.modWatch fun w => { w with state := .lost, lostAt := s.clock.run })).notices :=
    NoticeBlock.grown.bump (s := s.modWatch fun w => { w with state := .lost, lostAt := s.clock.run })
      (List.subset_append_left ..) NoticeBlock.grown_refl .controllerLosses (List.subset_append_right ..)
  refine raise_carries nofun nofun ?_
  exact Nat.lt_of_le_of_lt (hg.length_le.trans (Nat.add_le_add_right h _)) (show 32 + 4 < 64 by decide)

theorem joinHold_controllerLosses (h : HoldSource) (s : State) :
    (joinHold h s).counter .controllerLosses = s.counter .controllerLosses := by
  obtain ⟨-, e⟩ | ⟨-, -, e⟩ | ⟨-, -, e⟩ := joinHold_cases h s <;> rw [e]
  · rfl
  · rw [bump_counter_other _ _ _ rfl (by simp), raise_counter _ _ _ rfl]
    rfl

theorem loseController_spec (s : State) :
    (loseController s).uncounted = ({ s with
      watch := { s.watch with state := .lost, lostAt := s.clock.run }, hold := (loseController s).hold } : State).uncounted ∧
    (loseController s).counter .controllerLosses = min (s.counter .controllerLosses + 1) Config.counterMax ∧
    (s.notices.records.length ≤ 32 → (loseController s).notices.carries (.controllerLost s.watch.action)) ∧
    (s.watch.action = .report → (loseController s).hold = s.hold) ∧
    (s.watch.action = .holdLine →
      (loseController s).hold.latch = true ∧
          (loseController s).hold.present = { s.hold.present with controller := true } ∨
        s.hold.present.controller = true ∧ (loseController s).hold = s.hold) := by
  have hu := controllerGone_uncounted s
  have hh := controllerGone_hold s
  rw [loseController_eq]
  cases ha : s.watch.action with
  | report =>
    rw [if_neg nofun]
    refine ⟨?_, controllerGone_losses s, fun h => ha ▸ controllerGone_carries h, fun _ => hh, nofun⟩
    rw [hu, hh]
  | holdLine =>
    rw [if_pos rfl]
    refine ⟨?_, ?_, fun h => joinHold_carries nofun nofun nofun (ha ▸ controllerGone_carries h), nofun, fun _ => ?_⟩
    · rw [joinHold_frame]
      exact congrArg (fun t : State => { t with hold := (joinHold .controller s.controllerGone).hold }) hu
    · rw [joinHold_controllerLosses, controllerGone_losses]
    · obtain ⟨hp, e⟩ | ⟨-, hl, e⟩ | ⟨-, -, e⟩ := joinHold_cases .controller s.controllerGone <;> rw [e]
      · exact .inr ⟨hh ▸ hp, hh⟩
      · refine .inl ⟨hl, ?_⟩
        rw [← hh]
        rfl
      · refine .inl ⟨by rw [bump_hold, raise_hold]; rfl, ?_⟩
        rw [bump_hold, raise_hold, ← hh]
        rfl

end

/-! ## A command accepted (R102, R106, R107) -/

/-- The watch restarted, and a loss ended. -/
def State.accepted (s : State) : State :=
  { s with
    watch := if s.watch.state = .idle then s.watch
             else { s.watch with state := .watching, restartTime := s.clock.run }
    hold := if s.watch.state = .lost then
              { s.hold with present := { s.hold.present with controller := false } }
            else s.hold }

/-- The notice of a loss that ends. -/
def State.backNotices (s : State) : List NoticeEvent :=
  if s.watch.state = .lost then [.controllerBack ((s.clock.run - s.watch.lostAt) / 1000)] else []

theorem acceptedCommand_uncounted (s : State) : (acceptedCommand s).uncounted = s.accepted.uncounted := by
  unfold acceptedCommand State.accepted
  cases hs : s.watch.state with
  | idle => rfl
  | watching =>
    simp only [reduceCtorEq, if_false]
    rw [← hs]
    rfl
  | lost =>
    simp only [reduceCtorEq, if_false, if_true]
    exact congrArg (leaveHold .controller) (raise_uncounted (.controllerBack (toMs (s.clock.run - s.watch.lostAt)))
      (startWatch s))

theorem acceptedCommand_effects {s t : State} {now : BaseTime} {l : List CounterRef} (h : Effects s t now l [])
    (hnow : t.clock.hall.base = now) : Effects s (acceptedCommand t) now l t.backNotices := by
  unfold acceptedCommand State.backNotices
  cases t.watch.state with
  | idle => exact h
  | watching => exact h.congr rfl rfl
  | lost =>
    have h0 : Effects s (startWatch t) now l [] := h.congr rfl rfl
    exact (h0.raise (.controllerBack (toMs (t.clock.run - t.watch.lostAt))) hnow).congr rfl rfl

/-! ## A command placed (R32, R102) -/

section
variable {s t u : State} {r : RobotId} {i : StreamId} {cells : List CellId} {h : CellId} {octets : Octets}

theorem releaseOpt_uncounted (k : Option CellId) (s : State) : (s.releaseOpt k).uncounted = s.uncounted.releaseOpt k := by
  cases k <;> rfl

/-- The frame stored as a command, where an older one gave up its reference. -/
def State.commandStored (s : State) (old : Option CellId) (cells : List CellId) (octets : Octets) : State :=
  (s.releaseOpt old).modMem fun m => m.store { cells := cells, octets := octets, refs := 1, kind := .received }

theorem commandStored_congr (hu : s.uncounted = t.uncounted) (old : Option CellId) (f : Robot → Robot) :
    ((s.commandStored old cells octets).modRobot r f).uncounted =
      ((t.commandStored old cells octets).modRobot r f).uncounted := by
  rw [eq_recounted hu.symm]
  cases old <;> rfl

theorem commandStored_counters (s : State) (old : Option CellId) (f : Robot → Robot) :
    ((s.commandStored old cells octets).modRobot r f).counters = s.counters := by
  cases old <;> rfl

theorem commandStored_notices (s : State) (old : Option CellId) (f : Robot → Robot) :
    ((s.commandStored old cells octets).modRobot r f).notices = s.notices := by
  cases old <;> rfl

theorem placeCommand_early (hc : cells.head? = some h) (ho : s.robots[r].openingTaken = false) :
    placeCommand r i cells octets s =
      if s.robots[r].slot.isSome then bump (.robot r .overwritten)
        ((s.commandStored s.robots[r].slot cells octets).modRobot r fun b => { b with slot := some h })
      else (s.commandStored s.robots[r].slot cells octets).modRobot r fun b => { b with slot := some h } := by
  obtain ⟨l, rfl⟩ := List.head?_eq_some_iff.mp hc
  unfold placeCommand
  dsimp only
  rw [ho, if_neg Bool.false_ne_true]
  rfl

theorem placeCommand_late (hc : cells.head? = some h) (ho : s.robots[r].openingTaken = true) :
    placeCommand r i cells octets s = bump (.stream i .late) (bump (.robot r .lateCommands)
      ((s.commandStored s.robots[r].store cells octets).modRobot r fun b =>
        { b with store := some h, repeatsUsed := 0 })) := by
  obtain ⟨l, rfl⟩ := List.head?_eq_some_iff.mp hc
  unfold placeCommand
  dsimp only
  rw [ho, if_pos rfl]
  rfl

/-- The frame of an armed robot's command stream is taken as a command (R16, R102). -/
theorem matchedFrame_command (a : Arrival) (hl : a.octets.length ≤ s.streams[i].cfg.maxLength)
    (hrole : s.streams[i].cfg.role = .command) (hsub : s.streams[i].cfg.subject = .robot r)
    (hcmd : s.robots[r].cfg.commandStream = i) (ha : s.robots[r].state.armed = true)
    (hd : s.robots[r].damaged = false) (he : s.robots[r].ecc = .clean) : matchedFrame a i s =
      takeCommand a i r (s.egressPorts s.streams[i].cfg.egress a.port) (countStream i a.octets s) := by
  have hu := countStream_uncounted i a.octets s
  have hs := streams_of_uncounted hu
  have hr := robots_of_uncounted hu
  have hn : commandRobot i (countStream i a.octets s) = (countStream i a.octets s, some r) := by
    unfold commandRobot
    rw [hs, hrole, hsub]
    dsimp only
    rw [hr, if_pos ⟨ha, hcmd⟩, checkRobot_clean r .supervision _ (by rw [hr]; exact hd) (by rw [hr]; exact he), hr, ha]
    rfl
  unfold matchedFrame
  dsimp only
  rw [if_neg (Nat.not_lt.mpr hl), hn]

theorem takeCommand_unforwarded (a : Arrival) : takeCommand a i r [] s =
    (bump (.port a.port .unforwarded) (acceptedCommand s)).give a.cells := rfl

theorem takeCommand_placed (a : Arrival) {ports : List PortId} (hp : ports ≠ []) :
    takeCommand a i r ports s = placeCommand r i a.cells a.octets (acceptedCommand s) := by
  cases ports with
  | nil => exact absurd rfl hp
  | cons p l => rfl

end

/-- A good frame of an armed robot's command stream is accepted, and is placed where its egress set holds a
port (R102). -/
theorem commandFrame_taken {s : State} {p : PortId} {octets : Octets} {c : Reception} {i : StreamId} {r : RobotId}
    (hp : p.val < 10) (hg : GoodArrival s p octets c) (ho : ordinary octets) (hm : s.matched p octets i)
    (hl : octets.length ≤ s.streams[i].cfg.maxLength) (hrole : s.streams[i].cfg.role = .command)
    (hsub : s.streams[i].cfg.subject = .robot r) (hcmd : s.robots[r].cfg.commandStream = i)
    (ha : s.robots[r].state.armed = true) (hd : s.robots[r].damaged = false) (hecc : s.robots[r].ecc = .clean) :
    ∃ w, w.uncounted = (s.received p).accepted.uncounted ∧
      Effects s w s.clock.hall.base (receivedCounts p octets ++ streamCounts i octets) s.backNotices ∧
      (s.egressPorts s.streams[i].cfg.egress p = [] → exec (.frameReceptionEnd p octets) s =
        .next ((bump (.port p .unforwarded) w).give c.cells)) ∧
      (s.egressPorts s.streams[i].cfg.egress p ≠ [] → exec (.frameReceptionEnd p octets) s =
        .next (placeCommand r i c.cells octets w)) := by
  have hgu := countGood_uncounted (arrivalOf p octets c) (s.received p)
  have hx := exec_matched hp hg ho hm
  have he := countGood_effects hg s.clock.hall.base
  generalize countGood _ (s.received p) = v at hgu hx he
  have hs : v.streams = s.streams := streams_of_uncounted (s := s.received p) hgu
  have hr : v.robots = s.robots := robots_of_uncounted (s := s.received p) hgu
  rw [matchedFrame_command (r := r) _ (by rw [hs]; exact hl) (by rw [hs]; exact hrole) (by rw [hs]; exact hsub)
    (by rw [hr]; exact hcmd) (by rw [hr]; exact ha) (by rw [hr]; exact hd) (by rw [hr]; exact hecc), hs,
    (SameQueues.of_uncounted hgu).egressPorts] at hx
  have hcu : (countStream i octets v).uncounted = (s.received p).uncounted := (countStream_uncounted ..).trans hgu
  have hce := countStream_effects he i hg.long
  change exec (.frameReceptionEnd p octets) s = .next (takeCommand (arrivalOf p octets c) i r
    (s.egressPorts s.streams[i].cfg.egress p) (countStream i octets v)) at hx
  generalize countStream i octets v = v at hcu hce hx
  have hc : v.clock = s.clock := (congrArg State.clock hcu :)
  have hw : v.watch = s.watch := (congrArg State.watch hcu :)
  have hback := acceptedCommand_effects hce (by rw [hc])
  rw [State.backNotices, hc, hw] at hback
  refine ⟨_, (acceptedCommand_uncounted _).trans (congrArg State.accepted hcu), hback, fun hno => ?_, fun hports => ?_⟩
  · rw [hx, hno]
    rfl
  · rw [hx, takeCommand_placed _ hports]
    rfl

/-- Settles O16: the timeout on both sides, and a command frame by its opening and its egress set. -/
theorem controllerTimeoutLosesController : Obligations.ControllerTimeoutLosesController := by
  refine ⟨fun s => ⟨fun hw hd => ?_, fun h => ?_⟩, fun p octets s u c i r h back hp hg ho hm hl hrole hsub hcmd ha
    hdam hecc hcell hu hback => ?_⟩
  · exact ⟨_, congrArg Host.Outcome.next (if_pos (controllerDue_iff.mpr ⟨hw, hd⟩)), loseController_spec s⟩
  · refine congrArg Host.Outcome.next (if_neg fun hd => ?_)
    obtain ⟨hw, hd⟩ := controllerDue_iff.mp hd
    obtain h | h := h
    · exact h hw
    · omega
  obtain ⟨w, hwu, hae, hnone, hsome⟩ := commandFrame_taken hp hg ho hm hl hrole hsub hcmd ha hdam hecc
  rw [State.backNotices, ← hback] at hae
  have hau : w.uncounted = u.uncounted := by
    rw [hwu, hu]
    rfl
  have hrobots : w.robots = s.robots := (congrArg State.robots hwu :)
  have hcounts : receivedCounts p octets ++ streamCounts i octets ++ [] = receivedCounts p octets ++ streamCounts i octets :=
    List.append_nil _
  refine ⟨fun hno => ?_, fun hports hop => ?_, fun hports hop => ?_⟩
  · refine ⟨_, hnone hno, ?_, (hae.bump (.port p .unforwarded)).congr rfl rfl⟩
    have hmem : u.mem = s.mem := by rw [hu]; rfl
    rw [← hmem]
    exact give_uncounted ((bump_uncounted ..).trans hau) _
  · have hx := hsome hports
    rw [placeCommand_early hcell (by rw [hrobots]; exact hop), hrobots] at hx
    have hw := commandStored_congr (r := r) (cells := c.cells) (octets := octets) hau s.robots[r].slot
      fun b => { b with slot := some h }
    have hwe := hae.congr (commandStored_counters (r := r) (cells := c.cells) (octets := octets) w s.robots[r].slot
      fun b => { b with slot := some h }) (commandStored_notices w s.robots[r].slot fun b => { b with slot := some h })
    by_cases hslot : s.robots[r].slot.isSome = true
    · rw [if_pos hslot] at hx ⊢
      exact ⟨_, hx, (bump_uncounted ..).trans hw, hwe.bump (.robot r .overwritten)⟩
    · rw [if_neg hslot] at hx ⊢
      rw [hcounts]
      exact ⟨_, hx, hw, hwe⟩
  · have hx := hsome hports
    rw [placeCommand_late hcell (by rw [hrobots]; exact hop), hrobots] at hx
    have hw := commandStored_congr (r := r) (cells := c.cells) (octets := octets) hau s.robots[r].store
      fun b => { b with store := some h, repeatsUsed := 0 }
    have hwe := hae.congr (commandStored_counters (r := r) (cells := c.cells) (octets := octets) w s.robots[r].store
      fun b => { b with store := some h, repeatsUsed := 0 })
      (commandStored_notices w s.robots[r].store fun b => { b with store := some h, repeatsUsed := 0 })
    have hlate := (hwe.bump (.robot r .lateCommands)).bump (.stream i .late)
    rw [List.append_assoc _ [_] [_]] at hlate
    exact ⟨_, hx, (bump_uncounted ..).trans ((bump_uncounted ..).trans hw), hlate⟩

end Sys2Proof.Machine
end


section
/-! The boundary of a switch-over (R72). -/

namespace Sys2Proof.Machine

section
variable {p : PortId} {s : State} {l : GateList}

/-- An engine whose pending list has taken over at the instant `start`. -/
def Gate.switched (g : Gate) (l : GateList) (k start : Int) : Gate :=
  { g with mode := .running, active := some l, loaded := none, commit := false, activation := none
           commitFrom := none, cycleIndex := k, windowIndex := 0, cycleStart := start, disturbed := false }

/-- The state in which the boundary of a switch-over has been signalled and the list has taken over. -/
def State.switchedOver (s : State) (p : PortId) (l : GateList) (k : Int) : State :=
  changeGate p (fun g => g.switched l k s.gates[p].cycleEnd)
    (signalBoundary p k s.gates[p].disturbed (HallTime.ofNs s.gates[p].cycleEnd) s)

theorem takeBoundary_switch (h : s.gates[p].switchDue = some l) : takeBoundary p s =
    signalWindow p 0 (raise (.scheduleApplied p (l.indexAfter s.gates[p].cycleEnd - 1))
      (s.switchedOver p l (l.indexAfter s.gates[p].cycleEnd - 1))) := by
  unfold takeBoundary
  dsimp only
  rw [h]
  rfl

/-- The boundaries of the current list are apart. -/
theorem boundaryAt_inj {g : Gate} {i j : Int}
    (hg : g.mode = .opened ∨ g.mode = .running ∧ ∃ a, g.active = some a ∧ 0 < a.cycle)
    (h : g.boundaryAt i = g.boundaryAt j) : i = j := by
  unfold Gate.boundaryAt at h
  obtain hm | ⟨hm, a, ha, hc⟩ := hg
  · rw [hm] at h
    exact Int.eq_of_mul_eq_mul_right (by decide) h
  · rw [hm, ha] at h
    exact Int.eq_of_mul_eq_mul_right (by omega) (Int.add_left_cancel h)

theorem switchDue_of_switchAt {g : Gate} {T : Int}
    (hg : g.mode = .opened ∨ g.mode = .running ∧ ∃ a, g.active = some a ∧ 0 < a.cycle) (hc : g.commit = true)
    (he : g.cycleEnd = T) (ht : g.switchAt = some T) : g.switchDue = g.loaded := by
  rw [Gate.switchAt, if_pos hc, Option.some_inj, ← he] at ht
  exact if_pos ⟨hc, boundaryAt_inj hg ht⟩

theorem exec_switch {c : Instr} (hc : BoundaryCommand c s.gates[p] p)
    (hr : s.clock.hall.reached s.gates[p].cycleEnd = true) : exec c s = .next (takeBoundary p s) := by
  obtain ⟨hm, rfl⟩ | ⟨hm, rfl⟩ := hc
  · exact congrArg Host.Outcome.next (if_pos ⟨hm, hr⟩)
  · exact congrArg Host.Outcome.next (if_pos ⟨hm, hr⟩)

theorem switchedOver_quiet {k : Int} (h : ∀ r : RobotId, s.robots[r].port = some p → s.robots[r].state.armed = false) :
    (s.switchedOver p l k).counters = s.counters ∧ (s.switchedOver p l k).notices = s.notices := by
  have hn (r : RobotId) : s.robots[r].port ≠ some p ∨ s.robots[r].state.armed = false :=
    (em (s.robots[r].port = some p)).symm.imp_right (h r)
  rw [State.switchedOver, signalBoundary_nobody (h := hn), changeGate_frame]
  exact ⟨rfl, rfl⟩

theorem switchedOver_beside (k : Int) : (s.switchedOver p l k).beside =
    (s.modGate p fun g => g.switched l k s.gates[p].cycleEnd).beside := by
  rw [State.switchedOver, changeGate_beside]
  exact modGate_beside (signalBoundary_beside ..) p _

end

/-- Settles O13: the due switch-over at the end of the cycle in progress. -/
theorem switchOverTakesTheList : Obligations.SwitchOverTakesTheList := by
  intro p s l T k1 hg hc hl hcyc he ht hr h1 h2
  have hk : l.indexAfter T = k1 := ((GateList.indexAfter_eq_iff T k1 hcyc).mpr ⟨h1, h2⟩).symm
  have hcmd : BoundaryCommand (if s.gates[p].mode = .opened then .openGridBoundary p else .cycleBoundary p)
      s.gates[p] p := by
    obtain hm | ⟨hm, -⟩ := hg
    · exact .inl ⟨hm, if_pos hm⟩
    · exact .inr ⟨hm, if_neg (by rw [hm]; decide)⟩
  have hx := exec_switch hcmd (he.symm ▸ hr)
  rw [takeBoundary_switch ((switchDue_of_switchAt hg hc he ht).trans hl), he, hk] at hx
  have hbeside : (signalWindow p 0 (raise (.scheduleApplied p (k1 - 1)) (s.switchedOver p l (k1 - 1)))).beside =
      (s.modGate p fun g => g.switched l (k1 - 1) T).beside := by
    rw [signalWindow_beside, raise_beside, switchedOver_beside, he]
  exact ⟨_, _, hx, (mgmt_of_beside hbeside :), rfl, switchedOver_quiet, unsupervised_of_beside hbeside⟩

end Sys2Proof.Machine
end


section
/-! The time bases, and the transmit times that the advance of hall time writes (R8, R42, R44, R58, R60). -/

namespace Sys2Proof.Machine

theorem HallTime.ofUnits_units (u : Nat) : (HallTime.ofUnits u).units = u % (nsWrap * fracPerNs) := by
  have e : nsWrap * fracPerNs = fracPerNs * (nsPerSec * secWrap) := by
    simp only [nsWrap, nsPerSec, secWrap, fracPerNs]
  simp only [HallTime.units, HallTime.ofUnits]
  rw [e, Nat.mod_mul, Nat.mod_mul]
  ring

/-! ## The frames whose first octet leaves (R8) -/

section
variable {s u v : State} {p q : PortId} {x : Tx} {l : List PortId}

/-- The first octet of a piece leaves a port at this tick. -/
def State.departs (s : State) (p : PortId) (x : Tx) : Prop :=
  s.egress[p].tx = some x ∧ x.offset = 0 ∧ x.firstOctet p = s.clock.ticks

/-- The piece that departs is the probe of a sequence number. -/
def State.departsProbe (s : State) (p : PortId) (seq : Nat) : Prop :=
  ∃ x, s.departs p x ∧ s.kindOf x.frame = .rangeProbe seq

theorem stampSent_departs (h : s.departs p x) : stampSent p s = stampFrame p x s := by
  obtain ⟨htx, h0, ht⟩ := h
  unfold stampSent
  rw [htx]
  exact if_pos ⟨h0, ht⟩

theorem stampSent_stays (h : ∀ x, ¬s.departs p x) : stampSent p s = s := by
  unfold stampSent
  split
  · next x hx => exact if_neg fun ⟨h0, ht⟩ => h x ⟨hx, h0, ht⟩
  · rfl

theorem stampSent_probe {seq : Nat} (h : s.departs p x) (hk : s.kindOf x.frame = .rangeProbe seq) :
    stampSent p s = recordT1 seq s := by
  rw [stampSent_departs h, stampFrame, hk]

theorem stampSent_reply (h : s.departs p x) (hk : s.kindOf x.frame = .rangeReply) :
    stampSent p s = s.modEgress p fun e =>
      { e with tx := some { x with octets := rewriteAt x.octets 16 (timestampBytes s.clock.hall) } } := by
  rw [stampSent_departs h, stampFrame, hk]

theorem stampSent_unmarked (h : ∀ x, s.departs p x → (∀ n, s.kindOf x.frame ≠ .rangeProbe n) ∧
    s.kindOf x.frame ≠ .rangeReply) : stampSent p s = s := by
  by_cases hd : ∃ x, s.departs p x
  · obtain ⟨x, hx⟩ := hd
    obtain ⟨hp, hr⟩ := h x hx
    rw [stampSent_departs hx, stampFrame]
    cases hk : s.kindOf x.frame with
    | rangeProbe n => exact absurd hk (hp n)
    | rangeReply => exact absurd hk hr
    | _ => rfl
  · exact stampSent_stays fun x hx => hd ⟨x, hx⟩

/-- A departure is a probe's, a reply's, or writes nothing. -/
theorem stampSent_cases (p : PortId) (s : State) :
    (∃ x n, s.departs p x ∧ s.kindOf x.frame = .rangeProbe n ∧ stampSent p s = recordT1 n s) ∨
    (∃ x, s.departs p x ∧ s.kindOf x.frame = .rangeReply ∧ stampSent p s = s.modEgress p fun e =>
      { e with tx := some { x with octets := rewriteAt x.octets 16 (timestampBytes s.clock.hall) } }) ∨
    ((∀ x n, s.departs p x → s.kindOf x.frame ≠ .rangeProbe n) ∧
      (∀ x, s.departs p x → s.kindOf x.frame ≠ .rangeReply) ∧ stampSent p s = s) := by
  by_cases hp : ∃ x n, s.departs p x ∧ s.kindOf x.frame = .rangeProbe n
  · obtain ⟨x, n, hx, hk⟩ := hp
    exact .inl ⟨x, n, hx, hk, stampSent_probe hx hk⟩
  · by_cases hr : ∃ x, s.departs p x ∧ s.kindOf x.frame = .rangeReply
    · obtain ⟨x, hx, hk⟩ := hr
      exact .inr (.inl ⟨x, hx, hk, stampSent_reply hx hk⟩)
    · have hp' (x : Tx) (n : Nat) (hx : s.departs p x) : s.kindOf x.frame ≠ .rangeProbe n := fun hk => hp ⟨x, n, hx, hk⟩
      have hr' (x : Tx) (hx : s.departs p x) : s.kindOf x.frame ≠ .rangeReply := fun hk => hr ⟨x, hx, hk⟩
      exact .inr (.inr ⟨hp', hr', stampSent_unmarked fun x hx => ⟨(hp' x · hx), hr' x hx⟩⟩)

theorem departs_unique {y : Tx} (hx : s.departs p x) (hy : s.departs p y) : x = y :=
  Option.some.inj (hx.1.symm.trans hy.1)

theorem stampSent_kindOf (p : PortId) (s : State) (h : CellId) : (stampSent p s).kindOf h = s.kindOf h := by
  rw [stampSent_frame]
  rfl

theorem stampSent_clock (p : PortId) (s : State) :
    (stampSent p s).clock.hall = s.clock.hall ∧ (stampSent p s).clock.ticks = s.clock.ticks := by
  rw [stampSent_frame]
  exact ⟨rfl, rfl⟩

theorem stampSent_departs_iff (h : q ≠ p) : (stampSent p s).departs q x ↔ s.departs q x := by
  rw [State.departs, stampSent_other _ _ _ h, (stampSent_clock p s).2, State.departs]

theorem stampSent_departsProbe_iff (h : q ≠ p) (n : Nat) : (stampSent p s).departsProbe q n ↔ s.departsProbe q n := by
  simp only [State.departsProbe, stampSent_departs_iff h, stampSent_kindOf]

/-- A departure elsewhere does not bear on what a port's own leaves. -/
theorem stampSent_twice (h : q ≠ p) : (stampSent q (stampSent p s)).egress[q] = (stampSent q s).egress[q] := by
  obtain ⟨x, n, hx, hk, e⟩ | ⟨x, hx, hk, e⟩ | ⟨hp, hr, e⟩ := stampSent_cases q s
  · rw [e, stampSent_probe ((stampSent_departs_iff h).mpr hx) ((stampSent_kindOf ..).trans hk)]
    exact stampSent_other _ _ _ h
  · rw [e, stampSent_reply ((stampSent_departs_iff h).mpr hx) ((stampSent_kindOf ..).trans hk), (stampSent_clock p s).1]
    show (upd (stampSent p s).egress q _)[q.val] = (upd s.egress q _)[q.val]
    have ho : (stampSent p s).egress[q.val] = s.egress[q.val] := stampSent_other _ _ _ h
    rw [upd_same, upd_same, ho]
  · rw [e, stampSent_unmarked fun x hx => ?_, stampSent_other _ _ _ h]
    have hx' := (stampSent_departs_iff h).mp hx
    exact ⟨fun n hk => hp x n hx' ((stampSent_kindOf ..).symm.trans hk),
      fun hk => hr x hx' ((stampSent_kindOf ..).symm.trans hk)⟩

/-- What a port's departure makes of the outstanding probe. -/
theorem stampSent_probeOf (p : PortId) (s : State) :
    (s.clock.probe = none → (stampSent p s).clock.probe = none) ∧
    ∀ b, s.clock.probe = some b →
      (s.departsProbe p b.seq → (stampSent p s).clock.probe = some { b with t1 := some s.clock.hall }) ∧
      (¬s.departsProbe p b.seq → (stampSent p s).clock.probe = some b) := by
  obtain ⟨x, n, hx, hk, e⟩ | ⟨x, hx, hk, e⟩ | ⟨hp, -, e⟩ := stampSent_cases p s <;> rw [e]
  · refine ⟨fun h => congrArg (Option.map _) h, fun b hb => ⟨fun ⟨y, hy, hky⟩ => ?_, fun hno => ?_⟩⟩
    · rw [← departs_unique hx hy, hk, FrameKind.rangeProbe.injEq] at hky
      refine (congrArg (Option.map _) hb).trans ?_
      rw [Option.map_some, if_pos hky.symm]
    · refine (congrArg (Option.map _) hb).trans ?_
      rw [Option.map_some, if_neg fun hs => hno ⟨x, hx, hk.trans (congrArg _ hs.symm)⟩]
  · refine ⟨id, fun b hb => ⟨fun ⟨y, hy, hky⟩ => ?_, fun _ => hb⟩⟩
    rw [← departs_unique hx hy, hk] at hky
    cases hky
  · exact ⟨id, fun b hb => ⟨fun ⟨y, hy, hky⟩ => absurd hky (hp y _ hy), fun _ => hb⟩⟩

/-- What the departures from the ports of `l` leave. -/
structure Departed (l : List PortId) (s v : State) : Prop where
  frame : v = { s with clock := { s.clock with probe := v.clock.probe }, egress := v.egress }
  stamped : ∀ p ∈ l, v.egress[p] = (stampSent p s).egress[p]
  others : ∀ p, p ∉ l → v.egress[p] = s.egress[p]
  noProbe : s.clock.probe = none → v.clock.probe = none
  probe : ∀ b, s.clock.probe = some b →
    ((∃ p ∈ l, s.departsProbe p b.seq) → v.clock.probe = some { b with t1 := some s.clock.hall }) ∧
    ((¬∃ p ∈ l, s.departsProbe p b.seq) → v.clock.probe = some b)

theorem forEach_stampSent (l : List PortId) (hl : l.Nodup) (s : State) : Departed l s (forEach l stampSent s) := by
  induction l generalizing s with
  | nil => exact ⟨rfl, nofun, fun _ _ => rfl, id, fun b hb => ⟨fun ⟨_, h, _⟩ => absurd h List.not_mem_nil, fun _ => hb⟩⟩
  | cons p l ih =>
    obtain ⟨hp, hl⟩ := List.nodup_cons.mp hl
    have h := ih hl (stampSent p s)
    have hne {q : PortId} (hq : q ∈ l) : q ≠ p := fun e => hp (e ▸ hq)
    obtain ⟨hnone, hsome⟩ := stampSent_probeOf p s
    rw [forEach_cons]
    refine ⟨?_, fun q hq => ?_, fun q hq => ?_, fun hn => h.noProbe (hnone hn), fun b hb => ⟨?_, fun hno => ?_⟩⟩
    · have hframe := h.frame
      rw [stampSent_frame p s] at hframe ⊢
      exact hframe
    · obtain rfl | hq := List.mem_cons.mp hq
      · exact h.others _ hp
      · rw [h.stamped q hq, stampSent_twice (hne hq)]
    · obtain ⟨hqp, hql⟩ := not_or.mp (List.mem_cons.not.mp hq)
      rw [h.others q hql, stampSent_other _ _ _ hqp]
    · rintro ⟨q, hq, hd⟩
      by_cases hdp : s.departsProbe p b.seq
      · have h1 := (hsome b hb).1 hdp
        by_cases hrest : ∃ k ∈ l, (stampSent p s).departsProbe k b.seq
        · rw [(h.probe _ h1).1 hrest, (stampSent_clock p s).1]
        · rw [(h.probe _ h1).2 hrest]
      · obtain rfl | hq := List.mem_cons.mp hq
        · exact absurd hd hdp
        · rw [(h.probe _ ((hsome b hb).2 hdp)).1 ⟨q, hq, (stampSent_departsProbe_iff (hne hq) _).mpr hd⟩,
            (stampSent_clock p s).1]
    · have hdp : ¬s.departsProbe p b.seq := fun hd => hno ⟨p, List.mem_cons_self, hd⟩
      refine (h.probe _ ((hsome b hb).2 hdp)).2 fun ⟨q, hq, hd⟩ => hno ⟨q, List.mem_cons_of_mem _ hq, ?_⟩
      exact (stampSent_departsProbe_iff (hne hq) _).mp hd

/-- The state as hall time has advanced, before the departures. -/
def State.ticked (s : State) (hall : HallTime) : State :=
  s.modClock fun c => { c with hall := hall, ticks := c.ticks + 1 }

theorem ticked_departs_iff (hall : HallTime) : (s.ticked hall).departs p x ↔ s.firstOctetLeaves p x := Iff.rfl

/-- What an advance of hall time leaves, with the hall time it reaches named. -/
theorem ticked_departed (s : State) (hall : HallTime) (hv : Departed (List.finRange 12) (s.ticked hall) v) :
    v.clock.hall = hall ∧
    v = { s with clock := { s.clock with hall := v.clock.hall, ticks := s.clock.ticks + 1, probe := v.clock.probe }
                 egress := v.egress } ∧
    ((∀ q, v.clock.probe = some q → ∃ b, s.clock.probe = some b ∧ q.seq = b.seq) ∧
      ∀ b, s.clock.probe = some b →
        ((∃ p x, s.firstOctetLeaves p x ∧ s.kindOf x.frame = .rangeProbe b.seq) →
          v.clock.probe = some { b with t1 := some v.clock.hall }) ∧
        ((∀ p x, s.firstOctetLeaves p x → s.kindOf x.frame ≠ .rangeProbe b.seq) → v.clock.probe = some b)) ∧
    ∀ p : PortId,
      (∀ x, s.firstOctetLeaves p x → s.kindOf x.frame = .rangeReply →
        v.egress[p] = { s.egress[p] with tx := some { x with
          octets := refreshFcs (overwrite x.octets (payloadOffset x.octets + 16) (timestampBytes v.clock.hall)) } }) ∧
      ((∀ x, s.firstOctetLeaves p x → s.kindOf x.frame ≠ .rangeReply) → v.egress[p] = s.egress[p]) := by
  have hall_eq : v.clock.hall = hall := by rw [hv.frame]; rfl
  rw [hall_eq]
  have hprobe (b : Probe) (hb : s.clock.probe = some b) := hv.probe b hb
  refine ⟨rfl, hv.frame, ⟨fun q hq => ?_, fun b hb => ⟨fun ⟨p, x, hd, hk⟩ => ?_, fun hno => ?_⟩⟩, fun p => ⟨?_, ?_⟩⟩
  · cases hb : s.clock.probe with
    | none =>
      rw [hv.noProbe hb] at hq
      cases hq
    | some b =>
      refine ⟨b, rfl, ?_⟩
      by_cases hd : ∃ p ∈ List.finRange 12, (s.ticked hall).departsProbe p b.seq
      · rw [(hprobe b hb).1 hd, Option.some_inj] at hq
        rw [← hq]
      · rw [(hprobe b hb).2 hd, Option.some_inj] at hq
        rw [← hq]
  · exact (hprobe b hb).1 ⟨p, List.mem_finRange p, x, hd, hk⟩
  · exact (hprobe b hb).2 fun ⟨p, _, x, hd, hk⟩ => hno p x hd hk
  · intro x hd hk
    rw [hv.stamped p (List.mem_finRange p), stampSent_reply (s := s.ticked hall) hd hk]
    exact upd_same ..
  · intro hno
    rw [hv.stamped p (List.mem_finRange p)]
    obtain ⟨x, n, -, -, e⟩ | ⟨x, hx, hk, -⟩ | ⟨-, -, e⟩ := stampSent_cases p (s.ticked hall)
    · rw [e]
      rfl
    · exact absurd hk (hno x hx)
    · rw [e]
      rfl

end

theorem modClock_congr {s : State} {f g : Clock → Clock} (h : f s.clock = g s.clock) : s.modClock f = s.modClock g :=
  congrArg (fun c => ({ s with clock := c } : State)) h

theorem exec_hallTimeAdvance (s : State) : exec .hallTimeAdvance s =
    .next (forEach (List.finRange 12) stampSent (s.ticked (s.clock.hall.advance s.clock.increment))) :=
  congrArg (fun t => Host.Outcome.next (forEach (List.finRange 12) stampSent t)) (modClock_congr rfl)

theorem exec_runTimeAdvance (s : State) : exec .runTimeAdvance s =
    .next (s.modClock fun c => { c with run := (c.run + 1) % 2 ^ 64 }) := rfl

/-- Settles O8: the two advances, and the departures of the first. -/
theorem timeBasesAdvance : Obligations.TimeBasesAdvance := by
  refine ⟨fun s _ => ?_, fun s hs => ?_⟩
  · have hdep := forEach_stampSent (List.finRange 12) (List.nodup_finRange 12)
      (s.ticked (s.clock.hall.advance s.clock.increment))
    have hunits : (s.clock.hall.advance s.clock.increment).units =
        (s.clock.hall.units + s.clock.increment) % (nsWrap * fracPerNs) := HallTime.ofUnits_units _
    have hwf := HallTime.advance_wf s.clock.hall s.clock.increment
    have hx := exec_hallTimeAdvance s
    generalize s.clock.hall.advance s.clock.increment = hall at hdep hunits hwf hx
    generalize forEach (List.finRange 12) stampSent (s.ticked hall) = v at hdep hx
    obtain ⟨hhall, hrest⟩ := ticked_departed s hall hdep
    exact ⟨_, hx, (congrArg HallTime.wf hhall).trans hwf, (congrArg HallTime.units hhall).trans hunits, hrest⟩
  · refine ⟨_, exec_runTimeAdvance s, rfl, fun h => ?_, fun h => ?_⟩
    · exact Nat.mod_eq_of_lt h
    · show (s.clock.run + 1) % 2 ^ 64 = 0
      rw [h, Nat.mod_self]

end Sys2Proof.Machine
end


section
/-! The mark timeout and the probes that fall due (R52, R57, R58). -/

namespace Sys2Proof.Machine

/-! ## A built frame that finds room (R34) -/

/-- A frame built for the Q2 of one port with room waits there, and nothing is counted. -/
theorem buildFrame_waits (k : GenKind) (kind : FrameKind) (p : PortId) (octets : Octets) (s : State)
    (hl : s.ports[p].link = true) (hf : s.fitsLimit 2 (cellsFor octets.length) p = true)
    (hn : cellsFor octets.length ≤ s.mem.free.length) (hc : 0 < cellsFor octets.length) :
    ((buildFrame k kind [p] octets s).1.counters = s.counters ∧
      (buildFrame k kind [p] octets s).1.notices = s.notices) ∧
    ∃ x f, (buildFrame k kind [p] octets s).1.egress[p].queues[(2 : QueueId)].getLast? = some x ∧
      (buildFrame k kind [p] octets s).1.mem.frames[x.frame] = some f ∧ f.octets = octets ∧ f.kind = kind := by
  obtain ⟨c, t, mem, -, -, hb⟩ := buildFrame_room k kind p octets s hl hf hn hc
  obtain ⟨h, t, -, -, hframe, hq⟩ := buildFrame_made k kind p octets s hl hf hn hc
  refine ⟨?_, newEntry h .normal, _, by rw [hq]; exact List.getLast?_concat .., hframe, rfl, rfl⟩
  rw [show (buildFrame k kind [p] octets s).1 = enqueue p 2 (newEntry c .normal) { s with mem := mem } from
    congrArg Prod.fst hb, enqueue_frame]
  exact ⟨rfl, rfl⟩

/-! ## The mark timeout (R52) -/

section
variable {s : State}

theorem holdoverDue_iff {c : Clock} : c.holdoverDue = true ↔ (c.servo = .acquiring ∨ c.servo = .locked) ∧
    ∃ t, c.timeoutBase = some t ∧ t + c.cfg.markTimeout * 1000 ≤ c.run := by
  unfold Clock.holdoverDue
  cases c.servo <;> cases c.timeoutBase <;> simp

/-- The timeout runs from the later of the last mark and the last request. -/
theorem timeoutBase_spec (c : Clock) :
    (∀ t, c.timeoutBase = some t → c.lastMark = some t ∨ c.lastRequest = some t) ∧
    ∀ t, c.lastMark = some t ∨ c.lastRequest = some t → ∃ b, c.timeoutBase = some b ∧ t ≤ b := by
  unfold Clock.timeoutBase
  cases c.lastMark with
  | none => cases c.lastRequest <;> simp
  | some a =>
    cases c.lastRequest with
    | none => simp
    | some b =>
      refine ⟨fun t h => ?_, fun t h => ⟨max a b, rfl, ?_⟩⟩
      · rw [Option.some_inj] at h
        rcases le_total a b with hab | hab
        · exact .inr (by rw [← h, max_eq_right hab])
        · exact .inl (by rw [← h, max_eq_left hab])
      · rcases h with h | h <;> rw [Option.some_inj] at h <;> omega

/-- The servo in HOLDOVER. -/
def State.heldOver (s : State) : State :=
  s.modClock fun c => { c with servo := .holdover, trim := c.integral, increment := incrementOf c.integral }

theorem enterHoldover_eq (s : State) : enterHoldover s = raise (.clockHoldover s.clock.integral) s.heldOver := rfl

theorem markTimeout_completes (h : s.clock.holdoverDue = true) :
    Completes .markTimeout s s.heldOver [] [.clockHoldover s.clock.integral] := by
  have h0 := Effects.start s s.heldOver s.clock.hall.base rfl rfl
  refine ⟨_, congrArg Host.Outcome.next ((if_pos h).trans (enterHoldover_eq s)), raise_uncounted .., ?_⟩
  exact h0.raise (.clockHoldover s.clock.integral) rfl

/-! ## A probe that falls due (R57) -/

/-- The clock once the outstanding probe counts as lost. -/
def Clock.probeLost (c : Clock) : Clock :=
  { c with probe := none, lostProbes := if c.probe.isSome then c.lostProbes + 1 else c.lostProbes
           stale := c.stale || (c.probe.isSome && decide (3 ≤ c.lostProbes + 1)) }

theorem Clock.probeLost_none {c : Clock} (h : c.probe = none) : c.probeLost = c := by
  rw [Clock.probeLost, h, Option.isSome_none, if_neg Bool.false_ne_true, Bool.false_and, Bool.or_false, ← h]

/-- What a loss counts. -/
def Clock.lossCounts (c : Clock) : List CounterRef := if c.probe.isSome then [.clock .probesLost] else []

/-- What the third loss in a row notices. -/
def Clock.lossNotices (c : Clock) : List NoticeEvent :=
  if c.probe.isSome ∧ 3 ≤ c.lostProbes + 1 ∧ c.stale = false then [.rangeStale c.delay] else []

theorem loseProbe_none (h : s.clock.probe = none) : loseProbe s = s := by
  rw [loseProbe, h]

theorem loseProbe_some {b : Probe} (h : s.clock.probe = some b) : loseProbe s =
    if 3 ≤ s.clock.lostProbes + 1 ∧ s.clock.stale = false then
      raise (.rangeStale s.clock.delay) ((bump (.clock .probesLost) s).modClock fun c =>
        { c with lostProbes := c.lostProbes + 1, probe := none, stale := true })
    else (bump (.clock .probesLost) s).modClock fun c => { c with lostProbes := c.lostProbes + 1, probe := none } := by
  have hc := bump_clock (.clock .probesLost) s
  unfold loseProbe
  rw [h]
  dsimp only
  simp only [State.modClock_clock, hc, Bool.not_eq_true']
  rfl

theorem loseProbe_uncounted (s : State) : (loseProbe s).uncounted = (s.modClock Clock.probeLost).uncounted := by
  cases h : s.clock.probe with
  | none =>
    rw [loseProbe_none h]
    exact congrArg State.uncounted (modClock_congr (f := id) (Clock.probeLost_none h).symm :)
  | some b =>
    rw [loseProbe_some h]
    split
    · next hs =>
      rw [raise_uncounted]
      refine (modClock_uncounted (bump_uncounted ..) _).trans (congrArg State.uncounted (modClock_congr ?_))
      simp [Clock.probeLost, h, hs.1]
    · next hs =>
      refine (modClock_uncounted (bump_uncounted ..) _).trans (congrArg State.uncounted (modClock_congr ?_))
      by_cases h3 : 3 ≤ s.clock.lostProbes + 1
      · have hstale : s.clock.stale = true := by simpa [h3] using hs
        simp [Clock.probeLost, h, hstale]
      · simp [Clock.probeLost, h, h3]

theorem loseProbe_effects (s : State) : Effects s (loseProbe s) s.clock.hall.base s.clock.lossCounts s.clock.lossNotices := by
  have h0 := (Effects.refl s s.clock.hall.base).bump (.clock .probesLost)
  cases h : s.clock.probe with
  | none =>
    rw [loseProbe_none h, Clock.lossCounts, Clock.lossNotices, h]
    exact Effects.refl s _
  | some b =>
    rw [loseProbe_some h, Clock.lossCounts, Clock.lossNotices, h, Option.isSome_some, if_pos rfl]
    simp only [true_and]
    split
    · have h1 := h0.congr (u := (bump (.clock .probesLost) s).modClock fun c =>
        { c with lostProbes := c.lostProbes + 1, probe := none, stale := true }) rfl rfl
      exact h1.raise (.rangeStale s.clock.delay) (by rw [State.modClock_clock, bump_clock])
    · exact h0.congr rfl rfl

/-- The state in which a due probe has been taken, before the next is built. -/
def State.probeTaken (s : State) : State :=
  (loseProbe s).modClock fun c => { c with lastProbeDue := s.clock.nextProbe }

theorem probeTaken_uncounted (s : State) : s.probeTaken.uncounted =
    (s.modClock fun c => { c.probeLost with lastProbeDue := c.nextProbe }).uncounted :=
  modClock_uncounted (loseProbe_uncounted s) fun c => { c with lastProbeDue := s.clock.nextProbe }

theorem probeTaken_effects (s : State) :
    Effects s s.probeTaken s.clock.hall.base s.clock.lossCounts s.clock.lossNotices :=
  (loseProbe_effects s).congr rfl rfl

theorem exec_probeDue (h : s.clock.nextProbe ≤ s.clock.run) : exec .probeDue s = .next (newProbe s.probeTaken) :=
  congrArg Host.Outcome.next (if_pos (decide_eq_true h))

/-- A range probe occupies one cell. -/
theorem cellsFor_rangeProbe (dst src : Mac) (seq : Nat) :
    cellsFor (formFrame dst src 0 etherProbe ([1, 0] ++ beBytes 2 seq)).length = 1 := by
  simp [cellsFor, formFrame, macBytes, beBytes_length, fcsOf, checkBytes]

theorem newProbe_idle (h : ∀ p, s.timeUpPort = some p → s.ports[p].link = false) : newProbe s = s := by
  unfold newProbe
  split
  · rfl
  · next p hp => rw [h p hp, if_neg Bool.false_ne_true]

theorem newProbe_built {p : PortId} (hp : s.timeUpPort = some p) (hl : s.ports[p].link = true) : newProbe s =
    (buildFrame .rangeProbe (.rangeProbe ((s.clock.probeSeq + 1) % 65536)) [p]
      (formFrame rangingGroup s.station 0 etherProbe ([1, 0] ++ beBytes 2 ((s.clock.probeSeq + 1) % 65536)))
      (s.modClock fun c => { c with
        probeSeq := (s.clock.probeSeq + 1) % 65536
        probe := some { seq := (s.clock.probeSeq + 1) % 65536, t1 := none } })).1 := by
  unfold newProbe
  rw [hp]
  dsimp only
  rw [if_pos hl]
  rfl

end

/-- Settles O9: the mark timeout on both sides, and a due probe without and with a port to build for. -/
theorem clockTimeoutsFallDue : Obligations.ClockTimeoutsFallDue := by
  refine ⟨fun s => ⟨fun hs hex hall => ?_, fun h => ?_⟩, fun s u lost stale hdue hu hlost hstale => ?_⟩
  · obtain ⟨t, ht⟩ := hex
    obtain ⟨b, hb, -⟩ := (timeoutBase_spec s.clock).2 t ht
    exact markTimeout_completes (holdoverDue_iff.mpr ⟨hs, b, hb, hall b ((timeoutBase_spec s.clock).1 b hb)⟩)
  · refine congrArg Host.Outcome.next (if_neg fun hd => ?_)
    obtain ⟨hs, b, hb, hle⟩ := holdoverDue_iff.mp hd
    obtain h | h | ⟨t, ht, hlt⟩ := h
    · rcases hs with hs | hs <;> rw [h] at hs <;> cases hs
    · rcases hs with hs | hs <;> rw [h] at hs <;> cases hs
    · obtain ⟨b', hb', hle'⟩ := (timeoutBase_spec s.clock).2 t ht
      rw [hb, Option.some_inj] at hb'
      omega
  have hx := exec_probeDue hdue
  have htu : s.probeTaken.uncounted = u.uncounted := by
    rw [probeTaken_uncounted, hu]
    rfl
  have hte : Effects s s.probeTaken s.clock.hall.base lost stale := by
    rw [hlost, hstale]
    exact probeTaken_effects s
  have hports : s.probeTaken.ports = s.ports := (congrArg State.ports (probeTaken_uncounted s) :)
  have hup : s.probeTaken.timeUpPort = s.timeUpPort := by rw [State.timeUpPort, hports, State.timeUpPort]
  refine ⟨fun hdown => ?_, fun p seq frame hp hl hseq hframe => ?_⟩
  · rw [newProbe_idle (by rw [hup, hports]; exact hdown)] at hx
    exact ⟨_, hx, htu, hte⟩
  · have hold : s.probeTaken.clock.probeSeq = s.clock.probeSeq :=
      (congrArg (fun t : State => t.clock.probeSeq) (probeTaken_uncounted s) :)
    rw [newProbe_built (hup.trans hp) (by rw [hports]; exact hl), hold, ← hseq,
      station_of_uncounted (probeTaken_uncounted s)] at hx
    have hv := modClock_uncounted htu fun c => { c with probeSeq := seq, probe := some { seq := seq, t1 := none } }
    have hsize := cellsFor_rangeProbe rangingGroup s.station seq
    refine ⟨_, hx, ?_, ?_, fun hfit hfree => ?_⟩
    · rw [buildFrame_mgmt]
      exact (congrArg State.mgmt (probeTaken_uncounted s) :)
    · rw [buildFrame_unanswered]
      exact unanswered_of_uncounted hv
    · have hroom : s.probeTaken.fitsLimit 2 1 p = true := by
        rw [eq_recounted (probeTaken_uncounted s).symm]
        exact hfit
      have hmem : s.probeTaken.mem = s.mem := (congrArg State.mem (probeTaken_uncounted s) :)
      obtain ⟨⟨hc, hn⟩, x, f, hlast, hstored, ho, hk⟩ := buildFrame_waits .rangeProbe (.rangeProbe seq) p
        (formFrame rangingGroup s.station 0 etherProbe ([1, 0] ++ beBytes 2 seq))
        (s.probeTaken.modClock fun c => { c with probeSeq := seq, probe := some { seq := seq, t1 := none } })
        (by rw [State.modClock_ports, hports]; exact hl) (by rw [hsize]; exact hroom)
        (by rw [hsize, State.modClock_mem, hmem]; exact List.length_pos_iff.mpr hfree) (by rw [hsize]; decide)
      exact ⟨hte.congr hc hn, x, f, hlast, hstored, ho.trans hframe.symm, hk⟩

end Sys2Proof.Machine
end


section
/-! A step of hall time: what it makes of the clock and the gate engines, and that it leaves the room in
every Q2 as it was (R53, R76). -/

namespace Sys2Proof.Machine

/-! ## The room in Q2 (R28, R30, R34) -/

/-- Two states agree in what a build for Q2 reads: the ports, the free list, and the room and the entries
of each Q2. -/
structure SameRoom (s t : State) : Prop where
  ports : t.ports = s.ports
  straps : t.straps = s.straps
  free : t.mem.free = s.mem.free
  fits : ∀ n p, t.fitsLimit 2 n p = s.fitsLimit 2 n p
  queue : ∀ p : PortId, t.egress[p].queues[(2 : QueueId)] = s.egress[p].queues[(2 : QueueId)]

section
variable {s t u : State}

theorem SameRoom.refl (s : State) : SameRoom s s := ⟨rfl, rfl, rfl, fun _ _ => rfl, fun _ => rfl⟩

theorem SameRoom.trans (a : SameRoom s t) (b : SameRoom t u) : SameRoom s u :=
  ⟨b.ports.trans a.ports, b.straps.trans a.straps, b.free.trans a.free,
    fun n p => (b.fits n p).trans (a.fits n p), fun p => (b.queue p).trans (a.queue p)⟩

theorem SameRoom.of_same (h : SameQueues s t) (hs : t.straps = s.straps) : SameRoom s t :=
  ⟨h.ports, hs, by rw [h.mem], fun n p => h.fitsLimit 2 n p, fun p => by rw [h.egress]⟩

theorem SameRoom.of_uncounted (h : t.uncounted = s.uncounted) : SameRoom s t :=
  .of_same (.of_uncounted h) (congrArg State.straps h :)

theorem SameRoom.station (h : SameRoom s t) : t.station = s.station := by
  rw [State.station, h.straps, State.station]

theorem SameRoom.answerRoom {q : Request} {r : Reply} (h : SameRoom s t) (hr : AnswerRoom s q r) :
    AnswerRoom t q r := by
  unfold AnswerRoom at hr ⊢
  rwa [h.station, h.ports, h.fits, h.free]

/-- The occupancy of a queue by its entries, the piece of it on the wire and the one held. -/
theorem occupancy_congr {p : PortId} {q : QueueId} (hm : ∀ h, t.mem.size h = s.mem.size h)
    (hq : t.egress[p].queues[q] = s.egress[p].queues[q])
    (htx : t.egress[p].tx.map (fun w => (w.queue, w.frame)) = s.egress[p].tx.map fun w => (w.queue, w.frame))
    (hr : t.egress[p].remainder = s.egress[p].remainder) : t.occupancy p q = s.occupancy p q := by
  have hsize : t.mem.size = s.mem.size := funext hm
  unfold State.occupancy
  dsimp only
  rw [hq, hr, hsize]
  congr 2
  cases ht : t.egress[p].tx with
  | none =>
    rw [ht] at htx
    rw [Option.map_eq_none_iff.mp htx.symm]
  | some x =>
    rw [ht] at htx
    obtain ⟨y, hy, he⟩ := Option.map_eq_some_iff.mp htx.symm
    obtain ⟨hqq, hf⟩ := Prod.mk.inj he
    rw [hy]
    dsimp only at hqq hf ⊢
    rw [hqq, hf]

theorem changeGate_room (p : PortId) (f : Gate → Gate) (s : State) : SameRoom s (changeGate p f s) := by
  have hfr := changeGate_frame p f s
  have hmem : (changeGate p f s).mem = s.mem := by rw [hfr]; rfl
  have hdev : (changeGate p f s).device = s.device := by rw [hfr]; rfl
  have hq (y : PortId) : (changeGate p f s).egress[y].queues[(2 : QueueId)] = s.egress[y].queues[(2 : QueueId)] := by
    by_cases hy : y = p
    · rw [hy, changeGate_queue, if_neg fun h => absurd h.1 (by decide)]
    · rw [changeGate_other p f s hy]
  refine ⟨by rw [hfr]; rfl, by rw [hfr]; rfl, by rw [hmem], fun n y => ?_, hq⟩
  unfold State.fitsLimit
  rw [hdev, occupancy_congr (s := s) (fun h => by rw [hmem]) (hq y) ?_ ?_]
  · by_cases hy : y = p
    · rw [hy, changeGate_tx, Option.map_map]
      rfl
    · rw [changeGate_other p f s hy]
  · by_cases hy : y = p
    · rw [hy, changeGate_port]
    · rw [changeGate_other p f s hy]

end

/-! ## The gate engines take the step (R76) -/

/-- What a step that is reported to the engines of `l` leaves. -/
structure StepReported (l : List PortId) (s v : State) : Prop where
  frame : v = { s with gates := v.gates, egress := v.egress }
  told : ∀ p ∈ l, v.gates[p] = s.gates[p].afterStep s.clock.hall
  others : ∀ p, p ∉ l → v.gates[p] = s.gates[p]
  room : SameRoom s v

theorem forEach_reported (l : List PortId) (hl : l.Nodup) (s : State) :
    StepReported l s (forEach l (fun p s => changeGate p (Gate.afterStep s.clock.hall) s) s) := by
  induction l generalizing s with
  | nil => exact ⟨rfl, nofun, fun _ _ => rfl, .refl s⟩
  | cons p l ih =>
    obtain ⟨hp, hl⟩ := List.nodup_cons.mp hl
    rw [forEach_cons]
    generalize hu : changeGate p (Gate.afterStep s.clock.hall) s = u
    have hfr : u = { s with gates := u.gates, egress := u.egress } := by
      rw [← hu]
      exact (changeGate_frame ..).trans (by rw [changeGate_gates]; rfl)
    have hg : u.gates = (s.modGate p (Gate.afterStep s.clock.hall)).gates := by rw [← hu, changeGate_gates]
    have hsame : u.gates[p] = s.gates[p].afterStep s.clock.hall := by
      rw [hg]; exact upd_same ..
    have hother (x : PortId) (hx : x ≠ p) : u.gates[x] = s.gates[x] := by
      rw [hg]; exact upd_other _ _ _ _ hx
    have hc : u.clock = s.clock := by rw [hfr]
    obtain ⟨hframe, htold, hothers, hroom⟩ := ih hl u
    refine ⟨?_, fun x hx => ?_, fun x hx => ?_, (hu ▸ changeGate_room _ _ s : SameRoom s u).trans hroom⟩
    · rw [hframe, hfr]
    · rcases List.mem_cons.mp hx with rfl | hx
      · rw [hothers x hp, hsame]
      · rw [htold x hx, hother x fun e => hp (e ▸ hx), hc]
    · rw [hothers x fun h => hx (List.mem_cons_of_mem _ h), hother x fun e => hx (e ▸ List.mem_cons_self)]

theorem reportStep_reported (s : State) : StepReported (List.finRange 12) s (reportStep s) :=
  forEach_reported _ (List.nodup_finRange 12) s

theorem reportStep_gates (s : State) : (reportStep s).gates = s.gates.map (Gate.afterStep s.clock.hall) := by
  refine Vector.ext fun i hi => ?_
  rw [Vector.getElem_map]
  exact (reportStep_reported s).told ⟨i, hi⟩ (List.mem_finRange _)

/-! ## The step (R53) -/

/-- The clock after a step to `hall`. -/
def Clock.stepped (c : Clock) (hall : HallTime) : Clock :=
  { c with hall := hall, goodMarks := 0, epoch := c.epoch + 1, probe := none }

/-- A state whose hall time has stepped, but for the void copies and the cut triggers. -/
def State.stepped (s : State) (hall : HallTime) : State :=
  { s with clock := s.clock.stepped hall, gates := s.gates.map (Gate.afterStep hall) }

/-- A waiting relayed copy becomes void. -/
def State.voidRelays (s : State) : State :=
  s.modMem fun m => { m with frames := m.frames.map fun f => f.map Frame.voided }

theorem voidRelays_room (s : State) : SameRoom s s.voidRelays := by
  refine ⟨rfl, rfl, rfl, fun n p => ?_, fun p => rfl⟩
  unfold State.fitsLimit
  rw [occupancy_congr (s := s) (t := s.voidRelays) (fun h => ?_) rfl rfl rfl]
  · rfl
  · show (CellMem.size { s.mem with frames := s.mem.frames.map fun f => f.map Frame.voided } h) = _
    unfold CellMem.size
    simp only [Fin.getElem_fin, Vector.getElem_map]
    cases s.mem.frames[h.val] with
    | none => rfl
    | some f => exact congrArg List.length f.voided_keeps.1

/-- What a step leaves before it is counted. -/
def State.stepTaken (s : State) (hall : HallTime) : State :=
  (reportStep (s.modClock (·.stepped hall))).voidRelays

theorem stepTo_eq (hall : HallTime) (s : State) : stepTo hall s = bump (.clock .steps) (s.stepTaken hall) := rfl

section
variable (s : State) (hall : HallTime)

theorem stepTaken_unanswered : (s.stepTaken hall).unanswered = (s.stepped hall).unanswered := by
  have hv := (reportStep_reported (s.modClock (·.stepped hall))).frame
  rw [reportStep_gates] at hv
  rw [State.stepTaken, hv]
  rfl

theorem stepTaken_kept : (s.stepTaken hall).counters = s.counters ∧ (s.stepTaken hall).notices = s.notices ∧
    (s.stepTaken hall).mgmt = s.mgmt ∧ (s.stepTaken hall).clock = s.clock.stepped hall := by
  have hv := (reportStep_reported (s.modClock (·.stepped hall))).frame
  rw [State.stepTaken, hv]
  exact ⟨rfl, rfl, rfl, rfl⟩

theorem stepTaken_room : SameRoom s (s.stepTaken hall) := by
  have h0 : SameRoom s (s.modClock (·.stepped hall)) := ⟨rfl, rfl, rfl, fun _ _ => rfl, fun _ => rfl⟩
  exact (h0.trans (reportStep_reported _).room).trans (voidRelays_room _)

theorem stepTo_unanswered : (stepTo hall s).unanswered = (s.stepped hall).unanswered := by
  rw [stepTo_eq, bump_unanswered, stepTaken_unanswered]

theorem stepTo_mgmt : (stepTo hall s).mgmt = s.mgmt := by
  rw [stepTo_eq, bump_mgmt, (stepTaken_kept s hall).2.2.1]

theorem stepTo_clock : (stepTo hall s).clock = s.clock.stepped hall := by
  rw [stepTo_eq, bump_clock, (stepTaken_kept s hall).2.2.2]

theorem stepTo_room : SameRoom s (stepTo hall s) :=
  (stepTaken_room s hall).trans (.of_uncounted (by rw [stepTo_eq, bump_uncounted]))

variable {s} in
theorem Effects.stepTo {s₀ : State} {now : BaseTime} {l : List CounterRef} {es : List NoticeEvent}
    (h : Effects s₀ s now l es) (hall : HallTime) :
    Effects s₀ (Machine.stepTo hall s) now (l ++ [.clock .steps]) es :=
  (h.congr (stepTaken_kept s hall).1 (stepTaken_kept s hall).2.1).bump (.clock .steps)

end

/-! ## What the engines make of it (R76) -/

theorem afterStep_opened {g : Gate} {now : HallTime} (h : g.mode = .opened ∨ g.active = none) :
    g.afterStep now = { g with cycleIndex := now.toNs / 1000000, cycleStart := gridBoundary (now.toNs / 1000000)
                               disturbed := true }.fixCommit now := by
  unfold Gate.afterStep
  rcases h with h | h
  · rw [h]; rfl
  · rw [h]; cases g.mode <;> rfl

theorem afterStep_resync {g : Gate} {now : HallTime} {l : GateList} (h : g.mode ≠ .opened) (hl : g.active = some l) :
    g.afterStep now =
      { g with mode := .resync, target := l.indexAfter now.toNs, disturbed := true }.fixCommit now := by
  unfold Gate.afterStep
  rw [hl]
  cases hm : g.mode with
  | opened => exact absurd hm h
  | _ => rfl

end Sys2Proof.Machine
end


section
/-! The requests that step hall time (R53 to R55, R63). -/

namespace Sys2Proof.Machine

/-! ## The numbers of the requests -/

/-- A signed number of 6 octets is read as it was written. -/
theorem signedOf_beInt {n : Nat} {v : Int} (h1 : -(256 ^ n : Int) ≤ 2 * v) (h2 : 2 * v < 256 ^ n) :
    signedOf (beInt n v) = v := by
  have hpos : (0 : Int) < 256 ^ n := by positivity
  obtain ⟨m, hm⟩ := Int.eq_ofNat_of_zero_le (Int.emod_nonneg v hpos.ne')
  have hlt := Int.emod_lt_of_pos v hpos
  have hnat : (v.emod (256 ^ n)).toNat = m := by
    show (v % 256 ^ n).toNat = m
    rw [hm]
    rfl
  have hread : beNat (beInt n v) = m := by
    rw [beInt, hnat]
    exact beNat_beBytes (by zify; omega)
  unfold signedOf
  dsimp only
  rw [hread, beInt_length]
  rcases lt_or_ge v 0 with hv | hv
  · have e : v % 256 ^ n = v + 256 ^ n := by
      rw [← Int.add_emod_right, Int.emod_eq_of_lt (by omega) (by omega)]
    rw [if_neg (by zify; omega)]
    omega
  · have e : v % 256 ^ n = v := Int.emod_eq_of_lt hv (by omega)
    rw [if_pos (by zify; omega)]
    omega

theorem baseTimeOf_bytes {sec ns : Nat} (hs : sec < 2 ^ 48) (hn : ns ≤ 999999999) :
    baseTimeOf (beBytes 6 sec ++ beBytes 4 ns) = { sec := sec, ns := ns } := by
  simp (disch := decide) only [baseTimeOf, field_first, field_beBytes_after, Nat.reduceSub, field_only]
  rw [Nat.mod_eq_of_lt (a := sec) (by omega), Nat.mod_eq_of_lt (a := ns) (by omega)]

theorem setOffset_eq (hall : HallTime) (t : BaseTime) : setOffset hall t =
    max (-9223372036854775807) (min 9223372036854775807
      (secDiff hall.sec t.sec * 1000000000 + ((hall.ns : Int) - t.ns))) :=
  clampAbs_eq (by decide) _

/-! ## The step of a request -/

/-- The clock of a request that is to step hall time. -/
def Clock.requested (c : Clock) (servo : Servo) (last : Option Nat) : Clock :=
  { c with servo := servo, lastRequest := last }

/-- A state that a request has stepped, but for the void copies and the cut triggers. -/
def State.requestStepped (s : State) (servo : Servo) (last : Option Nat) (hall : HallTime) : State :=
  (s.modClock (·.requested servo last)).stepped hall

section
variable {s : State} {q : Request} {servo : Servo} {last : Option Nat}

theorem clockRequest_eq (hup : s.timeUpPort.isSome = true → servo = .acquiring ∧ last = some s.clock.run)
    (hno : s.timeUpPort = none → servo = .unset ∧ last = s.clock.lastRequest) :
    clockRequest s = s.modClock (·.requested servo last) := by
  unfold clockRequest
  cases h : s.timeUpPort with
  | none =>
    obtain ⟨rfl, rfl⟩ := hno h
    rfl
  | some p =>
    obtain ⟨rfl, rfl⟩ := hup (by rw [h]; rfl)
    rfl

/-- A request that steps hall time and is answered OK: what it leaves, counts and notices. -/
theorem requestStep_answered {c : Instr} {cause : StepCause} {hall : HallTime} {offset : Int}
    (hreq : clockRequest s = s.modClock (·.requested servo last))
    (he : exec c s = .next ((requestStep cause hall offset s).afterAnswer q { status := .ok, body := [] })) :
    Runs c s (s.requestStepped servo last hall) ∧
    ∃ t, exec c s = .next t ∧ t.counter (.clock .steps) = min (s.counter (.clock .steps) + 1) Config.counterMax ∧
      (AnswerRoom s q { status := .ok, body := [] } → Answered t q { status := .ok, body := [] } ∧
        Effects s t t.clock.hall.base [.clock .steps] [.clockStep cause offset]) := by
  have hstep : requestStep cause hall offset s =
      raise (.clockStep cause offset) (stepTo hall (s.modClock (·.requested servo last))) := by
    rw [requestStep, hreq]
  have h0 : Effects s (s.modClock (·.requested servo last)) hall.base [] [] := Effects.start _ _ _ rfl rfl
  have hroom0 : SameRoom s (s.modClock (·.requested servo last)) := ⟨rfl, rfl, rfl, fun _ _ => rfl, fun _ => rfl⟩
  have hun0 : (stepTo hall (s.modClock (·.requested servo last))).unanswered =
      (s.requestStepped servo last hall).unanswered := stepTo_unanswered ..
  have hm0 : (s.modClock (·.requested servo last)).mgmt = s.mgmt := rfl
  generalize s.modClock (·.requested servo last) = v at hstep h0 hroom0 hun0 hm0
  have hu : (requestStep cause hall offset s).unanswered = (s.requestStepped servo last hall).unanswered := by
    rw [hstep, raise_unanswered, hun0]
  have hm : (requestStep cause hall offset s).mgmt = s.mgmt := by
    rw [hstep, raise_mgmt, stepTo_mgmt, hm0]
  have hclock : (requestStep cause hall offset s).clock.hall = hall := by
    rw [hstep, raise_clock, stepTo_clock]
    rfl
  have hroom : SameRoom s (requestStep cause hall offset s) := by
    rw [hstep]
    exact (hroom0.trans (stepTo_room v hall)).trans (.of_uncounted (raise_uncounted ..))
  have heff : Effects s (requestStep cause hall offset s) hall.base [.clock .steps] [.clockStep cause offset] := by
    rw [hstep]
    exact (h0.stepTo hall).raise (.clockStep cause offset) (by rw [stepTo_clock]; rfl)
  generalize requestStep cause hall offset s = u at he hu hm hclock hroom heff
  refine ⟨⟨_, he, (afterAnswer_unanswered ..).trans hu, by rw [afterAnswer_mgmt, hm]⟩, _, he, ?_, fun hr => ⟨?_, ?_⟩⟩
  · refine (sendAnswer_counter q _ u (.clock .steps) nofun nofun rfl).trans ((heff.counters _ rfl).trans ?_)
    rw [if_pos List.mem_cons_self, List.count_singleton_self]
  · exact afterAnswer_answered u q _ (hroom.answerRoom hr)
  · have hc : (u.afterAnswer q { status := .ok, body := [] }).clock = u.clock :=
      clock_of_unanswered (afterAnswer_unanswered ..)
    rw [hc, hclock]
    have hk := sendAnswer_uncounting (hroom.answerRoom hr)
    exact heff.congr hk.1 hk.2

theorem exec_setClock {sec ns : Nat} (hq : LineRequest s q 9) (hs : sec < 2 ^ 48) (hn : ns ≤ 999999999)
    (hb : q.body = beBytes 6 sec ++ beBytes 4 ns) : exec .setClock s =
      .next ((requestStep .set { sec := sec, ns := ns, frac := s.clock.hall.frac }
        (setOffset s.clock.hall { sec := sec, ns := ns }) s).afterAnswer q { status := .ok, body := [] }) := by
  have hrow : q.row = .other .setClock := hq.row_other rfl nofun nofun nofun
  have ht : baseTimeOf q.body = { sec := sec, ns := ns } := by rw [hb, baseTimeOf_bytes hs hn]
  have ha : actSetClock q s = (requestStep .set { sec := sec, ns := ns, frac := s.clock.hall.frac }
      (setOffset s.clock.hall { sec := sec, ns := ns }) s, { status := .ok, body := [] }) := by
    unfold actSetClock
    rw [ht]
    exact if_neg (Nat.not_lt.mpr hn)
  have hlen : fixedOctets .setClock q.body ≤ q.body.length := by
    rw [hb, List.length_append, beBytes_length, beBytes_length]
    exact le_refl 10
  refine congrArg Host.Outcome.next (?_ : runHead (.other .setClock) actSetClock s = _)
  rw [← hrow]
  exact runHead_answered hq rfl hlen ha (Nat.zero_le _)

theorem exec_adjustClock {v : Int} (hq : LineRequest s q 10) (hv : v.natAbs ≤ 1099511627776)
    (hb : q.body = beInt 6 v) : exec .adjustClock s =
      .next ((requestStep .adjust (s.clock.hall.stepBy v) (-v) s).afterAnswer q { status := .ok, body := [] }) := by
  have hrow : q.row = .other .adjustClock := hq.row_other rfl nofun nofun nofun
  have hlen : q.body.length = 6 := by rw [hb, beInt_length]
  have ht : signedOf (slice q.body 0 6) = v := by
    rw [slice, List.drop_zero, List.take_of_length_le hlen.le, hb]
    exact signedOf_beInt (by norm_num; omega) (by norm_num; omega)
  have ha : actAdjustClock q s =
      (requestStep .adjust (s.clock.hall.stepBy v) (-v) s, { status := .ok, body := [] }) := by
    unfold actAdjustClock
    rw [ht]
    exact if_neg (Nat.not_lt.mpr hv)
  refine congrArg Host.Outcome.next (?_ : runHead (.other .adjustClock) actAdjustClock s = _)
  rw [← hrow]
  exact runHead_answered hq rfl hlen.ge ha (Nat.zero_le _)

end

/-- Settles O47: both requests are the one step, with their own hall time and offset. -/
theorem clockRequestsStep : Obligations.ClockRequestsStep := by
  intro s q servo last hup hno
  have hreq := clockRequest_eq hup hno
  refine ⟨fun sec ns hq hs hn hb => (requestStep_answered hreq (exec_setClock hq hs hn hb)).1,
    fun v hq hv hb => (requestStep_answered hreq (exec_adjustClock hq hv hb)).1, ?_⟩
  rintro c e (⟨sec, ns, hq, hs, hn, hb, rfl, rfl⟩ | ⟨v, hq, hv, hb, rfl, rfl⟩)
  · have h := (requestStep_answered hreq (exec_setClock hq hs hn hb)).2
    rwa [setOffset_eq] at h
  · exact (requestStep_answered hreq (exec_adjustClock hq hv hb)).2

end Sys2Proof.Machine
end


section
/-! A frame built for the Q2 of several ports, as a relayed mark is (R34, R61). -/

namespace Sys2Proof.Machine

/-! ## A frame for several ports -/

section
variable {s : State} {l ports : List PortId} {h : CellId} {k : GenKind} {kind : FrameKind} {octets : Octets}

/-- One entry joins the Q2 of each port of the list. -/
theorem forEach_enqueue_queue (x : QEntry) (hl : l.Nodup) (s : State) (p : PortId) :
    (forEach l (fun y => enqueue y 2 x) s).egress[p].queues[(2 : QueueId)] =
      if p ∈ l then s.egress[p].queues[(2 : QueueId)] ++ [x] else s.egress[p].queues[(2 : QueueId)] := by
  induction l generalizing s with
  | nil => rw [forEach_nil, if_neg List.not_mem_nil]
  | cons y l ih =>
    obtain ⟨hy, hl⟩ := List.nodup_cons.mp hl
    rw [forEach_cons, ih hl, enqueue_queues]
    by_cases hp : p = y
    · rw [if_neg (hp ▸ hy), if_pos ⟨hp, rfl⟩, if_pos (hp ▸ List.mem_cons_self)]
    · rw [if_neg (c := p = y ∧ _) fun e => hp e.1]
      exact if_congr (by rw [List.mem_cons]; exact (or_iff_right hp).symm) rfl rfl

/-- With every port DOWN a build is one drop. -/
theorem buildFrame_allDown (hdown : ∀ p ∈ ports, s.ports[p].link = false) :
    buildFrame k kind ports octets s = (bump (.device (.generationDrops k)) s, none) := by
  have hu : ports.filter (fun p => s.ports[p].link) = [] :=
    List.filter_eq_nil_iff.mpr fun p hp => by rw [hdown p hp]; exact Bool.false_ne_true
  unfold buildFrame
  dsimp only
  rw [hu]

/-- A frame is stored once, with one reference for each queue that it joins. -/
structure Stored (s t : State) (yes : List PortId) (kind : FrameKind) (octets : Octets) (h : CellId) : Prop where
  frame : ∃ f, t.mem.frames[h] = some f ∧ f.kind = kind ∧ f.octets = octets ∧ f.refs = yes.length
  joined : ∀ p ∈ yes, t.egress[p].queues[(2 : QueueId)] = s.egress[p].queues[(2 : QueueId)] ++ [newEntry h .normal]
  others : ∀ p : PortId, p ∉ yes → t.egress[p].queues[(2 : QueueId)] = s.egress[p].queues[(2 : QueueId)]

theorem buildFrame_stored {yes : List PortId} (hn : ports.Nodup)
    (hy : yes = (ports.filter fun p => s.ports[p].link).filter (s.fitsLimit 2 (cellsFor octets.length)))
    (hne : yes ≠ []) (hfree : cellsFor octets.length ≤ s.mem.free.length) (hc : 0 < cellsFor octets.length) :
    ∃ h, Stored s (buildFrame k kind ports octets s).1 yes kind octets h := by
  have hnd : yes.Nodup := hy ▸ (hn.filter _).filter _
  unfold buildFrame
  dsimp only
  generalize ports.filter (fun p => s.ports[p].link) = up at hy ⊢
  cases up with
  | nil => exact absurd hy hne
  | cons p up =>
    dsimp only
    rw [← hy]
    have hno : SameQueues s (forEach ((p :: up).filter fun p => !s.fitsLimit 2 (cellsFor octets.length) p)
        (fun p s => bump (.device (.generationDrops k)) (bump (.port p (.refused 2)) s)) s) :=
      .forEach (fun p s => (SameQueues.bump ..).trans (SameQueues.bump ..)) _ _
    generalize forEach ((p :: up).filter fun p => !s.fitsLimit 2 (cellsFor octets.length) p)
        (fun p s => bump (.device (.generationDrops k)) (bump (.port p (.refused 2)) s)) s = v at hno ⊢
    cases yes with
    | nil => exact absurd rfl hne
    | cons y ys =>
      have htake : v.mem.take (cellsFor octets.length) = some (v.mem.free.take (cellsFor octets.length), _) :=
        (CellMem.take_eq_some _ _ _ _).mpr ⟨by rw [hno.mem]; exact hfree, rfl, rfl⟩
      have hcells : v.mem.free.take (cellsFor octets.length) ≠ [] := by
        rw [hno.mem, ne_eq, List.take_eq_nil_iff, not_or]
        exact ⟨hc.ne', fun e => by rw [e, List.length_nil] at hfree; omega⟩
      dsimp only
      rw [htake]
      generalize v.mem.free.take (cellsFor octets.length) = cells at hcells ⊢
      cases cells with
      | nil => exact absurd rfl hcells
      | cons h cells =>
        refine ⟨h, ⟨⟨{ cells := h :: cells, octets := octets, refs := (y :: ys).length, kind := kind }, ?_, rfl, rfl, rfl⟩,
          fun p hp => ?_, fun p hp => ?_⟩⟩
        · dsimp only
          rw [forEach_keeps State.mem _ fun p s => enqueue_mem ..]
          dsimp only
          rw [CellMem.frames_store _ _ h cells rfl, if_pos rfl]
        · dsimp only
          rw [forEach_enqueue_queue _ hnd, if_pos hp]
          dsimp only
          rw [hno.egress]
        · dsimp only
          rw [forEach_enqueue_queue _ hnd, if_neg hp]
          dsimp only
          rw [hno.egress]

end

/-! ## A relayed mark (R61) -/

theorem macBytes_length (a : Mac) : (macBytes a).length = 6 := by
  rw [macBytes, beBytes_length]

theorem refreshFcs_length {l : Octets} (h : 4 ≤ l.length) : (refreshFcs l).length = l.length := by
  simp only [refreshFcs, withoutCheck, fcsOf, checkBytes, List.length_append, List.length_take]
  simp
  omega

theorem overwrite_length {l new : Octets} {off : Nat} (h : off + new.length ≤ l.length) :
    (overwrite l off new).length = l.length := by
  simp only [overwrite, List.length_append, List.length_take, List.length_drop]
  omega

/-- The octets of a mark relayed from a station. -/
def Mark.relayed (m : Mark) (station : Mac) : Octets := refreshFcs (overwrite m.octets 6 (macBytes station))

theorem Mark.relayed_length {m : Mark} {station : Mac} (h : 64 ≤ m.octets.length) :
    (m.relayed station).length = m.octets.length := by
  have ho : (overwrite m.octets 6 (macBytes station)).length = m.octets.length :=
    overwrite_length (by rw [macBytes_length]; omega)
  rw [Mark.relayed, refreshFcs_length (by omega), ho]

/-- The ports whose Q2 a relayed mark joins. -/
def State.relayPorts (s : State) (m : Mark) : List PortId :=
  (List.finRange 12).filter fun p => decide (s.ports[p].cfg.timing = .timeDown) &&
    s.ports[p].link && s.fitsLimit 2 ((m.octets.length + 255) / 256) p

section
variable {s : State} {m : Mark} {recv : HallTime}

theorem relayMark_none (h : s.timeDownPorts = []) : relayMark m recv s = s := by
  unfold relayMark
  rw [h]

theorem relayMark_built (h : s.timeDownPorts ≠ []) : relayMark m recv s =
    (buildFrame .relayedMark (.relayed recv m.carried false) s.timeDownPorts (m.relayed s.station) s).1 := by
  unfold relayMark
  split
  · next e => exact absurd e h
  · rfl

theorem relayPorts_eq (h : 64 ≤ m.octets.length) : s.relayPorts m =
    (s.timeDownPorts.filter fun p => s.ports[p].link).filter
      (s.fitsLimit 2 (cellsFor (m.relayed s.station).length)) := by
  rw [Mark.relayed_length h, State.timeDownPorts, List.filter_filter, List.filter_filter]
  refine List.filter_congr fun p _ => ?_
  rw [Bool.and_comm (s.fitsLimit 2 _ p), Bool.and_assoc, cellsFor, Bool.and_comm _ (s.ports[p].link && _)]

theorem relayMark_stored (hlen : 64 ≤ m.octets.length) (hne : s.relayPorts m ≠ [])
    (hfree : (m.octets.length + 255) / 256 ≤ s.mem.free.length) :
    ∃ h, Stored s (relayMark m recv s) (s.relayPorts m) (.relayed recv m.carried false) (m.relayed s.station) h := by
  have hd : s.timeDownPorts ≠ [] := by
    rw [relayPorts_eq hlen] at hne
    rintro e
    rw [e] at hne
    exact hne rfl
  have hl := Mark.relayed_length (station := s.station) hlen
  rw [relayMark_built hd]
  exact buildFrame_stored ((List.nodup_finRange 12).filter _) (relayPorts_eq hlen) hne
    (by rw [hl]; exact hfree) (by rw [hl, cellsFor]; omega)

/-- With no TIME_DOWN port that is UP no queue changes, and one drop counts when there is a TIME_DOWN port. -/
theorem relayMark_down (h : ∀ p : PortId, s.ports[p].cfg.timing = .timeDown → s.ports[p].link = false) :
    relayMark m recv s = if ∃ p : PortId, s.ports[p].cfg.timing = .timeDown
      then bump (.device (.generationDrops .relayedMark)) s else s := by
  have hmem (p : PortId) : p ∈ s.timeDownPorts ↔ s.ports[p].cfg.timing = .timeDown := by
    simp [State.timeDownPorts, List.mem_finRange]
  split
  · next hex =>
    obtain ⟨p, hp⟩ := hex
    rw [relayMark_built (List.ne_nil_of_mem ((hmem p).mpr hp)),
      buildFrame_allDown fun p hp => h p ((hmem p).mp hp)]
  · next hex =>
    exact relayMark_none (List.eq_nil_iff_forall_not_mem.mpr fun p hp => hex ⟨p, (hmem p).mp hp⟩)

end

end Sys2Proof.Machine
end


section
/-! The marks that step hall time, those that are not used, and the relayed ones (R47 to R49, R53, R61, R76). -/

namespace Sys2Proof.Machine

/-! ## The offset of a mark (R48) -/

/-- Seconds subtracted modulo 2^48 and read as signed. -/
theorem secDiff_spec (a b : Nat) : -140737488355328 ≤ secDiff a b ∧ secDiff a b < 140737488355328 ∧
    ((a : Int) - b - secDiff a b) % 281474976710656 = 0 := by
  have e : secDiff a b = if ((a : Int) - b) % 281474976710656 < 140737488355328 then ((a : Int) - b) % 281474976710656
      else ((a : Int) - b) % 281474976710656 - 281474976710656 := rfl
  rw [e]
  split <;> omega

theorem Mark.corrected_eq (m : Mark) {d : Int} (hd : 0 ≤ d) : ∃ u : Nat, m.corrected d = HallTime.ofUnits u ∧
    (u : Int) = (field (framePayload m.octets) 2 6 * 1000000000 + field (framePayload m.octets) 8 4) * 4294967296 +
      (field (framePayload m.octets) 12 8 + d) * 65536 := by
  obtain ⟨d, rfl⟩ := Int.eq_ofNat_of_zero_le hd
  refine ⟨_, rfl, ?_⟩
  simp only [HallTime.units, Mark.origin, Mark.carried, nsPerSec, fracPerNs]
  generalize field (framePayload m.octets) 2 6 = sec
  generalize field (framePayload m.octets) 8 4 = ns
  generalize field (framePayload m.octets) 12 8 = carried
  omega

/-- The offset is the exact difference on the scale of 2^-32 ns, rounded. -/
theorem Mark.offset_offsetIs (m : Mark) {d : Int} (hd : 0 ≤ d) : m.offsetIs d (m.offset d) := by
  obtain ⟨u, hu, hcor⟩ := m.corrected_eq hd
  obtain ⟨hlo, hhi, hmod⟩ := secDiff_spec m.recvTime.sec (HallTime.ofUnits u).sec
  have hsec : ((HallTime.ofUnits u).sec : Int) = (u : Int) / (1000000000 * 4294967296) % 281474976710656 := by
    have : (HallTime.ofUnits u).sec = u / 4294967296 / 1000000000 % 281474976710656 := rfl
    omega
  have hlow : (((HallTime.ofUnits u).ns * 4294967296 + (HallTime.ofUnits u).frac : Nat) : Int) =
      (u : Int) % (1000000000 * 4294967296) := by
    have h1 : (HallTime.ofUnits u).ns = u / 4294967296 % 1000000000 := rfl
    have h2 : (HallTime.ofUnits u).frac = u % 4294967296 := rfl
    omega
  refine ⟨u, secDiff m.recvTime.sec (HallTime.ofUnits u).sec, hcor, hlo, hhi, by omega, ?_⟩
  have hdiff : HallTime.diff m.recvTime (HallTime.ofUnits u) =
      secDiff m.recvTime.sec (HallTime.ofUnits u).sec * (1000000000 * 4294967296) +
        (m.recvTime.ns * 4294967296 + m.recvTime.frac) - (u : Int) % (1000000000 * 4294967296) := by
    rw [← hlow]
    simp only [HallTime.diff, nsPerSec, fracPerNs]
    push_cast
    ring
  rw [Mark.offset, hu, ← hdiff]
  exact roundHalfAway_rounded (by decide) _

/-! ## The engines after a step (R76) -/

theorem fixCommit_isOpen (g : Gate) (now : HallTime) (q : QueueId) : (g.fixCommit now).isOpen q = g.isOpen q := rfl

theorem afterStep_kept {g t : Gate} {now : HallTime} (h : t = g.afterStep now) : t.disturbed = true ∧
    t.active = g.active ∧ t.loaded = g.loaded ∧ t.commit = g.commit ∧ t.activation = g.activation := by
  by_cases hm : g.mode = .opened ∨ g.active = none
  · rw [h, afterStep_opened hm]
    exact ⟨rfl, rfl, rfl, rfl, rfl⟩
  · obtain ⟨hm, ha⟩ := not_or.mp hm
    obtain ⟨l, hl⟩ := Option.ne_none_iff_exists'.mp ha
    rw [h, afterStep_resync hm hl]
    exact ⟨rfl, rfl, rfl, rfl, rfl⟩

theorem afterStep_grid {g t : Gate} {now : HallTime} (h : t = g.afterStep now) (hm : g.mode = .opened) :
    t.mode = .opened ∧ (∀ q, t.isOpen q = true) ∧ ∃ k : Int, t.cycleEnd = k * 1000000 ∧
      (k - 1) * 1000000 ≤ now.toNs ∧ now.toNs < k * 1000000 := by
  rw [afterStep_opened (.inl hm)] at h
  have ht : t.mode = .opened := by rw [h, Gate.fixCommit_mode, hm]
  refine ⟨ht, fun q => by rw [Gate.isOpen, ht], now.toNs / 1000000 + 1, ?_, by omega, by omega⟩
  rw [Gate.cycleEnd, Gate.boundaryAt, ht, h]
  rfl

theorem afterStep_list {g t : Gate} {now : HallTime} {l : GateList} (h : t = g.afterStep now) (hl : g.active = some l)
    (hm : g.mode ≠ .opened) (hc : 0 < l.cycle) : t.mode = .resync ∧ (∀ q, t.isOpen q = decide (2 ≤ q.val)) ∧
      l.base.toNs + (t.target - 1) * l.cycle ≤ now.toNs ∧ now.toNs < l.base.toNs + t.target * l.cycle := by
  rw [afterStep_resync hm hl] at h
  have ht : t.mode = .resync := by rw [h]; rfl
  have htarget : t.target = l.indexAfter now.toNs := by rw [h]; rfl
  obtain ⟨hlt, hle⟩ := (GateList.indexAfter_eq_iff now.toNs t.target hc).mp htarget
  exact ⟨ht, fun q => by rw [Gate.isOpen, ht], hle, hlt⟩

/-! ## The marks (R47, R49) -/

section
variable {s : State} {m : Mark} {rest : List Mark} {offset : Int}

theorem malformed_iff : m.malformed = true ↔ m.bad := by
  simp only [Mark.malformed, Bool.or_eq_true, decide_eq_true_eq, or_assoc]
  rfl

theorem exec_timeMark (hm : s.clock.marks = m :: rest) :
    exec .timeMark s = .next (readMark m (s.modClock fun c => { c with marks := rest })) := by
  simp only [exec, execTimeMark, hm]

/-- The state of an accepted mark that is to step hall time. -/
def State.acquiring (s : State) (m : Mark) (rest : List Mark) : State :=
  (s.accepting m rest).modClock fun c => { c with servo := .acquiring }

/-- The clock that an accepted mark steps. -/
def Clock.markTaken (c : Clock) (m : Mark) (rest : List Mark) : Clock :=
  { c with marks := rest, lastMark := some m.recvRun, servo := .acquiring }

theorem acquiring_uncounted : (s.acquiring m rest).uncounted = (s.modClock (·.markTaken m rest)).uncounted :=
  modClock_uncounted accepting_uncounted _

theorem acquiring_effects (now : BaseTime) : Effects s (s.acquiring m rest) now [.clock .marksAccepted] [] :=
  ((Effects.start s (s.modClock fun c => { c with marks := rest }) now rfl rfl).bump
    (.clock .marksAccepted)).congr rfl rfl

theorem acquiring_room : SameRoom s (s.acquiring m rest) := by
  have h0 : SameRoom s (s.modClock (·.markTaken m rest)) := ⟨rfl, rfl, rfl, fun _ _ => rfl, fun _ => rfl⟩
  exact h0.trans (.of_uncounted acquiring_uncounted)

/-- The state in which an accepted mark has stepped hall time. -/
def State.markStepped (s : State) (m : Mark) (rest : List Mark) (offset : Int) : State :=
  raise (.clockStep .mark offset) (stepTo (s.clock.hall.stepBy (-offset)) (s.acquiring m rest))

theorem markStepped_unanswered : (s.markStepped m rest offset).unanswered =
    ((s.modClock (·.markTaken m rest)).stepped (s.clock.hall.stepBy (-offset))).unanswered := by
  rw [State.markStepped, raise_unanswered, stepTo_unanswered]
  exact unanswered_of_uncounted
    (congrArg (fun t => State.stepped t (s.clock.hall.stepBy (-offset))) (acquiring_uncounted (s := s) (m := m)) :)

theorem markStepped_mgmt : (s.markStepped m rest offset).mgmt = s.mgmt := by
  rw [State.markStepped, raise_mgmt, stepTo_mgmt]
  exact (mgmt_of_uncounted acquiring_uncounted :)

theorem markStepped_room : SameRoom s (s.markStepped m rest offset) :=
  (acquiring_room.trans (stepTo_room ..)).trans (.of_uncounted (raise_uncounted ..))

theorem markStepped_effects : Effects s (s.markStepped m rest offset) (s.clock.hall.stepBy (-offset)).base
    [.clock .marksAccepted, .clock .steps] [.clockStep .mark offset] :=
  ((acquiring_effects _).stepTo _).raise (.clockStep .mark offset) (by rw [stepTo_clock]; rfl)

/-- An accepted mark that steps hall time, and may be relayed. -/
theorem readMark_steps (hgood : m.malformed = false) (hepoch : m.epoch = s.clock.epoch)
    (ho : offset = m.offset (s.clock.delay.getD 0))
    (hsteps : s.clock.servo = .unset ∨ s.clock.cfg.stepLimit < offset.natAbs) :
    readMark m (s.modClock fun c => { c with marks := rest }) =
      if s.clock.cfg.relay then relayMark m (m.recvTime.stepBy (-offset)) (s.markStepped m rest offset)
      else s.markStepped m rest offset := by
  have hstep : markStep offset (s.accepting m rest) = s.markStepped m rest offset := by
    show raise _ (stepTo ((s.accepting m rest).clock.hall.stepBy (-offset)) (s.acquiring m rest)) = _
    rw [accepting_clock]
    rfl
  have hcfg : (s.markStepped m rest offset).clock.cfg = s.clock.cfg := by
    rw [clock_of_unanswered markStepped_unanswered]
    rfl
  generalize s.markStepped m rest offset = u at hstep hcfg ⊢
  unfold readMark
  simp only [hgood, hepoch, State.modClock_clock, bump_clock, ← ho, if_pos hsteps, ne_eq, not_true_eq_false, if_false,
    Bool.false_eq_true]
  simp only [State.accepting] at hstep
  rw [hstep, hcfg]

/-- What a relayed mark may leave in a state, beside the queues and the counts of its copies. -/
theorem relayed_frame {recv : HallTime} {u : State} :
    (if s.clock.cfg.relay then relayMark m recv u else u).mgmt = u.mgmt ∧
    (if s.clock.cfg.relay then relayMark m recv u else u).unanswered = u.unanswered ∧
    ∀ c : CounterRef, c.ofNotices = false → c ≠ .device (.generationDrops .relayedMark) → (∀ p, c ≠ .port p (.refused 2)) →
      (if s.clock.cfg.relay then relayMark m recv u else u).counter c = u.counter c := by
  split
  · refine ⟨relayMark_mgmt .., relayMark_unanswered .., fun c hc h1 h2 => ?_⟩
    unfold relayMark
    split
    · rfl
    · exact buildFrame_counter _ _ _ _ _ _ hc h1 h2
  · exact ⟨rfl, rfl, fun _ _ _ _ => rfl⟩

theorem timeMark_steps (hm : s.clock.marks = m :: rest) (hgood : m.malformed = false)
    (hepoch : m.epoch = s.clock.epoch) (ho : offset = m.offset (s.clock.delay.getD 0))
    (hsteps : s.clock.servo = .unset ∨ s.clock.cfg.stepLimit < offset.natAbs) :
    ∃ t, exec .timeMark s = .next t ∧ t.mgmt = s.mgmt ∧
      t.unanswered = ((s.modClock (·.markTaken m rest)).stepped (s.clock.hall.stepBy (-offset))).unanswered ∧
      t.counter (.clock .marksAccepted) = min (s.counter (.clock .marksAccepted) + 1) Config.counterMax ∧
      t.counter (.clock .steps) = min (s.counter (.clock .steps) + 1) Config.counterMax ∧
      (s.clock.cfg.relay = false → Effects s t t.clock.hall.base
        [.clock .marksAccepted, .clock .steps] [.clockStep .mark offset]) := by
  have he := (exec_timeMark hm).trans (congrArg Host.Outcome.next (readMark_steps hgood hepoch ho hsteps))
  have hmgmt := markStepped_mgmt (s := s) (m := m) (rest := rest) (offset := offset)
  have hun := markStepped_unanswered (s := s) (m := m) (rest := rest) (offset := offset)
  have heff := markStepped_effects (s := s) (m := m) (rest := rest) (offset := offset)
  have hbase : (s.markStepped m rest offset).clock.hall = s.clock.hall.stepBy (-offset) := by
    rw [clock_of_unanswered hun]
    rfl
  generalize s.markStepped m rest offset = u at he hmgmt hun heff hbase
  obtain ⟨hm', hu', hc'⟩ := relayed_frame (s := s) (m := m) (recv := m.recvTime.stepBy (-offset)) (u := u)
  refine ⟨_, he, hm'.trans hmgmt, hu'.trans hun, ?_, ?_, fun hr => ?_⟩
  · refine (hc' (.clock .marksAccepted) rfl nofun nofun).trans ((heff.counters _ rfl).trans ?_)
    rw [if_pos List.mem_cons_self]
    rfl
  · refine (hc' (.clock .steps) rfl nofun nofun).trans ((heff.counters _ rfl).trans ?_)
    rw [if_pos (List.mem_cons_of_mem _ List.mem_cons_self)]
    rfl
  · rw [if_neg (by rw [hr]; exact Bool.false_ne_true), hbase]
    exact heff

/-- A mark that is not used is counted and leaves the list. -/
theorem timeMark_unused (hm : s.clock.marks = m :: rest) {c : CounterRef} (hc : c.ofNotices = false)
    (hr : readMark m (s.modClock fun c => { c with marks := rest }) = bump c (s.modClock fun c => { c with marks := rest })) :
    Completes .timeMark s (s.modClock fun c => { c with marks := rest }) [c] [] :=
  completes_of_counts [c] ((exec_timeMark hm).trans (congrArg Host.Outcome.next hr)) rfl rfl fun x hx => by
    rw [List.mem_singleton.mp hx, hc]

theorem timeMark_malformed (hm : s.clock.marks = m :: rest) (hbad : m.bad) :
    Completes .timeMark s (s.modClock fun c => { c with marks := rest }) [.clock .marksMalformed] [] :=
  timeMark_unused hm rfl (if_pos (malformed_iff.mpr hbad))

theorem timeMark_discarded (hm : s.clock.marks = m :: rest) (hgood : ¬m.bad) (hepoch : m.epoch ≠ s.clock.epoch) :
    Completes .timeMark s (s.modClock fun c => { c with marks := rest }) [.clock .marksDiscarded] [] :=
  timeMark_unused hm rfl ((if_neg (fun h => hgood (malformed_iff.mp h))).trans (if_pos hepoch))

/-! ## The relayed copies (R61, R62) -/

/-- An accepted mark is relayed from a state that has its room, and whose drops are those before it. -/
theorem timeMark_relays {recv : HallTime} (hm : s.clock.marks = m :: rest) (hgood : m.malformed = false)
    (hepoch : m.epoch = s.clock.epoch) (hrelay : s.clock.cfg.relay = true)
    (ho : offset = m.offset (s.clock.delay.getD 0))
    (hcase : (s.clock.servo = .unset ∨ s.clock.cfg.stepLimit < offset.natAbs) ∧ recv = m.recvTime.stepBy (-offset) ∨
      s.clock.servo ≠ .unset ∧ offset.natAbs ≤ s.clock.cfg.stepLimit ∧ recv = m.recvTime) :
    ∃ u, exec .timeMark s = .next (relayMark m recv u) ∧ SameRoom s u ∧
      u.counter (.device (.generationDrops .relayedMark)) = s.counter (.device (.generationDrops .relayedMark)) := by
  obtain ⟨hsteps, rfl⟩ | ⟨hset, hle, rfl⟩ := hcase
  · refine ⟨s.markStepped m rest offset, ?_, markStepped_room, (markStepped_effects.counters _ rfl).trans (if_neg (by decide))⟩
    rw [exec_timeMark hm, readMark_steps hgood hepoch ho hsteps, if_pos hrelay]
  · have hu : (servoUpdate offset (s.accepting m rest)).uncounted = (s.modClock fun c =>
        { c.trimmed offset with marks := rest, lastMark := some m.recvRun }).uncounted :=
      (servoUpdate_uncounted ..).trans (modClock_uncounted accepting_uncounted _)
    have h0 : SameRoom s (s.modClock fun c => { c.trimmed offset with marks := rest, lastMark := some m.recvRun }) :=
      ⟨rfl, rfl, rfl, fun _ _ => rfl, fun _ => rfl⟩
    have heff := (accepting_effects (s := s) (m := m) (rest := rest)).servoUpdate (by rw [accepting_clock]) offset
    refine ⟨servoUpdate offset (s.accepting m rest), ?_, h0.trans (.of_uncounted hu),
      (heff.counters _ rfl).trans (if_neg (by decide))⟩
    rw [exec_timeMark hm, readMark_within hgood hepoch hset ho hle, if_pos hrelay]

theorem SameRoom.relayPorts {u : State} (h : SameRoom s u) : u.relayPorts m = s.relayPorts m := by
  unfold State.relayPorts
  refine List.filter_congr fun p _ => ?_
  rw [h.ports, h.fits]

end

/-- Settles O10: the mark that steps, the engines after it, the marks not used, the offset, and the copies. -/
theorem markBeyondTheLimitSteps : Obligations.MarkBeyondTheLimitSteps := by
  refine ⟨fun s m rest hm hgood hepoch hsteps => timeMark_steps hm hgood hepoch rfl hsteps,
    fun now g t h => ?_, fun s m rest hm => ⟨malformed_iff, timeMark_malformed hm, timeMark_discarded hm⟩,
    fun s hm => ?_, fun m d hd => m.offset_offsetIs hd,
    fun s m rest offset recv yes hm hgood hepoch hrelay ho hcase hlen hyes => ?_⟩
  · obtain ⟨hd, ha, hl, hc, hact⟩ := afterStep_kept h
    exact ⟨hd, ha, hl, hc, hact, afterStep_grid h, fun l hm hl hc => afterStep_list h hl hm hc⟩
  · simp only [exec, execTimeMark, hm]
  · obtain ⟨u, he, hroom, hdrops⟩ := timeMark_relays hm hgood hepoch hrelay ho hcase
    have hports : u.relayPorts m = yes := hroom.relayPorts.trans hyes.symm
    refine ⟨_, he, fun hne hfree => ?_, fun hdown => ?_⟩
    · obtain ⟨h, hframe, hjoined, hothers⟩ := relayMark_stored (s := u) (recv := recv) hlen (by rwa [hports])
        (by rwa [hroom.free])
      obtain ⟨f, hf, hk, ho, hr⟩ := hframe
      refine ⟨h, f, hf, hk, by rw [ho, Mark.relayed, hroom.station], by rw [hr, hports], fun p =>
        ⟨fun hp => ⟨newEntry h .normal, rfl, ?_⟩, fun hp => ?_⟩⟩
      · rw [hjoined p (by rwa [hports]), hroom.queue]
      · rw [hothers p (by rwa [hports]), hroom.queue]
    · have hports : u.ports = s.ports := hroom.ports
      have hrelayed := relayMark_down (s := u) (m := m) (recv := recv) (by rwa [hports])
      rw [hports] at hrelayed
      by_cases hex : ∃ p : PortId, s.ports[p].cfg.timing = .timeDown
      · rw [if_pos hex] at hrelayed ⊢
        rw [hrelayed, ← hdrops]
        refine ⟨fun p => ?_, (bump_counter _ _ u rfl).trans (if_pos rfl)⟩
        rw [(SameQueues.bump (.device (.generationDrops .relayedMark)) u).egress]
        exact hroom.queue p
      · rw [if_neg hex] at hrelayed ⊢
        rw [hrelayed]
        exact ⟨hroom.queue, hdrops⟩

end Sys2Proof.Machine
end


section
/-! The service windows that the line controller opens and extends (R153, R154). -/

namespace Sys2Proof.Machine

/-! ## A request that its act answers -/

section
variable {s u : State} {q : Request} {kind : Nat} {k : RequestKind} {act : Act} {c : Instr} {r : Reply}

/-- A head request whose act refuses it BAD_VALUE is so answered, whether or not its body is long enough. -/
theorem runHead_badValue (hq : LineRequest s q kind) (hk : requestKindOf kind = some k) (hr : q.row = .other k)
    (ha : act q s = (s, .bare .badValue)) : runHead (.other k) act s = s.afterAnswer q (.bare .badValue) := by
  by_cases hb : fixedOctets k q.body ≤ q.body.length
  · exact runHead_bare hq hk hr hb ha
  · rw [← hr]
    exact runHead_short hq k hk act (Nat.lt_of_not_le hb) (answerFrame_bare_length ..)

theorem runHead_other_answered (hq : LineRequest s q kind) (hk : requestKindOf kind = some k) (hr : q.row = .other k)
    (hb : fixedOctets k q.body ≤ q.body.length) (ha : act q s = (u, r)) (hl : r.body.length ≤ 9186) :
    runHead (.other k) act s = u.afterAnswer q r := by
  rw [← hr]
  exact runHead_answered hq hk hb ha hl

end

/-! ## The octets of a grant (R153, R197) -/

theorem levelOf_eq_none {n : Nat} : levelOf n = none ↔ 3 ≤ n := by
  match n with
  | 0 | 1 | 2 => exact iff_of_false nofun (by omega)
  | n + 3 => exact iff_of_true rfl (by omega)

theorem levelOf_eq_some {n : Nat} {x : ServiceLevel} : levelOf n = some x ↔ n = x.code := by
  constructor
  · intro h
    match n, h with
    | 0, h | 1, h | 2, h =>
      rw [← Option.some.inj h]
      rfl
  · rintro rfl
    cases x <;> rfl

theorem trapActionOf_eq_none {n : Nat} : trapActionOf n = none ↔ 2 ≤ n := by
  match n with
  | 0 | 1 => exact iff_of_false nofun (by omega)
  | n + 2 => exact iff_of_true rfl (by omega)

theorem trapActionOf_eq_some {n : Nat} {b : Bool} : trapActionOf n = some b → (b = true ↔ n = 1) := by
  intro h
  match n, h with
  | 0, h | 1, h =>
    rw [← Option.some.inj h]
    decide

theorem setOf_eq_none {n v : Nat} : setOf n v = none ↔ 2 ^ n ≤ v := by
  unfold setOf
  split
  · next h => exact iff_of_false nofun (Nat.not_le.mpr h)
  · next h => exact iff_of_true rfl (Nat.le_of_not_lt h)

theorem setOf_eq_some {n v : Nat} {x : BitVec n} (h : setOf n v = some x) : x.toNat = v := by
  unfold setOf at h
  split at h
  · next hv =>
    rw [← Option.some.inj h, BitVec.toNat_ofNat, Nat.mod_eq_of_lt hv]
  · cases h

/-- The octets that carry a technician: all ones for none. -/
def technicianBytes (t : Option Mac) : Octets :=
  beBytes 6 (match t with
    | none => 2 ^ 48 - 1
    | some a => a.toNat)

theorem technicianOf_bytes {t : Option Mac} (ht : t ≠ some (BitVec.allOnes 48)) :
    technicianOf (technicianBytes t) = if ∀ a, t = some a → isGroup a = false then some t else none := by
  cases t with
  | none => rw [if_pos nofun]; decide
  | some a =>
    have hnat : beNat (technicianBytes (some a)) = a.toNat := beNat_beBytes a.isLt
    have hnone : isNone (technicianBytes (some a)) = false := by
      refine Bool.eq_false_of_not_eq_true fun h => ht ?_
      have e := (isNone_iff _).mp h
      rw [show (technicianBytes (some a)).length = 6 from beBytes_length 6 _] at e
      rw [e] at hnat
      have h6 : beNat (List.replicate 6 (0xFF : Byte)) = (BitVec.allOnes 48).toNat := by decide
      rw [BitVec.eq_of_toNat_eq (hnat.symm.trans h6)]
    unfold technicianOf
    rw [hnone, hnat, if_neg Bool.false_ne_true]
    simp only [BitVec.ofNat_toNat, BitVec.setWidth_eq]
    by_cases hg : isGroup a = true
    · rw [if_pos hg, if_neg fun h => by rw [h a rfl] at hg; cases hg]
    · rw [if_neg hg, if_pos fun b hb => Option.some.inj hb ▸ Bool.eq_false_of_not_eq_true hg]

/-- The octets of a mirror list, read as stream indexes. -/
theorem mirror_bytes {l : List Nat} (h : ∀ i ∈ l, i < 256) :
    (l.flatMap (beBytes 1)).map (fun o => (Fin.ofNat 256 o.toNat : StreamId)) = l.map (Fin.ofNat 256) := by
  induction l with
  | nil => rfl
  | cons i l ih =>
    rw [List.flatMap_cons, List.map_append, List.map_cons, ih fun x hx => h x (List.mem_cons_of_mem _ hx)]
    have hi := h i List.mem_cons_self
    have e : (Fin.ofNat 256 (BitVec.ofNat 8 i).toNat : StreamId) = Fin.ofNat 256 i := by
      rw [BitVec.toNat_ofNat, Nat.mod_eq_of_lt hi]
    simpa [beBytes] using e

theorem mirror_val {l : List Nat} (h : ∀ i ∈ l, i < 256) : (l.map (Fin.ofNat 256)).map Fin.val = l := by
  rw [List.map_map]
  exact (List.map_congr_left fun i hi => Nat.mod_eq_of_lt (h i hi)).trans (List.map_id _)

theorem mirror_nodup {l : List Nat} (h : ∀ i ∈ l, i < 256) : (l.map (Fin.ofNat 256)).Nodup ↔ l.Nodup := by
  have hinj : Function.Injective (Fin.val : StreamId → Nat) := Fin.val_injective
  rw [← List.nodup_map_iff hinj, mirror_val h]

theorem flatMap_beBytes_length (l : List Nat) : (l.flatMap (beBytes 1)).length = l.length := by
  induction l with
  | nil => rfl
  | cons i l ih => rw [List.flatMap_cons, List.length_append, beBytes_length, ih, List.length_cons, Nat.add_comm]

/-- The fields of an OPEN SERVICE WINDOW behind its port. -/
structure GrantFields where
  level : Nat
  robots : Nat
  cameras : Nat
  duration : Nat
  trap : Nat
  mirror : List Nat
  technician : Option Mac

/-- The fields fit their octets, and no technician is written as none is. -/
structure GrantFields.Fit (x : GrantFields) : Prop where
  level : x.level < 256
  robots : x.robots < 2 ^ 32
  cameras : x.cameras < 256
  duration : x.duration < 65536
  trap : x.trap < 256
  count : x.mirror.length < 256
  mirror : ∀ i ∈ x.mirror, i < 256
  technician : x.technician ≠ some (BitVec.allOnes 48)

def GrantFields.bytes (x : GrantFields) : Octets :=
  beBytes 1 x.level ++ beBytes 4 x.robots ++ beBytes 1 x.cameras ++ beBytes 1 x.mirror.length ++
    x.mirror.flatMap (beBytes 1) ++ beBytes 2 x.duration ++ beBytes 1 x.trap ++ technicianBytes x.technician

/-- The fields are read one after another, and each may refuse the grant. -/
theorem grantOf_bytes {x : GrantFields} (h : x.Fit) : grantOf x.bytes =
    if 8 < x.mirror.length then none
    else (levelOf x.level).bind fun level => (setOf 24 x.robots).bind fun robots =>
      (setOf 4 x.cameras).bind fun cameras => (trapActionOf x.trap).bind fun trap =>
      (technicianOf (technicianBytes x.technician)).bind fun technician =>
      if x.mirror.Nodup then
        some { level := level, robots := robots, cameras := cameras, mirror := x.mirror.map (Fin.ofNat 256),
               seconds := max 1 (min x.duration 3600), trapCloses := trap, technician := technician }
      else none := by
  have htech : (technicianBytes x.technician).length = 6 := beBytes_length 6 _
  have hmirror := flatMap_beBytes_length x.mirror
  have hcount : field x.bytes 6 1 = x.mirror.length := by
    simp (disch := decide) only [GrantFields.bytes, List.append_assoc, field_beBytes_after, Nat.reduceSub, field_first]
    exact Nat.mod_eq_of_lt h.count
  have hlen : x.bytes.length = 16 + x.mirror.length := by
    simp only [GrantFields.bytes, List.length_append, beBytes_length, hmirror, htech]
    omega
  have hrest : x.bytes.drop (7 + x.mirror.length) =
      beBytes 2 x.duration ++ (beBytes 1 x.trap ++ technicianBytes x.technician) := by
    have e : x.bytes = (beBytes 1 x.level ++ beBytes 4 x.robots ++ beBytes 1 x.cameras ++ beBytes 1 x.mirror.length ++
        x.mirror.flatMap (beBytes 1)) ++ (beBytes 2 x.duration ++ (beBytes 1 x.trap ++ technicianBytes x.technician)) := by
      simp only [GrantFields.bytes, List.append_assoc]
    rw [e]
    refine List.drop_left' ?_
    simp only [List.length_append, beBytes_length, hmirror]
  have hslice : slice x.bytes 7 x.mirror.length = x.mirror.flatMap (beBytes 1) := by
    simp (disch := decide) only [GrantFields.bytes, List.append_assoc, slice_beBytes_after, Nat.reduceSub]
    exact slice_first hmirror _
  have hlevel : field x.bytes 0 1 = x.level := by
    simp (disch := decide) only [GrantFields.bytes, List.append_assoc, field_first]
    exact Nat.mod_eq_of_lt h.level
  have hrobots : field x.bytes 1 4 = x.robots := by
    simp (disch := decide) only [GrantFields.bytes, List.append_assoc, field_beBytes_after, Nat.reduceSub, field_first]
    exact Nat.mod_eq_of_lt h.robots
  have hcameras : field x.bytes 5 1 = x.cameras := by
    simp (disch := decide) only [GrantFields.bytes, List.append_assoc, field_beBytes_after, Nat.reduceSub, field_first]
    exact Nat.mod_eq_of_lt h.cameras
  have hduration : field (beBytes 2 x.duration ++ (beBytes 1 x.trap ++ technicianBytes x.technician)) 0 2 = x.duration :=
    field_head h.duration _
  have htrap : field (beBytes 2 x.duration ++ (beBytes 1 x.trap ++ technicianBytes x.technician)) 2 1 = x.trap := by
    rw [field_beBytes_after (le_refl 2)]
    exact field_head h.trap _
  have htechnician : slice (beBytes 2 x.duration ++ (beBytes 1 x.trap ++ technicianBytes x.technician)) 3 6 =
      technicianBytes x.technician := by
    rw [slice_beBytes_after (by decide), slice_beBytes_after (by decide), slice, List.drop_zero,
      List.take_of_length_le htech.le]
  unfold grantOf
  dsimp only
  rw [hcount, hrest, hlen, hslice, hlevel, hrobots, hcameras, hduration, htrap, htechnician, mirror_bytes h.mirror]
  refine if_congr (by omega) rfl ?_
  simp only [Option.bind_eq_bind, if_congr (mirror_nodup h.mirror) rfl rfl]
  rfl

/-- The fields that are granted. -/
def GrantFields.good (x : GrantFields) : Prop :=
  x.level < 3 ∧ x.robots < 2 ^ 24 ∧ x.cameras < 2 ^ 4 ∧ x.mirror.length ≤ 8 ∧ x.mirror.Nodup ∧ x.trap < 2 ∧
    ∀ a, x.technician = some a → isGroup a = false

theorem grantOf_eq_none {x : GrantFields} (h : x.Fit) : grantOf x.bytes = none ↔ ¬x.good := by
  rw [grantOf_bytes h, technicianOf_bytes h.technician]
  have hlevel := levelOf_eq_none (n := x.level)
  have hrobots := setOf_eq_none (n := 24) (v := x.robots)
  have hcameras := setOf_eq_none (n := 4) (v := x.cameras)
  have htrap := trapActionOf_eq_none (n := x.trap)
  unfold GrantFields.good
  by_cases hm : 8 < x.mirror.length
  · rw [if_pos hm]
    exact iff_of_true rfl fun h => absurd h.2.2.2.1 (by omega)
  rw [if_neg hm]
  cases hl : levelOf x.level with
  | none => exact iff_of_true rfl fun h => absurd (hlevel.mp hl) (by omega)
  | some level =>
  cases hr : setOf 24 x.robots with
  | none => exact iff_of_true rfl fun h => absurd (hrobots.mp hr) (by omega)
  | some robots =>
  cases hc : setOf 4 x.cameras with
  | none => exact iff_of_true rfl fun h => absurd (hcameras.mp hc) (by omega)
  | some cameras =>
  cases ht : trapActionOf x.trap with
  | none => exact iff_of_true rfl fun h => absurd (htrap.mp ht) (by omega)
  | some trap =>
  rw [hl] at hlevel
  rw [hr] at hrobots
  rw [hc] at hcameras
  rw [ht] at htrap
  simp only [reduceCtorEq, false_iff, Nat.not_le] at hlevel hrobots hcameras htrap
  by_cases hg : ∀ a, x.technician = some a → isGroup a = false
  · rw [if_pos hg]
    by_cases hn : x.mirror.Nodup
    · simp only [Option.bind_some, if_pos hn, reduceCtorEq, false_iff, not_not]
      exact ⟨hlevel, hrobots, hcameras, Nat.le_of_not_lt hm, hn, htrap, hg⟩
    · simp only [Option.bind_some, if_neg hn, true_iff]
      exact fun h => hn h.2.2.2.2.1
  · rw [if_neg hg]
    exact iff_of_true rfl fun h => hg h.2.2.2.2.2.2

theorem grantOf_good {x : GrantFields} (h : x.Fit) (hg : x.good) : ∃ g, grantOf x.bytes = some g ∧
    (x.level = 0 ∧ g.level = .observe ∨ x.level = 1 ∧ g.level = .adjust ∨ x.level = 2 ∧ g.level = .maintain) ∧
    g.robots.toNat = x.robots ∧ g.cameras.toNat = x.cameras ∧ g.mirror.map Fin.val = x.mirror ∧
    g.seconds = max 1 (min x.duration 3600) ∧ (g.trapCloses = true ↔ x.trap = 1) ∧ g.technician = x.technician := by
  obtain ⟨g, hgrant⟩ := Option.ne_none_iff_exists'.mp fun e => (grantOf_eq_none h).mp e hg
  refine ⟨g, hgrant, ?_⟩
  rw [grantOf_bytes h, technicianOf_bytes h.technician] at hgrant
  obtain ⟨-, -, -, hcount, hnodup, -, hgroup⟩ := hg
  rw [if_neg (Nat.not_lt.mpr hcount), if_pos hgroup] at hgrant
  simp only [if_pos hnodup, Option.bind_eq_some_iff, Option.some.injEq] at hgrant
  obtain ⟨level, hl, robots, hr, cameras, hc, trap, ht, technician, rfl, rfl⟩ := hgrant
  refine ⟨?_, setOf_eq_some hr, setOf_eq_some hc, mirror_val h.mirror, rfl, trapActionOf_eq_some ht, rfl⟩
  rw [levelOf_eq_some.mp hl]
  cases level <;> simp [ServiceLevel.code]

end Sys2Proof.Machine
end


section
/-! OPEN and EXTEND SERVICE WINDOW (R153, R154). -/

namespace Sys2Proof.Machine

section
variable {s : State} {q : Request} {w : WindowId} {g : Grant} {rest : Octets}

theorem modWindow_modWindow (w : WindowId) (f g : ServiceWindow → ServiceWindow) (s : State) :
    (s.modWindow w f).modWindow w g = s.modWindow w fun x => g (f x) :=
  congrArg (fun v => ({ s with windows := v } : State)) (upd_upd s.windows w f g)

theorem isOpen_iff : s.windows[w].isOpen = true ↔ s.windows[w].state ≠ .closed := decide_eq_true_iff

/-! ## OPEN SERVICE WINDOW (R153) -/

/-- The window that a grant opens, before it is warned. -/
def ServiceWindow.granted (x : ServiceWindow) (g : Grant) (run : Nat) : ServiceWindow :=
  { state := .granted, level := g.level, robots := g.robots, cameras := g.cameras, mirror := g.mirror
    technician := g.technician, learned := false, endTime := run + g.seconds * 1000000, warned := false
    trapCloses := g.trapCloses, pendingSet := 0, heldSet := 0, sessionTraps := 0, lastClose := x.lastClose }

/-- The window that a grant opens. -/
def ServiceWindow.opened (x : ServiceWindow) (g : Grant) (run : Nat) : ServiceWindow :=
  { x.granted g run with warned := decide (g.seconds ≤ 60) }

/-- The notices of a grant. -/
def Grant.notices (g : Grant) (w : WindowId) : List NoticeEvent :=
  .serviceOpened w g.level g.seconds :: if g.seconds ≤ 60 then [.serviceExpiring w (g.seconds * 1000)] else []

theorem toMs_sub (run ms : Nat) : toMs (run + ms * 1000 - run) = ms := by
  rw [Nat.add_sub_cancel_left, toMs, Nat.mul_div_cancel _ (by decide)]

theorem granted_remaining : (s.modWindow w (·.granted g s.clock.run)).remainingMs w = g.seconds * 1000 := by
  have e : (upd s.windows w (·.granted g s.clock.run))[w].endTime = s.clock.run + g.seconds * 1000 * 1000 := by
    rw [Fin.getElem_fin, upd_same, ServiceWindow.granted, Nat.mul_assoc]
  show toMs ((upd s.windows w (·.granted g s.clock.run))[w].endTime - s.clock.run) = _
  rw [e, toMs_sub]

theorem grantWindow_eq (w : WindowId) (g : Grant) (s : State) : grantWindow w g s =
    if g.seconds ≤ 60 then warnWindow w (raise (.serviceOpened w g.level g.seconds) (s.modWindow w (·.granted g s.clock.run)))
    else raise (.serviceOpened w g.level g.seconds) (s.modWindow w (·.granted g s.clock.run)) := rfl

theorem remainingMs_of_uncounted {t : State} (h : t.uncounted = s.uncounted) : t.remainingMs w = s.remainingMs w := by
  rw [eq_recounted h.symm]
  rfl

theorem grantWindow_spec (w : WindowId) (g : Grant) (s : State) :
    (grantWindow w g s).uncounted = (s.modWindow w (·.opened g s.clock.run)).uncounted ∧
      Effects s (grantWindow w g s) s.clock.hall.base [] (g.notices w) := by
  have hopened : Effects s (raise (.serviceOpened w g.level g.seconds) (s.modWindow w (·.granted g s.clock.run)))
      s.clock.hall.base [] [.serviceOpened w g.level g.seconds] :=
    (Effects.start s (s.modWindow w (·.granted g s.clock.run)) _ rfl rfl).raise _ rfl
  have hclock : (raise (.serviceOpened w g.level g.seconds) (s.modWindow w (·.granted g s.clock.run))).clock = s.clock :=
    raise_clock ..
  have hu := raise_uncounted (.serviceOpened w g.level g.seconds) (s.modWindow w (·.granted g s.clock.run))
  have hms := (remainingMs_of_uncounted (w := w) hu).trans granted_remaining
  rw [grantWindow_eq]
  generalize raise (.serviceOpened w g.level g.seconds) (s.modWindow w (·.granted g s.clock.run)) = v at *
  by_cases h : g.seconds ≤ 60
  · have hwarned : (v.modWindow w fun x => { x with warned := true }).uncounted =
        (s.modWindow w (·.opened g s.clock.run)).uncounted := by
      rw [modWindow_uncounted hu, modWindow_modWindow]
      refine congrArg (fun f => (s.modWindow w f).uncounted) (funext fun x => ?_)
      rw [ServiceWindow.opened, decide_eq_true h]
    rw [if_pos h, Grant.notices, if_pos h, warnWindow, hms]
    refine ⟨(raise_uncounted ..).trans hwarned, ?_⟩
    have h2 : Effects s (v.modWindow w fun x => { x with warned := true }) s.clock.hall.base []
        [.serviceOpened w g.level g.seconds] := hopened.congr rfl rfl
    exact h2.raise (.serviceExpiring w (g.seconds * 1000)) (congrArg (·.hall.base) hclock)
  · rw [if_neg h, Grant.notices, if_neg h]
    refine ⟨hu.trans (congrArg (fun f => (s.modWindow w f).uncounted) (funext fun x => ?_)), hopened⟩
    rw [ServiceWindow.opened, decide_eq_false h]
    rfl

/-- The duration granted is clamped. -/
theorem grantOf_seconds {l : Octets} (h : grantOf l = some g) : 1 ≤ g.seconds ∧ g.seconds ≤ 3600 := by
  unfold grantOf at h
  dsimp only at h
  split at h
  · cases h
  · simp only [Option.bind_eq_bind, Option.bind_eq_some_iff] at h
    obtain ⟨_, _, _, _, _, _, _, _, _, _, h⟩ := h
    split at h
    · rw [← Option.some.inj h]
      refine ⟨Nat.le_max_left .., Nat.max_le.mpr ⟨by decide, Nat.min_le_right ..⟩⟩
    · cases h

theorem grantOf_length {l : Octets} (h : grantOf l = some g) : 16 ≤ l.length := by
  unfold grantOf at h
  dsimp only at h
  split at h
  · cases h
  · omega

/-- One that names a service port is left with the grant and the state of its window and its port. -/
theorem actOpenWindow_port (hb : q.body = beBytes 1 (10 + w.val) ++ rest) : actOpenWindow q s =
    orRefuse s (valueOf (grantOf rest) >>= fun g =>
      need (decide (s.windows[w].state = .closed) && s.ports[windowPort w].link) .wrongState >>= fun _ =>
      pure (taken (grantWindow w g s) (beBytes 2 g.seconds))) := by
  unfold actOpenWindow
  rw [hb, field_head (by omega), windowOf_val, List.drop_left' (beBytes_length 1 _)]
  rfl

theorem actOpenWindow_granted (hb : q.body = beBytes 1 (10 + w.val) ++ rest) (hg : grantOf rest = some g)
    (hc : s.windows[w].state = .closed) (hl : s.ports[windowPort w].link = true) :
    actOpenWindow q s = (grantWindow w g s, { status := .ok, body := beBytes 2 g.seconds }) := by
  rw [actOpenWindow_port hb, hg, decide_eq_true hc, hl]
  rfl

theorem actOpenWindow_refused (hb : q.body = beBytes 1 (10 + w.val) ++ rest) (hg : grantOf rest = some g)
    (h : s.windows[w].state ≠ .closed ∨ s.ports[windowPort w].link = false) :
    actOpenWindow q s = (s, .bare .wrongState) := by
  have hno : (decide (s.windows[w].state = .closed) && s.ports[windowPort w].link) = false := by
    rcases h with h | h
    · rw [decide_eq_false h, Bool.false_and]
    · rw [h, Bool.and_false]
  rw [actOpenWindow_port hb, hg, hno]
  rfl

theorem actOpenWindow_bad (hb : q.body = beBytes 1 (10 + w.val) ++ rest) (hg : grantOf rest = none) :
    actOpenWindow q s = (s, .bare .badValue) := by
  rw [actOpenWindow_port hb, hg]
  rfl

/-! ## EXTEND SERVICE WINDOW (R154) -/

/-- The window extended to a remaining time. -/
def ServiceWindow.extended (x : ServiceWindow) (run remaining : Nat) : ServiceWindow :=
  { x with endTime := run + remaining * 1000, warned := decide (remaining ≤ 60000) }

/-- The window with its new end time, before it is warned. -/
def ServiceWindow.prolonged (x : ServiceWindow) (run remaining : Nat) : ServiceWindow :=
  { x with endTime := run + remaining * 1000 }

theorem prolonged_remaining {remaining : Nat} :
    (s.modWindow w (·.prolonged s.clock.run remaining)).remainingMs w = remaining := by
  have e : (upd s.windows w (·.prolonged s.clock.run remaining))[w].endTime = s.clock.run + remaining * 1000 := by
    rw [Fin.getElem_fin, upd_same, ServiceWindow.prolonged]
  show toMs ((upd s.windows w (·.prolonged s.clock.run remaining))[w].endTime - s.clock.run) = _
  rw [e, toMs_sub]

theorem prolonged_warned {remaining : Nat} :
    (s.modWindow w (·.prolonged s.clock.run remaining)).windows[w].warned = s.windows[w].warned :=
  (congrArg ServiceWindow.warned (upd_same s.windows w (·.prolonged s.clock.run remaining)) :)

theorem extendWindow_eq (w : WindowId) (remaining : Nat) (s : State) : extendWindow w remaining s =
    if 60000 < remaining then (s.modWindow w (·.prolonged s.clock.run remaining)).modWindow w fun x => { x with warned := false }
    else if (s.modWindow w (·.prolonged s.clock.run remaining)).windows[w].warned then
      s.modWindow w (·.prolonged s.clock.run remaining)
    else warnWindow w (s.modWindow w (·.prolonged s.clock.run remaining)) := rfl

theorem extendWindow_spec (w : WindowId) (remaining : Nat) (s : State) :
    (extendWindow w remaining s).uncounted = (s.modWindow w (·.extended s.clock.run remaining)).uncounted ∧
      Effects s (extendWindow w remaining s) s.clock.hall.base []
        (if remaining ≤ 60000 ∧ s.windows[w].warned = false then [.serviceExpiring w remaining] else []) := by
  rw [extendWindow_eq]
  by_cases h : 60000 < remaining
  · rw [if_pos h, if_neg fun h' => Nat.not_le.mpr h h'.1, modWindow_modWindow]
    refine ⟨congrArg (fun f => (s.modWindow w f).uncounted) (funext fun x => ?_), Effects.start _ _ _ rfl rfl⟩
    rw [ServiceWindow.extended, decide_eq_false (Nat.not_le.mpr h)]
    rfl
  rw [if_neg h, prolonged_warned]
  have hle := Nat.le_of_not_lt h
  by_cases hw : s.windows[w].warned = true
  · rw [if_pos hw, if_neg fun h' => by rw [hw] at h'; cases h'.2]
    refine ⟨?_, Effects.start _ _ _ rfl rfl⟩
    have e : upd s.windows w (·.prolonged s.clock.run remaining) = upd s.windows w (·.extended s.clock.run remaining) := by
      refine upd_congr _ _ _ _ ?_
      rw [ServiceWindow.extended, decide_eq_true hle, ServiceWindow.prolonged, ← hw, Fin.getElem_fin]
    exact congrArg (fun v => ({ s with windows := v } : State).uncounted) e
  · rw [if_neg hw, if_pos ⟨hle, Bool.eq_false_of_not_eq_true hw⟩, warnWindow, prolonged_remaining, modWindow_modWindow]
    refine ⟨(raise_uncounted ..).trans (congrArg (fun f => (s.modWindow w f).uncounted) (funext fun x => ?_)), ?_⟩
    · rw [ServiceWindow.extended, decide_eq_true hle]
      rfl
    · exact (Effects.start s (s.modWindow w fun x =>
        { x.prolonged s.clock.run remaining with warned := true }) _ rfl rfl).raise _ rfl

theorem actExtendWindow_port {seconds : Nat} (hs : seconds ≤ 65535)
    (hb : q.body = beBytes 1 (10 + w.val) ++ beBytes 2 seconds) : actExtendWindow q s =
    orRefuse s (need s.windows[w].isOpen .wrongState >>= fun _ =>
      pure (taken (extendWindow w (extendedRemaining s w seconds) s) (beBytes 3 (extendedRemaining s w seconds)))) := by
  unfold actExtendWindow
  rw [hb, field_head (by omega), windowOf_val, field_beBytes_after (le_refl 1), field_only,
    Nat.mod_eq_of_lt (by omega)]
  rfl

end

/-- Settles O50: the grant that the body carries, and the two requests by their window's state. -/
theorem windowsOpenAndExtend : Obligations.WindowsOpenAndExtend := by
  refine fun s q w => ⟨fun g rest hq hb hg => ⟨fun hc hl => ?_, fun h => ?_⟩, fun rest hq hb hg => ?_, ?_,
    fun seconds remaining hq hs hb hr => ⟨fun ho => ?_, fun hc => ?_⟩⟩
  case refine_1 =>
    obtain ⟨h1, h2⟩ := grantOf_seconds hg
    refine ⟨h1, h2, ?_⟩
    have hrow : q.row = .other .openServiceWindow := hq.row_other rfl nofun nofun nofun
    have hlen : fixedOctets .openServiceWindow q.body ≤ q.body.length := by
      have := grantOf_length hg
      rw [hb, List.length_append, beBytes_length]
      show 17 ≤ _
      omega
    obtain ⟨hu, he⟩ := grantWindow_spec w g s
    refine RunsCounting.of_effects (congrArg Host.Outcome.next (runHead_other_answered hq rfl hrow hlen
      (actOpenWindow_granted hb hg hc hl) (by rw [beBytes_length]; decide))) (unanswered_of_uncounted hu)
      (mgmt_of_uncounted hu :) ?_ he
    exact ((SameRoom.mk rfl rfl rfl (fun _ _ => rfl) fun _ => rfl : SameRoom s (s.modWindow w (·.opened g s.clock.run))).trans
      (.of_uncounted hu)).answerRoom
  case refine_2 =>
    have hrow : q.row = .other .openServiceWindow := hq.row_other rfl nofun nofun nofun
    have hlen : fixedOctets .openServiceWindow q.body ≤ q.body.length := by
      have := grantOf_length hg
      rw [hb, List.length_append, beBytes_length]
      show 17 ≤ _
      omega
    exact RunsAnswered.of_act (congrArg Host.Outcome.next (runHead_bare hq rfl hrow hlen
      (actOpenWindow_refused hb hg h))) rfl
  case refine_3 =>
    exact RunsAnswered.of_act (congrArg Host.Outcome.next (runHead_badValue hq rfl
      (hq.row_other rfl nofun nofun nofun) (actOpenWindow_bad hb hg))) rfl
  case refine_4 =>
    intro level robots cameras duration trap mirror technician rest good h1 h2 h3 h4 h5 h6 h7 h8 hrest hgood
    have hfit : (GrantFields.mk level robots cameras duration trap mirror technician).Fit :=
      ⟨h1, h2, h3, h4, h5, h6, h7, h8⟩
    have hbytes : rest = (GrantFields.mk level robots cameras duration trap mirror technician).bytes := by
      rw [hrest]
      cases technician <;> rfl
    have hgood' : good ↔ (GrantFields.mk level robots cameras duration trap mirror technician).good := hgood
    rw [hbytes, hgood']
    exact ⟨grantOf_good hfit, (grantOf_eq_none hfit).mpr⟩
  case refine_5 =>
    have hrow : q.row = .other .extendServiceWindow := hq.row_other rfl nofun nofun nofun
    have hlen : fixedOctets .extendServiceWindow q.body ≤ q.body.length := by
      rw [hb, List.length_append, beBytes_length, beBytes_length]
      exact le_refl 3
    have hrem : extendedRemaining s w seconds = remaining := hr.symm
    have ha : actExtendWindow q s = (extendWindow w remaining s, { status := .ok, body := beBytes 3 remaining }) := by
      rw [actExtendWindow_port hs hb, isOpen_iff.mpr ho, hrem]
      rfl
    obtain ⟨hu, he⟩ := extendWindow_spec w remaining s
    refine RunsCounting.of_effects (congrArg Host.Outcome.next (runHead_other_answered hq rfl hrow hlen ha
      (by rw [beBytes_length]; decide))) (unanswered_of_uncounted hu) (mgmt_of_uncounted hu :) ?_ he
    exact ((SameRoom.mk rfl rfl rfl (fun _ _ => rfl) fun _ => rfl :
      SameRoom s (s.modWindow w (·.extended s.clock.run remaining))).trans (.of_uncounted hu)).answerRoom
  case refine_6 =>
    have hrow : q.row = .other .extendServiceWindow := hq.row_other rfl nofun nofun nofun
    have hlen : fixedOctets .extendServiceWindow q.body ≤ q.body.length := by
      rw [hb, List.length_append, beBytes_length, beBytes_length]
      exact le_refl 3
    have hclosed : s.windows[w].isOpen = false := decide_eq_false (not_not.mpr hc)
    refine RunsAnswered.of_act (congrArg Host.Outcome.next (runHead_bare hq rfl hrow hlen (u := s) ?_)) rfl
    rw [actExtendWindow_port hs hb, hclosed]
    rfl

end Sys2Proof.Machine
end


section
/-! The instant that a pending commit is fixed to (R72, R76; log 19). -/

namespace Sys2Proof.Machine

section
variable {g u : Gate} {now : HallTime} {time : Option BaseTime} {T : Int → Int} {lap : Int}

/-- The boundaries of the list that a gate follows, or of the 1 ms grid. -/
def Gate.follows (g : Gate) (T : Int → Int) : Prop :=
  g.mode = .opened ∧ T = (fun k => k * 1000000) ∨
    g.mode ≠ .opened ∧ ∃ l, g.active = some l ∧ 0 < l.cycle ∧ T = fun k => l.base.toNs + k * l.cycle

theorem Gate.follows.boundaryAt (h : g.follows T) (k : Int) : g.boundaryAt k = T k := by
  unfold Gate.boundaryAt
  obtain ⟨hm, rfl⟩ | ⟨hm, l, hl, -, rfl⟩ := h
  · rw [hm]
    rfl
  · rw [hl]
    cases hg : g.mode with
    | opened => exact absurd hg hm
    | running => rfl
    | resync => rfl

/-- In OPEN the active list does not bear on the boundaries. -/
theorem commitIndex_le_iff_of_follows (h : g.follows T) (a : Option BaseTime) (now : HallTime) (k : Int) :
    g.commitIndex a now ≤ k ↔ g.nowNs now < T k ∧ ∀ x, a = some x → g.nowNs now + (x.toNs - now.toNs) ≤ T k := by
  rw [← h.boundaryAt]
  obtain ⟨hm, -⟩ | ⟨-, l, hl, hc, -⟩ := h
  · have key := Gate.commitIndex_le_iff { g with active := none } a now k nofun
    obtain ⟨mode, active, loaded, commit, activation, commitFrom, cycleIndex, windowIndex, cycleStart, target,
      disturbed⟩ := g
    cases hm
    exact key
  · exact Gate.commitIndex_le_iff g a now k fun x hx => by rwa [← Option.some.inj (hl.symm.trans hx)]

/-- A whole number of wraps of hall time does not bear on the reading of an instant. -/
theorem ofNs_lap (n : Int) (h : lap % (2 ^ 48 * 1000000000) = 0) : HallTime.ofNs (n - lap) = HallTime.ofNs n := by
  obtain ⟨m, rfl⟩ := Int.dvd_of_emod_eq_zero h
  have hofNs (n : Int) : HallTime.ofNs n =
      { sec := (n % nsWrap).toNat / nsPerSec, ns := (n % nsWrap).toNat % nsPerSec, frac := 0 } := by
    simp only [HallTime.ofNs, HallTime.stepBy, Nat.zero_mul, Nat.cast_zero, zero_add]
    rfl
  have e : (n - 2 ^ 48 * 1000000000 * m) % nsWrap = n % nsWrap := by
    have hw : (nsWrap : Int) = 2 ^ 48 * 1000000000 := by decide
    rw [hw]
    exact Int.sub_mul_emod_self_left ..
  rw [hofNs, hofNs, e]

theorem nowNs_lap (hw : now.wf = true) (hlap : lap % (2 ^ 48 * 1000000000) = 0)
    (h : ((now.units : Int) + lap * 4294967296 - g.nextBoundary * 4294967296).natAbs <
      2 ^ 46 * 1000000000 * 4294967296) : g.nowNs now = now.toNs + lap := by
  have hdiff : HallTime.diff now (HallTime.ofNs g.nextBoundary) =
      now.units - (g.nextBoundary - lap) * 4294967296 := by
    rw [← ofNs_lap g.nextBoundary hlap]
    refine diff_ofNs_near hw ?_
    have e : (now.units : Int) - (g.nextBoundary - lap) * 4294967296 =
      now.units + lap * 4294967296 - g.nextBoundary * 4294967296 := by ring
    rwa [e]
  have hfrac := ((HallTime.wf_iff _).mp hw).2.2
  have hunits : (now.units : Int) = now.toNs * 4294967296 + now.frac := by
    simp only [HallTime.units, HallTime.toNs, fracPerNs]
    push_cast
    ring
  rw [Gate.nowNs, Gate.nowUnits, hdiff, hunits]
  simp only [fracPerNs] at hfrac ⊢
  omega

/-- The gate once its commit is marked or fixed anew. -/
def Gate.committed (g : Gate) (time : Option BaseTime) (now : HallTime) : Gate :=
  { g with commit := true, activation := time, commitFrom := some (g.commitIndex time now) }

theorem committed_nextBoundary (g : Gate) (time : Option BaseTime) (now : HallTime) :
    (g.committed time now).nextBoundary = g.nextBoundary := rfl

/-- The switch-over index is the first of those that lie ahead and that the commit waits for. -/
theorem committed_switchIndex_le_iff (k : Int) : (g.committed time now).switchIndex ≤ k ↔
    (if g.mode = .resync then g.target < k
      else if g.mode = .opened ∧ g.disturbed = true then g.cycleIndex + 1 < k else g.cycleIndex < k) ∧
    g.commitIndex time now ≤ k := by
  unfold Gate.switchIndex Gate.committed
  dsimp only
  rw [Option.getD_some, max_le_iff]
  refine and_congr_left' ?_
  cases g.mode with
  | opened =>
    cases g.disturbed <;> simp
    omega
  | running => simp
  | resync => simp

theorem committed_switch (h : g.follows T) (hw : now.wf = true) (hlap : lap % (2 ^ 48 * 1000000000) = 0)
    (hnear : ((now.units : Int) + lap * 4294967296 - (g.committed time now).nextBoundary * 4294967296).natAbs <
      2 ^ 46 * 1000000000 * 4294967296) :
    (g.committed time now).switchAt = some (T (g.committed time now).switchIndex) ∧
    ∀ k : Int, (g.committed time now).switchIndex ≤ k ↔
      (if (g.committed time now).mode = .resync then (g.committed time now).target < k
        else if (g.committed time now).mode = .opened ∧ (g.committed time now).disturbed = true then
          (g.committed time now).cycleIndex + 1 < k
        else (g.committed time now).cycleIndex < k) ∧
      now.toNs + lap < T k ∧ ∀ a, time = some a → a.toNs + lap ≤ T k := by
  refine ⟨(if_pos rfl).trans (congrArg some (h.boundaryAt _)), fun k => ?_⟩
  rw [committed_switchIndex_le_iff, commitIndex_le_iff_of_follows h, nowNs_lap (g := g) hw hlap hnear]
  refine and_congr_right' (and_congr_right' (forall₂_congr fun a _ => ?_))
  omega

/-- A step fixes the commit anew, in the gate as the step leaves it. -/
theorem afterStep_committed (h : g.follows T) (hc : g.commit = true) :
    ∃ v : Gate, v.follows T ∧ g.afterStep now = v.committed g.activation now := by
  obtain ⟨hm, hT⟩ | ⟨hm, l, hl, hcyc, hT⟩ := h
  · refine ⟨{ g with cycleIndex := now.toNs / 1000000, cycleStart := gridBoundary (now.toNs / 1000000)
                     disturbed := true }, .inl ⟨hm, hT⟩, ?_⟩
    rw [afterStep_opened (.inl hm), Gate.fixCommit, Gate.committed]
    dsimp only
    rw [if_pos hc, hc]
  · refine ⟨{ g with mode := .resync, target := l.indexAfter now.toNs, disturbed := true },
      .inr ⟨nofun, l, hl, hcyc, hT⟩, ?_⟩
    rw [afterStep_resync hm hl, Gate.fixCommit, Gate.committed]
    dsimp only
    rw [if_pos hc, hc]

theorem commit_fixed (h : g.follows T) (hu : u = g.committed time now ∨
      g.commit = true ∧ time = g.activation ∧ u = g.afterStep now) (hw : now.wf = true)
    (hlap : lap % (2 ^ 48 * 1000000000) = 0)
    (hnear : ((now.units : Int) + lap * 4294967296 - u.nextBoundary * 4294967296).natAbs <
      2 ^ 46 * 1000000000 * 4294967296) :
    u.commit = true ∧ u.activation = time ∧ u.switchAt = some (T u.switchIndex) ∧ ∀ k : Int, u.switchIndex ≤ k ↔
      (if u.mode = .resync then u.target < k
        else if u.mode = .opened ∧ u.disturbed = true then u.cycleIndex + 1 < k else u.cycleIndex < k) ∧
      now.toNs + lap < T k ∧ ∀ a, time = some a → a.toNs + lap ≤ T k := by
  have hv : ∃ v : Gate, v.follows T ∧ u = v.committed time now := by
    obtain rfl | ⟨hc, rfl, rfl⟩ := hu
    · exact ⟨g, h, rfl⟩
    · exact afterStep_committed h hc
  obtain ⟨v, hf, rfl⟩ := hv
  exact ⟨rfl, rfl, committed_switch hf hw hlap hnear⟩

end

end Sys2Proof.Machine
end


section
/-! LOAD SCHEDULE and COMMIT SCHEDULE (R65, R70, R71). -/

namespace Sys2Proof.Machine

/-! ## The gate list that a body carries (R65, R197) -/

/-- A window of a list, as its duration and its set. -/
def windowBytes (w : Nat × Nat) : Octets := beBytes 3 w.1 ++ beBytes 1 w.2

/-- The window of a duration and a set. -/
def GateWindow.ofPair (w : Nat × Nat) : GateWindow := { duration := w.1, openSet := BitVec.ofNat 4 w.2 }

theorem windowsOf_bytes {l : List (Nat × Nat)} (h : ∀ w ∈ l, w.1 < 2 ^ 24 ∧ w.2 < 256) :
    windowsOf l.length (l.flatMap windowBytes) =
      if ∀ w ∈ l, w.2 < 16 then some (l.map GateWindow.ofPair) else none := by
  induction l with
  | nil => rfl
  | cons w l ih =>
    obtain ⟨hd, hs⟩ := h w List.mem_cons_self
    have hset : field (windowBytes w ++ l.flatMap windowBytes) 3 1 = w.2 := by
      rw [windowBytes, List.append_assoc, field_beBytes_after (le_refl 3)]
      exact field_head hs _
    have hdur : field (windowBytes w ++ l.flatMap windowBytes) 0 3 = w.1 := by
      rw [windowBytes, List.append_assoc, field_head hd]
    have hdrop : (windowBytes w ++ l.flatMap windowBytes).drop 4 = l.flatMap windowBytes :=
      List.drop_left' (by rw [windowBytes, List.length_append, beBytes_length, beBytes_length])
    rw [List.length_cons, List.flatMap_cons, windowsOf, hset, hdur, hdrop,
      ih fun x hx => h x (List.mem_cons_of_mem _ hx)]
    simp only [Option.bind_eq_bind, List.forall_mem_cons, List.map_cons]
    unfold setOf
    by_cases hw : w.2 < 16
    · rw [if_pos (by omega), Option.bind_some]
      by_cases hl : ∀ x ∈ l, x.2 < 16
      · rw [if_pos hl, if_pos ⟨hw, hl⟩]
        rfl
      · rw [if_neg hl, if_neg fun h => hl h.2]
        rfl
    · rw [if_neg (by omega), if_neg (c := w.2 < 16 ∧ _) fun h => hw h.1]
      rfl

/-- The fields of a LOAD SCHEDULE behind its port. -/
structure ListFields where
  cycle : Nat
  sec : Nat
  ns : Nat
  windows : List (Nat × Nat)

structure ListFields.Fit (x : ListFields) : Prop where
  cycle : x.cycle < 2 ^ 24
  sec : x.sec < 2 ^ 48
  ns : x.ns < 2 ^ 32
  count : x.windows.length < 256
  windows : ∀ w ∈ x.windows, w.1 < 2 ^ 24 ∧ w.2 < 256

def ListFields.bytes (x : ListFields) : Octets :=
  beBytes 3 x.cycle ++ beBytes 6 x.sec ++ beBytes 4 x.ns ++ beBytes 1 x.windows.length ++
    x.windows.flatMap windowBytes

/-- The list that the fields give. -/
def ListFields.list (x : ListFields) : GateList :=
  { cycle := x.cycle, base := { sec := x.sec, ns := x.ns }, windows := x.windows.map GateWindow.ofPair }

theorem windows_length (l : List (Nat × Nat)) : (l.flatMap windowBytes).length = 4 * l.length := by
  induction l with
  | nil => rfl
  | cons w l ih =>
    rw [List.flatMap_cons, List.length_append, ih, windowBytes, List.length_append, beBytes_length, beBytes_length,
      List.length_cons]
    omega

theorem gateListOf_bytes {x : ListFields} (h : x.Fit) : gateListOf x.bytes =
    if x.windows.length ≤ 16 ∧ (∀ w ∈ x.windows, w.2 < 16) ∧ x.list.ok = true then some x.list else none := by
  have hcount : field x.bytes 13 1 = x.windows.length := by
    simp (disch := decide) only [ListFields.bytes, List.append_assoc, field_beBytes_after, Nat.reduceSub, field_first]
    exact Nat.mod_eq_of_lt h.count
  have hcycle : field x.bytes 0 3 = x.cycle := by
    simp only [ListFields.bytes, List.append_assoc]
    exact field_head h.cycle _
  have hbase : baseTimeOf (slice x.bytes 3 10) = { sec := x.sec, ns := x.ns } := by
    unfold baseTimeOf
    rw [field_slice _ _ _ _ _ (by decide), field_slice _ _ _ _ _ (by decide)]
    simp (disch := decide) only [ListFields.bytes, List.append_assoc, field_beBytes_after, Nat.reduceSub,
      Nat.reduceAdd, field_first]
    rw [Nat.mod_eq_of_lt (a := x.sec) (by have := h.sec; omega), Nat.mod_eq_of_lt (a := x.ns) (by have := h.ns; omega)]
  have hlen : x.bytes.length = 14 + 4 * x.windows.length := by
    simp only [ListFields.bytes, List.length_append, beBytes_length, windows_length]
  have hdrop : x.bytes.drop 14 = x.windows.flatMap windowBytes :=
    List.drop_left' (by simp only [List.length_append, beBytes_length])
  unfold gateListOf
  dsimp only
  rw [hcount, hcycle, hbase, hlen, hdrop, windowsOf_bytes h.windows]
  by_cases hc : x.windows.length ≤ 16
  · rw [if_neg (by omega)]
    by_cases hw : ∀ w ∈ x.windows, w.2 < 16
    · rw [if_pos hw]
      exact if_congr (by simp only [hc, true_and]; exact ⟨fun h => ⟨hw, h⟩, fun h => h.2⟩) rfl rfl
    · rw [if_neg hw, if_neg fun h => hw h.2.1]
  · rw [if_pos (by omega), if_neg fun h => hc h.1]

/-- The limits of R65. -/
def ListFields.good (x : ListFields) : Prop :=
  1 ≤ x.windows.length ∧ x.windows.length ≤ 16 ∧ 125000 ≤ x.cycle ∧ x.cycle ≤ 10000000 ∧ x.cycle % 8 = 0 ∧
    (∀ w ∈ x.windows, 64 ≤ w.1 ∧ w.1 % 8 = 0 ∧ w.2 < 16) ∧ (x.windows.map Prod.fst).sum ≤ x.cycle ∧ x.ns ≤ 999999999

theorem list_ok_iff {x : ListFields} (h : x.Fit) : x.list.ok = true ↔
    (1 ≤ x.windows.length ∧ x.windows.length ≤ 16) ∧ (125000 ≤ x.cycle ∧ x.cycle ≤ 10000000 ∧ x.cycle % 8 = 0) ∧
      (∀ w ∈ x.windows, 64 ≤ w.1 ∧ w.1 % 8 = 0) ∧ (x.windows.map Prod.fst).sum ≤ x.cycle ∧ x.ns ≤ 999999999 := by
  have hmap : (x.windows.map GateWindow.ofPair).map GateWindow.duration = x.windows.map Prod.fst :=
    List.map_map.trans rfl
  have hsec : x.sec < secWrap := h.sec
  have hall : (x.windows.map GateWindow.ofPair).all (fun w => decide (64 ≤ w.duration ∧ w.duration % 8 = 0)) = true ↔
      ∀ w ∈ x.windows, 64 ≤ w.1 ∧ w.1 % 8 = 0 := by
    simp only [List.all_map, List.all_eq_true, Function.comp_apply, decide_eq_true_eq]
    rfl
  simp only [GateList.ok, Bool.and_eq_true, decide_eq_true_eq]
  simp only [ListFields.list, List.length_map, hmap, hall, hsec, and_true, and_assoc]

theorem gateListOf_good {x : ListFields} (h : x.Fit) :
    gateListOf x.bytes = if x.windows.length ≤ 16 ∧ (∀ w ∈ x.windows, w.2 < 16) ∧ x.list.ok = true
      then some x.list else none := gateListOf_bytes h

theorem good_iff {x : ListFields} (h : x.Fit) :
    x.good ↔ x.windows.length ≤ 16 ∧ (∀ w ∈ x.windows, w.2 < 16) ∧ x.list.ok = true := by
  rw [list_ok_iff h]
  constructor
  · rintro ⟨h1, h2, h3, h4, h5, hw, hs, hn⟩
    exact ⟨h2, fun w hm => (hw w hm).2.2, ⟨h1, h2⟩, ⟨h3, h4, h5⟩, fun w hm => ⟨(hw w hm).1, (hw w hm).2.1⟩, hs, hn⟩
  · rintro ⟨h2, hset, ⟨h1, -⟩, ⟨h3, h4, h5⟩, hw, hs, hn⟩
    exact ⟨h1, h2, h3, h4, h5, fun w hm => ⟨(hw w hm).1, (hw w hm).2, hset w hm⟩, hs, hn⟩

/-! ## LOAD SCHEDULE (R70) -/

section
variable {s : State} {q : Request} {p : PortId} {rest : Octets} {l : GateList}

theorem gateListOf_length (h : gateListOf rest = some l) : 14 ≤ rest.length := by
  unfold gateListOf at h
  dsimp only at h
  split at h
  · cases h
  · omega

/-- One that names a port is left with its list and the commit of that port. -/
theorem actLoadSchedule_port (hb : q.body = beBytes 1 p.val ++ rest) : actLoadSchedule q s =
    orRefuse s (valueOf (gateListOf rest) >>= fun l => need (!s.gates[p].commit) .busy >>= fun _ =>
      pure (taken (s.modGate p fun g => { g with loaded := some l }) [])) := by
  unfold actLoadSchedule
  rw [hb, field_head (by omega), indexIn_val, List.drop_left' (beBytes_length 1 _)]
  rfl

theorem loadSchedule_answered {x : Status} {u : State} (hq : LineRequest s q 11)
    (hb : q.body = beBytes 1 p.val ++ rest) (hg : gateListOf rest = some l) (ha : actLoadSchedule q s = (u, .bare x)) :
    exec .loadSchedule s = .next (u.afterAnswer q (.bare x)) := by
  have hlen : fixedOctets .loadSchedule q.body ≤ q.body.length := by
    have := gateListOf_length hg
    rw [hb, List.length_append, beBytes_length]
    show 15 ≤ _
    omega
  exact congrArg Host.Outcome.next (runHead_bare hq rfl (hq.row_other rfl nofun nofun nofun) hlen ha)

theorem loadSchedule_taken (hq : LineRequest s q 11) (hb : q.body = beBytes 1 p.val ++ rest)
    (hg : gateListOf rest = some l) (hc : s.gates[p].commit = false) :
    RunsAnswered .loadSchedule s (s.modGate p fun g => { g with loaded := some l }) q { status := .ok, body := [] } := by
  have ha : actLoadSchedule q s = (s.modGate p fun g => { g with loaded := some l }, .bare .ok) := by
    rw [actLoadSchedule_port hb, hg, hc]
    rfl
  exact ⟨_, loadSchedule_answered hq hb hg ha, afterAnswer_unanswered .., afterAnswer_mgmt ..,
    fun hr => afterAnswer_answered _ _ _ hr⟩

theorem loadSchedule_busy (hq : LineRequest s q 11) (hb : q.body = beBytes 1 p.val ++ rest)
    (hg : gateListOf rest = some l) (hc : s.gates[p].commit = true) :
    RunsAnswered .loadSchedule s s q { status := .busy, body := [] } := by
  refine RunsAnswered.of_act (loadSchedule_answered hq hb hg ?_) rfl
  rw [actLoadSchedule_port hb, hg, hc]
  rfl

theorem loadSchedule_bad (hq : LineRequest s q 11) (hb : q.body = beBytes 1 p.val ++ rest) (hg : gateListOf rest = none) :
    RunsAnswered .loadSchedule s s q { status := .badValue, body := [] } := by
  refine RunsAnswered.of_act (congrArg Host.Outcome.next (runHead_badValue hq rfl
    (hq.row_other rfl nofun nofun nofun) ?_)) rfl
  rw [actLoadSchedule_port hb, hg]
  rfl

/-! ## COMMIT SCHEDULE (R71) -/

variable {set : PortSet} {time : Option BaseTime} {octets : Octets}

/-- The 10 octets of an activation time, or of none. -/
def timeBytes : Option BaseTime → Octets
  | none => noneBytes 10
  | some t => beBytes 6 t.sec ++ beBytes 4 t.ns

/-- The activation time can be written. -/
def goodTime (time : Option BaseTime) : Prop := ∀ t, time = some t → t.sec < 2 ^ 48 ∧ t.ns ≤ 999999999

theorem timeBytes_length (time : Option BaseTime) : (timeBytes time).length = 10 := by
  cases time with
  | none => rfl
  | some t => rw [timeBytes, List.length_append, beBytes_length, beBytes_length]

theorem isNone_timeBytes (h : goodTime time) : isNone (timeBytes time) = time.isNone := by
  cases time with
  | none => decide
  | some t =>
    obtain ⟨-, hn⟩ := h t rfl
    refine Bool.eq_false_of_not_eq_true fun hnone => ?_
    have e := (isNone_iff _).mp hnone
    rw [timeBytes_length] at e
    have hfield : field (timeBytes (some t)) 6 4 = t.ns := by
      rw [timeBytes, field_beBytes_after (le_refl 6), field_only, Nat.mod_eq_of_lt (by omega)]
    rw [e] at hfield
    have h10 : field (List.replicate 10 (0xFF : Byte)) 6 4 = 4294967295 := by decide
    omega

/-- The activation time that a body carries, once it is taken. -/
theorem timeBytes_read (h : goodTime time) :
    (if isNone (timeBytes time) then none else some (baseTimeOf (timeBytes time))) = time := by
  rw [isNone_timeBytes h]
  cases time with
  | none => rfl
  | some t =>
    obtain ⟨hs, hn⟩ := h t rfl
    exact congrArg some (baseTimeOf_bytes hs hn)

theorem timeBytes_taken (h : goodTime time) :
    (!isNone (timeBytes time) && decide (999999999 < (baseTimeOf (timeBytes time)).ns)) = false := by
  rw [isNone_timeBytes h]
  cases time with
  | none => rfl
  | some t =>
    obtain ⟨hs, hn⟩ := h t rfl
    rw [timeBytes, baseTimeOf_bytes hs hn, decide_eq_false (Nat.not_lt.mpr hn), Bool.and_false]

theorem commitFault_eq_none {g : Gate} : g.commitFault = none ↔ g.commit = false ∧ g.loaded.isSome = true := by
  unfold Gate.commitFault
  cases g.commit <;> cases g.loaded <;> simp

/-- The set and the time that the body carries. -/
theorem commitOctets_read (hb : q.body = beBytes 2 set.toNat ++ timeBytes time) :
    setOf 12 (field q.body 0 2) = some set ∧ slice q.body 2 10 = timeBytes time := by
  constructor
  · rw [hb, field_head (set.isLt.trans (by decide)), setOf_toNat]
  · rw [hb, slice_beBytes_after (le_refl 2), slice, List.drop_zero, List.take_of_length_le (timeBytes_length time).le]

theorem actCommitSchedule_refused {x : Status} (hb : q.body = beBytes 2 set.toNat ++ timeBytes time) (hs : set ≠ 0)
    (ht : goodTime time) (h : s.commitRefusal (members set) = some (p, x)) :
    actCommitSchedule q s = (s, { status := x, body := beBytes 1 p.val }) := by
  obtain ⟨hset, htime⟩ := commitOctets_read hb
  unfold actCommitSchedule
  dsimp only
  rw [hset, htime, timeBytes_taken ht]
  dsimp only
  rw [if_neg hs, if_neg Bool.false_ne_true, h]

theorem actCommitSchedule_pending (hb : q.body = beBytes 2 set.toNat ++ timeBytes time) (hs : set ≠ 0)
    (ht : goodTime time) (h : s.commitRefusal (members set) = none) :
    actCommitSchedule q s = (forEach (members set) (markCommit time) s, .bare .pending) := by
  obtain ⟨hset, htime⟩ := commitOctets_read hb
  unfold actCommitSchedule
  dsimp only
  rw [hset, htime, timeBytes_taken ht, timeBytes_read ht]
  dsimp only
  rw [if_neg hs, if_neg Bool.false_ne_true, h]

theorem commitRefusal_none (h : ∀ p : PortId, set.getLsbD p.val = true →
    s.gates[p].commit = false ∧ s.gates[p].loaded.isSome = true) : s.commitRefusal (members set) = none :=
  List.findSome?_eq_none_iff.mpr fun p hp => by
    rw [commitFault_eq_none.mpr (h p ((mem_members ..).mp hp))]
    rfl

/-- The members before one that is a member too. -/
theorem members_split {n : Nat} {b : BitVec n} {i : Fin n} (h : b.getLsbD i.val = true) :
    ∃ l r, members b = l ++ i :: r ∧ ∀ x ∈ l, x < i ∧ b.getLsbD x.val = true := by
  obtain ⟨l, r, he⟩ := List.append_of_mem ((mem_members b i).mpr h)
  refine ⟨l, r, he, fun x hx => ?_⟩
  have hsorted : (members b).Pairwise (· < ·) := (List.pairwise_lt_finRange n).filter _
  rw [he, List.pairwise_append] at hsorted
  exact ⟨hsorted.2.2 x hx i List.mem_cons_self, (mem_members b x).mp (by rw [he]; exact List.mem_append_left _ hx)⟩

/-- The first port that refuses names the answer. -/
theorem commitRefusal_first {x : Status} (hp : set.getLsbD p.val = true)
    (hbefore : ∀ y : PortId, y < p → set.getLsbD y.val = true →
      s.gates[y].commit = false ∧ s.gates[y].loaded.isSome = true)
    (hx : s.gates[p].commitFault = some x) : s.commitRefusal (members set) = some (p, x) := by
  obtain ⟨l, r, he, hl⟩ := members_split hp
  have hnone : l.findSome? (fun p => s.gates[p].commitFault.map fun x => (p, x)) = none :=
    List.findSome?_eq_none_iff.mpr fun y hy => by
      rw [commitFault_eq_none.mpr (hbefore y (hl y hy).1 (hl y hy).2)]
      rfl
  rw [State.commitRefusal, he, List.findSome?_append, hnone, Option.none_or, List.findSome?_cons, hx]
  rfl

/-- The commits marked on some ports. -/
def State.committedOn (s : State) (on : PortId → Bool) (time : Option BaseTime) : State :=
  { s with
    gates := Vector.ofFn fun p => if on p then s.gates[p].committed time s.clock.hall else s.gates[p] }

theorem forEach_markCommit (l : List PortId) (hl : l.Nodup) (s : State) :
    forEach l (markCommit time) s = s.committedOn (fun p => decide (p ∈ l)) time := by
  induction l generalizing s with
  | nil =>
    refine congrArg (fun v => ({ s with gates := v } : State)) (Vector.ext fun i hi => ?_)
    rw [Vector.getElem_ofFn]
    rfl
  | cons p l ih =>
    obtain ⟨hp, hl⟩ := List.nodup_cons.mp hl
    rw [forEach_cons, ih hl]
    refine congrArg (fun v => ({ s with gates := v } : State)) (Vector.ext fun i hi => ?_)
    rw [Vector.getElem_ofFn, Vector.getElem_ofFn]
    have hmark : (markCommit time p s).gates = upd s.gates p fun g => g.committed time s.clock.hall := rfl
    have hclock : (markCommit time p s).clock = s.clock := rfl
    simp only [hmark, hclock, decide_eq_true_eq]
    by_cases h : (⟨i, hi⟩ : PortId) = p
    · rw [if_neg (h ▸ hp), if_pos (h ▸ List.mem_cons_self), h]
      exact upd_same ..
    · rw [Fin.getElem_fin, upd_other _ _ _ _ h]
      exact if_congr (by rw [List.mem_cons]; exact (or_iff_right h).symm) rfl rfl

theorem commitSchedule_answered {u : State} {r : Reply} (hq : LineRequest s q 12)
    (hb : q.body = beBytes 2 set.toNat ++ timeBytes time) (hl : r.body.length ≤ 1)
    (ha : actCommitSchedule q s = (u, r)) : exec .commitSchedule s = .next (u.afterAnswer q r) := by
  have hlen : fixedOctets .commitSchedule q.body ≤ q.body.length := by
    rw [hb, List.length_append, beBytes_length, timeBytes_length]
    exact le_refl 12
  exact congrArg Host.Outcome.next
    (runHead_other_answered hq rfl (hq.row_other rfl nofun nofun nofun) hlen ha (hl.trans (by decide)))

theorem commitSchedule_pending (hq : LineRequest s q 12) (hb : q.body = beBytes 2 set.toNat ++ timeBytes time)
    (hs : set ≠ 0) (ht : goodTime time) (h : ∀ p : PortId, set.getLsbD p.val = true →
      s.gates[p].commit = false ∧ s.gates[p].loaded.isSome = true) :
    RunsAnswered .commitSchedule s (s.committedOn (fun p => set.getLsbD p.val) time) q
      { status := .pending, body := [] } := by
  have hon : (fun p => decide (p ∈ members set)) = fun p : PortId => set.getLsbD p.val :=
    funext fun p => by rw [Bool.eq_iff_iff, decide_eq_true_eq, mem_members]
  have ha : actCommitSchedule q s = (s.committedOn (fun p => set.getLsbD p.val) time, .bare .pending) := by
    have hnodup : (members set).Nodup := (List.nodup_finRange 12).filter _
    rw [actCommitSchedule_pending hb hs ht (commitRefusal_none h), forEach_markCommit _ hnodup, hon]
  exact ⟨_, commitSchedule_answered hq hb (Nat.zero_le _) ha, afterAnswer_unanswered .., afterAnswer_mgmt ..,
    fun hr => afterAnswer_answered _ _ _ hr⟩

theorem commitSchedule_refused {x : Status} (hq : LineRequest s q 12)
    (hb : q.body = beBytes 2 set.toNat ++ timeBytes time) (hs : set ≠ 0) (ht : goodTime time)
    (hp : set.getLsbD p.val = true) (hbefore : ∀ y : PortId, y < p → set.getLsbD y.val = true →
      s.gates[y].commit = false ∧ s.gates[y].loaded.isSome = true)
    (hx : s.gates[p].commitFault = some x) :
    RunsAnswered .commitSchedule s s q { status := x, body := beBytes 1 p.val } := by
  have ha := actCommitSchedule_refused hb hs ht (commitRefusal_first hp hbefore hx)
  exact (RunsCounting.of_answer (commitSchedule_answered hq hb (by rw [beBytes_length]) ha)).answered

end

/-- Settles O48: the list by its limits, the two requests by the gates, and the boundary a commit is fixed to. -/
theorem schedulesLoadAndCommit : Obligations.SchedulesLoadAndCommit := by
  refine fun s q => ⟨fun p l rest hq hb hg => ⟨loadSchedule_taken hq hb hg, loadSchedule_busy hq hb hg⟩,
    fun p rest hq hb hg => loadSchedule_bad hq hb hg, fun cycle sec ns windows rest good h1 h2 h3 h4 h5 hrest hgood => ?_,
    fun set time l hq hs hnone hsome hb => ?_, fun g u now time T lap hT hu hw hlap hnear => ?_⟩
  · have hfit : (ListFields.mk cycle sec ns windows).Fit := ⟨h1, h2, h3, h4, h5⟩
    have hbytes : rest = (ListFields.mk cycle sec ns windows).bytes := hrest
    have hgood' : good ↔ (ListFields.mk cycle sec ns windows).good := hgood
    rw [hbytes, hgood', good_iff hfit, gateListOf_bytes hfit]
    exact ⟨fun h => if_pos h, fun h => if_neg h⟩
  · have ht : goodTime time := fun t e => ⟨(hsome t e).1, (hsome t e).2.1⟩
    have hl : l = timeBytes time := by
      cases time with
      | none => exact hnone rfl
      | some t => exact (hsome t rfl).2.2
    rw [hl] at hb
    refine ⟨commitSchedule_pending hq hb hs ht, fun p hp hbefore => ⟨fun hc => ?_, fun hc hn => ?_⟩⟩
    · exact commitSchedule_refused hq hb hs ht hp hbefore (if_pos hc)
    · refine commitSchedule_refused hq hb hs ht hp hbefore ?_
      rw [Gate.commitFault, hc, hn]
      rfl
  · exact commit_fixed hT hu hw hlap hnear

end Sys2Proof.Machine
end


section
/-! The requests that arrive at a service port: how they are counted, judged and run (R160, R185). -/

namespace Sys2Proof.Machine

/-! ## The row and the command of a request -/

section
variable {q : Request}

theorem field_of_clearFlag {l : Octets} (h : l[1]? = some 1#8) : field l 1 1 = 1 := by
  obtain ⟨hl, hv⟩ := List.getElem?_eq_some_iff.mp h
  have e : slice l 1 1 = [1#8] := by
    rw [slice, List.drop_eq_getElem_cons hl, hv]
    rfl
  rw [field, e]
  rfl

theorem row_of_kind {k : RequestKind} (hv : q.version = 1) (hk : requestKindOf q.kind = some k) (h1 : k ≠ .readTable)
    (h2 : k ≠ .writeTable) (h3 : k ≠ .readCounters) : q.row = .other k := by
  unfold Request.row
  rw [if_neg (not_not.mpr hv), hk]
  cases k with
  | readTable => exact absurd rfl h1
  | writeTable => exact absurd rfl h2
  | readCounters => exact absurd rfl h3
  | _ => rfl

/-- A read without clear has the row of its own. -/
theorem row_readCounters (hv : q.version = 1) (hk : q.kind = 3) (hf : field q.body 1 1 = 0) : q.row = .readCounters := by
  unfold Request.row
  rw [if_neg (not_not.mpr hv), hk]
  refine if_neg fun h => ?_
  rw [field_of_clearFlag h] at hf
  cases hf

/-- The kinds with rows of their own have no other. -/
theorem row_ne_other {k : RequestKind} (h : k = .readTable ∨ k = .writeTable ∨ k = .readCounters) : q.row ≠ .other k := by
  intro hrow
  unfold Request.row at hrow
  split at hrow
  · cases hrow
  split at hrow
  · cases hrow
  · cases hrow
  · split at hrow <;> cases hrow
  · split at hrow <;> cases hrow
  · next h1 h2 h3 hk =>
    cases hrow
    obtain rfl | rfl | rfl := h
    · exact h1 rfl
    · exact h2 rfl
    · exact h3 rfl

end

/-! ## A request of a service port, counted once -/

/-- The request `q` is at the head of the queue, no RESTART waits there, and its header is good; it came in at
the port of the window `w`. -/
structure ServiceRequest (s : State) (q : Request) (w : WindowId) : Prop where
  head : s.mgmt.queue.head? = some q
  idle : s.mgmt.restart = none
  version : q.version = 1
  fits : q.bodyFits = true
  port : q.port = windowPort w

/-- The request is the technician's of an ACTIVE window. -/
def State.mine (s : State) (q : Request) (w : WindowId) : Prop :=
  s.windows[w].state = .active ∧ s.windows[w].technician = some q.source

/-- The state in which a technician request is counted. -/
def State.asked (s : State) (w : WindowId) : State := bump (.service w .requests) s

/-- The state in which its refusal is counted too. -/
def State.denied (s : State) (w : WindowId) : State := bump (.service w .refusals) (s.asked w)

section
variable {s u : State} {q : Request} {w : WindowId} {r : Reply} {act : Act} {k : RequestKind}

theorem asked_uncounted : (s.asked w).uncounted = s.uncounted := bump_uncounted ..

theorem denied_uncounted : (s.denied w).uncounted = s.uncounted := (bump_uncounted ..).trans asked_uncounted

theorem asked_windows : (s.asked w).windows = s.windows := bump_windows ..

theorem asked_effects : Effects s (s.asked w) s.clock.hall.base [.service w .requests] [] :=
  (Effects.refl s _).bump (.service w .requests)

theorem denied_effects : Effects s (s.denied w) s.clock.hall.base [.service w .requests, .service w .refusals] [] :=
  asked_effects.bump (.service w .refusals)

theorem asked_station : (s.asked w).station = s.station := station_of_uncounted asked_uncounted

/-! ## The judgement (R160) -/

/-- The kinds that a technician may ask for. -/
theorem kind_technician {n : Nat} (hk : requestKindOf n = some k)
    (h : k = .readCounters ∨ k = .readState ∨ k = .closeServiceWindow ∨ k = .lowerLevel) : n ∈ [3, 4, 16, 17] := by
  unfold requestKindOf at hk
  split at hk <;> cases hk <;> simp at h ⊢

theorem technicianMay_eq_none (hk : requestKindOf q.kind = some k) (h : q.kind ∉ [3, 4, 16, 17]) (x : ServiceWindow)
    (w : WindowId) (l : Octets) : technicianMay x w k l = none := by
  cases k with
  | readCounters => exact absurd (kind_technician hk (.inl rfl)) h
  | readState => exact absurd (kind_technician hk (.inr (.inl rfl))) h
  | closeServiceWindow => exact absurd (kind_technician hk (.inr (.inr (.inl rfl)))) h
  | lowerLevel => exact absurd (kind_technician hk (.inr (.inr (.inr rfl)))) h
  | _ => rfl

theorem judge_stranger (h : ¬s.mine q w) : judgeTechnician w q (s.asked w) = (s.denied w, some (.bare .notPermitted)) := by
  have hno : (s.asked w).windows[w].state ≠ .active ∨ (s.asked w).windows[w].technician ≠ some q.source := by
    rw [asked_windows]
    exact not_and_or.mp h
  exact if_pos hno

/-- The technician's own request is judged by its kind. -/
theorem judge_mine (h : s.mine q w) (hk : requestKindOf q.kind = some k) : judgeTechnician w q (s.asked w) =
    match technicianMay s.windows[w] w k q.body with
    | none => (s.denied w, some (.bare .notPermitted))
    | some may =>
      if q.body.length < fixedOctets k q.body then (s.asked w, some (.bare .badValue))
      else if may then (s.asked w, none) else (s.denied w, some (.bare .notPermitted)) := by
  have hyes : ¬((s.asked w).windows[w].state ≠ .active ∨ (s.asked w).windows[w].technician ≠ some q.source) := by
    rw [asked_windows]
    exact fun hno => not_and_or.mpr hno h
  unfold judgeTechnician
  dsimp only
  rw [if_neg hyes, hk, asked_windows]
  rfl

theorem judge_otherKind (h : q.kind ∉ [3, 4, 16, 17]) :
    judgeTechnician w q (s.asked w) = (s.denied w, some (.bare .notPermitted)) := by
  by_cases hm : s.mine q w
  · cases hk : requestKindOf q.kind with
    | some k =>
      rw [judge_mine hm hk, technicianMay_eq_none hk h]
    | none =>
      unfold judgeTechnician
      dsimp only
      rw [hk]
      split <;> rfl
  · exact judge_stranger hm

variable (h : s.mine q w) (hk : requestKindOf q.kind = some k) {may : Bool}
include h hk

theorem judge_short (hmay : technicianMay s.windows[w] w k q.body = some may)
    (hb : q.body.length < fixedOctets k q.body) :
    judgeTechnician w q (s.asked w) = (s.asked w, some (.bare .badValue)) := by
  rw [judge_mine h hk, hmay]
  exact if_pos hb

theorem judge_taken (hmay : technicianMay s.windows[w] w k q.body = some true)
    (hb : fixedOctets k q.body ≤ q.body.length) : judgeTechnician w q (s.asked w) = (s.asked w, none) := by
  rw [judge_mine h hk, hmay]
  exact (if_neg (Nat.not_lt.mpr hb)).trans (if_pos rfl)

theorem judge_denied (hmay : technicianMay s.windows[w] w k q.body = some false)
    (hb : fixedOctets k q.body ≤ q.body.length) :
    judgeTechnician w q (s.asked w) = (s.denied w, some (.bare .notPermitted)) := by
  rw [judge_mine h hk, hmay]
  exact (if_neg (Nat.not_lt.mpr hb)).trans (if_neg Bool.false_ne_true)

end

/-! ## The run (R185) -/

section
variable {s u : State} {q : Request} {w : WindowId} {r : Reply} {act : Act} {x : Status}
  {after : Request → Reply → State → State} (hq : ServiceRequest s q w)
include hq

theorem perform_judged (hj : judgeTechnician w q u = (u, none)) : perform act q u = act q u := by
  simp only [perform, hq.version, hq.fits, hq.port, portWindow_windowPort, hj]
  rfl

theorem perform_refused {v : State} (hj : judgeTechnician w q v = (u, some r)) : perform act q v = (u, r) := by
  simp only [perform, hq.version, hq.fits, hq.port, portWindow_windowPort, hj]
  rfl

theorem performFitted_asked (hp : perform act q (s.asked w) = (u, r))
    (hl : (answerFrame s.station q r).length ≤ Config.maxFrame) : performFitted act q s = (u, r) := by
  have hc : countTechnician q s = s.asked w := by
    rw [countTechnician, hq.port, portWindow_windowPort]
    rfl
  unfold performFitted
  dsimp only
  rw [hc, hp, asked_station]
  exact if_neg (Nat.not_lt.mpr hl)

theorem runRequest_asked (hp : perform act q (s.asked w) = (u, r))
    (hl : (answerFrame s.station q r).length ≤ Config.maxFrame) :
    runRequest act after q s = after q r (u.afterAnswer q r) := by
  unfold runRequest
  rw [performFitted_asked hq hp hl]
  rfl

theorem runHead_asked {row : RequestRow} (hrow : q.row = row) (hp : perform act q (s.asked w) = (u, r))
    (hl : (answerFrame s.station q r).length ≤ Config.maxFrame) : runHead row act s = u.afterAnswer q r := by
  unfold runHead
  rw [headRequest_of_head hq.head hq.idle hrow]
  exact runRequest_asked hq hp hl

/-- A refused request is answered by the command of its row, whichever that is. -/
theorem exec_refused (hj : judgeTechnician w q (s.asked w) = (u, some (.bare x))) (hx : x ≠ .ok) :
    exec q.command s = .next (u.afterAnswer q (.bare x)) := by
  have hlen := answerFrame_bare_length s.station q x
  have hrun (row : RequestRow) (act : Act) (hrow : q.row = row) :
      Host.Outcome.next (runHead row act s) = (.next (u.afterAnswer q (.bare x)) : Result) :=
    congrArg Host.Outcome.next (runHead_asked hq hrow (perform_refused hq hj) hlen)
  unfold Request.command
  cases hrow : q.row with
  | readTable => exact hrun _ _ hrow
  | write t => cases t <;> exact hrun _ _ hrow
  | readCounters => exact hrun _ _ hrow
  | readAndClearCounters => exact hrun _ _ hrow
  | unknown => exact hrun _ _ hrow
  | other k =>
    cases k with
    | readTable => exact absurd hrow (row_ne_other (.inl rfl))
    | writeTable => exact absurd hrow (row_ne_other (.inr (.inl rfl)))
    | readCounters => exact absurd hrow (row_ne_other (.inr (.inr rfl)))
    | restart =>
      have hp : performFitted (fun _ s => taken s []) q s = (u, .bare x) :=
        performFitted_asked hq (perform_refused hq hj) hlen
      have hr : runRestart q s = u.afterAnswer q (.bare x) := by
        unfold runRestart
        rw [hp]
        exact if_neg hx
      refine congrArg Host.Outcome.next (?_ : (match s.headRequest (.other .restart) with
        | some q => runRestart q s
        | none => s) = _)
      rw [headRequest_of_head hq.head hq.idle hrow, ← hr]
    | closeServiceWindow =>
      have hr : runRequest actCloseWindow closeAfter q s = u.afterAnswer q (.bare x) := by
        rw [runRequest_asked hq (perform_refused hq hj) hlen, closeAfter, hq.port, portWindow_windowPort]
        exact if_neg hx
      refine congrArg Host.Outcome.next (?_ : (match s.headRequest (.other .closeServiceWindow) with
        | some q => runRequest actCloseWindow closeAfter q s
        | none => s) = _)
      rw [headRequest_of_head hq.head hq.idle hrow, ← hr]
    | _ => exact hrun _ _ hrow

/-- A request that is denied is counted twice and answered NOT_PERMITTED. -/
theorem denied_counting (hj : judgeTechnician w q (s.asked w) = (s.denied w, some (.bare .notPermitted))) :
    RunsCounting q.command s s q { status := .notPermitted, body := [] }
      [.service w .requests, .service w .refusals] [] :=
  RunsCounting.of_effects (exec_refused hq hj nofun) (unanswered_of_uncounted denied_uncounted)
    (mgmt_of_uncounted denied_uncounted) (SameRoom.of_uncounted denied_uncounted).answerRoom denied_effects

theorem short_counting (hj : judgeTechnician w q (s.asked w) = (s.asked w, some (.bare .badValue))) :
    RunsCounting q.command s s q { status := .badValue, body := [] } [.service w .requests] [] :=
  RunsCounting.of_effects (exec_refused hq hj nofun) (unanswered_of_uncounted asked_uncounted)
    (mgmt_of_uncounted asked_uncounted) (SameRoom.of_uncounted asked_uncounted).answerRoom asked_effects

/-- One that is taken, and whose act replies and leaves the state, is counted once. -/
theorem taken_counting {row : RequestRow} {c : Instr} (hrow : q.row = row)
    (hc : exec c s = .next (runHead row act s)) (hj : judgeTechnician w q (s.asked w) = (s.asked w, none))
    (ha : act q (s.asked w) = (s.asked w, r)) (hl : (answerFrame s.station q r).length ≤ Config.maxFrame) :
    RunsCounting c s s q r [.service w .requests] [] := by
  rw [runHead_asked hq hrow ((perform_judged hq hj).trans ha) hl] at hc
  exact RunsCounting.of_effects hc (unanswered_of_uncounted asked_uncounted)
    (mgmt_of_uncounted asked_uncounted) (SameRoom.of_uncounted asked_uncounted).answerRoom asked_effects

end

end Sys2Proof.Machine
end


section
/-! The scope of a technician's reads, and the reads within it (R160). -/

namespace Sys2Proof.Machine

/-! ## The subjects that a technician may read -/

theorem indexIn_map {α : Type} {n i : Nat} {f : Fin n → α} {x : α} (h : (indexIn n i).map f = .ok x) :
    ∃ j : Fin n, i = j.val ∧ x = f j := by
  unfold indexIn at h
  split at h
  · next hi =>
    cases h
    exact ⟨⟨i, hi⟩, rfl, rfl⟩
  · cases h

theorem windowOf_map {α : Type} {i : Nat} {f : WindowId → α} {x : α} (h : (windowOf i).map f = .ok x) :
    ∃ v : WindowId, i = (windowPort v).val ∧ x = f v := by
  unfold windowOf at h
  split at h
  · next hi =>
    cases h
    exact ⟨0, hi, rfl⟩
  · split at h
    · next hi =>
      cases h
      exact ⟨1, hi, rfl⟩
    · cases h

theorem ownIndex_ok {α : Type} {i : Nat} {x y : α} (h : ownIndex i y = .ok x) : x = y := by
  unfold ownIndex at h
  split at h
  · cases h
    rfl
  · cases h

theorem windowPort_val_inj {v w : WindowId} : (windowPort v).val = (windowPort w).val ↔ v = w := by
  revert v w; decide

/-- A subject of READ STATE in the scope of a window. -/
def ServiceWindow.reads (y : ServiceWindow) (w : WindowId) (x : StateSubject) : Prop :=
  (∃ r, x = .robot r ∧ y.robots.getLsbD r.val = true) ∨ (∃ c, x = .camera c ∧ y.cameras.getLsbD c.val = true) ∨
    x = .service w

/-- A subject of READ COUNTERS in the scope of a window. -/
def ServiceWindow.counts (y : ServiceWindow) (w : WindowId) (x : CounterSubject) : Prop :=
  (∃ r, x = .robot r ∧ y.robots.getLsbD r.val = true) ∨ (∃ c, x = .camera c ∧ y.cameras.getLsbD c.val = true) ∨
    x = .service w

section
variable {l : Octets} {y : ServiceWindow} {w : WindowId}

theorem inScope_state {x : StateSubject} (hx : stateSubject l = .ok x) :
    y.inScope w 3 7 9 (field l 0 1) (field l 1 2) = true ↔ y.reads w x := by
  have hother (code index : Nat) (h3 : code ≠ 3) (h7 : code ≠ 7) (h9 : code ≠ 9) (h : ¬y.reads w x) :
      y.inScope w 3 7 9 code index = true ↔ y.reads w x := by
    refine iff_of_false ?_ h
    rw [ServiceWindow.inScope, decide_eq_false h3, decide_eq_false h7, decide_eq_false h9]
    exact Bool.false_ne_true
  unfold stateSubject at hx
  dsimp only at hx
  generalize field l 0 1 = code at hx ⊢
  generalize field l 1 2 = index at hx ⊢
  split at hx
  case h_4 =>
    obtain ⟨r, rfl, rfl⟩ := indexIn_map hx
    simp [ServiceWindow.inScope, ServiceWindow.reads]
  case h_8 =>
    obtain ⟨c, rfl, rfl⟩ := indexIn_map hx
    simp [ServiceWindow.inScope, ServiceWindow.reads]
  case h_10 =>
    obtain ⟨v, rfl, rfl⟩ := windowOf_map hx
    simp only [ServiceWindow.inScope, ServiceWindow.reads, windowPort_val_inj]
    simp
  case h_2 =>
    obtain ⟨p, -, rfl⟩ := indexIn_map hx
    exact hother _ _ (by decide) (by decide) (by decide) (by simp [ServiceWindow.reads])
  case h_7 =>
    split at hx
    · cases hx
    · obtain rfl := ownIndex_ok hx
      exact hother _ _ (by decide) (by decide) (by decide) (by simp [ServiceWindow.reads])
  case h_13 => cases hx
  all_goals
    obtain rfl := ownIndex_ok hx
    exact hother _ _ (by decide) (by decide) (by decide) (by simp [ServiceWindow.reads])

theorem inScope_counters {x : CounterSubject} (hx : counterSubject l = .ok x) :
    y.inScope w 2 3 4 (field l 0 1) (field l 2 2) = true ↔ y.counts w x := by
  have hother (code index : Nat) (h2 : code ≠ 2) (h3 : code ≠ 3) (h4 : code ≠ 4) (h : ¬y.counts w x) :
      y.inScope w 2 3 4 code index = true ↔ y.counts w x := by
    refine iff_of_false ?_ h
    rw [ServiceWindow.inScope, decide_eq_false h2, decide_eq_false h3, decide_eq_false h4]
    exact Bool.false_ne_true
  unfold counterSubject at hx
  dsimp only at hx
  generalize field l 0 1 = code at hx ⊢
  generalize field l 2 2 = index at hx ⊢
  split at hx
  case h_3 =>
    split at hx
    · next hi =>
      cases hx
      simp [ServiceWindow.inScope, ServiceWindow.counts, hi]
    · obtain ⟨r, rfl, rfl⟩ := indexIn_map hx
      simp [ServiceWindow.inScope, ServiceWindow.counts]
  case h_4 =>
    obtain ⟨c, rfl, rfl⟩ := indexIn_map hx
    simp [ServiceWindow.inScope, ServiceWindow.counts]
  case h_5 =>
    obtain ⟨v, rfl, rfl⟩ := windowOf_map hx
    simp only [ServiceWindow.inScope, ServiceWindow.counts, windowPort_val_inj]
    simp
  case h_1 =>
    obtain ⟨p, -, rfl⟩ := indexIn_map hx
    exact hother _ _ (by decide) (by decide) (by decide) (by simp [ServiceWindow.counts])
  case h_2 =>
    obtain ⟨p, -, rfl⟩ := indexIn_map hx
    exact hother _ _ (by decide) (by decide) (by decide) (by simp [ServiceWindow.counts])
  case h_10 => cases hx
  all_goals
    obtain rfl := ownIndex_ok hx
    exact hother _ _ (by decide) (by decide) (by decide) (by simp [ServiceWindow.counts])

end

/-! ## READ STATE of a technician -/

theorem RobotCounter.idx_surjective (i : Fin 12) : ∃ c : RobotCounter, c.idx = i :=
  ⟨[.statusHits, .extraStatus, .lateStatus, .misses, .commandsSent, .repeatsSent, .holdFramesSent, .silentPeriods,
    .overwritten, .lateCommands, .delayedSends, .losses][i], by revert i; decide⟩

section
variable {s : State} {q : Request} {w : WindowId}

/-- A count of the service block leaves a robot's counters. -/
theorem asked_robotCounters (r : RobotId) : (s.asked w).counters.robot[r] = s.counters.robot[r] := by
  refine Vector.ext fun i hi => ?_
  obtain ⟨c, hc⟩ := RobotCounter.idx_surjective ⟨i, hi⟩
  have h : (s.asked w).counter (.robot r c) = s.counter (.robot r c) := bump_counter_other _ _ _ rfl nofun
  simp only [State.counter, Counters.get, hc] at h
  exact h

/-- What a technician may read of the state is as it was before the request was counted. -/
theorem asked_stateRecord {x : StateSubject} (hx : s.windows[w].reads w x)
    (hclean : ∀ r, x = .robot r → s.robots[r].damaged = false ∧ s.robots[r].ecc = .clean) :
    (stateRecord x (s.asked w)).2 = (stateRecord x s).2 := by
  have he := eq_recounted (asked_uncounted (s := s) (w := w)).symm
  obtain ⟨r, rfl, -⟩ | ⟨c, rfl, -⟩ | rfl := hx
  · have hr : (s.asked w).robots = s.robots := by rw [he]
    have h1 := stateRecord_state (x := .robot r) (s := s) hclean
    have h2 := stateRecord_state (x := .robot r) (s := s.asked w) (by rw [hr]; exact hclean)
    show robotState (stateRecord (.robot r) (s.asked w)).1 r = robotState (stateRecord (.robot r) s).1 r
    rw [h1, h2]
    unfold robotState
    rw [asked_robotCounters, he]
    rfl
  · rw [he]
    rfl
  · rw [he]
    rfl

theorem technician_readState {x : StateSubject} (hq : ServiceRequest s q w) (hm : s.mine q w) (hk : q.kind = 4)
    (hb : 3 ≤ q.body.length) (hlist : field q.body 0 1 = 6 → 5 ≤ q.body.length) (hx : stateSubject q.body = .ok x) :
    (s.windows[w].reads w x → (∀ r, x = .robot r → s.robots[r].damaged = false ∧ s.robots[r].ecc = .clean) →
      (answerFrame s.station q { status := .ok, body := (stateRecord x s).2 }).length ≤ 9216 →
      RunsCounting .readState s s q { status := .ok, body := (stateRecord x s).2 } [.service w .requests] []) ∧
    (¬s.windows[w].reads w x → RunsCounting .readState s s q { status := .notPermitted, body := [] }
      [.service w .requests, .service w .refusals] []) := by
  have hkind : requestKindOf q.kind = some .readState := by rw [hk]; rfl
  have hrow : q.row = .other .readState := row_of_kind hq.version hkind nofun nofun nofun
  have hfixed : fixedOctets .readState q.body ≤ q.body.length := by
    unfold fixedOctets
    dsimp only
    split
    · next h => exact hlist h
    · exact hb
  have hscope := inScope_state (y := s.windows[w]) (w := w) hx
  refine ⟨fun hr hclean hl => ?_, fun hr => ?_⟩
  · have hmay : technicianMay s.windows[w] w .readState q.body = some true := congrArg some (hscope.mpr hr)
    have hclean' : ∀ r, x = .robot r → (s.asked w).robots[r].damaged = false ∧ (s.asked w).robots[r].ecc = .clean := by
      have e : (s.asked w).robots = s.robots := bump_robots ..
      rwa [e]
    have ha : actReadState q (s.asked w) = (s.asked w, { status := .ok, body := (stateRecord x s).2 }) := by
      rw [actReadState_clean hx hclean', asked_stateRecord hr hclean]
      rfl
    exact taken_counting hq hrow rfl (judge_taken hm hkind hmay hfixed) ha hl
  · have hmay : technicianMay s.windows[w] w .readState q.body = some false :=
      congrArg some (Bool.eq_false_of_not_eq_true fun h => hr (hscope.mp h))
    have h := denied_counting hq (judge_denied hm hkind hmay hfixed)
    rwa [Request.command, hrow] at h

/-! ## READ COUNTERS of a technician -/

theorem technician_readCounters {x : CounterSubject} (hq : ServiceRequest s q w) (hm : s.mine q w) (hk : q.kind = 3)
    (hb : 4 ≤ q.body.length) (hx : counterSubject q.body = .ok x) :
    (s.windows[w].counts w x → field q.body 1 1 = 0 → RunsCounting .readCounters s s q
      { status := .ok, body := countersBody q.body ((s.asked w).counters.values x) } [.service w .requests] []) ∧
    (¬s.windows[w].counts w x ∨ field q.body 1 1 = 1 → RunsCounting q.command s s q
      { status := .notPermitted, body := [] } [.service w .requests, .service w .refusals] []) := by
  have hkind : requestKindOf q.kind = some .readCounters := by rw [hk]; rfl
  have hscope := inScope_counters (y := s.windows[w]) (w := w) hx
  have hmay : technicianMay s.windows[w] w .readCounters q.body =
    some (s.windows[w].inScope w 2 3 4 (field q.body 0 1) (field q.body 2 2) && decide (field q.body 1 1 ≠ 1)) := rfl
  refine ⟨fun hr hf => ?_, fun h => denied_counting hq (judge_denied hm hkind (hmay.trans (congrArg some ?_)) hb)⟩
  · have ha : actReadCounters false q (s.asked w) =
      (s.asked w, .mk .ok (countersBody q.body ((s.asked w).counters.values x))) := actReadCounters_kept hx hf
    refine taken_counting hq (row_readCounters hq.version hk hf) rfl
      (judge_taken hm hkind (hmay.trans (congrArg some ?_)) hb) ha
      (answerFrame_length_le _ _ _ (countersBody_length_le ..))
    rw [hscope.mpr hr, hf]
    rfl
  · rcases h with h | h
    · rw [Bool.eq_false_of_not_eq_true fun e => h (hscope.mp e), Bool.false_and]
    · rw [h, decide_eq_false (not_not.mpr rfl), Bool.and_false]

end

end Sys2Proof.Machine
end


section
/-! CLOSE SERVICE WINDOW and LOWER LEVEL of a technician (R160, R161). -/

namespace Sys2Proof.Machine

section
variable {s : State} {q : Request} {w : WindowId} {n : Nat}

/-- The short requests. -/
theorem technician_short (hq : ServiceRequest s q w) (hm : s.mine q w)
    (h : q.kind = 3 ∧ q.body.length < 4 ∨ q.kind = 4 ∧ (q.body.length < 3 ∨ field q.body 0 1 = 6 ∧ q.body.length < 5) ∨
      (q.kind = 16 ∨ q.kind = 17) ∧ q.body = []) :
    RunsCounting q.command s s q { status := .badValue, body := [] } [.service w .requests] [] := by
  have key {k : RequestKind} {may : Bool} (hk : requestKindOf q.kind = some k)
      (hmay : technicianMay s.windows[w] w k q.body = some may) (hb : q.body.length < fixedOctets k q.body) :
      RunsCounting q.command s s q { status := .badValue, body := [] } [.service w .requests] [] :=
    short_counting hq (judge_short hm hk hmay hb)
  obtain ⟨hk, hb⟩ | ⟨hk, hb⟩ | ⟨hk | hk, hb⟩ := h
  · exact key (k := .readCounters) (by rw [hk]; rfl) rfl hb
  · refine key (k := .readState) (by rw [hk]; rfl) rfl ?_
    unfold fixedOctets
    dsimp only
    split
    · omega
    · next h6 => exact hb.resolve_right fun h => h6 h.1
  · exact key (k := .closeServiceWindow) (by rw [hk]; rfl) rfl (by rw [hb]; exact Nat.one_pos)
  · exact key (k := .lowerLevel) (by rw [hk]; rfl) rfl (by rw [hb]; exact Nat.one_pos)

/-! ## CLOSE SERVICE WINDOW (R160) -/

theorem technician_service (hp : q.port = windowPort w) : q.technician = true := by
  rw [Request.technician, hp]
  exact decide_eq_true (Nat.le_add_right 10 w.val)

theorem technician_closeDenied (hq : ServiceRequest s q w) (hm : s.mine q w) (hk : q.kind = 16) (hn : n < 256)
    (hb : q.body = beBytes 1 n) (hw : n ≠ 10 + w.val) : RunsCounting .closeServiceWindow s s q
      { status := .notPermitted, body := [] } [.service w .requests, .service w .refusals] [] := by
  have hkind : requestKindOf q.kind = some .closeServiceWindow := by rw [hk]; rfl
  have hrow : q.row = .other .closeServiceWindow := row_of_kind hq.version hkind nofun nofun nofun
  have hmay : technicianMay s.windows[w] w .closeServiceWindow q.body = some false :=
    congrArg some (decide_eq_false (by rw [field_robot hn hb]; exact hw))
  have h := denied_counting hq (judge_denied hm hkind hmay (by rw [hb, beBytes_length]; exact le_refl 1))
  rwa [Request.command, hrow] at h

/-- The window closes once its technician has been answered. -/
theorem exec_technicianClose (hq : ServiceRequest s q w) (hm : s.mine q w) (hk : q.kind = 16)
    (hb : q.body = beBytes 1 (10 + w.val)) : exec .closeServiceWindow s =
      .next (closeWindow w .technician ((s.asked w).afterAnswer q { status := .ok, body := [] })) := by
  have hkind : requestKindOf q.kind = some .closeServiceWindow := by rw [hk]; rfl
  have hrow : q.row = .other .closeServiceWindow := row_of_kind hq.version hkind nofun nofun nofun
  have hmay : technicianMay s.windows[w] w .closeServiceWindow q.body = some true :=
    congrArg some (decide_eq_true (field_robot (by omega) hb))
  have hj := judge_taken hm hkind hmay (by rw [hb, beBytes_length]; exact le_refl 1)
  have ha : perform actCloseWindow q (s.asked w) = (s.asked w, { status := .ok, body := [] }) :=
    (perform_judged hq hj).trans (if_pos (technician_service hq.port))
  have hrun : runRequest actCloseWindow closeAfter q s =
      closeWindow w .technician ((s.asked w).afterAnswer q { status := .ok, body := [] }) := by
    rw [runRequest_asked hq ha (answerFrame_length_le _ _ _ (Nat.zero_le _)), closeAfter, hq.port, portWindow_windowPort]
    rfl
  refine congrArg Host.Outcome.next (?_ : (match s.headRequest (.other .closeServiceWindow) with
    | some q => runRequest actCloseWindow closeAfter q s
    | none => s) = _)
  rw [headRequest_of_head hq.head hq.idle hrow, ← hrun]

theorem technician_closes (hq : ServiceRequest s q w) (hm : s.mine q w) (hk : q.kind = 16)
    (hb : q.body = beBytes 1 (10 + w.val)) : ∃ u t, exec .closeServiceWindow s = .next t ∧
      t = closeWindow w .technician u ∧ u.unanswered = s.unanswered ∧
      u.mgmt = { s.mgmt with queue := s.mgmt.queue.tail } ∧ t.mgmt = u.mgmt ∧
      (AnswerRoom s q { status := .ok, body := [] } → Answered u q { status := .ok, body := [] } ∧
        Effects s t s.clock.hall.base [.service w .requests]
          [.serviceClosed w .technician s.windows[w].sessionTraps]) ∧
      t.windows[w] = { s.windows[w] with
        state := .closed, technician := none, learned := false, warned := false
        lastClose := some .technician, pendingSet := 0, heldSet := 0 } ∧
      (∀ r : RobotId, s.windows[w].heldSet.getLsbD r.val = true → t.robots[r].state = .arming ∧ t.robots[r].holder = none) ∧
      ∀ r : RobotId, s.windows[w].heldSet.getLsbD r.val = false → t.robots[r] = s.robots[r] := by
  have hexec := exec_technicianClose hq hm hk hb
  have hu : ((s.asked w).afterAnswer q { status := .ok, body := [] }).unanswered = s.unanswered :=
    (afterAnswer_unanswered ..).trans (unanswered_of_uncounted asked_uncounted)
  have hmgmt : ((s.asked w).afterAnswer q { status := .ok, body := [] }).mgmt =
      { s.mgmt with queue := s.mgmt.queue.tail } := by
    rw [afterAnswer_mgmt, mgmt_of_uncounted asked_uncounted]
  have heff : AnswerRoom s q { status := .ok, body := [] } →
      Answered ((s.asked w).afterAnswer q { status := .ok, body := [] }) q { status := .ok, body := [] } ∧
      Effects s ((s.asked w).afterAnswer q { status := .ok, body := [] }) s.clock.hall.base [.service w .requests] [] := by
    intro hr
    have hr' := (SameRoom.of_uncounted (asked_uncounted (s := s) (w := w))).answerRoom hr
    have hc := sendAnswer_uncounting hr'
    exact ⟨afterAnswer_answered _ _ _ hr', asked_effects.congr hc.1 hc.2⟩
  generalize (s.asked w).afterAnswer q { status := .ok, body := [] } = u at hexec hu hmgmt heff
  have hw := windows_of_unanswered hu
  have hrobots := robots_of_unanswered hu
  have hclock : u.clock = s.clock := clock_of_unanswered hu
  have hopen : u.windows[w].state ≠ .closed := by rw [hw, hm.1]; nofun
  have hrobot (r : RobotId) := closeWindow_robot w .technician u hopen r
  refine ⟨u, _, hexec, rfl, hu, hmgmt, mgmt_of_beside (closeWindow_beside w .technician u), fun hr => ⟨(heff hr).1, ?_⟩, ?_,
    fun r hr => ?_, fun r hr => ?_⟩
  · have h := closeWindow_effects w .technician u hopen (heff hr).2 (by rw [hclock])
    rwa [hw] at h
  · rw [closeWindow_window w .technician u hopen, hw]
  · rw [hrobot r, hw, if_pos hr]
    exact ⟨rfl, rfl⟩
  · rw [hrobot r, hw, if_neg (ne_true_of_eq_false hr), hrobots]

/-! ## LOWER LEVEL (R161) -/

theorem technician_lowerDenied (hq : ServiceRequest s q w) (hm : s.mine q w) (hk : q.kind = 17) (hn : n < 256)
    (hb : q.body = beBytes 1 n) (hle : s.windows[w].level.code ≤ n) : RunsCounting .lowerLevel s s q
      { status := .notPermitted, body := [] } [.service w .requests, .service w .refusals] [] := by
  have hkind : requestKindOf q.kind = some .lowerLevel := by rw [hk]; rfl
  have hrow : q.row = .other .lowerLevel := row_of_kind hq.version hkind nofun nofun nofun
  have hmay : technicianMay s.windows[w] w .lowerLevel q.body = some false :=
    congrArg some (decide_eq_false (by rw [field_robot hn hb]; exact Nat.not_lt.mpr hle))
  have h := denied_counting hq (judge_denied hm hkind hmay (by rw [hb, beBytes_length]; exact le_refl 1))
  rwa [Request.command, hrow] at h

theorem exec_technicianLower {level : ServiceLevel} (hq : ServiceRequest s q w) (hm : s.mine q w) (hk : q.kind = 17)
    (hn : n < 256) (hb : q.body = beBytes 1 n) (hl : levelOf n = some level) (hlt : n < s.windows[w].level.code) :
    exec .lowerLevel s =
      .next ((lowerWindow w level (s.asked w)).afterAnswer q { status := .ok, body := [] }) := by
  have hkind : requestKindOf q.kind = some .lowerLevel := by rw [hk]; rfl
  have hrow : q.row = .other .lowerLevel := row_of_kind hq.version hkind nofun nofun nofun
  have hmay : technicianMay s.windows[w] w .lowerLevel q.body = some true :=
    congrArg some (decide_eq_true (by rw [field_robot hn hb]; exact hlt))
  have hj := judge_taken hm hkind hmay (by rw [hb, beBytes_length]; exact le_refl 1)
  have ha : perform actLowerLevel q (s.asked w) = (lowerWindow w level (s.asked w), { status := .ok, body := [] }) := by
    rw [perform_judged hq hj, actLowerLevel, hq.port, portWindow_windowPort, field_robot hn hb, hl]
    rfl
  exact congrArg Host.Outcome.next (runHead_asked hq hrow ha (answerFrame_length_le _ _ _ (Nat.zero_le _)))

/-- What a lowered level leaves of its window and its robots. -/
theorem lowerWindow_spec (w : WindowId) (level : ServiceLevel) (s : State) :
    (lowerWindow w level s).windows[w] = (if s.windows[w].level = .maintain
      then { s.windows[w] with level := level, heldSet := 0, pendingSet := 0 } else { s.windows[w] with level := level }) ∧
    (∀ r : RobotId, (lowerWindow w level s).robots[r] =
      if s.windows[w].level = .maintain ∧ s.windows[w].heldSet.getLsbD r.val = true then s.robots[r].armedAt s.clock.hall
      else s.robots[r]) ∧
    (lowerWindow w level s).mgmt = s.mgmt ∧ (lowerWindow w level s).counters = s.counters ∧
    SameRoom s (lowerWindow w level s) := by
  have hv : (s.modWindow w fun x => { x with level := level }).windows[w] = { s.windows[w] with level := level } :=
    upd_same ..
  have hroom : SameRoom s (s.modWindow w fun x => { x with level := level }) := ⟨rfl, rfl, rfl, fun _ _ => rfl, fun _ => rfl⟩
  unfold lowerWindow
  dsimp only
  by_cases h : s.windows[w].level = .maintain
  · rw [if_pos h, if_pos h, releaseRobots_window, hv]
    have hfr := releaseRobots_frame w (s.modWindow w fun x => { x with level := level })
    refine ⟨rfl, fun r => ?_, by rw [hfr]; rfl, by rw [hfr]; rfl, by rw [hfr]; exact ⟨rfl, rfl, rfl, fun _ _ => rfl, fun _ => rfl⟩⟩
    rw [releaseRobots_robot, hv]
    exact if_congr (by rw [and_iff_right h]) rfl rfl
  · rw [if_neg h, if_neg h]
    exact ⟨hv, fun r => (if_neg fun h' => h h'.1).symm, rfl, rfl, hroom⟩

theorem technician_lowers {level : ServiceLevel} (hq : ServiceRequest s q w) (hm : s.mine q w) (hk : q.kind = 17)
    (hn : n < 256) (hb : q.body = beBytes 1 n) (hl : levelOf n = some level) (hlt : n < s.windows[w].level.code) :
    ∃ t, exec .lowerLevel s = .next t ∧ t.windows[w].level = level ∧
      t.windows[w].endTime = s.windows[w].endTime ∧ t.windows[w].trapCloses = s.windows[w].trapCloses ∧
      t.windows[w].robots = s.windows[w].robots ∧ t.windows[w].state = .active ∧
      (s.windows[w].level = .adjust → t.windows[w] = { s.windows[w] with level := level } ∧ t.robots = s.robots) ∧
      (s.windows[w].level = .maintain → t.windows[w].heldSet = 0 ∧ t.windows[w].pendingSet = 0 ∧
        ∀ r : RobotId, s.windows[w].heldSet.getLsbD r.val = true →
          t.robots[r].state = .arming ∧ t.robots[r].holder = none) ∧
      (AnswerRoom s q { status := .ok, body := [] } → Answered t q { status := .ok, body := [] }) ∧
      t.mgmt = { s.mgmt with queue := s.mgmt.queue.tail } ∧
      t.counter (.service w .requests) = min (s.counter (.service w .requests) + 1) Config.counterMax := by
  have hexec := exec_technicianLower hq hm hk hn hb hl hlt
  obtain ⟨hwin, hrobot, hmgmt, hcount, hroom⟩ := lowerWindow_spec w level (s.asked w)
  have hrobots : (s.asked w).robots = s.robots := bump_robots ..
  rw [asked_windows] at hwin hrobot
  rw [hrobots] at hrobot
  have hmgmt' : (lowerWindow w level (s.asked w)).mgmt = s.mgmt :=
    hmgmt.trans (mgmt_of_uncounted asked_uncounted)
  have hcount' : (lowerWindow w level (s.asked w)).counter (.service w .requests) =
      min (s.counter (.service w .requests) + 1) Config.counterMax :=
    (counter_congr hcount _).trans ((bump_counter _ _ s rfl).trans (if_pos rfl))
  have hroom' := (SameRoom.of_uncounted (asked_uncounted (s := s) (w := w))).trans hroom
  generalize lowerWindow w level (s.asked w) = u at hexec hwin hrobot hmgmt' hcount' hroom'
  have hun := afterAnswer_unanswered u q { status := .ok, body := [] }
  have hw := windows_of_unanswered hun
  have hr := robots_of_unanswered hun
  refine ⟨_, hexec, ?_⟩
  rw [hw, hr, hwin]
  refine ⟨?_, ?_, ?_, ?_, ?_, fun ha => ?_, fun hmt => ?_, fun hroom => afterAnswer_answered _ _ _ (hroom'.answerRoom hroom),
    by rw [afterAnswer_mgmt, hmgmt'], (sendAnswer_counter q _ u (.service w .requests) nofun nofun rfl).trans hcount'⟩
  · split <;> rfl
  · split <;> rfl
  · split <;> rfl
  · split <;> rfl
  · split <;> exact hm.1
  · have hne : s.windows[w].level ≠ .maintain := by rw [ha]; nofun
    rw [if_neg hne]
    refine ⟨rfl, Vector.ext fun i hi => ?_⟩
    exact (hrobot ⟨i, hi⟩).trans (if_neg fun h => hne h.1)
  · rw [if_pos hmt]
    refine ⟨rfl, rfl, fun r hheld => ?_⟩
    rw [hrobot r, if_pos ⟨hmt, hheld⟩]
    exact ⟨rfl, rfl⟩

/-- From the line controller LOWER LEVEL is never permitted. -/
theorem line_lowerRefused (hq : LineRequest s q 17) (hb : q.body ≠ []) :
    RunsAnswered .lowerLevel s s q { status := .notPermitted, body := [] } := by
  have ha : actLowerLevel q s = (s, .bare .notPermitted) := by
    rw [actLowerLevel, portWindow_line hq.line]
    rfl
  exact RunsAnswered.of_act (congrArg Host.Outcome.next (runHead_bare hq rfl (hq.row_other rfl nofun nofun nofun)
    (List.length_pos_iff.mpr hb) ha)) rfl

end

/-- Settles O52: the judgement of a technician request, and the act of each of the four kinds. -/
theorem technicianLowersLevel : Obligations.TechnicianLowersLevel := by
  refine ⟨fun s q w mine no ok hhead hidle hversion hfits hport hmine hno hok => ?_, fun s q hq hb => line_lowerRefused hq hb⟩
  have hq : ServiceRequest s q w := ⟨hhead, hidle, hversion, hfits, hport⟩
  have hm : mine → s.mine q w := hmine.mp
  subst hno hok
  refine ⟨fun h => denied_counting hq ?_, fun h => technician_short hq (hm h), fun x mayRead h hk hb hlist hmay hx => ?_,
    fun x mayRead h hk hb hmay hx => ?_, fun n h hk hn hb => ⟨technician_closeDenied hq (hm h) hk hn hb, ?_⟩,
    fun n level h hk hn hb => technician_lowers hq (hm h) hk hn hb,
    fun n h hk hn hb => technician_lowerDenied hq (hm h) hk hn hb⟩
  · rcases h with h | h
    · exact judge_stranger fun h' => h (hmine.mpr h')
    · exact judge_otherKind h
  · have hreads : mayRead ↔ s.windows[w].reads w x := hmay
    rw [hreads]
    exact technician_readState hq (hm h) hk hb hlist hx
  · have hcounts : mayRead ↔ s.windows[w].counts w x := hmay
    rw [hcounts]
    exact technician_readCounters hq (hm h) hk hb hx
  · rintro rfl
    exact technician_closes hq (hm h) hk hb

end Sys2Proof.Machine
end


section
/-! The end of a piece on the wire, and of a frame (R38, R58, R60, R62, R79, R80, R192). -/

namespace Sys2Proof.Machine

section
variable {s : State} {p : PortId} {t : Tx}

/-! ## A piece that is cut (R79, R80) -/

theorem exec_pieceCut {c : Nat} (ht : s.egress[p].tx = some t) (hc : t.cutAt = some c) :
    exec (.pieceCut p) s = .next (if t.cutEnd p c ≤ s.clock.ticks then cutPiece p t c s else s) := by
  simp only [exec, execPieceCut, ht, hc]

/-- What a cut leaves of its port. -/
def Egress.cut (e : Egress) (p : PortId) (t : Tx) (c : Nat) : Egress :=
  { e with
    tx := none
    remainder := some
      { frame := t.frame, queue := t.queue, kind := t.kind, octets := t.octets, offset := t.offset + c
        nextN := nextAfter t.marker }
    idleUntil := gapEnd p (t.cutEnd p c)
    lastSent := some
      { marker := t.marker
        octets := (t.octets.drop t.offset).take c ++ pieceCheckOf ((t.octets.drop t.offset).take c)
        ending := .pieceCheck } }

theorem pieceCut_completes {c : Nat} (ht : s.egress[p].tx = some t) (hc : t.cutAt = some c)
    (hend : t.cutEnd p c ≤ s.clock.ticks) :
    Completes (.pieceCut p) s (s.modEgress p (·.cut p t c)) [.port p .piecesSent, .port p .cuts] [] :=
  completes_of_counts [.port p .piecesSent, .port p .cuts]
    ((exec_pieceCut ht hc).trans (congrArg Host.Outcome.next (if_pos hend))) rfl rfl (by simp [CounterRef.ofNotices])

/-! ## A frame whose last octet is sent (R38) -/

theorem exec_transmissionComplete (ht : s.egress[p].tx = some t) (hc : t.cutAt = none) :
    exec (.transmissionComplete p) s =
      .next (if t.lastEnd p ≤ s.clock.ticks then completePiece p t s else s) := by
  simp only [exec, execTransmissionComplete, ht, hc, Option.isNone_none, Bool.true_and, decide_eq_true_eq]

/-- What the end of a frame leaves of its port. -/
def Egress.sentFrame (e : Egress) (p : PortId) (t : Tx) : Egress :=
  { e with
    tx := none, idleUntil := gapEnd p (t.lastEnd p)
    lastSent := some { marker := t.marker, octets := t.octets.drop t.offset, ending := .complete } }

/-- What a completed frame counts. -/
def Tx.completeCounts (t : Tx) (p : PortId) (k : FrameKind) : List CounterRef :=
  (if t.marker = .whole then [] else [.port p .piecesSent]) ++ [.port p .framesTransmitted] ++
    List.replicate t.octets.length (.port p .octetsTransmitted) ++ (sentCounter k).toList.map CounterRef.clock

/-- The state in which a completed frame has been counted, and still holds its reference. -/
def State.frameCounted (s : State) (p : PortId) (t : Tx) : State :=
  let v := s.modEgress p (·.sentFrame p t)
  let v := if t.marker = .whole then v else bump (.port p .piecesSent) v
  let v := bumpBy (.port p .octetsTransmitted) t.octets.length (bump (.port p .framesTransmitted) v)
  match sentCounter (s.kindOf t.frame) with
  | some c => bump (.clock c) v
  | none => v

theorem completePiece_eq (p : PortId) (t : Tx) (s : State) :
    completePiece p t s = answerGone t.frame ((s.frameCounted p t).release t.frame) := rfl

theorem frameCounted_spec (s : State) (p : PortId) (h : t.octets ≠ []) :
    (s.frameCounted p t).uncounted = (s.modEgress p (·.sentFrame p t)).uncounted ∧
      Effects s (s.frameCounted p t) s.clock.hall.base (t.completeCounts p (s.kindOf t.frame)) [] := by
  have h0 : Effects s (s.modEgress p (·.sentFrame p t)) s.clock.hall.base [] [] := Effects.start _ _ _ rfl rfl
  have hpos := List.length_pos_iff.mpr h
  unfold State.frameCounted Tx.completeCounts
  dsimp only
  generalize s.modEgress p (·.sentFrame p t) = v at h0 ⊢
  have hv : (if t.marker = .whole then v else bump (.port p .piecesSent) v).uncounted = v.uncounted := by
    split
    · rfl
    · exact bump_uncounted ..
  have he : Effects s (if t.marker = .whole then v else bump (.port p .piecesSent) v) s.clock.hall.base
      (if t.marker = .whole then [] else [.port p .piecesSent]) [] := by
    split
    · exact h0
    · exact h0.bump (.port p .piecesSent)
  generalize (if t.marker = .whole then v else bump (.port p .piecesSent) v) = w at hv he ⊢
  have he := (he.bump (.port p .framesTransmitted)).bumpBy (.port p .octetsTransmitted) t.octets.length rfl hpos
  have hw : (bumpBy (.port p .octetsTransmitted) t.octets.length (bump (.port p .framesTransmitted) w)).uncounted =
      v.uncounted := (bumpBy_uncounted ..).trans ((bump_uncounted ..).trans hv)
  cases sentCounter (s.kindOf t.frame) with
  | none => exact ⟨hw, by rw [Option.toList_none, List.map_nil, List.append_nil]; exact he⟩
  | some c => exact ⟨(bump_uncounted ..).trans hw, he.bump (.clock c)⟩

/-- The RESTART that waits for a frame is due when the frame is gone. -/
theorem answerGone_mgmt {h : CellId} {m : Mgmt}
    (hgone : ∀ w, s.mgmt.restart = some w → w.answer = some h →
      m = { s.mgmt with restart := some { w with answer := none, due := true } })
    (hkept : (∀ w, s.mgmt.restart = some w → w.answer ≠ some h) → m = s.mgmt) :
    answerGone h s = s.modMgmt fun _ => m := by
  unfold answerGone
  refine congrArg (fun x => ({ s with mgmt := x } : State)) ?_
  dsimp only
  split
  · next w hw =>
    split
    · next ha => exact (hgone w hw ha).symm
    · next ha => exact (hkept fun x hx => Option.some.inj (hw.symm.trans hx) ▸ ha).symm
  · next hn => exact (hkept fun x hx => by rw [hn] at hx; cases hx).symm

theorem transmissionComplete_completes {m : Mgmt} (ht : s.egress[p].tx = some t) (hc : t.cutAt = none)
    (h : t.octets ≠ []) (hend : t.lastEnd p ≤ s.clock.ticks)
    (hgone : ∀ w, s.mgmt.restart = some w → w.answer = some t.frame →
      m = { s.mgmt with restart := some { w with answer := none, due := true } })
    (hkept : (∀ w, s.mgmt.restart = some w → w.answer ≠ some t.frame) → m = s.mgmt) :
    Completes (.transmissionComplete p) s
      (((s.modEgress p (·.sentFrame p t)).modMem fun x => x.release t.frame).modMgmt fun _ => m)
      (t.completeCounts p (s.kindOf t.frame)) [] := by
  obtain ⟨hu, he⟩ := frameCounted_spec s p h
  refine ⟨_, (exec_transmissionComplete ht hc).trans (congrArg Host.Outcome.next ((if_pos hend).trans
    (completePiece_eq p t s))), ?_, he.congr rfl rfl⟩
  have hm : (s.frameCounted p t).mgmt = s.mgmt := (mgmt_of_uncounted hu :)
  have hr : ((s.frameCounted p t).release t.frame).mgmt = s.mgmt := hm
  rw [answerGone_mgmt (s := (s.frameCounted p t).release t.frame) (m := m) (by rwa [hr]) (by rwa [hr]),
    eq_recounted hu]
  rfl

end

end Sys2Proof.Machine
end


section
/-! SUPPORT. The supervisor leaves the egress side, but for the sends of an opening (R92 to R104). -/

namespace Sys2Proof.Machine

section
variable (r : RobotId) (s : State)

theorem watchIdleIfNone_egress : (watchIdleIfNone s).egress = s.egress := by
  unfold watchIdleIfNone
  split <;> rfl

theorem emptySlots_egress : (emptySlots r s).egress = s.egress := by
  rw [emptySlots_frame]
  rfl

theorem leavePending_egress : (leavePending r s).egress = s.egress := by
  unfold leavePending
  rw [forEach_cons, forEach_cons, forEach_nil]
  rfl

theorem leaveHeld_egress : (leaveHeld r s).egress = s.egress := by
  unfold leaveHeld
  rw [forEach_cons, forEach_cons, forEach_nil]
  rfl

theorem toIdle_egress : (toIdle r s).egress = s.egress := by
  rw [toIdle_eq, watchIdleIfNone_egress]
  exact (leavePending_egress ..).trans (emptySlots_egress r s)

theorem damageRobot_egress : (damageRobot r s).egress = s.egress :=
  (leaveHeld_egress ..).trans (toIdle_egress r s)

theorem intoService_egress (w : WindowId) : (intoService r w s).egress = s.egress :=
  (watchIdleIfNone_egress _).trans (emptySlots_egress r s)

theorem joinHold_egress (h : HoldSource) : (joinHold h s).egress = s.egress := by
  obtain ⟨-, e⟩ | ⟨-, -, e⟩ | ⟨-, -, e⟩ := joinHold_cases h s
  · rw [e]
  · rw [e]; rfl
  · rw [e, bump_egress, raise_egress]; rfl

theorem reportParked_egress : (reportParked r s).egress = s.egress := by
  unfold reportParked
  split
  · exact intoService_egress ..
  · rfl

theorem checkRobot_egress (k : ReadKind) : (checkRobot r k s).egress = s.egress := by
  unfold checkRobot
  split
  · exact bump_egress ..
  · split
    · rfl
    · exact bump_egress ..
    · dsimp only
      rw [damageRobot_egress, raise_egress, bump_egress]
      rfl

theorem loseRobot_egress : (loseRobot r s).egress = s.egress := by
  have hlost : (raise (.robotLost r s.robots[r].state) (bump (.robot r .losses)
      (s.modRobot r fun b => { b with state := .lost }))).egress = s.egress := by
    rw [raise_egress, bump_egress]
    rfl
  unfold loseRobot
  dsimp only
  generalize raise (.robotLost r s.robots[r].state) (bump (.robot r .losses)
      (s.modRobot r fun b => { b with state := .lost })) = v at hlost ⊢
  have hbarred : (if 0 < v.robots[r].probation then
      raise (.robotBarred r v.robots[r].probation) (v.modRobot r fun b => { b with barred := true }) else v).egress =
      s.egress := by
    split
    · rw [raise_egress]
      exact hlost
    · exact hlost
  generalize (if 0 < v.robots[r].probation then
    raise (.robotBarred r v.robots[r].probation) (v.modRobot r fun b => { b with barred := true }) else v) = u at hbarred ⊢
  split
  · rw [joinHold_egress]
    exact hbarred
  · exact hbarred

theorem hitRobot_egress (parked : Bool) : (hitRobot r parked s).egress = s.egress := by
  unfold hitRobot
  dsimp only
  split
  · rw [reportParked_egress]
    rfl
  · rfl

theorem missRobot_egress : (missRobot r s).egress = s.egress := by
  have hlate (c : Prop) [Decidable c] (u : State) (hu : u.egress = s.egress) :
      (if c then u.modRobot r fun b => { b with state := .late } else u).egress = s.egress := by
    split <;> exact hu
  have hmissed (n : Nat) :
      (bump (.robot r .misses) (s.modRobot r fun b => { b with missCount := n })).egress = s.egress := by
    rw [bump_egress]
    rfl
  unfold missRobot
  dsimp only
  generalize (if s.robots[r].state = .running then 1 else min (s.robots[r].missCount + 1) 15) = n
  by_cases h : s.robots[r].cfg.tolerance ≤ n
  · rw [if_pos h, loseRobot_egress]
    exact hmissed n
  · rw [if_neg h]
    exact hlate _ _ (hmissed n)

theorem stallRobot_egress : (stallRobot r s).egress = s.egress := by
  unfold stallRobot
  dsimp only
  split
  · exact raise_egress ..
  · rfl

theorem returnRobot_egress (parked : Bool) : (returnRobot r parked s).egress = s.egress := by
  have hback (u : State) (x : RobotState) : (leaveHold (.robot r) (raise (.robotBack r x) u)).egress = u.egress :=
    raise_egress ..
  unfold returnRobot
  dsimp only
  split
  · rw [reportParked_egress, hback]
    rfl
  · rw [hback]
    rfl

theorem judgePeriod_egress : (judgePeriod r s).egress = s.egress := by
  unfold judgePeriod
  dsimp only
  split
  · exact hitRobot_egress ..
  · exact stallRobot_egress ..
  · exact hitRobot_egress ..
  · exact hitRobot_egress ..
  · exact hitRobot_egress ..
  · exact missRobot_egress ..
  · exact missRobot_egress ..
  · exact missRobot_egress ..
  · split
    · rfl
    · exact returnRobot_egress ..
  · exact bump_egress ..
  · rfl
  · rfl

theorem periodEnd_egress (boundary : HallTime) : (periodEnd r boundary s).egress = s.egress := by
  have hjudged (c : Bool) (u : State) : (if c then judgePeriod r u else u).egress = u.egress := by
    split
    · exact judgePeriod_egress ..
    · rfl
  have hsilent (c : Bool) (u : State) : (if c then bump (.robot r .silentPeriods) u else u).egress = u.egress := by
    split
    · exact bump_egress ..
    · rfl
  unfold periodEnd
  dsimp only
  exact ((hsilent _ _).trans (hjudged _ _)).trans rfl

theorem boundaryFor_egress (p : PortId) (index : Int) (disturbed : Bool) (boundary : HallTime) :
    (boundaryFor p index disturbed boundary r s).egress = s.egress := by
  have hv := checkRobot_egress r s .supervision
  have hend (c : Prop) [Decidable c] (u : State) (hu : u.egress = s.egress) :
      (if c then periodEnd r boundary u else u).egress = s.egress := by
    split
    · exact (periodEnd_egress ..).trans hu
    · exact hu
  unfold boundaryFor
  dsimp only
  generalize checkRobot r .supervision s = v at hv ⊢
  by_cases h : s.robots[r].state.armed = true ∧ s.robots[r].port = some p
  · rw [if_pos h]
    by_cases hv' : v.robots[r].state.armed = true
    · rw [if_pos hv']
      cases disturbed with
      | true => exact hend _ _ hv
      | false => exact hend _ _ hv
    · rw [if_neg hv']
      exact hv
  · rw [if_neg h]

theorem signalBoundary_egress (p : PortId) (index : Int) (disturbed : Bool) (boundary : HallTime) :
    (signalBoundary p index disturbed boundary s).egress = s.egress :=
  forEach_keeps State.egress _ (fun r s => boundaryFor_egress r s p index disturbed boundary) s

end

end Sys2Proof.Machine
end


section
/-! The cut point once a trigger has been looked for, and what keeps it (R80). -/

namespace Sys2Proof.Machine

/-- The piece `t` is on the wire of the port, with the cut point that a trigger looked for gives it. -/
def Noted (s : State) (p : PortId) (t : Tx) : Prop :=
  ∃ k, s.egress[p].tx = some { t with cutAt := k } ∧ CutNoted s p t k

/-- The port's engine and time are as they were, and no queue of it has run empty. -/
structure QueuesGrow (p : PortId) (s u : State) : Prop where
  gate : u.gates[p] = s.gates[p]
  ticks : u.clock.ticks = s.clock.ticks
  filled : ∀ q : QueueId, s.egress[p].queues[q] ≠ [] → u.egress[p].queues[q] ≠ []

/-- The port's engine and time are as they were, and a piece whose cut point is noted keeps it noted. -/
structure KeepsNoted (p : PortId) (s u : State) : Prop where
  gate : u.gates[p] = s.gates[p]
  ticks : u.clock.ticks = s.clock.ticks
  noted : ∀ t, Noted s p t → Noted u p t

section
variable {p : PortId} {s u v : State}

theorem QueuesGrow.trans (a : QueuesGrow p s u) (b : QueuesGrow p u v) : QueuesGrow p s v :=
  ⟨b.gate.trans a.gate, b.ticks.trans a.ticks, fun q h => b.filled q (a.filled q h)⟩

theorem KeepsNoted.refl (p : PortId) (s : State) : KeepsNoted p s s := ⟨rfl, rfl, fun _ h => h⟩

theorem KeepsNoted.trans (a : KeepsNoted p s u) (b : KeepsNoted p u v) : KeepsNoted p s v :=
  ⟨b.gate.trans a.gate, b.ticks.trans a.ticks, fun t h => b.noted t (a.noted t h)⟩

theorem QueuesGrow.cutTriggered (h : QueuesGrow p s u) {w : Tx} (ht : s.cutTriggered p w) : u.cutTriggered p w := by
  unfold State.cutTriggered at ht ⊢
  rw [h.gate]
  rcases ht with ⟨hq, ho⟩ | ⟨hq, ho⟩ | hc
  · exact .inl ⟨h.filled 3 hq, ho⟩
  · exact .inr (.inl ⟨h.filled 2 hq, ho⟩)
  · exact .inr (.inr hc)

theorem QueuesGrow.cutPoint (h : QueuesGrow p s u) (w : Tx) (k : Nat) : u.cutPoint p w k ↔ s.cutPoint p w k := by
  unfold State.cutPoint
  rw [h.ticks]

/-- A state whose wire is that of another, queue by queue, has the same cut points noted. -/
theorem KeepsNoted.of_alike (htx : u.egress[p].tx = s.egress[p].tx) (h : QueuesGrow p s u)
    (hb : QueuesGrow p u s) : KeepsNoted p s u := by
  refine ⟨h.gate, h.ticks, fun t ⟨k, ht, hkept, hchosen⟩ => ⟨k, htx.trans ht, ?_, fun hc hn ht j => ?_⟩⟩
  · exact fun hor => hkept (hor.imp_right fun h' => h'.imp_right fun hno ht => hno (h.cutTriggered ht))
  · simp only [h.cutPoint]
    exact hchosen hc hn (hb.cutTriggered ht) j

theorem KeepsNoted.of_same (he : u.egress[p] = s.egress[p]) (hg : u.gates[p] = s.gates[p])
    (hc : u.clock.ticks = s.clock.ticks) : KeepsNoted p s u :=
  .of_alike (by rw [he]) ⟨hg, hc, fun q h => by rwa [he]⟩ ⟨hg.symm, hc.symm, fun q h => by rwa [← he]⟩

theorem State.unsupervised_clock (s : State) : s.unsupervised.clock = s.clock := by cases s; rfl

theorem ticks_of_beside (h : u.beside = s.beside) : u.clock.ticks = s.clock.ticks := by
  have e : u.clock = s.clock := by
    rw [← u.unsupervised_clock, unsupervised_of_beside h, State.unsupervised_clock]
  rw [e]

theorem KeepsNoted.of_beside (h : u.beside = s.beside) (he : u.egress[p] = s.egress[p]) : KeepsNoted p s u :=
  .of_same he (by rw [gates_of_beside h]) (ticks_of_beside h)

theorem KeepsNoted.bump {c : CounterRef} (h : KeepsNoted p s u) : KeepsNoted p s (bump c u) :=
  h.trans (.of_beside (bump_beside ..) (by rw [bump_egress]))

theorem KeepsNoted.raise {e : NoticeEvent} (h : KeepsNoted p s u) : KeepsNoted p s (raise e u) :=
  h.trans (.of_beside (raise_beside ..) (by rw [raise_egress]))

/-- What each of a list keeps noted, all of it does. -/
theorem KeepsNoted.forEach {α : Type} {f : α → State → State} (l : List α) (hf : ∀ a s, KeepsNoted p s (f a s)) :
    KeepsNoted p s (forEach l f s) :=
  forEach_inv (P := KeepsNoted p s) l (fun a _ v h => h.trans (hf a v)) s (.refl p s)

/-! ## A trigger that is looked for -/

theorem noteCut_noted {t : Tx} (h : s.egress[p].tx = some t) : Noted (noteCut p s) p t :=
  ⟨s.cutChosen p t, by rw [noteCut_port, h]; rfl, cutChosen_noted s _ p t (noteCut_cutTriggered p s) (noteCut_cutPoint p s)⟩

/-- A cut point that was noted stays the one that a later look for a trigger gives. -/
theorem CutNoted.later {t : Tx} {k c : Option Nat} (hs : QueuesGrow p s u) (h : CutNoted s p t k)
    (hc : CutNoted u p { t with cutAt := k } c) : CutNoted u p t c := by
  obtain ⟨hkept, hchosen⟩ := hc
  by_cases hfixed : t.cuttable = false ∨ t.cutAt.isSome = true
  · have hk : k = t.cutAt := h.kept (by tauto)
    have hck : c = k := hkept (by rw [hk]; tauto)
    refine ⟨fun _ => hck.trans hk, fun hcut hn => ?_⟩
    rcases hfixed with hf | hf
    · rw [hf] at hcut; cases hcut
    · rw [hn] at hf; cases hf
  · obtain ⟨hcut, hnone⟩ := not_or.mp hfixed
    have hcut : t.cuttable = true := Bool.not_eq_false _ ▸ hcut
    have hnone : t.cutAt = none := Option.not_isSome_iff_eq_none.mp hnone
    refine ⟨fun hor => ?_, fun _ _ ht j => ?_⟩
    · have hno : ¬u.cutTriggered p t := by
        rcases hor with ho | ho | ho
        · rw [hcut] at ho; cases ho
        · rw [hnone] at ho; cases ho
        · exact ho
      have hk : k = t.cutAt := h.kept (.inr (.inr fun ht => hno (hs.cutTriggered ht)))
      exact (hkept (.inr (.inr hno))).trans hk
    · have hfirst (hn : k = none) : ∀ j, c = some j ↔ u.cutPoint p t j ∧ ∀ i, u.cutPoint p t i → j ≤ i :=
        hchosen hcut hn ht
      by_cases hsome : k.isSome = true
      · have hts : s.cutTriggered p t := by
          by_contra hno
          rw [h.kept (.inr (.inr hno)), hnone] at hsome
          cases hsome
        have hck : c = k := hkept (.inr (.inl hsome))
        rw [hck]
        simp only [hs.cutPoint]
        exact h.chosen hcut hnone hts j
      · exact hfirst (Option.not_isSome_iff_eq_none.mp hsome) j

/-- A port whose queues grew keeps its piece's cut point noted as a trigger is looked for. -/
theorem KeepsNoted.noteCut (htx : u.egress[p].tx = s.egress[p].tx) (h : QueuesGrow p s u) :
    KeepsNoted p s (noteCut p u) := by
  have hb := noteCut_beside p u
  have hgrows : QueuesGrow p s (Machine.noteCut p u) :=
    h.trans ⟨by rw [gates_of_beside hb], ticks_of_beside hb, fun q => by rw [noteCut_queues]; exact id⟩
  refine ⟨hgrows.gate, hgrows.ticks, fun t ⟨k, ht, hk⟩ => ?_⟩
  obtain ⟨c, hc, hnoted⟩ := noteCut_noted (htx.trans ht)
  exact ⟨c, hc, hk.later hgrows hnoted⟩

/-! ## Entries that join a queue -/

theorem enqueue_keeps (x : PortId) (q : QueueId) (y : QEntry) (s : State) : KeepsNoted p s (enqueue x q y s) := by
  by_cases hx : p = x
  · subst hx
    unfold enqueue
    refine .noteCut (by rw [State.modEgress_get]) ⟨rfl, rfl, fun k hk => ?_⟩
    rw [State.modEgress_get]
    dsimp only
    rw [Fin.getElem_fin, upd_get]
    split
    · simp
    · exact hk
  · exact .of_same (enqueue_other x p q y s hx) (by rw [enqueue_frame]) (by rw [enqueue_frame])

theorem insertSend_ne_nil (x : QEntry) (l : List QEntry) : insertSend x l ≠ [] := by
  unfold insertSend
  simp

theorem enqueueSend_keeps (x : PortId) (r : RobotId) (h : CellId) (s : State) :
    KeepsNoted p s (enqueueSend x r h s) := by
  unfold enqueueSend
  refine .bump ?_
  by_cases hx : p = x
  · subst hx
    refine .noteCut (by rw [State.modEgress_get]) ⟨rfl, rfl, fun k hk => ?_⟩
    rw [State.modEgress_get]
    dsimp only
    rw [Fin.getElem_fin, upd_get]
    split
    · exact insertSend_ne_nil _ _
    · exact hk
  · refine .of_beside (noteCut_beside ..) ?_
    rw [noteCut_egress]
    exact (upd_other _ _ _ _ hx).trans (upd_other _ _ _ _ hx)

theorem countDelayed_keeps (x : PortId) (s : State) : KeepsNoted p s (countDelayed x s) := by
  have hb := countDelayed_beside x s
  have he := countDelays_egress (s.q3 x) s
  by_cases hx : p = x
  · subst hx
    have hport : (countDelayed p s).egress[p] =
        { s.egress[p] with queues := upd s.egress[p].queues 3 fun l => l.map QEntry.waited } := by
      rw [countDelayed_eq, State.modEgress_get, he]
    have hnil (q : QueueId) : (countDelayed p s).egress[p].queues[q] = [] ↔ s.egress[p].queues[q] = [] := by
      rw [hport]
      dsimp only
      rw [Fin.getElem_fin, upd_get]
      split
      · next e =>
        subst e
        exact List.map_eq_nil_iff
      · exact Iff.rfl
    have hg : (countDelayed p s).gates[p] = s.gates[p] := by rw [gates_of_beside hb]
    exact .of_alike (by rw [hport]) ⟨hg, ticks_of_beside hb, fun q => mt (hnil q).mp⟩
      ⟨hg.symm, (ticks_of_beside hb).symm, fun q => mt (hnil q).mpr⟩
  · refine .of_beside hb ?_
    rw [countDelayed_eq, State.modEgress_egress, he]
    exact upd_other _ _ _ _ hx

/-! ## The start of a window (R103) -/

theorem KeepsNoted.sent {x : PortId} {r : RobotId} {c : CellId} (h : KeepsNoted p s u) :
    KeepsNoted p s (enqueueSend x r c u) :=
  h.trans (enqueueSend_keeps x r c u)

theorem sendHoldFrame_keeps (r : RobotId) (x : PortId) (s : State) : KeepsNoted p s (sendHoldFrame r x s) := by
  by_cases h : s.mem.free = []
  · rw [sendHoldFrame_none h]
    exact ((KeepsNoted.refl p s).bump).bump
  · obtain ⟨c, m, -, e⟩ := sendHoldFrame_room (r := r) (p := x) h
    have hm : KeepsNoted p s { s with mem := m } := .of_same rfl rfl rfl
    rw [e]
    exact hm.sent.bump

theorem sendSlot_keeps (r : RobotId) (x : PortId) (c : CellId) (s : State) : KeepsNoted p s (sendSlot r x c s) := by
  have h0 (o : Option CellId) : KeepsNoted p s ((s.releaseOpt o).addRef c) := by
    rw [releaseOpt_frame]
    exact .of_same rfl rfl rfl
  have h1 (v : State) (f : Robot → Robot) (hv : KeepsNoted p s v) : KeepsNoted p s (v.modRobot r f) :=
    hv.trans (.of_same rfl rfl rfl)
  unfold sendSlot
  dsimp only
  exact (h1 _ _ (h0 _)).sent.bump

theorem sendRepeat_keeps (r : RobotId) (x : PortId) (c : CellId) (s : State) :
    KeepsNoted p s (sendRepeat r x c s) := by
  have h0 (f : Robot → Robot) : KeepsNoted p s ((s.addRef c).modRobot r f) := .of_same rfl rfl rfl
  unfold sendRepeat
  dsimp only
  exact (h0 _).sent.bump

theorem opening_keeps (r : RobotId) (x : PortId) (s : State) : KeepsNoted p s (opening r x s) := by
  have h0 : KeepsNoted p s (s.modRobot r Robot.opened) := .of_same rfl rfl rfl
  obtain e | ⟨c, e⟩ | ⟨c, e⟩ | e := opening_cases (p := x) (r := r) (s := s) <;> rw [e]
  · exact h0.bump
  · exact h0.trans (sendSlot_keeps ..)
  · exact h0.trans (sendRepeat_keeps ..)
  · exact h0.trans (sendHoldFrame_keeps ..)

theorem openingFor_keeps (x : PortId) (w : Nat) (r : RobotId) (s : State) :
    KeepsNoted p s (openingFor x w r s) := by
  have hc : KeepsNoted p s (checkRobot r .supervision s) :=
    .of_beside (checkRobot_beside ..) (by rw [checkRobot_egress])
  unfold openingFor
  dsimp only
  split
  · split
    · exact hc.trans (opening_keeps ..)
    · exact hc
  · exact .refl p s

theorem signalWindow_keeps (x : PortId) (w : Nat) (s : State) : KeepsNoted p s (signalWindow x w s) := by
  unfold signalWindow
  exact (countDelayed_keeps x s).trans (.forEach _ (openingFor_keeps x w))

/-! ## A frame of the switch's own (R34) -/

theorem KeepsNoted.stored {m : CellMem} {ports : List PortId} {y : QEntry} (h : KeepsNoted p s u) :
    KeepsNoted p s (Machine.forEach ports (fun x => enqueue x 2 y) { u with mem := m }) := by
  have hm : KeepsNoted p u { u with mem := m } := .of_same rfl rfl rfl
  exact (h.trans hm).trans (.forEach _ fun x v => enqueue_keeps x 2 y v)

theorem buildFrame_keepsNoted (k : GenKind) (kind : FrameKind) (ports : List PortId) (octets : Octets) (s : State) :
    KeepsNoted p s (buildFrame k kind ports octets s).1 := by
  unfold buildFrame
  dsimp only
  split
  · exact (KeepsNoted.refl p s).bump
  · have hno (l : List PortId) : KeepsNoted p s (forEach l (fun x s =>
        bump (.device (.generationDrops k)) (bump (.port x (.refused 2)) s)) s) :=
      .forEach l fun x v => (KeepsNoted.refl p v).bump.bump
    split
    · exact hno _
    · split
      · exact (hno _).bump
      · split
        · exact hno _
        · exact (hno _).stored

theorem relayMark_keeps (m : Mark) (recv : HallTime) (s : State) : KeepsNoted p s (relayMark m recv s) := by
  unfold relayMark
  split
  · exact .refl p s
  · exact buildFrame_keepsNoted ..

end

end Sys2Proof.Machine
end


section
/-! A change of a gate engine looks for a cut trigger, and the piece on the wire keeps what it chose (R76, R80). -/

namespace Sys2Proof.Machine

section
variable {p : PortId} {s u v : State} {t : Tx}

/-! ## The engine's events (R68, R69, R77) -/

theorem changeGate_noted (f : Gate → Gate) (h : s.egress[p].tx = some t) : Noted (changeGate p f s) p t :=
  ⟨_, by rw [changeGate_tx, h]; rfl, changeGate_cutNoted p f s t⟩

theorem changeGate_keeps {x : PortId} (f : Gate → Gate) (h : p ≠ x) : KeepsNoted p s (changeGate x f s) := by
  refine .of_same (changeGate_other x f s h) ?_ (by rw [changeGate_frame]; rfl)
  rw [changeGate_gates]
  exact upd_other _ _ _ _ h

/-- A boundary that is signalled, a change of the engine, and the start of a window. -/
theorem begun_noted {k : Int} {d : Bool} {b : HallTime} (f : Gate → Gate) (h : s.egress[p].tx = some t) :
    Noted (changeGate p f (signalBoundary p k d b s)) p t :=
  changeGate_noted f (by rw [signalBoundary_egress]; exact h)

theorem Noted.keeps (h : Noted s p t) (hk : KeepsNoted p s u) : Noted u p t := hk.noted t h

theorem takeBoundary_noted (h : s.egress[p].tx = some t) : Noted (takeBoundary p s) p t := by
  unfold takeBoundary
  dsimp only
  split
  · exact ((begun_noted _ h).keeps (KeepsNoted.refl p _).raise).keeps (signalWindow_keeps ..)
  · split
    · exact begun_noted _ h
    · exact (begun_noted _ h).keeps (signalWindow_keeps ..)

theorem takeTarget_noted (l : GateList) (h : s.egress[p].tx = some t) : Noted (takeTarget p l s) p t := by
  unfold takeTarget
  dsimp only
  exact ((begun_noted _ h).keeps (KeepsNoted.refl p _).raise).keeps (signalWindow_keeps ..)

theorem takeWindow_noted (h : s.egress[p].tx = some t) : Noted (takeWindow p s) p t :=
  (changeGate_noted _ h).keeps (signalWindow_keeps ..)

/-! ## A step of hall time (R53, R76) -/

theorem reported_noted {l : List PortId} (hl : l.Nodup) (hp : p ∈ l) (h : s.egress[p].tx = some t) :
    Noted (forEach l (fun p s => changeGate p (Gate.afterStep s.clock.hall) s) s) p t := by
  induction l generalizing s with
  | nil => cases hp
  | cons x l ih =>
    obtain ⟨hx, hl⟩ := List.nodup_cons.mp hl
    rw [forEach_cons]
    by_cases e : p = x
    · subst e
      refine forEach_inv (P := fun v => Noted v p t) l (fun y hy v hv => ?_) _ (changeGate_noted _ h)
      exact hv.keeps (changeGate_keeps _ fun e => hx (e ▸ hy))
    · exact ih hl (List.mem_of_ne_of_mem e hp) (by rw [changeGate_other x _ s e]; exact h)

theorem stepTo_noted (hall : HallTime) (h : s.egress[p].tx = some t) : Noted (stepTo hall s) p t := by
  have hr : Noted (reportStep (s.modClock (·.stepped hall))) p t :=
    reported_noted (List.nodup_finRange 12) (List.mem_finRange p) h
  have hv (v : State) : KeepsNoted p v v.voidRelays := .of_same rfl rfl rfl
  rw [stepTo_eq]
  exact hr.keeps (hv _).bump

/-! ## The commands -/

/-- A command that leaves the engine of a port as it was, or its piece noted. -/
def TakesNoted (s : State) (p : PortId) (u : State) : Prop :=
  u.gates[p] = s.gates[p] ∨ ∀ t, s.egress[p].tx = some t → Noted u p t

theorem TakesNoted.keeps (h : TakesNoted s p u) (hk : KeepsNoted p u v) : TakesNoted s p v :=
  h.imp (fun hg => hk.gate.trans hg) fun hn t ht => (hn t ht).keeps hk

theorem TakesNoted.taken {l : Octets} (h : TakesNoted s p u) : TakesNoted s p (Machine.taken u l).1 := h

theorem takesNoted_ite {c : Prop} [Decidable c] (h : TakesNoted s p u) : TakesNoted s p (if c then u else s) := by
  split
  · exact h
  · exact .inl rfl

theorem openGridBoundary_takes (h : exec (.openGridBoundary p) s = .next u) : TakesNoted s p u := by
  cases h
  exact takesNoted_ite (.inr fun t ht => takeBoundary_noted ht)

theorem cycleBoundary_takes (h : exec (.cycleBoundary p) s = .next u) : TakesNoted s p u := by
  cases h
  exact takesNoted_ite (.inr fun t ht => takeBoundary_noted ht)

theorem windowStart_takes (h : exec (.windowStart p) s = .next u) : TakesNoted s p u := by
  cases h
  exact takesNoted_ite (.inr fun t ht => takeWindow_noted ht)

theorem resyncTarget_takes (h : exec (.resyncTargetBoundary p) s = .next u) : TakesNoted s p u := by
  cases h
  split
  · exact takesNoted_ite (.inr fun t ht => takeTarget_noted _ ht)
  · exact .inl rfl

theorem gates_of_unanswered (h : u.unanswered = s.unanswered) : u.gates = s.gates := by
  have e := congrArg State.gates h
  simpa only [State.unanswered, State.uncounted] using e

theorem markStepped_noted {m : Mark} {rest : List Mark} {offset : Int} (h : s.egress[p].tx = some t) :
    Noted (s.markStepped m rest offset) p t := by
  have hq : (s.acquiring m rest).egress = s.egress := (SameQueues.of_uncounted acquiring_uncounted).egress
  have hn : Noted (stepTo (s.clock.hall.stepBy (-offset)) (s.acquiring m rest)) p t :=
    stepTo_noted _ (by rw [hq]; exact h)
  rw [State.markStepped]
  generalize stepTo (s.clock.hall.stepBy (-offset)) (s.acquiring m rest) = v at hn
  exact hn.keeps (KeepsNoted.refl p v).raise

theorem readMark_malformed {m : Mark} (v : State) (h : m.malformed = true) :
    readMark m v = bump (.clock .marksMalformed) v := if_pos h

theorem readMark_discarded {m : Mark} (v : State) (h : ¬m.malformed = true) (he : m.epoch ≠ v.clock.epoch) :
    readMark m v = bump (.clock .marksDiscarded) v := (if_neg h).trans (if_pos he)

theorem readMark_takes {m : Mark} {rest : List Mark} (hm : s.clock.marks = m :: rest) :
    TakesNoted s p (readMark m (s.modClock fun c => { c with marks := rest })) := by
  have hkept (c : CounterRef) : TakesNoted s p (bump c (s.modClock fun c => { c with marks := rest })) :=
    .inl (by rw [bump_gates]; rfl)
  by_cases hbad : m.malformed = true
  · exact readMark_malformed (m := m) _ hbad ▸ hkept _
  by_cases hepoch : m.epoch ≠ s.clock.epoch
  · rw [readMark_discarded (s.modClock fun c => { c with marks := rest }) hbad hepoch]
    exact hkept _
  have hgood := Bool.not_eq_true _ ▸ hbad
  have hepoch := not_not.mp hepoch
  by_cases hsteps : s.clock.servo = .unset ∨ s.clock.cfg.stepLimit < (m.offset (s.clock.delay.getD 0)).natAbs
  · rw [readMark_steps hgood hepoch rfl hsteps]
    have hn : TakesNoted s p (s.markStepped m rest (m.offset (s.clock.delay.getD 0))) :=
      .inr fun t ht => markStepped_noted ht
    generalize s.markStepped m rest (m.offset (s.clock.delay.getD 0)) = v at hn
    split
    · exact hn.keeps (relayMark_keeps ..)
    · exact hn
  · obtain ⟨hset, hle⟩ := not_or.mp hsteps
    obtain ⟨v, he, -, hun, -⟩ := timeMark_trims hm hgood hepoch hset rfl (Nat.not_lt.mp hle)
    rw [exec_timeMark hm] at he
    rw [Host.Outcome.next.inj he]
    exact .inl (by rw [gates_of_unanswered hun]; rfl)

theorem timeMark_takes (h : exec .timeMark s = .next u) : TakesNoted s p u := by
  cases hm : s.clock.marks with
  | nil =>
    have e : exec .timeMark s = .next s := by simp only [exec, execTimeMark, hm]
    cases e.symm.trans h
    exact .inl rfl
  | cons m rest =>
    rw [exec_timeMark hm] at h
    exact Host.Outcome.next.inj h ▸ readMark_takes hm

/-! ## The requests that step hall time (R54, R55) -/

/-- A request that steps hall time, after the clock has taken it. -/
theorem requestStep_takes {cause : StepCause} {hall : HallTime} {offset : Int} (he : v.egress = s.egress) :
    TakesNoted s p (requestStep cause hall offset v) := by
  refine .inr fun t ht => ?_
  have hq : (clockRequest v).egress = v.egress := by
    unfold clockRequest
    split <;> rfl
  have hn : Noted (stepTo hall (clockRequest v)) p t := stepTo_noted _ (by rw [hq, he]; exact ht)
  unfold requestStep
  generalize stepTo hall (clockRequest v) = x at hn
  exact hn.keeps (KeepsNoted.refl p x).raise

/-- A request whose act leaves the engine, or the piece noted, does so when it is answered. -/
theorem runHead_takesNoted {row : RequestRow} {act : Act} (hact : ∀ (q : Request) (v : State), v.egress = s.egress →
    v.gates = s.gates → TakesNoted s p (act q v).1) : TakesNoted s p (runHead row act s) := by
  unfold runHead
  split
  · next q _ =>
    have hf : TakesNoted s p (performFitted act q s).1 :=
      performFitted_takes (P := fun v => v.egress = s.egress ∧ v.gates = s.gates)
        (fun v hv => .inl (by rw [hv.2]))
        (fun c v hv => ⟨(bump_egress ..).trans hv.1, (bump_gates ..).trans hv.2⟩)
        (fun v hv => hact q v hv.1 hv.2) ⟨rfl, rfl⟩
    have hleft (v : State) : KeepsNoted p v (leaveQueue v) := .of_same rfl rfl rfl
    have hdone (r : State × Reply) (hr : TakesNoted s p r.1) : TakesNoted s p (leaveQueue (sendAnswer q r.2 r.1).1) :=
      (hr.keeps (buildFrame_keepsNoted ..)).keeps (hleft _)
    exact hdone _ hf
  · exact .inl rfl

theorem setClock_takes (h : exec .setClock s = .next u) : TakesNoted s p u := by
  cases h
  refine runHead_takesNoted fun q v he hg => ?_
  have hkept : TakesNoted s p v := .inl (by rw [hg])
  unfold actSetClock
  dsimp only
  split
  · exact hkept
  · exact TakesNoted.taken (requestStep_takes he)

theorem adjustClock_takes (h : exec .adjustClock s = .next u) : TakesNoted s p u := by
  cases h
  refine runHead_takesNoted fun q v he hg => ?_
  have hkept : TakesNoted s p v := .inl (by rw [hg])
  unfold actAdjustClock
  dsimp only
  split
  · exact hkept
  · exact TakesNoted.taken (requestStep_takes he)

end

end Sys2Proof.Machine
end


section
/-! The statement about the ends of pieces (R38, R79, R80, R192). -/

namespace Sys2Proof.Machine

section
variable {s : State} {p : PortId} {t : Tx}

/-- The counters of a completed frame, read from its kind. -/
theorem sentCounter_toList {k : FrameKind} {l : List CounterRef}
    (h : (∃ n, k = .rangeProbe n) ∧ l = [.clock .probesSent] ∨ k = .rangeReply ∧ l = [.clock .probesAnswered] ∨
      (∃ x d v, k = .relayed x d v) ∧ l = [.clock .relayedSent] ∨
      k ∈ [.received, .notice, .answer, .triggerNote, .holdFrame] ∧ l = []) :
    (sentCounter k).toList.map CounterRef.clock = l := by
  rcases h with ⟨⟨n, rfl⟩, rfl⟩ | ⟨rfl, rfl⟩ | ⟨⟨x, d, v, rfl⟩, rfl⟩ | ⟨hk, rfl⟩
  · rfl
  · rfl
  · rfl
  · simp only [List.mem_cons, List.not_mem_nil, or_false] at hk
    rcases hk with rfl | rfl | rfl | rfl | rfl <;> rfl

/-- What a cut leaves of its port, with the number of the piece to come read from the marker. -/
theorem cut_eq (e : Egress) (p : PortId) (t : Tx) (c : Nat) : e.cut p t c =
    { e with
      tx := none
      remainder := some
        { frame := t.frame, queue := t.queue, kind := t.kind, octets := t.octets, offset := t.offset + c
          nextN := match t.marker with
            | .next n => n + 1
            | _ => 0 }
      idleUntil := t.startTick + (8 + c + 4) * octetTicks p + 12 * octetTicks p
      lastSent := some
        { marker := t.marker
          octets := (t.octets.drop t.offset).take c ++ pieceCheckOf ((t.octets.drop t.offset).take c)
          ending := .pieceCheck } } := by
  unfold Egress.cut nextAfter
  cases t.marker <;> rfl

theorem gateCommand_takes {c : Instr} {u : State} (hc : c ∈ [.openGridBoundary p, .cycleBoundary p, .windowStart p,
    .resyncTargetBoundary p, .timeMark, .setClock, .adjustClock]) (h : exec c s = .next u) : TakesNoted s p u := by
  simp only [List.mem_cons, List.not_mem_nil, or_false] at hc
  rcases hc with rfl | rfl | rfl | rfl | rfl | rfl | rfl
  · exact openGridBoundary_takes h
  · exact cycleBoundary_takes h
  · exact windowStart_takes h
  · exact resyncTarget_takes h
  · exact timeMark_takes h
  · exact setClock_takes h
  · exact adjustClock_takes h

theorem enqueueSend_noted (r : RobotId) (h : CellId) (ht : s.egress[p].tx = some t) :
    Noted (enqueueSend p r h s) p t := by
  have hn : Noted (noteCut p (s.modEgress p fun e =>
      { e with queues := upd e.queues 3 (insertSend (newEntry h (.robotSend r))) })) p t :=
    noteCut_noted (by rw [State.modEgress_get]; exact ht)
  exact hn.keeps (KeepsNoted.refl p _).bump

end

/-- Settles O36: a cut and the last octet by their instants, each trigger by the cut point that is looked for
then and that what follows keeps. -/
theorem piecesEnd : Obligations.PiecesEnd := by
  rintro p s t _ ht rfl
  refine ⟨fun c hc => ⟨fun hend => ?_, fun hwait => ?_⟩, fun k m hc ho hk hgone hkept hend => ?_, fun hc hwait => ?_,
    fun q x r h u hu => ?_, fun c u hc he hg => ?_⟩
  · have h := pieceCut_completes ht hc hend
    simp only [cut_eq] at h
    exact h
  · exact (exec_pieceCut ht hc).trans (congrArg Host.Outcome.next (if_neg (Nat.not_le.mpr hwait)))
  · have h := transmissionComplete_completes ht hc ho hend hgone hkept
    rw [Tx.completeCounts, sentCounter_toList hk] at h
    exact h
  · exact (exec_transmissionComplete ht hc).trans (congrArg Host.Outcome.next (if_neg (Nat.not_le.mpr hwait)))
  · rcases hu with rfl | rfl
    · obtain ⟨tx, hport, -, hnoted⟩ := enqueue_joins p q x s
      obtain ⟨c, rfl, hcut⟩ := hnoted t ht
      exact ⟨c, by rw [hport], hcut⟩
    · exact enqueueSend_noted r h ht
  · exact ((gateCommand_takes hc he).resolve_left hg) t ht

end Sys2Proof.Machine
end


section
/-! A written record that acts at once: the request's part, and the TRACKING record (R114, R127, R187). -/

namespace Sys2Proof.Machine

/-! ## One record that is written (R187) -/

section
variable {s u : State} {q : Request} {t : TableId} {n : Nat} {l : Octets} (h : WriteOf s q t 1 n l)
  (h1 : t.octets ≤ l.length) (h2 : recordLength t l = l.length)
include h h1 h2

/-- A record that is stored is answered with its count. -/
theorem exec_stored (hw : writeRecord t n l s = .ok u) :
    exec q.command s = .next (u.afterAnswer q (wholeWrite 1)) := by
  have ha := actWriteTable_good h (le_refl 1) (by decide) (splitRecords_one h1 h2)
  have he : writeRecords t [l] n 0 s = { state := u, count := 1, refused := none } := by
    unfold writeRecords
    rw [hw]
    rfl
  rw [he, reply_of_whole] at ha
  exact exec_write h ha (wholeWrite_length 1)

/-- A record that its table refuses is answered with the code, and nothing is counted. -/
theorem refused_counting {x : Status} (hw : writeRecord t n l s = .error x) :
    RunsCounting q.command s s q (refusedWrite 0 x n) [] [] := by
  have ha := actWriteTable_good h (le_refl 1) (by decide) (splitRecords_one h1 h2)
  have he : writeRecords t [l] n 0 s = { state := s, count := 0, refused := some (x, n) } := by
    unfold writeRecords
    rw [hw]
  rw [he, reply_of_refused] at ha
  exact RunsCounting.of_answer (exec_write h ha (refusedWrite_length ..))

end

/-- A state that a stored record leaves: what the answer reads is as it was. -/
structure Stores (s u v : State) (l : List CounterRef) (es : List NoticeEvent) : Prop where
  uncounted : u.uncounted = v.uncounted
  room : SameRoom s v
  mgmt : v.mgmt = s.mgmt
  effects : Effects s u s.clock.hall.base l es

section
variable {s u v w : State} {q : Request} {r : Reply} {c : Instr} {l : List CounterRef} {es : List NoticeEvent}

theorem Stores.runs (h : Stores s u v l es) (he : exec c s = .next (u.afterAnswer q r)) :
    RunsCounting c s v q r l es := by
  have hm : u.mgmt = s.mgmt := (mgmt_of_uncounted h.uncounted).trans h.mgmt
  have hroom : SameRoom s u := h.room.trans (.of_uncounted h.uncounted)
  exact .of_effects he (unanswered_of_uncounted h.uncounted) hm hroom.answerRoom h.effects

/-- A source that joins: what it counts and notices (R171). -/
theorem joinHold_effects {h : HoldSource} {now : BaseTime} (he : Effects w s now l es) (hnow : s.clock.hall.base = now) :
    Effects w (joinHold h s) now
      (l ++ if s.hold.present.has h = false ∧ s.hold.latch = false then [.device .holdSets] else [])
      (es ++ if s.hold.present.has h = false ∧ s.hold.latch = false then [.holdSet (.source h)] else []) := by
  obtain ⟨hp, e⟩ | ⟨-, hl, e⟩ | ⟨hp, hl, e⟩ := joinHold_cases h s
  · rw [e, if_neg (by rw [hp]; exact fun h => nomatch h.1), if_neg (by rw [hp]; exact fun h => nomatch h.1),
      List.append_nil, List.append_nil]
    exact he
  · rw [e, if_neg (by rw [hl]; exact fun h => nomatch h.2), if_neg (by rw [hl]; exact fun h => nomatch h.2),
      List.append_nil, List.append_nil]
    exact he.congr rfl rfl
  · rw [e, if_pos ⟨hp, hl⟩, if_pos ⟨hp, hl⟩]
    have hj : Effects w (s.setBy h) now l es := he.congr rfl rfl
    exact (hj.raise (.holdSet (.source h)) hnow).bump (.device .holdSets)

/-- The hold block after a source has joined at a run time (R171). -/
def Hold.joined (b : Hold) (h : HoldSource) (run : Nat) : Hold :=
  if b.present.has h then b
  else if b.latch then { b with present := b.present.join h }
  else { b with present := b.present.join h, latch := true, cause := .source h, setTime := some run }

theorem joinHold_hold (h : HoldSource) (s : State) : (joinHold h s).hold = s.hold.joined h s.clock.run := by
  unfold Hold.joined
  obtain ⟨hp, e⟩ | ⟨hp, hl, e⟩ | ⟨hp, hl, e⟩ := joinHold_cases h s
  · rw [e, if_pos hp]
  · rw [e, hp, if_neg Bool.false_ne_true, if_pos hl]
    rfl
  · rw [e, bump_hold, raise_hold, hp, hl, if_neg Bool.false_ne_true, if_neg Bool.false_ne_true]
    rfl

end

/-! ## The TRACKING record (R114) -/

theorem decodeTracking_bounds {l : Octets} {c : TrackerCfg} (h : decodeTracking l = some c) :
    1 ≤ c.minOcclusion ∧ 16 ≤ c.maxOcclusion := by
  unfold decodeTracking within at h
  simp only [Option.bind_eq_bind, Option.bind_eq_some_iff, Option.ite_none_right_eq_some, Option.some_inj] at h
  obtain ⟨-, -, -, -, -, -, -, -, least, ⟨hleast, rfl⟩, most, ⟨hmost, rfl⟩, -, -, rfl⟩ := h
  exact ⟨hleast.1, (le_max_left ..).trans hmost.1⟩

/-- The tracker under a written record. -/
def State.tracking (s : State) (c : TrackerCfg) : State := s.modTracker fun t => { t with cfg := c }

/-- A state whose jam is not a hold source. -/
def State.jamLeft (s : State) : State :=
  { s with hold := { s.hold with present := { s.hold.present with jam := false } } }

theorem leaveHold_jam (s : State) : leaveHold .jam s = s.jamLeft := rfl

theorem jamLeft_jamLeft (s : State) : s.jamLeft.jamLeft = s.jamLeft := rfl

section
variable {s u v : State} {c : TrackerCfg} {l : List CounterRef} {es : List NoticeEvent}

theorem reread_same (h : s.tracker.sense = s.tracker.cfg.activeHigh ↔ s.tracker.sense = c.activeHigh) :
    rereadSensor s.tracker.sensorActive (s.tracking c) = s.tracking c := by
  refine if_pos ?_
  rw [Tracker.sensorActive, Tracker.sensorActive, Bool.eq_iff_iff, beq_iff_eq, beq_iff_eq]
  exact h

theorem reread_begins (hi : s.tracker.sense ≠ s.tracker.cfg.activeHigh) (ha : s.tracker.sense = c.activeHigh) :
    rereadSensor s.tracker.sensorActive (s.tracking c) = leadingEdge (s.tracking c) := by
  have hb : s.tracker.sensorActive = false := beq_false_of_ne hi
  have hn : (s.tracking c).tracker.sensorActive = true := beq_of_eq ha
  unfold rereadSensor
  rw [hb, hn, if_neg Bool.false_ne_true, if_neg Bool.false_ne_true]

theorem reread_ends (ha : s.tracker.sense = s.tracker.cfg.activeHigh) (hi : s.tracker.sense ≠ c.activeHigh) :
    rereadSensor s.tracker.sensorActive (s.tracking c) = sensorEnds (s.tracking c) := by
  have hb : s.tracker.sensorActive = true := beq_of_eq ha
  have hn : (s.tracking c).tracker.sensorActive = false := beq_false_of_ne hi
  unfold rereadSensor
  rw [hb, hn, if_neg nofun, if_pos rfl]

theorem policy_reports (h : u.tracker.cfg.jamPolicy = .report) : applyJamPolicy u = u.jamLeft := by
  unfold applyJamPolicy
  rw [h]
  rfl

theorem policy_holds (h : u.tracker.cfg.jamPolicy = .holdLine) :
    applyJamPolicy u = if u.tracker.sensor = .jammed then joinHold .jam u else u := by
  unfold applyJamPolicy
  rw [h]

theorem Stores.congr {w : State} (h : Stores s u v l es) (hw : v.uncounted = w.uncounted) : Stores s u w l es :=
  ⟨h.uncounted.trans hw, h.room.trans (.of_uncounted hw.symm), (mgmt_of_uncounted hw).symm.trans h.mgmt, h.effects⟩

theorem Stores.jamLeft (h : Stores s u v l es) : Stores s u.jamLeft v.jamLeft l es := by
  refine ⟨?_, h.room.trans ⟨rfl, rfl, rfl, fun _ _ => rfl, fun _ => rfl⟩, h.mgmt, h.effects.congr rfl rfl⟩
  exact congrArg State.jamLeft h.uncounted

/-- A state that the tests of the occlusion leave is put to the jam policy. -/
theorem Stores.policy (h : Stores s u v l es) (hc : u.tracker.cfg = c) (hj : u.tracker.sensor ≠ .jammed) :
    Stores s (applyJamPolicy u) (if c.jamPolicy = .report then v.jamLeft else v) l es := by
  cases hp : c.jamPolicy with
  | report =>
    rw [policy_reports (by rw [hc, hp]), if_pos rfl]
    exact h.jamLeft
  | holdLine =>
    rw [policy_holds (by rw [hc, hp]), if_neg hj, if_neg nofun]
    exact h

/-- A written record before its effects. -/
theorem Stores.start (hr : SameRoom s v) (hm : v.mgmt = s.mgmt) (hc : v.counters = s.counters)
    (hn : v.notices = s.notices) : Stores s v v [] [] := ⟨rfl, hr, hm, .start _ _ _ hc hn⟩

theorem modTracker_stores (f : Tracker → Tracker) : Stores s (s.modTracker f) (s.modTracker f) [] [] :=
  .start ⟨rfl, rfl, rfl, fun _ _ => rfl, fun _ => rfl⟩ rfl rfl rfl

theorem Stores.modTracker (h : Stores s v v l es) (f : Tracker → Tracker) :
    Stores s (v.modTracker f) (v.modTracker f) l es :=
  ⟨rfl, h.room.trans ⟨rfl, rfl, rfl, fun _ _ => rfl, fun _ => rfl⟩, h.mgmt, h.effects.congr rfl rfl⟩

theorem modTracker_congr {f g : Tracker → Tracker} (h : f s.tracker = g s.tracker) :
    s.modTracker f = s.modTracker g :=
  congrArg (fun t => ({ s with tracker := t } : State)) h

theorem Stores.bump (h : Stores s u v l es) (k : CounterRef) (hk : k.ofNotices = false := by rfl) :
    Stores s (Machine.bump k u) v (l ++ [k]) es :=
  ⟨(bump_uncounted ..).trans h.uncounted, h.room, h.mgmt, h.effects.bump k hk⟩

/-! ## No edge under the new level -/

/-- The occlusion is not measured to its minimum, nor qualified to its maximum, under the record. -/
theorem tests_idle (h1 : s.tracker.sensor = .measuring → s.tracker.occlusion < c.minOcclusion)
    (h2 : s.tracker.sensor = .qualified → s.tracker.occlusion < c.maxOcclusion) :
    occlusionTests (s.tracking c) = s.tracking c := by
  by_cases hm : s.tracker.sensor = .measuring
  · exact occlusionTests_short hm (h1 hm)
  · exact occlusionTests_goesOn hm h2

theorem storeTracking_idle (hsame : s.tracker.sense = s.tracker.cfg.activeHigh ↔ s.tracker.sense = c.activeHigh)
    (h1 : s.tracker.sensor = .measuring → s.tracker.occlusion < c.minOcclusion)
    (h2 : s.tracker.sensor = .qualified → s.tracker.occlusion < c.maxOcclusion) :
    storeTracking c s = applyJamPolicy (s.tracking c) := by
  have e : storeTracking c s = applyJamPolicy (occlusionTests (rereadSensor s.tracker.sensorActive (s.tracking c))) := rfl
  rw [e, reread_same hsame, tests_idle h1 h2]

end

end Sys2Proof.Machine
end


section
/-! A written TRACKING record: no edge, an edge under the new level, and the tests of the occlusion (R114,
R120, R123, R127). -/

namespace Sys2Proof.Machine

section
variable {s u v : State} {c : TrackerCfg} {q : Request} {l : Octets}

theorem tracking_stored (h : WriteOf s q .tracking 1 0 l) (hl : l.length = 9) (hd : decodeTracking l = some c) :
    exec .writeTrackingRecord s = .next ((storeTracking c s).afterAnswer q (wholeWrite 1)) := by
  have hc : q.command = .writeTrackingRecord := by unfold Request.command; rw [h.row]
  have hw : writeRecord .tracking 0 l s = .ok (storeTracking c s) := by
    show writeTracking 0 l s = _
    unfold writeTracking
    rw [hd]
    rfl
  rw [← hc]
  exact exec_stored h hl.ge hl.symm hw

/-- With no edge and no test passed the policy alone is applied. -/
theorem tracking_idle (h : WriteOf s q .tracking 1 0 l) (hl : l.length = 9) (hd : decodeTracking l = some c)
    (hsame : s.tracker.sense = s.tracker.cfg.activeHigh ↔ s.tracker.sense = c.activeHigh)
    (h1 : s.tracker.sensor = .measuring → s.tracker.occlusion < c.minOcclusion)
    (h2 : s.tracker.sensor = .qualified → s.tracker.occlusion < c.maxOcclusion) :
    (c.jamPolicy = .report → RunsCounting .writeTrackingRecord s (s.tracking c).jamLeft q (wholeWrite 1) [] []) ∧
    (c.jamPolicy = .holdLine → s.tracker.sensor ≠ .jammed →
      RunsCounting .writeTrackingRecord s (s.tracking c) q (wholeWrite 1) [] []) ∧
    (c.jamPolicy = .holdLine → s.tracker.sensor = .jammed →
      RunsCounting .writeTrackingRecord s { s.tracking c with hold := (joinHold .jam s).hold } q (wholeWrite 1)
        (if s.hold.present.jam = false ∧ s.hold.latch = false then [.device .holdSets] else [])
        (if s.hold.present.jam = false ∧ s.hold.latch = false then [.holdSet (.source .jam)] else [])) := by
  have he := tracking_stored h hl hd
  rw [storeTracking_idle hsame h1 h2] at he
  have hv : Stores s (s.tracking c) (s.tracking c) [] [] := modTracker_stores _
  have hsensor : (s.tracking c).tracker.sensor = s.tracker.sensor := rfl
  refine ⟨fun hp => ?_, fun hp hj => ?_, fun hp hj => ?_⟩
  · rw [policy_reports hp] at he
    exact hv.jamLeft.runs he
  · rw [policy_holds hp, hsensor, if_neg hj] at he
    exact hv.runs he
  · rw [policy_holds hp, hsensor, if_pos hj] at he
    have hhold : (joinHold .jam (s.tracking c)).hold = (joinHold .jam s).hold := by
      rw [joinHold_hold, joinHold_hold]
      rfl
    refine Stores.runs ⟨?_, ?_, rfl, joinHold_effects hv.effects rfl⟩ he
    · rw [joinHold_frame, hhold]
    · exact ⟨rfl, rfl, rfl, fun _ _ => rfl, fun _ => rfl⟩

/-! ## An edge under the new level -/

/-- The sensor goes active: an occlusion begins, or one in an excursion is ignored. -/
theorem tracking_begins (h : WriteOf s q .tracking 1 0 l) (hl : l.length = 9) (hd : decodeTracking l = some c)
    (hi : s.tracker.sense ≠ s.tracker.cfg.activeHigh) (ha : s.tracker.sense = c.activeHigh)
    (hclear : s.tracker.sensor = .clear)
    (hu : u = (s.tracking c).modTracker fun t => if t.excursion then { t with sensor := .ignoring }
      else { t with sensor := .measuring, leading := some t.position, link := none }) :
    RunsCounting .writeTrackingRecord s (if c.jamPolicy = .report then u.jamLeft else u) q (wholeWrite 1)
      (if s.tracker.excursion then [.tracker .ignoredOcclusions] else []) [] := by
  have he := tracking_stored h hl hd
  have e : storeTracking c s = applyJamPolicy (occlusionTests (rereadSensor s.tracker.sensorActive (s.tracking c))) := rfl
  obtain ⟨hmin, -⟩ := decodeTracking_bounds hd
  have hstart : Stores s (s.tracking c) (s.tracking c) [] [] := modTracker_stores _
  have hcfg : (s.tracking c).tracker.cfg = c := rfl
  have hexcursion : (s.tracking c).tracker.excursion = s.tracker.excursion := rfl
  replace hclear : (s.tracking c).tracker.sensor = .clear := hclear
  rw [e, reread_begins hi ha] at he
  rw [← hexcursion]
  generalize s.tracking c = v at he hu hstart hcfg hclear
  have hv := hstart.modTracker fun t => if t.excursion then { t with sensor := .ignoring }
    else { t with sensor := .measuring, leading := some t.position, link := none }
  have htracker : u.tracker = if v.tracker.excursion then { v.tracker with sensor := .ignoring }
      else { v.tracker with sensor := .measuring, leading := some v.tracker.position, link := none } := by
    rw [hu]
    rfl
  rw [← hu] at hv
  cases hx : v.tracker.excursion with
  | true =>
    rw [hx, if_pos rfl] at htracker
    have hu' : u = v.modTracker fun t => { t with sensor := .ignoring } := by
      rw [hu]
      exact modTracker_congr (if_pos hx)
    have htr : (bump (.tracker .ignoredOcclusions) u).tracker = u.tracker := bump_tracker ..
    rw [leadingEdge_ignores hclear hx, ← hu', occlusionTests_goesOn (by rw [htr, htracker]; nofun)
      (by rw [htr, htracker]; nofun)] at he
    rw [if_pos rfl]
    exact ((hv.bump (.tracker .ignoredOcclusions)).policy (by rw [htr, htracker]; exact hcfg)
      (by rw [htr, htracker]; nofun)).runs he
  | false =>
    rw [hx, if_neg Bool.false_ne_true] at htracker
    have hu' : u = v.modTracker fun t => { t with sensor := .measuring, leading := some t.position, link := none } := by
      rw [hu]
      exact modTracker_congr (if_neg (by rw [hx]; nofun))
    have hucfg : u.tracker.cfg = c := by rw [htracker]; exact hcfg
    have hsensor : u.tracker.sensor = .measuring := by rw [htracker]
    have hzero : u.tracker.occlusion = 0 := by
      rw [htracker]
      show distance v.tracker.position v.tracker.position = 0
      unfold distance
      rw [BitVec.sub_self]
      rfl
    rw [leadingEdge_measures hclear hx, ← hu', occlusionTests_short hsensor (by rw [hzero, hucfg]; omega)] at he
    rw [if_neg Bool.false_ne_true]
    exact (hv.policy hucfg (by rw [hsensor]; nofun)).runs he

/-- The sensor goes inactive: the occlusion ends. -/
theorem tracking_ends (h : WriteOf s q .tracking 1 0 l) (hl : l.length = 9) (hd : decodeTracking l = some c)
    (ha : s.tracker.sense = s.tracker.cfg.activeHigh) (hi : s.tracker.sense ≠ c.activeHigh)
    (hoccluded : s.tracker.sensor ≠ .clear) :
    RunsCounting .writeTrackingRecord s
      (if c.jamPolicy = .report ∨ s.tracker.sensor = .jammed then (s.tracking c).unoccluded.jamLeft
        else (s.tracking c).unoccluded) q (wholeWrite 1)
      (if s.tracker.sensor = .measuring then [.tracker .shortOcclusions] else []) [] := by
  have he := tracking_stored h hl hd
  have e : storeTracking c s = applyJamPolicy (occlusionTests (rereadSensor s.tracker.sensorActive (s.tracking c))) := rfl
  rw [e, reread_ends ha hi] at he
  have h0 : Stores s (s.tracking c).unoccluded (s.tracking c).unoccluded [] [] :=
    (modTracker_stores _).modTracker _
  have htests (x : State) (hx : x.tracker = (s.tracking c).unoccluded.tracker) : occlusionTests x = x :=
    occlusionTests_goesOn (by rw [hx]; nofun) (by rw [hx]; nofun)
  have hpolicy (x y : State) (ks : List CounterRef) (hx : x.tracker = (s.tracking c).unoccluded.tracker)
      (hs : Stores s x y ks []) : Stores s (applyJamPolicy x) (if c.jamPolicy = .report then y.jamLeft else y) ks [] :=
    hs.policy (by rw [hx]; rfl) (by rw [hx]; nofun)
  by_cases hj : s.tracker.sensor = .jammed
  · have hx : (s.tracking c).unoccluded.jamLeft.tracker = (s.tracking c).unoccluded.tracker := rfl
    rw [sensorEnds_jammed (s := s.tracking c) hj, leaveHold_jam, htests _ hx] at he
    have hr := (hpolicy _ _ _ hx h0.jamLeft).runs he
    rw [jamLeft_jamLeft, ite_self] at hr
    rw [if_pos (.inr hj), if_neg (by rw [hj]; nofun)]
    exact hr
  · simp only [hj, or_false]
    by_cases hm : s.tracker.sensor = .measuring
    · have hx : (bump (.tracker .shortOcclusions) (s.tracking c).unoccluded).tracker =
        (s.tracking c).unoccluded.tracker := bump_tracker ..
      rw [sensorEnds_measuring (s := s.tracking c) hm, htests _ hx] at he
      rw [if_pos hm]
      exact (hpolicy _ _ _ hx (h0.bump _)).runs he
    · have hrest : s.tracker.sensor = .qualified ∨ s.tracker.sensor = .ignoring := by
        cases hs : s.tracker.sensor with
        | clear => exact absurd hs hoccluded
        | measuring => exact absurd hs hm
        | jammed => exact absurd hs hj
        | qualified => exact .inl rfl
        | ignoring => exact .inr rfl
      rw [sensorEnds_unmeasured (s := s.tracking c) hrest, htests _ rfl] at he
      rw [if_neg hm]
      exact (hpolicy _ _ _ rfl h0).runs he

/-! ## A test that the new record passes -/

/-- A measured occlusion reaches the new minimum. -/
theorem tracking_qualifies (h : WriteOf s q .tracking 1 0 l) (hl : l.length = 9) (hd : decodeTracking l = some c)
    (hsame : s.tracker.sense = s.tracker.cfg.activeHigh ↔ s.tracker.sense = c.activeHigh)
    (hm : s.tracker.sensor = .measuring) (hmin : (c.minOcclusion : Int) ≤ s.tracker.occlusion)
    (hmax : s.tracker.occlusion < c.maxOcclusion) : Runs .writeTrackingRecord s
      (if c.jamPolicy = .report then leaveHold .jam (qualify (s.tracking c)) else qualify (s.tracking c)) := by
  have he := tracking_stored h hl hd
  have e : storeTracking c s = applyJamPolicy (occlusionTests (rereadSensor s.tracker.sensorActive (s.tracking c))) := rfl
  have ht : occlusionTests (s.tracking c) = qualify (s.tracking c) := occlusionTests_qualifies hm hmin hmax
  have hcfg : (qualify (s.tracking c)).tracker.cfg = c := qualify_cfg _
  have hsensor : (qualify (s.tracking c)).tracker.sensor ≠ .jammed := by
    by_cases hroom : (s.tracking c).tracker.records.length < 256
    · rw [qualify_room_tracker hroom]; nofun
    · rw [qualify_full_tracker (Nat.not_lt.mp hroom)]; nofun
  have hp : applyJamPolicy (qualify (s.tracking c)) =
      if c.jamPolicy = .report then leaveHold .jam (qualify (s.tracking c)) else qualify (s.tracking c) := by
    cases hpol : c.jamPolicy with
    | report =>
      rw [policy_reports (by rw [hcfg, hpol]), if_pos rfl]
      rfl
    | holdLine => rw [policy_holds (by rw [hcfg, hpol]), if_neg hsensor, if_neg nofun]
  have hmgmt : (storeTracking c s).mgmt = s.mgmt := storeTracking_mgmt c s
  rw [← hp, ← ht, ← reread_same hsame, ← e]
  exact .of_answer he hmgmt rfl

/-- A qualified occlusion reaches the new maximum. -/
theorem tracking_jams (h : WriteOf s q .tracking 1 0 l) (hl : l.length = 9) (hd : decodeTracking l = some c)
    (hsame : s.tracker.sense = s.tracker.cfg.activeHigh ↔ s.tracker.sense = c.activeHigh)
    (hq : s.tracker.sensor = .qualified) (hmax : (c.maxOcclusion : Int) ≤ s.tracker.occlusion) :
    ∃ t, exec .writeTrackingRecord s = .next t ∧ t.tracker.cfg = c ∧ t.tracker.sensor = .jammed ∧
      t.hold.present.jam = decide (c.jamPolicy = .holdLine) ∧
      t.counter (.tracker .jams) = min (s.counter (.tracker .jams) + 1) Config.counterMax ∧
      t.mgmt = { s.mgmt with queue := s.mgmt.queue.tail } := by
  have he := tracking_stored h hl hd
  have e : storeTracking c s = applyJamPolicy (occlusionTests (rereadSensor s.tracker.sensorActive (s.tracking c))) := rfl
  have ht : occlusionTests (s.tracking c) = jamFound (s.tracking c) := occlusionTests_jams hq hmax
  have htracker : (jamFound (s.tracking c)).tracker = (s.tracking c).flagged.tracker := jamFound_tracker _
  have hcount : (jamFound (s.tracking c)).counter (.tracker .jams) =
      min (s.counter (.tracker .jams) + 1) Config.counterMax := (jamFound_counter _ rfl).trans (if_pos rfl)
  have hmgmt : (storeTracking c s).mgmt = s.mgmt := storeTracking_mgmt c s
  have hstored : (storeTracking c s).tracker = (s.tracking c).flagged.tracker ∧
      (storeTracking c s).counter (.tracker .jams) = min (s.counter (.tracker .jams) + 1) Config.counterMax ∧
      (storeTracking c s).hold.present.jam = decide (c.jamPolicy = .holdLine) := by
    rw [e, reread_same hsame, ht]
    generalize jamFound (s.tracking c) = x at htracker hcount
    cases hp : c.jamPolicy with
    | report =>
      rw [policy_reports (by rw [htracker]; exact hp)]
      exact ⟨htracker, hcount, rfl⟩
    | holdLine =>
      rw [policy_holds (by rw [htracker]; exact hp), if_pos (by rw [htracker]; rfl)]
      exact ⟨(joinHold_tracker ..).trans htracker, (joinHold_counter .jam x rfl).trans hcount,
        joinHold_present .jam x⟩
  generalize storeTracking c s = x at he hmgmt hstored
  obtain ⟨htr, hjams, hpresent⟩ := hstored
  have hun : (x.afterAnswer q (wholeWrite 1)).unanswered = x.unanswered := afterAnswer_unanswered ..
  refine ⟨_, he, ?_, ?_, ?_, ?_, by rw [afterAnswer_mgmt, hmgmt]⟩
  · rw [tracker_of_unanswered hun, htr]
    rfl
  · rw [tracker_of_unanswered hun, htr]
    rfl
  · rw [hold_of_unanswered hun, hpresent]
  · exact (sendAnswer_counter q (wholeWrite 1) x (.tracker .jams) nofun nofun rfl).trans hjams

end

end Sys2Proof.Machine
end


section
/-! A written EJECTOR record: the mode that may not change, and the waits under the new non-overlap time
(R141, R144, R148). -/

namespace Sys2Proof.Machine

section
variable {s : State} {c : EjectorCfg} {q : Request} {l : Octets}

/-- The ejector under a written record, with the lead of the latest speed. -/
def State.ejectorSet (s : State) (c : EjectorCfg) : State :=
  s.modReject fun x =>
    { x with cfg := c, lead := min c.leadMax ((s.tracker.speed * c.latency + 128000) / 256000)
             leadSpeed := s.tracker.speed }

theorem storeEjector_eq (c : EjectorCfg) (s : State) : storeEjector c s = leaveWaits (s.ejectorSet c) := rfl

theorem modReject_stores (f : Reject → Reject) : Stores s (s.modReject f) (s.modReject f) [] [] :=
  .start ⟨rfl, rfl, rfl, fun _ _ => rfl, fun _ => rfl⟩ rfl rfl rfl

theorem Stores.modReject {v : State} {ks : List CounterRef} {es : List NoticeEvent} (h : Stores s v v ks es)
    (f : Reject → Reject) : Stores s (v.modReject f) (v.modReject f) ks es :=
  ⟨rfl, h.room.trans ⟨rfl, rfl, rfl, fun _ _ => rfl, fun _ => rfl⟩, h.mgmt, h.effects.congr rfl rfl⟩

/-! ## The waits -/

/-- A gate that waits, and neither the inhibit nor the non-overlap time lets move, stays. -/
theorem leaveWaits_stays {v : State} (h : v.clock.run < v.reject.inhibitEnd ∨
    (v.reject.state ≠ .extendWait ∨
      ∃ b, v.reject.releaseB = some b ∧ v.clock.run < b + v.reject.cfg.nonOverlap) ∧
    (v.reject.state ≠ .retractWait ∨
      ∃ a, v.reject.releaseA = some a ∧ v.clock.run < a + v.reject.cfg.nonOverlap)) : leaveWaits v = v := by
  obtain h | ⟨hb, ha⟩ := h
  · exact leaveWaits_inhibited h
  · by_cases he : v.reject.state = .extendWait
    · exact extendWait_stays he (.inr (hb.resolve_left fun hn => hn he))
    · by_cases hr : v.reject.state = .retractWait
      · exact retractWait_stays hr (.inr (ha.resolve_left fun hn => hn hr))
      · exact leaveWaits_idle he hr

theorem leaveWaits_extends {v : State} (hx : v.reject.state = .extendWait) (hi : v.reject.inhibitEnd ≤ v.clock.run)
    (hb : ∀ b, v.reject.releaseB = some b → b + v.reject.cfg.nonOverlap ≤ v.clock.run) :
    leaveWaits v = startExtend v := by
  unfold leaveWaits
  rw [hx]
  exact if_pos ((mayExtend_iff v).mpr ⟨hi, hb⟩)

theorem leaveWaits_retracts {v : State} (hx : v.reject.state = .retractWait) (hi : v.reject.inhibitEnd ≤ v.clock.run)
    (ha : ∀ a, v.reject.releaseA = some a → a + v.reject.cfg.nonOverlap ≤ v.clock.run) :
    leaveWaits v = startRetract v := by
  unfold leaveWaits
  rw [hx]
  exact if_pos ((mayRetract_iff v).mpr ⟨hi, ha⟩)

/-! ## The record -/

theorem writeEjector_decoded (hd : decodeEjector l = some c) : writeRecord .ejector 0 l s =
    if c.mode = s.reject.cfg.mode ∨ s.reject.state = .rest ∧ s.reject.heldFire = false then .ok (storeEjector c s)
    else .error .wrongState := by
  have e : writeRecord .ejector 0 l s = (do
      need (decide (c.mode = s.reject.cfg.mode) ||
        (decide (s.reject.state = .rest) && !s.reject.heldFire)) .wrongState
      pure (storeEjector c s) : Written) := by
    show writeEjector 0 l s = _
    unfold writeEjector
    rw [hd]
    rfl
  have hb : (decide (c.mode = s.reject.cfg.mode) || (decide (s.reject.state = .rest) && !s.reject.heldFire)) = true ↔
      c.mode = s.reject.cfg.mode ∨ s.reject.state = .rest ∧ s.reject.heldFire = false := by
    simp only [Bool.or_eq_true, Bool.and_eq_true, decide_eq_true_eq, Bool.not_eq_true']
  rw [e]
  split
  · next h =>
    rw [hb.mpr h]
    rfl
  · next h =>
    rw [Bool.eq_false_of_not_eq_true fun hn => h (hb.mp hn)]
    rfl

theorem ejector_command (h : WriteOf s q .ejector 1 0 l) : q.command = .writeEjectorRecord := by
  unfold Request.command
  rw [h.row]

theorem ejector_refused (h : WriteOf s q .ejector 1 0 l) (hl : l.length = 18) (hd : decodeEjector l = some c)
    (hm : c.mode ≠ s.reject.cfg.mode) (hbusy : s.reject.state ≠ .rest ∨ s.reject.heldFire = true) :
    RunsCounting .writeEjectorRecord s s q (refusedWrite 0 .wrongState 0) [] [] := by
  rw [← ejector_command h]
  refine refused_counting h hl.ge hl.symm ((writeEjector_decoded hd).trans (if_neg ?_))
  rintro (e | ⟨hr, hf⟩)
  · exact hm e
  · obtain hn | hn := hbusy
    · exact hn hr
    · rw [hf] at hn
      cases hn

/-- A record that is stored, by what its gate does then. -/
theorem ejector_stored (h : WriteOf s q .ejector 1 0 l) (hl : l.length = 18) (hd : decodeEjector l = some c)
    (hok : c.mode = s.reject.cfg.mode ∨ s.reject.state = .rest ∧ s.reject.heldFire = false) {v : State}
    (hv : leaveWaits (s.ejectorSet c) = v) :
    exec .writeEjectorRecord s = .next (v.afterAnswer q (wholeWrite 1)) := by
  rw [← ejector_command h, ← hv, ← storeEjector_eq]
  exact exec_stored h hl.ge hl.symm ((writeEjector_decoded hd).trans (if_pos hok))

/-- The gate extends under the record. -/
def State.extendsUnder (s : State) (c : EjectorCfg) : State :=
  (s.ejectorSet c).modReject fun x =>
    { x with state := .extending, extendPending := false, phaseEnd := s.clock.run + c.extendTime * 1000 }

/-- The gate retracts under the record. -/
def State.retractsUnder (s : State) (c : EjectorCfg) : State :=
  (s.ejectorSet c).modReject fun x =>
    { x with state := .retracting, phaseEnd := s.clock.run + c.retractTime * 1000 }

theorem modReject_congr {v : State} {f g : Reject → Reject} (h : f v.reject = g v.reject) :
    v.modReject f = v.modReject g :=
  congrArg (fun x => ({ v with reject := x } : State)) h

theorem startExtend_eq {v : State} {run : Nat} (hr : v.clock.run = run) (hc : v.reject.cfg = c) :
    startExtend v = bump (.reject .extendsMade) (v.modReject fun x =>
      { x with state := .extending, extendPending := false, phaseEnd := run + c.extendTime * 1000 }) := by
  subst hr hc
  unfold startExtend
  exact congrArg (bump (.reject .extendsMade)) (modReject_congr rfl)

theorem startRetract_eq {v : State} {run : Nat} (hr : v.clock.run = run) (hc : v.reject.cfg = c) :
    startRetract v = bump (.reject .retractsMade) (v.modReject fun x =>
      { x with state := .retracting, phaseEnd := run + c.retractTime * 1000 }) := by
  subst hr hc
  unfold startRetract
  exact congrArg (bump (.reject .retractsMade)) (modReject_congr rfl)

/-- The waits under a record that is stored. -/
theorem ejector_waits (h : WriteOf s q .ejector 1 0 l) (hl : l.length = 18) (hd : decodeEjector l = some c)
    (hok : c.mode = s.reject.cfg.mode ∨ s.reject.state = .rest ∧ s.reject.heldFire = false) :
    (s.clock.run < s.reject.inhibitEnd ∨
        (s.reject.state ≠ .extendWait ∨ ∃ b, s.reject.releaseB = some b ∧ s.clock.run < b + c.nonOverlap) ∧
        (s.reject.state ≠ .retractWait ∨ ∃ a, s.reject.releaseA = some a ∧ s.clock.run < a + c.nonOverlap) →
      RunsCounting .writeEjectorRecord s (s.ejectorSet c) q (wholeWrite 1) [] []) ∧
    (s.reject.state = .extendWait → s.reject.inhibitEnd ≤ s.clock.run →
      (∀ b, s.reject.releaseB = some b → b + c.nonOverlap ≤ s.clock.run) →
      RunsCounting .writeEjectorRecord s (s.extendsUnder c) q (wholeWrite 1) [.reject .extendsMade] []) ∧
    (s.reject.state = .retractWait → s.reject.inhibitEnd ≤ s.clock.run →
      (∀ a, s.reject.releaseA = some a → a + c.nonOverlap ≤ s.clock.run) →
      RunsCounting .writeEjectorRecord s (s.retractsUnder c) q (wholeWrite 1) [.reject .retractsMade] []) := by
  have h0 : Stores s (s.ejectorSet c) (s.ejectorSet c) [] [] := modReject_stores _
  have hrun : (s.ejectorSet c).clock.run = s.clock.run := rfl
  have hcfg : (s.ejectorSet c).reject.cfg = c := rfl
  have hstate : (s.ejectorSet c).reject.state = s.reject.state := rfl
  have hend : (s.ejectorSet c).reject.inhibitEnd = s.reject.inhibitEnd := rfl
  have hreleaseA : (s.ejectorSet c).reject.releaseA = s.reject.releaseA := rfl
  have hreleaseB : (s.ejectorSet c).reject.releaseB = s.reject.releaseB := rfl
  have hexec (v : State) (hv : leaveWaits (s.ejectorSet c) = v) := ejector_stored h hl hd hok hv
  unfold State.extendsUnder State.retractsUnder
  rw [← hend, ← hstate, ← hreleaseA, ← hreleaseB, ← hrun]
  generalize s.ejectorSet c = v at *
  subst hcfg
  refine ⟨fun hw => ?_, fun hx hi hb => ?_, fun hx hi ha => ?_⟩
  · exact h0.runs (hexec v (leaveWaits_stays hw))
  · exact ((h0.modReject _).bump (.reject .extendsMade)).runs
      (hexec _ ((leaveWaits_extends hx hi hb).trans (startExtend_eq rfl rfl)))
  · exact ((h0.modReject _).bump (.reject .retractsMade)).runs
      (hexec _ ((leaveWaits_retracts hx hi ha).trans (startRetract_eq rfl rfl)))

end

end Sys2Proof.Machine
end


section
/-! A written CLOCK record: the mark timeout and the probe's instant under it (R45, R52, R57). -/

namespace Sys2Proof.Machine

section
variable {s u v w : State} {c : ClockCfg} {q : Request} {l : Octets} {ks : List CounterRef} {es : List NoticeEvent}

/-! ## The clock after the record -/

/-- A clock under a written record, in HOLDOVER when the new mark timeout has passed. -/
def Clock.written (k : Clock) (c : ClockCfg) (holdover : Bool) : Clock :=
  { k with
    cfg := c
    servo := if holdover then .holdover else k.servo
    trim := if holdover then k.integral else k.trim
    increment := if holdover then incrementOf k.integral else k.increment }

/-- A clock whose probe falls due now, when it does. -/
def Clock.probed (k : Clock) (due : Bool) : Clock :=
  { k with
    lastProbeDue := if due then k.run else k.lastProbeDue
    probe := if due then none else k.probe
    lostProbes := if due && k.probe.isSome then k.lostProbes + 1 else k.lostProbes
    stale := k.stale || (due && k.probe.isSome && decide (3 ≤ k.lostProbes + 1)) }

theorem probed_true (k : Clock) : k.probed true = { k.probeLost with lastProbeDue := k.run } := by
  unfold Clock.probed Clock.probeLost
  simp only [if_true, Bool.true_and]

theorem probed_false (k : Clock) : k.probed false = k := by
  unfold Clock.probed
  simp only [Bool.false_eq_true, if_false, Bool.false_and, Bool.or_false]

/-- The mark timeout under a record has passed since the last mark and the last request. -/
theorem holdoverDue_record {k : Clock} : k.holdoverDue = true ↔ (k.servo = .acquiring ∨ k.servo = .locked) ∧
    (∃ t, k.lastMark = some t ∨ k.lastRequest = some t) ∧
    ∀ t, k.lastMark = some t ∨ k.lastRequest = some t → t + k.cfg.markTimeout * 1000 ≤ k.run := by
  obtain ⟨hof, hto⟩ := timeoutBase_spec k
  rw [holdoverDue_iff]
  refine and_congr_right fun _ => ⟨fun ⟨b, hb, hle⟩ => ⟨⟨b, hof b hb⟩, fun t ht => ?_⟩, fun ⟨⟨t, ht⟩, hall⟩ => ?_⟩
  · obtain ⟨b', hb', htb⟩ := hto t ht
    rw [hb, Option.some_inj] at hb'
    omega
  · obtain ⟨b, hb, -⟩ := hto t ht
    exact ⟨b, hb, hall b (hof b hb)⟩

theorem Stores.modClock (h : Stores s u v ks es) (f : Clock → Clock) :
    Stores s (u.modClock f) (v.modClock f) ks es :=
  ⟨modClock_uncounted h.uncounted f, h.room.trans ⟨rfl, rfl, rfl, fun _ _ => rfl, fun _ => rfl⟩, h.mgmt,
    h.effects.congr rfl rfl⟩

theorem Stores.raise (h : Stores s u v ks es) (e : NoticeEvent) (hnow : u.clock.hall.base = s.clock.hall.base) :
    Stores s (Machine.raise e u) v ks (es ++ [e]) :=
  ⟨(raise_uncounted ..).trans h.uncounted, h.room, h.mgmt, h.effects.raise e hnow⟩

/-- A state under a written record. -/
def State.clockSet (s : State) (c : ClockCfg) : State := s.modClock fun k => { k with cfg := c }

/-- The record is stored, and the mark timeout is judged. -/
theorem holdover_stores {holdover : Bool}
    (hh : holdover = true ↔ (s.clockSet c).clock.holdoverDue = true) :
    Stores s (if (s.clockSet c).clock.holdoverDue then
        enterHoldover (s.clockSet c) else s.clockSet c)
      (s.modClock (·.written c holdover)) [] (if holdover then [.clockHoldover s.clock.integral] else []) := by
  have h0 (f : Clock → Clock) : Stores s (s.modClock f) (s.modClock f) [] [] :=
    .start ⟨rfl, rfl, rfl, fun _ _ => rfl, fun _ => rfl⟩ rfl rfl rfl
  cases holdover with
  | true =>
    have hw : (s.clockSet c).heldOver = s.modClock (·.written c true) :=
      congrArg (fun k => ({ s with clock := k } : State)) (by simp only [Clock.written, if_true]; rfl)
    rw [if_pos (hh.mp rfl), if_pos rfl, enterHoldover_eq, hw]
    exact (h0 _).raise _ rfl
  | false =>
    have hw : (s.clockSet c) = s.modClock (·.written c false) :=
      congrArg (fun k => ({ s with clock := k } : State))
        (by simp only [Clock.written, Bool.false_eq_true, if_false])
    rw [if_neg fun hd => Bool.false_ne_true (hh.mpr hd), if_neg Bool.false_ne_true, hw]
    exact h0 _

/-- A probe that is lost, after other effects. -/
theorem Effects.loseProbe {now : BaseTime} (h : Effects s u now ks es) (hnow : u.clock.hall.base = now) :
    Effects s (Machine.loseProbe u) now (ks ++ u.clock.lossCounts) (es ++ u.clock.lossNotices) := by
  cases hp : u.clock.probe with
  | none =>
    rw [loseProbe_none hp, Clock.lossCounts, Clock.lossNotices, hp]
    simpa using h
  | some b =>
    have h1 := h.bump (.clock .probesLost)
    rw [loseProbe_some hp, Clock.lossCounts, Clock.lossNotices, hp, Option.isSome_some, if_pos rfl]
    simp only [true_and]
    split
    · have h2 := h1.congr (u := (Machine.bump (.clock .probesLost) u).modClock fun c =>
        { c with lostProbes := c.lostProbes + 1, probe := none, stale := true }) rfl rfl
      exact h2.raise (.rangeStale u.clock.delay) (by rw [State.modClock_clock, bump_clock]; exact hnow)
    · rw [List.append_nil]
      exact h1.congr rfl rfl

/-- The probe falls due now, before the next is built. -/
theorem Stores.probed (h : Stores s u v ks es) (hnow : u.clock.hall.base = s.clock.hall.base) :
    Stores s ((loseProbe u).modClock fun k => { k with lastProbeDue := u.clock.run }) (v.modClock (·.probed true))
      (ks ++ u.clock.lossCounts) (es ++ u.clock.lossNotices) := by
  have hclock : u.clock = v.clock := (congrArg State.clock h.uncounted :)
  refine ⟨?_, h.room.trans ⟨rfl, rfl, rfl, fun _ _ => rfl, fun _ => rfl⟩, h.mgmt,
    (h.effects.loseProbe hnow).congr rfl rfl⟩
  rw [modClock_uncounted ((loseProbe_uncounted u).trans (modClock_uncounted h.uncounted Clock.probeLost))]
  refine congrArg State.uncounted (modClock_congr (s := v.modClock Clock.probeLost) (g := fun k =>
    { k with lastProbeDue := v.clock.run }) ?_ |>.trans ?_)
  · rw [hclock]
  · exact (congrArg (fun k => ({ v with clock := k } : State)) (probed_true v.clock).symm :)

end

end Sys2Proof.Machine
end


section
/-! A written CLOCK record is answered, and builds the probe that is due (R45, R57). -/

namespace Sys2Proof.Machine

section
variable {s u : State} {c : ClockCfg} {q : Request} {l : Octets}

theorem clock_stored (h : WriteOf s q .clock 1 0 l) (hl : l.length = 14) (hd : decodeClock l = some c) :
    exec .writeClockRecord s = .next ((storeClock c s).afterAnswer q (wholeWrite 1)) := by
  have hc : q.command = .writeClockRecord := by unfold Request.command; rw [h.row]
  have hw : writeRecord .clock 0 l s = .ok (storeClock c s) := by
    show writeClock 0 l s = _
    unfold writeClock
    rw [hd]
    rfl
  rw [← hc]
  exact exec_stored h hl.ge hl.symm hw

/-- The mark timeout judged under a written record. -/
def State.clockJudged (s : State) (c : ClockCfg) : State :=
  if (s.clockSet c).clock.holdoverDue then enterHoldover (s.clockSet c) else s.clockSet c

theorem storeClock_eq (c : ClockCfg) (s : State) : storeClock c s =
    if (s.clockJudged c).probeReady then
      newProbe ((loseProbe (s.clockJudged c)).modClock fun k => { k with lastProbeDue := (s.clockJudged c).clock.run })
    else s.clockJudged c := rfl

/-- The state in which the record has been stored, before a probe is built. -/
theorem clock_settled {holdover due : Bool}
    (hh : holdover = true ↔ (s.clock.servo = .acquiring ∨ s.clock.servo = .locked) ∧
      (∃ t, s.clock.lastMark = some t ∨ s.clock.lastRequest = some t) ∧
      ∀ t, s.clock.lastMark = some t ∨ s.clock.lastRequest = some t → t + c.markTimeout * 1000 ≤ s.clock.run)
    (hdue : due = true ↔ s.clock.lastProbeDue + c.probeInterval * 1000 ≤ s.clock.run) :
    ∃ v, storeClock c s = (if due then newProbe v else v) ∧
      Stores s v (s.modClock fun k => (k.written c holdover).probed due)
        (if due && s.clock.probe.isSome then [.clock .probesLost] else [])
        ((if holdover then [.clockHoldover s.clock.integral] else []) ++
          if due = true ∧ s.clock.probe.isSome = true ∧ 3 ≤ s.clock.lostProbes + 1 ∧ s.clock.stale = false then
            [.rangeStale s.clock.delay] else []) := by
  have hj : Stores s (s.clockJudged c) (s.modClock (·.written c holdover)) []
      (if holdover then [.clockHoldover s.clock.integral] else []) :=
    holdover_stores (hh.trans (holdoverDue_record (k := (s.clockSet c).clock)).symm)
  have hclock : (s.clockJudged c).clock = s.clock.written c holdover := (congrArg State.clock hj.uncounted :)
  have hready : (s.clockJudged c).probeReady = due := by
    rw [State.probeReady, hclock, Bool.eq_iff_iff, decide_eq_true_eq, hdue]
    rfl
  rw [storeClock_eq, hready]
  generalize s.clockJudged c = w at hj hclock
  cases due with
  | true =>
    refine ⟨_, rfl, ?_⟩
    have hp := hj.probed (by rw [hclock]; rfl)
    have hcounts : w.clock.lossCounts = if s.clock.probe.isSome then [.clock .probesLost] else [] := by
      rw [hclock]; rfl
    have hnotices : w.clock.lossNotices =
        if s.clock.probe.isSome = true ∧ 3 ≤ s.clock.lostProbes + 1 ∧ s.clock.stale = false then
          [.rangeStale s.clock.delay] else [] := by
      rw [hclock]; rfl
    rw [hcounts, hnotices, List.nil_append] at hp
    simp only [Bool.true_and, true_and]
    exact hp
  | false =>
    have hsame : (s.modClock fun k => (k.written c holdover).probed false) = s.modClock (·.written c holdover) :=
      modClock_congr (probed_false _)
    refine ⟨w, rfl, ?_⟩
    simp only [hsame, Bool.false_and, Bool.false_eq_true, false_and, if_false, List.append_nil]
    exact hj

/-- What a written CLOCK record does. -/
theorem clock_written {holdover due : Bool} (h : WriteOf s q .clock 1 0 l) (hl : l.length = 14)
    (hd : decodeClock l = some c)
    (hh : holdover = true ↔ (s.clock.servo = .acquiring ∨ s.clock.servo = .locked) ∧
      (∃ t, s.clock.lastMark = some t ∨ s.clock.lastRequest = some t) ∧
      ∀ t, s.clock.lastMark = some t ∨ s.clock.lastRequest = some t → t + c.markTimeout * 1000 ≤ s.clock.run)
    (hdue : due = true ↔ s.clock.lastProbeDue + c.probeInterval * 1000 ≤ s.clock.run)
    (hu : u = s.modClock fun k => (k.written c holdover).probed due) :
    ((due = true → ∀ p, s.timeUpPort = some p → s.ports[p].link = false) →
      RunsCounting .writeClockRecord s u q (wholeWrite 1)
        (if due && s.clock.probe.isSome then [.clock .probesLost] else [])
        ((if holdover then [.clockHoldover s.clock.integral] else []) ++
          if due = true ∧ s.clock.probe.isSome = true ∧ 3 ≤ s.clock.lostProbes + 1 ∧ s.clock.stale = false then
            [.rangeStale s.clock.delay] else [])) ∧
    ∀ (p : PortId) (seq : Nat), due = true → s.timeUpPort = some p → s.ports[p].link = true →
      seq = (s.clock.probeSeq + 1) % 65536 →
      Runs .writeClockRecord s (u.modClock fun k =>
        { k with probeSeq := seq, probe := some { seq := seq, t1 := none } }) := by
  have he := clock_stored h hl hd
  have hmgmt := storeClock_mgmt c s
  obtain ⟨v, hv, hs⟩ := clock_settled hh hdue
  rw [hv] at he hmgmt
  rw [← hu] at hs
  have hports : v.ports = s.ports := by
    have hp : u.ports = s.ports := by rw [hu]; rfl
    exact ((congrArg State.ports hs.uncounted :) : v.ports = u.ports).trans hp
  have hup : v.timeUpPort = s.timeUpPort := by rw [State.timeUpPort, hports, State.timeUpPort]
  have hseq : v.clock.probeSeq = s.clock.probeSeq := by
    have hp : u.clock.probeSeq = s.clock.probeSeq := by rw [hu]; rfl
    exact ((congrArg (fun x : State => x.clock.probeSeq) hs.uncounted :) : v.clock.probeSeq = u.clock.probeSeq).trans hp
  refine ⟨fun hdown => hs.runs ?_, fun p seq hdue hp hlink hn => ?_⟩
  · cases due with
    | true =>
      rw [if_pos rfl, newProbe_idle (by rw [hup, hports]; exact hdown rfl)] at he
      exact he
    | false => exact he
  · rw [hdue, if_pos rfl, newProbe_built (hup.trans hp) (by rw [hports]; exact hlink), hseq, ← hn] at he
    rw [hdue, if_pos rfl, newProbe_built (hup.trans hp) (by rw [hports]; exact hlink), hseq, ← hn] at hmgmt
    refine .of_answer he hmgmt ((buildFrame_unanswered ..).trans (unanswered_of_uncounted ?_))
    exact modClock_uncounted hs.uncounted fun k => { k with probeSeq := seq, probe := some { seq := seq, t1 := none } }

end

end Sys2Proof.Machine
end


section
/-! What counts, notices and answers leave of the sending of notices, and of a frame that waits (R34, R176,
R179). -/

namespace Sys2Proof.Machine

/-- The last attempt and the frame number. -/
def NoticeBlock.sending (b : NoticeBlock) : Option Nat × Nat := (b.lastAttempt, b.frameSeq)

section
variable {s : State}

theorem NoticeBlock.put_sending (b : NoticeBlock) (e : NoticeEvent) (now : BaseTime) :
    (b.put e now).1.sending = b.sending := by
  obtain ⟨-, h⟩ | ⟨-, -, h⟩ | ⟨-, -, h⟩ := b.put_cases e now <;> rw [h] <;> rfl

theorem bumpWith_sending {g : NoticeEvent → State → State} (hg : ∀ e s, (g e s).notices.sending = s.notices.sending)
    (c : CounterRef) (n : Nat) (s : State) : (bumpWith g c n s).notices.sending = s.notices.sending := by
  have h0 : ({ s with counters := s.counters.put (min (s.counter c + n) Config.counterMax) c } :
    State).notices.sending = s.notices.sending := rfl
  unfold bumpWith
  dsimp only
  split <;> split
  · rw [hg, hg]
  · rw [hg]
  · rw [hg]
  · exact h0

theorem raiseDepth_sending (n : Nat) (e : NoticeEvent) (s : State) :
    (raiseDepth n e s).notices.sending = s.notices.sending := by
  induction n generalizing e s with
  | zero => exact NoticeBlock.put_sending ..
  | succ n ih =>
    have hput : ({ s with notices := (s.notices.put e s.clock.hall.base).1 } : State).notices.sending =
      s.notices.sending := NoticeBlock.put_sending ..
    unfold raiseDepth
    dsimp only
    split
    · rw [bumpWith_sending ih, hput]
    · rw [bumpWith_sending ih, bumpWith_sending ih, hput]
    · rw [bumpWith_sending ih, bumpWith_sending ih, hput]

theorem raise_sending (e : NoticeEvent) (s : State) : (raise e s).notices.sending = s.notices.sending :=
  raiseDepth_sending 7 e s

theorem bump_sending (c : CounterRef) (s : State) : (bump c s).notices.sending = s.notices.sending :=
  bumpWith_sending raise_sending c 1 s

theorem joinHold_sending (h : HoldSource) (s : State) : (joinHold h s).notices.sending = s.notices.sending := by
  obtain ⟨-, e⟩ | ⟨-, -, e⟩ | ⟨-, -, e⟩ := joinHold_cases h s
  · rw [e]
  · rw [e]
    rfl
  · rw [e, bump_sending, raise_sending]
    rfl

theorem loseController_sending (s : State) : (loseController s).notices.sending = s.notices.sending := by
  have hg : s.controllerGone.notices.sending = s.notices.sending := by
    rw [State.controllerGone, raise_sending, bump_sending]
    rfl
  rw [loseController_eq]
  split
  · rw [joinHold_sending, hg]
  · exact hg

theorem buildFrame_sending (k : GenKind) (kind : FrameKind) (ports : List PortId) (octets : Octets) (s : State) :
    (buildFrame k kind ports octets s).1.notices.sending = s.notices.sending :=
  buildFrame_keeps (fun s => s.notices.sending) (fun _ _ => bump_sending _ _)
    (fun _ _ _ => by rw [enqueue_frame]) (fun _ _ => rfl) k kind ports octets s

/-! ## A frame that waits while another is built -/

/-- An entry of a queue whose frame is stored, in no free cell. -/
structure Waits (s : State) (p : PortId) (x : QEntry) (f : Frame) : Prop where
  entry : x ∈ s.egress[p].queues[(2 : QueueId)]
  stored : s.mem.frames[x.frame] = some f
  taken : x.frame ∉ s.mem.free

variable {p : PortId} {x : QEntry} {f : Frame}

theorem Waits.congr {u : State} (h : Waits s p x f) (he : u.egress = s.egress) (hm : u.mem = s.mem) : Waits u p x f :=
  ⟨by rw [he]; exact h.entry, by rw [hm]; exact h.stored, by rw [hm]; exact h.taken⟩

theorem Waits.bump (h : Waits s p x f) (c : CounterRef) : Waits (Machine.bump c s) p x f :=
  h.congr (bump_egress ..) (bump_mem ..)

theorem Waits.enqueue (h : Waits s p x f) (y : PortId) (z : QEntry) : Waits (Machine.enqueue y 2 z s) p x f := by
  refine ⟨?_, by rw [enqueue_mem]; exact h.stored, by rw [enqueue_mem]; exact h.taken⟩
  rw [enqueue_queues]
  split
  · exact List.mem_append_left _ h.entry
  · exact h.entry

theorem take_some {m m' : CellMem} {n : Nat} {cells : List CellId} (h : m.take n = some (cells, m')) :
    cells = m.free.take n ∧ m'.free = m.free.drop n ∧ m'.frames = m.frames := by
  unfold CellMem.take at h
  split at h
  · cases h
    exact ⟨rfl, rfl, rfl⟩
  · cases h

theorem Waits.store {m : CellMem} {n : Nat} {a : CellId} {rest : List CellId} {g : Frame} (h : Waits s p x f)
    (ht : s.mem.take n = some (a :: rest, m)) (hg : g.cells = a :: rest) :
    Waits { s with mem := m.store g } p x f := by
  obtain ⟨hcells, hfree, hframes⟩ := take_some ht
  have ha : a ∈ s.mem.free := List.mem_of_mem_take (hcells ▸ List.mem_cons_self)
  have hne : x.frame ≠ a := fun e => h.taken (e ▸ ha)
  have hstore : m.store g = { m with frames := m.frames.set a (some g) } := by
    unfold CellMem.store
    rw [hg]
  refine ⟨h.entry, ?_, ?_⟩
  · show (m.store g).frames[x.frame] = some f
    rw [hstore]
    have hkept : (m.frames.set a.val (some g) a.isLt)[x.frame.val] = m.frames[x.frame.val] :=
      Vector.getElem_set_ne a.isLt x.frame.isLt fun e => hne (Fin.ext e.symm)
    refine hkept.trans ?_
    rw [hframes]
    exact h.stored
  · show x.frame ∉ (m.store g).free
    rw [hstore, hfree]
    exact fun hm => h.taken (List.mem_of_mem_drop hm)

theorem Waits.built (h : Waits s p x f) (k : GenKind) (kind : FrameKind) (ports : List PortId) (octets : Octets) :
    Waits (buildFrame k kind ports octets s).1 p x f := by
  unfold buildFrame
  dsimp only
  split
  · exact h.bump _
  · have hno (l : List PortId) : Waits (forEach l (fun x s =>
        Machine.bump (.device (.generationDrops k)) (Machine.bump (.port x (.refused 2)) s)) s) p x f :=
      forEach_inv (P := fun v => Waits v p x f) l (fun y _ v hv => (hv.bump _).bump _) s h
    split
    · exact hno _
    · split
      · exact (hno _).bump _
      · next ht =>
        split
        · exact hno _
        · exact forEach_inv (P := fun v => Waits v p x f) _ (fun y _ v hv => hv.enqueue y _) _
            ((hno _).store ht rfl)

end

end Sys2Proof.Machine
end


section
/-! A written DEVICE record: the controller timeout and the pacing of notices under it (R106, R178, R188). -/

namespace Sys2Proof.Machine

section
variable {s u v : State} {c : DeviceCfg} {q : Request} {l : Octets} {d : Dest}

theorem device_stored (h : WriteOf s q .device 1 0 l) (hl : l.length = 109) (hd : decodeDevice l = some c) :
    exec .writeDeviceRecord s = .next ((storeDevice c s).afterAnswer q (wholeWrite 1)) := by
  have hc : q.command = .writeDeviceRecord := by unfold Request.command; rw [h.row]
  have hw : writeRecord .device 0 l s = .ok (storeDevice c s) := by
    show writeDevice 0 l s = _
    unfold writeDevice
    rw [hd]
    rfl
  rw [← hc]
  exact exec_stored h hl.ge hl.symm hw

/-! ## The controller timeout (R106) -/

/-- A state under a written record, in which the controller is lost when the new timeout has passed. -/
def State.deviceSet (s : State) (c : DeviceCfg) (lost : Bool) : State :=
  { s with
    device := c
    watch := if lost then { s.watch with state := .lost, lostAt := s.clock.run } else s.watch
    hold := if lost && decide (s.watch.action = .holdLine) then (joinHold .controller s).hold else s.hold }

/-- The controller timeout judged under a written record. -/
def State.deviceJudged (s : State) (c : DeviceCfg) : State :=
  if ({ s with device := c } : State).controllerDue then loseController { s with device := c } else { s with device := c }

theorem storeDevice_eq (c : DeviceCfg) (s : State) : storeDevice c s = attemptIfDue (s.deviceJudged c) := rfl

/-- A loss of the controller, after other effects. -/
theorem Effects.loseController {now : BaseTime} {ks : List CounterRef} {es : List NoticeEvent}
    (h : Effects s u now ks es) (hnow : u.clock.hall.base = now) :
    Effects s (Machine.loseController u) now
      (ks ++ [.controllerLosses] ++ if u.watch.action = .holdLine ∧ u.hold.present.controller = false ∧
        u.hold.latch = false then [.device .holdSets] else [])
      (es ++ [.controllerLost u.watch.action] ++ if u.watch.action = .holdLine ∧ u.hold.present.controller = false ∧
        u.hold.latch = false then [.holdSet (.source .controller)] else []) := by
  have h0 : Effects s (u.modWatch fun w => { w with state := .lost, lostAt := u.clock.run }) now ks es :=
    h.congr rfl rfl
  have hg : Effects s u.controllerGone now (ks ++ [.controllerLosses]) (es ++ [.controllerLost u.watch.action]) :=
    (h0.bump .controllerLosses).raise (.controllerLost u.watch.action) (by rw [bump_clock]; exact hnow)
  have hh := controllerGone_hold u
  have hc : u.controllerGone.clock = u.clock := (congrArg State.clock (controllerGone_uncounted u) :)
  rw [loseController_eq]
  cases ha : u.watch.action with
  | report =>
    simp only [reduceCtorEq, false_and, if_false, List.append_nil]
    rw [← ha]
    exact hg
  | holdLine =>
    simp only [true_and, if_true]
    have hj := joinHold_effects (h := .controller) hg (by rw [hc]; exact hnow)
    rw [hh, ha] at hj
    exact hj

/-- What the loss of the controller makes of the watch and the hold block. -/
theorem loseController_uncounted (s : State) : (loseController s).uncounted =
    ({ s with
      watch := { s.watch with state := .lost, lostAt := s.clock.run }
      hold := if s.watch.action = .holdLine then (joinHold .controller s).hold else s.hold } : State).uncounted := by
  obtain ⟨hu, -⟩ := loseController_spec s
  have hh : (loseController s).hold = if s.watch.action = .holdLine then (joinHold .controller s).hold else s.hold := by
    have hc : s.controllerGone.clock = s.clock := (congrArg State.clock (controllerGone_uncounted s) :)
    rw [loseController_eq]
    split
    · rw [joinHold_hold, joinHold_hold, controllerGone_hold, hc]
    · exact controllerGone_hold s
  rw [hu, hh]

/-- What the record leaves before a notice attempt is made. -/
theorem device_judged {lost : Bool}
    (hlost : lost = true ↔ s.watch.state = .watching ∧
      s.watch.restartTime + c.controllerTimeout * 1000 ≤ s.clock.run) :
    (s.deviceJudged c).uncounted = (s.deviceSet c lost).uncounted ∧
    (s.deviceJudged c).notices.sending = s.notices.sending ∧
    Effects s (s.deviceJudged c) s.clock.hall.base
      ((if lost then [.controllerLosses] else []) ++
        if lost = true ∧ s.watch.action = .holdLine ∧ s.hold.present.controller = false ∧ s.hold.latch = false then
          [.device .holdSets] else [])
      ((if lost then [.controllerLost s.watch.action] else []) ++
        if lost = true ∧ s.watch.action = .holdLine ∧ s.hold.present.controller = false ∧ s.hold.latch = false then
          [.holdSet (.source .controller)] else []) ∧
    (lost = false → s.deviceJudged c = { s with device := c } ∧ s.deviceSet c lost = { s with device := c }) := by
  have hdue : ({ s with device := c } : State).controllerDue = lost := by
    rw [Bool.eq_iff_iff, controllerDue_iff, hlost]
  have h0 : Effects s ({ s with device := c } : State) s.clock.hall.base [] [] := .start _ _ _ rfl rfl
  have hhold : (joinHold .controller ({ s with device := c } : State)).hold = (joinHold .controller s).hold := by
    rw [joinHold_hold, joinHold_hold]
  have hset : s.deviceSet c false = { s with device := c } := rfl
  unfold State.deviceJudged
  rw [hdue]
  cases lost with
  | true =>
    rw [if_pos rfl]
    refine ⟨?_, loseController_sending _, ?_, nofun⟩
    · rw [loseController_uncounted, hhold]
      unfold State.deviceSet
      simp only [Bool.true_and, decide_eq_true_eq, if_true]
    · simp only [true_and, if_true]
      exact h0.loseController rfl
  | false =>
    rw [if_neg Bool.false_ne_true]
    simp only [Bool.false_eq_true, false_and, if_false, List.append_nil]
    exact ⟨rfl, trivial, h0, fun _ => ⟨trivial, rfl⟩⟩

/-! ## No attempt (R178) -/

theorem attemptIfDue_waits (h : s.attemptDue = false) : attemptIfDue s = s := by
  unfold attemptIfDue
  rw [h]

theorem attempt_paced {t : Nat} (ht : s.notices.lastAttempt = some t) (h : s.clock.run < t + s.device.pacing * 1000) :
    s.attemptDue = false := by
  rw [State.attemptDue, ht]
  dsimp only
  rw [decide_eq_false (Nat.not_le.mpr h), Bool.and_false]

/-- A record under which no notice attempt is due. -/
theorem device_quiet {lost joins : Bool} (h : WriteOf s q .device 1 0 l) (hl : l.length = 109)
    (hd : decodeDevice l = some c)
    (hlost : lost = true ↔ s.watch.state = .watching ∧
      s.watch.restartTime + c.controllerTimeout * 1000 ≤ s.clock.run)
    (hjoins : joins = true ↔ lost = true ∧ s.watch.action = .holdLine ∧
      s.hold.present.controller = false ∧ s.hold.latch = false)
    (hquiet : c.noticeDest = none ∨ (∃ t, s.notices.lastAttempt = some t ∧ s.clock.run < t + c.pacing * 1000) ∨
      (lost = false ∧ s.notices.records = [] ∧ s.notices.overflow = 0))
    (hfits : s.fitsLimit 2 (cellsFor (answerFrame s.station q (wholeWrite 1)).length) q.port =
      (s.deviceSet c lost).fitsLimit 2 (cellsFor (answerFrame s.station q (wholeWrite 1)).length) q.port) :
    RunsCounting .writeDeviceRecord s (s.deviceSet c lost) q (wholeWrite 1)
      ((if lost then [.controllerLosses] else []) ++ if joins then [.device .holdSets] else [])
      ((if lost then [.controllerLost s.watch.action] else []) ++
        if joins then [.holdSet (.source .controller)] else []) := by
  have he := device_stored h hl hd
  obtain ⟨hu, hsending, heff, hidle⟩ := device_judged hlost
  have hdevice : (s.deviceJudged c).device = c := (congrArg State.device hu :)
  have hrun : (s.deviceJudged c).clock.run = s.clock.run := (congrArg (fun x : State => x.clock.run) hu :)
  have hnone : attemptIfDue (s.deviceJudged c) = s.deviceJudged c := by
    obtain hn | ⟨t, ht, hlt⟩ | ⟨hno, hr, ho⟩ := hquiet
    · exact attemptIfDue_idle (.inl (by rw [hdevice, hn]))
    · refine attemptIfDue_waits (attempt_paced (t := t) ?_ ?_)
      · exact ((Prod.mk.inj hsending).1).trans ht
      · rw [hrun, hdevice]
        exact hlt
    · obtain ⟨hj, -⟩ := hidle hno
      exact attemptIfDue_idle (.inr (by rw [hj]; exact ⟨hr, ho⟩))
  rw [storeDevice_eq, hnone] at he
  simp only [← hjoins] at heff
  generalize s.deviceJudged c = w at he hu heff
  have hsame : SameQueues (s.deviceSet c lost) w := .of_uncounted hu
  have hstation : w.station = s.station := (station_of_uncounted hu).trans rfl
  refine .of_effects he (unanswered_of_uncounted hu) ((mgmt_of_uncounted hu).trans rfl) (fun hr => ?_) heff
  obtain ⟨hlink, hfit, hfree⟩ := hr
  refine ⟨?_, ?_, ?_⟩
  · rw [hsame.ports]
    exact hlink
  · rw [hstation, hsame.fitsLimit, ← hfits]
    exact hfit
  · rw [hstation, hsame.mem]
    exact hfree

/-! ## An attempt that is due (R178, R179) -/

theorem sendNotices_unanswered (d : Dest) (s : State) : (sendNotices d s).unanswered = s.unanswered := by
  have hb := buildFrame_unanswered .notice .notice [d.port] (s.noticeFrame d) s.attempted
  cases hx : buildFrame .notice .notice [d.port] (s.noticeFrame d) s.attempted with
  | mk w o =>
    rw [hx] at hb
    cases o with
    | none =>
      rw [sendNotices_of_drop hx]
      exact hb
    | some a =>
      rw [sendNotices_of_build hx, bump_unanswered]
      exact hb

theorem sendNotices_attempt (d : Dest) (s : State) : (sendNotices d s).notices.lastAttempt = some s.clock.run := by
  have hb := buildFrame_sending .notice .notice [d.port] (s.noticeFrame d) s.attempted
  cases hx : buildFrame .notice .notice [d.port] (s.noticeFrame d) s.attempted with
  | mk w o =>
    rw [hx] at hb
    have hw : w.notices.lastAttempt = some s.clock.run := (Prod.mk.inj hb).1
    cases o with
    | none =>
      rw [sendNotices_of_drop hx]
      exact hw
    | some a =>
      rw [sendNotices_of_build hx]
      exact ((Prod.mk.inj (bump_sending _ _)).1).trans hw

/-- An attempt that finds room: the frame number, the count, and the frame that waits. -/
theorem sendNotices_sent (hl : s.ports[d.port].link = true)
    (hf : s.fitsLimit 2 (cellsFor (s.noticeFrame d).length) d.port = true)
    (hn : cellsFor (s.noticeFrame d).length ≤ s.mem.free.length) (hnodup : s.mem.free.Nodup) :
    (sendNotices d s).notices.frameSeq = (s.notices.frameSeq + 1) % 65536 ∧
    (sendNotices d s).counter (.device .noticeFramesBuilt) =
      min (s.counter (.device .noticeFramesBuilt) + 1) Config.counterMax ∧
    ∃ x f, Waits (sendNotices d s) d.port x f ∧ f.octets = s.noticeFrame d ∧ f.kind = .notice := by
  obtain ⟨h, rest, mem, hfree, hframes, hb⟩ := buildFrame_room .notice .notice d.port (s.noticeFrame d)
    s.attempted hl hf hn cellsFor_noticeFrame_pos
  obtain ⟨h', rest', htake, hsome, -⟩ := buildFrame_made .notice .notice d.port (s.noticeFrame d)
    s.attempted hl hf hn cellsFor_noticeFrame_pos
  have hh : h' = h := by
    rw [hb] at hsome
    exact (Option.some.inj hsome).symm
  have hcell : h ∉ mem.free := by
    rw [hfree]
    rw [hh] at htake
    have happ := List.take_append_drop (cellsFor (s.noticeFrame d).length) s.attempted.mem.free
    rw [htake] at happ
    have hnd : (h :: rest' ++ s.attempted.mem.free.drop (cellsFor (s.noticeFrame d).length)).Nodup :=
      happ.symm ▸ hnodup
    exact fun hm => (List.nodup_cons.mp hnd).1 (List.mem_append_right _ hm)
  rw [sendNotices_of_build hb]
  have hnotices : (enqueue d.port 2 (newEntry h .normal) { s.attempted with mem := mem }).notices = s.attempted.notices := by
    rw [enqueue_frame]
  have hcounters : (enqueue d.port 2 (newEntry h .normal) { s.attempted with mem := mem }).counters = s.counters := by
    rw [enqueue_frame]
    rfl
  have hwaits : Waits (enqueue d.port 2 (newEntry h .normal) { s.attempted with mem := mem }) d.port
      (newEntry h .normal) { cells := h :: rest, octets := s.noticeFrame d, refs := 1, kind := .notice } := by
    refine ⟨?_, ?_, ?_⟩
    · rw [enqueue_queues, if_pos ⟨rfl, rfl⟩]
      exact List.mem_append_right _ List.mem_cons_self
    · rw [enqueue_mem]
      show mem.frames[h] = _
      rw [hframes]
      exact Vector.getElem_set_self ..
    · rw [enqueue_mem]
      exact hcell
  generalize enqueue d.port 2 (newEntry h .normal) { s.attempted with mem := mem } = w at hnotices hcounters hwaits
  refine ⟨?_, ?_, newEntry h .normal, { cells := h :: rest, octets := s.noticeFrame d, refs := 1, kind := .notice },
    hwaits.congr (bump_egress ..) (bump_mem ..), rfl, rfl⟩
  · refine ((Prod.mk.inj (bump_sending _ _)).2).trans ?_
    show (w.notices.frameSeq + 1) % 65536 = _
    rw [hnotices]
    rfl
  · rw [bump_counter _ _ _ rfl, if_pos rfl]
    exact congrArg (fun n => min (n + 1) Config.counterMax) (counter_congr hcounters _)

/-- A record under which a notice attempt is due. -/
theorem device_attempts {lost : Bool} {frame : Octets} (h : WriteOf s q .device 1 0 l) (hl : l.length = 109)
    (hd : decodeDevice l = some c)
    (hlost : lost = true ↔ s.watch.state = .watching ∧
      s.watch.restartTime + c.controllerTimeout * 1000 ≤ s.clock.run)
    (hdest : c.noticeDest = some d) (hno : lost = false) (hsome : s.notices.records ≠ [] ∨ 0 < s.notices.overflow)
    (hpaced : ∀ t, s.notices.lastAttempt = some t → t + c.pacing * 1000 ≤ s.clock.run)
    (hframe : frame = formFrame d.mac s.station d.vlan 0x88B9 (noticePayload s.notices (s.notices.records.take 16))) :
    ∃ t, exec .writeDeviceRecord s = .next t ∧ t.unanswered = (s.deviceSet c lost).unanswered ∧
      t.mgmt = { s.mgmt with queue := s.mgmt.queue.tail } ∧ t.notices.lastAttempt = some s.clock.run ∧
      (s.ports[d.port].link = true → (s.deviceSet c lost).fitsLimit 2 (cellsFor frame.length) d.port = true →
        cellsFor frame.length ≤ s.mem.free.length → s.mem.free.Nodup →
        t.notices.frameSeq = (s.notices.frameSeq + 1) % 65536 ∧
        t.counter (.device .noticeFramesBuilt) =
          min (s.counter (.device .noticeFramesBuilt) + 1) Config.counterMax ∧
        ∃ x f, x ∈ t.egress[d.port].queues[(2 : QueueId)] ∧ t.mem.frames[x.frame] = some f ∧ f.octets = frame ∧
          f.kind = .notice) ∧
      (s.ports[d.port].link = false → t.notices.frameSeq = s.notices.frameSeq) := by
  have he := device_stored h hl hd
  obtain ⟨-, -, -, hidle⟩ := device_judged hlost
  obtain ⟨hj, hset⟩ := hidle hno
  rw [hset]
  have hattempt : attemptIfDue ({ s with device := c } : State) = sendNotices d { s with device := c } :=
    attemptIfDue_due hdest hsome hpaced
  rw [storeDevice_eq, hj, hattempt] at he
  have hun := sendNotices_unanswered d { s with device := c }
  have hmgmt := sendNotices_mgmt d { s with device := c }
  have hlast := sendNotices_attempt d { s with device := c }
  have hsent := sendNotices_sent (s := { s with device := c }) (d := d)
  have hdown := sendNotices_down (s := { s with device := c }) (d := d)
  have hf : ({ s with device := c } : State).noticeFrame d = frame := hframe.symm
  rw [hf] at hsent
  have hdownSeq : s.ports[d.port].link = false →
      (sendNotices d { s with device := c }).notices.frameSeq = s.notices.frameSeq := fun hlink => by
    rw [hdown hlink]
    exact (Prod.mk.inj (bump_sending _ _)).2
  generalize sendNotices d { s with device := c } = w at he hun hmgmt hlast hsent hdownSeq
  have hkept : (w.afterAnswer q (wholeWrite 1)).notices.sending = w.notices.sending := buildFrame_sending ..
  have hcount : (w.afterAnswer q (wholeWrite 1)).counter (.device .noticeFramesBuilt) =
      w.counter (.device .noticeFramesBuilt) := sendAnswer_counter q _ w _ nofun nofun rfl
  obtain ⟨hkeptLast, hkeptSeq⟩ := Prod.mk.inj hkept
  refine ⟨_, he, (afterAnswer_unanswered ..).trans hun, by rw [afterAnswer_mgmt, hmgmt], hkeptLast.trans hlast,
    fun hlink hfit hfree hnodup => ?_, fun hlink => hkeptSeq.trans (hdownSeq hlink)⟩
  obtain ⟨hseq, hbuilt, x, f, hwaits, ho, hk⟩ := hsent hlink hfit hfree hnodup
  have hw : Waits (sendAnswer q (wholeWrite 1) w).1 d.port x f := hwaits.built ..
  exact ⟨hkeptSeq.trans hseq, hcount.trans hbuilt, x, f, hw.entry, hw.stored, ho, hk⟩

end

end Sys2Proof.Machine
end


section
/-! The statement about the records that act at once (R45, R106, R114, R144, R178, R188). -/

namespace Sys2Proof.Machine

/-- A WRITE TABLE of one record at index 0. -/
theorem writeOf_single {s : State} {q : Request} {l : Octets} {t : TableId} (code : Nat) (hq : LineRequest s q 2)
    (ht : tableOf code = some t) (hc : code < 9) (hb : q.body = beBytes 1 code ++ beBytes 1 1 ++ beBytes 2 0 ++ l) :
    WriteOf s q t 1 0 l :=
  ⟨hq, by decide, by decide, code, ht, hc, hb⟩

/-- Settles O43: each of the four records by what it makes due at once. -/
theorem singleRecordsActAtOnce : Obligations.SingleRecordsActAtOnce := by
  rintro s q l _ hq rfl
  refine ⟨fun c v u length hb hl hd hv hlength => ?_, fun c u hb hl hd hu => ?_,
    fun c holdover due u hb hl hd hh hdue hu => ?_, fun c lost joins u hb hl hd hlost hjoins hu => ?_⟩
  · have h := writeOf_single (t := .tracking) 5 hq rfl (by decide) hb
    subst hv
    replace hlength : length = s.tracker.occlusion := by
      rw [hlength, Tracker.occlusion]
      cases s.tracker.leading <;> rfl
    subst hlength
    refine ⟨fun hsame h1 h2 hu => ?_, fun hi ha hclear hu => ?_, fun ha hi hocc hu => ?_, fun hsame hm hmin hmax => ?_,
      fun hsame hqual hmax => ?_⟩
    · obtain ⟨hreport, hkeep, hjam⟩ := tracking_idle h hl hd hsame h1 h2
      cases hp : c.jamPolicy with
      | report =>
        rw [hp] at hu
        subst hu
        simp only [reduceCtorEq, false_and, if_false]
        exact hreport hp
      | holdLine =>
        rw [hp] at hu
        by_cases hj : s.tracker.sensor = .jammed
        · simp only [hj, if_true] at hu
          subst hu
          simp only [hj, true_and]
          exact hjam hp hj
        · simp only [hj, if_false] at hu
          subst hu
          simp only [hj, false_and, and_false, if_false]
          exact hkeep hp hj
    · subst hu
      exact tracking_begins h hl hd hi ha hclear rfl
    · subst hu
      exact tracking_ends h hl hd ha hi hocc
    · exact tracking_qualifies h hl hd hsame hm hmin hmax
    · exact tracking_jams h hl hd hsame hqual hmax
  · have h := writeOf_single (t := .ejector) 6 hq rfl (by decide) hb
    subst hu
    exact ⟨fun hm hbusy => ejector_refused h hl hd hm hbusy, fun hok => ejector_waits h hl hd hok⟩
  · have h := writeOf_single (t := .clock) 7 hq rfl (by decide) hb
    exact clock_written h hl hd hh hdue hu
  · have h := writeOf_single (t := .device) 8 hq rfl (by decide) hb
    subst hu
    exact ⟨fun hquiet hfits => device_quiet h hl hd hlost hjoins hquiet hfits,
      fun d frame hdest hno hsome hpaced hframe => device_attempts h hl hd hlost hdest hno hsome hpaced hframe⟩

end Sys2Proof.Machine
end
